-- ==== Sys2Proof/Word.lean ====
section
/-! DEFINITION. Sys2Proof/Word.lean: the word types of the device. -/

namespace Sys2Proof

/-- A byte of memory or of a packet. -/
abbrev Byte := BitVec 8

/-- A register (R6: registers are 32 bits wide). -/
abbrev Word := BitVec 32

/-- A 64-bit address, time or page-table entry. -/
abbrev Quad := BitVec 64

/-- A 64-byte descriptor (R12), little-endian (R4): bit 8 × o + b is bit b of byte o. -/
abbrev Desc := BitVec 512

end Sys2Proof
end

