-- ==== Sys2Proof/Syntax.lean ====
section
/-! DEFINITION. Sys2Proof/Syntax.lean: the commands of the block, one constructor per row of spec/opcode_table.json, with their operands.
The table gives its rows no operand fields; the operands are what the rule of each row says arrives from outside (a register value, a
packet's fields, a sensor reading, what host memory answers) (log entry 2, DESIGN CHOICE). -/

namespace Sys2Proof

/-- What the memories answer to the accesses of one command. `bytes`: host memory, by function virtual address (an address not listed answers
0). `deny`: the pages, by address divided by 32 MiB, for which the host reports no permission (R178). `ce`, `ue`: the 64-byte DRAM bursts, by
device physical address divided by 64, whose codeword the command's reads find with a single-bit error, or uncorrectable (R313, R316). -/
structure HostView where
  bytes : List (Nat × Byte)
  deny : List Nat
  ce : List Nat
  ue : List Nat
deriving DecidableEq, Repr

/-- The queues Cox admits from (R29): ring r of function f, the Pavilion page of function f, trigger queue q. -/
inductive Source where
  | ring (fn r : Nat)
  | pav (fn : Nat)
  | tq (q : Nat)
deriving DecidableEq, Repr

/-- What an MCTP message asks for (R62). -/
inductive MctpKind where
  | fwUpdate | security | attestation | reset | monitoring | dump | debug
deriving DecidableEq, Repr

/-- The wake sources of R124, in the order of the bits of GLB_WAKE_CAUSE. -/
inductive WakeSource where
  | doorbell | pavilion | network | crew | software | config | mctp | firmware | freeze
deriving DecidableEq, Repr

/-- The host's answer to a PRI page request (R182). -/
inductive PriCode where
  | success | invalid | failure
deriving DecidableEq, Repr

/-- What an MCTP dump read names (R62). -/
inductive DumpSel where
  | slot (i : Nat) | faultLog
deriving DecidableEq, Repr


/-- A fault in a run of a tile block: in the duplicated exponent path, or of the significand, by an error of the value `err` (R227); and the group step and row that it
strikes (R240). -/
structure TileFault where
  exponent : Bool
  step : Nat
  row : Nat
  err : Int
deriving DecidableEq, Repr

/-- What a run of a tile block meets: nothing, a fault (R229), the manager's retirement of its tile (R241). -/
inductive TileRun where
  | clean | mismatch (f : TileFault) | retired
deriving DecidableEq, Repr

def TileRun.fault : TileRun → Option TileFault
  | .mismatch f => some f
  | _ => none

/-- An operand row of a tile block (R209, R210, R216): its length along K, the bytes of its elements, and, of a block-scaled format, its scale array. -/
structure Row where
  k : Nat
  data : List Byte
  scales : List Byte
deriving DecidableEq, Repr

/-- The placement and the arrival orders of one attend, to which R224 and R258 give no order: the tile of each run, the tiles in the order in which their
partials reach the cluster stores, the clusters in the order in which theirs arrive. What is not listed takes the active tiles in turn, and ascending order. -/
structure Join where
  tiles : List Nat
  arrive : List Nat
  clusters : List Nat
deriving DecidableEq, Repr

/-! ## What travels on the links (chapters 11, 12, 17) -/

/-- The cipher header of a sealed packet (R530), and whether its tag verifies under the key of the slot that opens it. The payload of a packet is
carried in clear; its ciphertext is the AES-256-GCM function of key, nonce and payload that R530 and R531 name. -/
structure Cipher where
  phase : Bool
  srcDevice : Nat
  pn : Nat
  tagOk : Bool
deriving DecidableEq, Repr

/-- A YDT packet (R354, R355): the eight words of the base header, the 64-bit words of its extension, its payload, whether its CRC-32C is right (R356),
and whether it arrived marked CE (R368). -/
structure Pkt where
  words : List Nat
  ext : List Nat
  payload : List Byte
  crcOk : Bool
  ce : Bool
  cipher : Option Cipher
deriving DecidableEq, Repr

/-- The RoCEv2 operations of R370. -/
inductive RoceOp where
  | sendFirst | sendMiddle | sendLast | sendOnly
  | writeFirst | writeMiddle | writeLast | writeOnly
  | readRequest | readFirst | readMiddle | readLast | readOnly
  | ack | nakSequence | nakInvalid | nakAccess | nakOperational | rnrNak | cnp
  | unsupported (opcode : Nat)
deriving DecidableEq, Repr

/-- A RoCEv2 packet: destination queue pair, PSN, P_Key, the RDMA header's address, key and length where it has one, the trigger queue a SEND names (R296: it
may use either transport; the manual does not say where the packet carries it), payload, invariant CRC. -/
structure Roce where
  op : RoceOp
  qp : Nat
  psn : Nat
  pkey : Nat
  va : Nat
  rkey : Nat
  len : Nat
  target : Option Nat
  payload : List Byte
  icrcOk : Bool
  ce : Bool
  cipher : Option Cipher
deriving DecidableEq, Repr

/-- What an IP packet carries. -/
inductive IpBody where
  | ydt (p : Pkt) | roce (p : Roce) | solicit (target : Nat) | other
deriving DecidableEq, Repr

/-- An IPv4 or IPv6 packet: addresses, the fields of R389's steps 6 and 7, the UDP destination port, ECN (R353). -/
structure Ip where
  v6 : Bool
  src : Nat
  dst : Nat
  dscp : Nat
  ecn : Nat
  sumOk : Bool
  fragment : Bool
  extension : Bool
  udpSrc : Nat
  udpPort : Option Nat
  body : IpBody
deriving DecidableEq, Repr

/-- What an Ethernet frame carries. A gPTP message carries the offset it gives, in nanoseconds, where it completes a Sync (R391). A pause carries its
classes and quanta. -/
inductive FrameBody where
  | gptp (offset : Option Int) | arp (target : Nat) | arpReply (ip : Nat) | advert (ip : Nat) | ip (p : Ip) | pause (classes quanta : Nat) | other
deriving DecidableEq, Repr

/-- An Ethernet frame (R389): length with FCS, FCS, addresses, tags as (TPID, PCP, VID). -/
structure Frame where
  len : Nat
  fcsOk : Bool
  dst : Nat
  src : Nat
  tags : List (Nat × Nat × Nat)
  body : FrameBody
deriving DecidableEq, Repr

/-- How an Ozmen packet's LCRC arrives (R403). -/
inductive Lcrc where
  | good | bad | stomped
deriving DecidableEq, Repr

inductive OzBody where
  | ydt (p : Pkt) | ip (p : Ip)
deriving DecidableEq, Repr

/-- An Ozmen packet (R401): the four words of its header, whether HCRC is right, its payload. -/
structure OzPkt where
  words : List Nat
  hcrcOk : Bool
  body : OzBody
  lcrc : Lcrc
deriving DecidableEq, Repr

/-- A time block (R393): the device time of the pulse, and its hop count. -/
structure TimeBlock where
  time : Nat
  hops : Nat
deriving DecidableEq, Repr

/-- What a link's training finds (R398): the good lanes, the lanes whose polarity is inverted, whether the lanes come in another order, the peer's device ID
and link, the link delay in ns; or transmitters wired to transmitters (R63). -/
inductive TrainResult where
  | miswired
  | lanes (good inverted : Nat) (reordered peerHalf : Bool) (peerDev peerLink delay : Nat)
deriving DecidableEq, Repr

/-- A sensor's reading (R56): sensors 31 to 37 are pairs of an output voltage and an output current, of which `current` names the second. -/
structure Reading where
  current : Bool
  value : Int
deriving DecidableEq, Repr

/-- ADVISE's descriptor, and whether ATS is enabled in the function's ATS capability (R192). -/
structure Advised where
  op : Nat
  ats : Bool
deriving DecidableEq, Repr

/-- Where a tile block stands in its outputs' K (R216): `load` of the accumulators from the store first, `ends` with its last part. -/
structure TilePass where
  load : Bool
  ends : Bool
deriving DecidableEq, Repr

/-- FEC codewords that a port or link has corrected, and found uncorrectable, since it last told (R381, R414, R416). -/
structure Fec where
  corrected : Nat
  uncorrectable : Nat
deriving DecidableEq, Repr

/-- The word that an SRAM's check finds wrong, by the holder of R451 and R547: tile SRAM or a cluster store, with the descriptor that uses the word; a group's
slabs in the reduction store; an entry of the TLB or of the fault queue, by its place; the table entries of CRW, or the plans of NET; a key slot; a memory
of Boathouse; another SRAM. -/
inductive SramWord where
  | tile (nn op : Nat) | cluster (nn op : Nat) | reduction (group : Nat) | tlb (i : Nat) | faultQueue (i : Nat) | table (net : Bool) | keySlot (i : Nat)
  | firmware | other (page : Nat)
deriving DecidableEq, Repr


/-- What the checks of R517 find of an image: the root key of its manifest (0 or 1), whether the key's digest and the signature verify, whether it names the
part, whether every digest agrees; its SVN, versions, the versions it accepts a handover from, REVOKE_ROOT0, and the digest of its manifest. -/
structure Image where
  root : Nat
  keyOk : Bool
  sigOk : Bool
  partOk : Bool
  digestsOk : Bool
  svn : Nat
  fw : Nat
  ifv : Nat
  accepts : List Nat
  revoke : Bool
  digest : Nat
deriving DecidableEq, Repr

/-- A roster record (R571), and the hops it has made. -/
structure Roster where
  dev : Nat
  serial : Nat
  full : Bool
  master : Bool
  hops : Nat
deriving DecidableEq, Repr

/-- The SPDM requests of R522. -/
inductive SpdmReq where
  | getVersion | getCapabilities | negotiateAlgorithms | getDigests
  | getCertificate (slot : Nat) | challenge | getMeasurements (index : Nat) (signed : Bool) | keyExchange
  | finish (session : Nat) | heartbeat (session : Nat) | keyUpdate (session : Nat) | endSession (session : Nat)
  | chunkSend | chunkGet | unsupported (code : Nat)
deriving DecidableEq, Repr

/-- How an SPDM request, or a request of the Orangery queue, is answered (R523, R526). -/
inductive SpdmAnswer where
  | ok | responseNotReady | unexpected | busy | refused | unsupported
deriving DecidableEq, Repr

/-- The requests of the Orangery queue (R524, R526). A key is the number its 32 bytes spell. -/
inductive KeyReq where
  | set (slot owner keyId key : Nat) | erase (slot : Nat) | query (slot : Nat)
  | nonce | unlock (serial nonce : Nat) (root : Nat) (sigOk : Bool) | lock
deriving DecidableEq, Repr

/-- One phase's part of a 10 ms window (R483): the cycles with a unit of it present, those with an array or vector unit busy, the mean clock in MHz. -/
structure PhaseObs where
  phase : Nat
  present : Nat
  busy : Nat
  clock : Nat
deriving DecidableEq, Repr

/-- The commands, in the order of spec/opcode_table.json. -/
inductive Instr where
  /-- AUX_ENTRY, R51. -/
  | auxEntry (addr1 addr0 : Bool)
  /-- INPUT_ACCEPT, R47. -/
  | inputAccept
  /-- BULK_CHARGED, R47. -/
  | bulkCharged
  /-- RAIL_GOOD, R50. -/
  | railGood
  /-- ON_ENTRY, R51. -/
  | onEntry (straps : Nat)
  /-- INPUT_RELEASE, R47. -/
  | inputRelease
  /-- INPUT_LOCKOUT, R47. -/
  | inputLockout
  /-- INPUT_LOCKOUT_END, R47. -/
  | inputLockoutEnd
  /-- RAIL_GOOD_LOST, R51. -/
  | railGoodLost (rail : Nat)
  /-- PWRDIS_RISE, R55. -/
  | pwrdisRise
  /-- PWRDIS_FALL, R53. -/
  | pwrdisFall (highMs : Nat)
  /-- AUX_LOSS, R49. -/
  | auxLoss (mv : Nat)
  /-- AUX_RESTORE, R49. -/
  | auxRestore (mv : Nat)
  /-- LOW_INPUT, R48. -/
  | lowInput (mv : Nat)
  /-- LOW_INPUT_END, R48. -/
  | lowInputEnd (mv : Nat)
  /-- HARDWARE_TRIP, R57. -/
  | hardwareTrip (sensor : Nat)
  /-- TRIP_CLEAR, R53. -/
  | tripClear (sensor : Nat)
  /-- MOD_RESET_ASSERT, R38. -/
  | modResetAssert
  /-- MOD_RESET_RELEASE, R55. -/
  | modResetRelease
  /-- PERST_ASSERT, R38. -/
  | perstAssert (discarded : Nat)
  /-- PERST_RELEASE, R564. -/
  | perstRelease
  /-- SMBUS_TIMEOUT, R63. -/
  | smbusTimeout
  /-- CREW_FREEZE_STUCK, R63. -/
  | crewFreezeStuck
  /-- CREW_FREEZE_CLEAR, R63. -/
  | crewFreezeClear
  /-- CREW_TIME_LOSS, R63. -/
  | crewTimeLoss
  /-- CREW_TIME_RESTORED, R94. -/
  | crewTimeRestored
  /-- CAGE_I2C_TIMEOUT, R63. -/
  | cageI2cTimeout (cage : Nat)
  /-- MCTP_MESSAGE, R62. -/
  | mctpMessage (smbus : Bool) (kind : MctpKind) (payload : List Byte)
  /-- PLDM_FW_UPDATE, R60. -/
  | pldmFwUpdate (smbus : Bool) (off : Nat) (data : List Byte) (last : Bool)
  /-- PLDM_SENSOR_READ, R56. -/
  | pldmSensorRead (sensor : Nat) (value : Reading)
  /-- MCTP_DUMP_READ, R62. -/
  | mctpDumpRead (what : DumpSel)
  /-- MCTP_WARM_RESET, R125. -/
  | mctpWarmReset
  /-- HOST_LINK_RESET, R103. -/
  | hostLinkReset (discarded : Nat)
  /-- LINK_TRAINED, R66. -/
  | linkTrained (width speed : Nat) (negotiated reversed : Bool)
  /-- REFCLK_RETRY, R76. -/
  | refclkRetry
  /-- LINK_RECOVERY, R67. -/
  | linkRecovery
  /-- CC_DISABLE, R83. -/
  | ccDisable (v : Word)
  /-- CC_WB_INV, R83. -/
  | ccWbInv (v : Word)
  /-- CC_WRITEBACK_DONE, R83. -/
  | ccWritebackDone
  /-- SNOOP, R82. -/
  | snoop (fn line : Nat) (inv : Bool)
  /-- MBX_DOORBELL, R86. -/
  | mbxDoorbell (fn : Nat) (v : Word)
  /-- MBX_GO, R87. -/
  | mbxGo (fn off : Nat) (data : List Byte)
  /-- MBX_SLOT_WRITE, R114. -/
  | mbxSlotWrite (fn off : Nat) (data : List Byte)
  /-- PAVILION_TAKE, R86. -/
  | pavilionTake (fn : Nat)
  /-- EVQ_ENABLE, R92. -/
  | evqEnable (fn : Nat) (v : Word)
  /-- EVQ_DISABLE, R92. -/
  | evqDisable (fn : Nat) (v : Word)
  /-- EVQ_SEEN_WRITE, R92. -/
  | evqSeenWrite (fn : Nat) (v : Word)
  /-- EVENT_RECORD_WRITE, R95. -/
  | eventRecordWrite (fn : Nat) (hv : HostView)
  /-- VISIBLE_TIME_READ, R101. -/
  | visibleTimeRead (fn words : Nat)
  /-- PROBE_PERIODIC, R101. -/
  | probePeriodic
  /-- PROBE_RETURN, R100. -/
  | probeReturn (issued : Nat)
  /-- UNIMPLEMENTED_ACCESS, R71. -/
  | unimplementedAccess (off : Nat) (write : Option Word)
  /-- INT_STATUS_W1C, R112. -/
  | intStatusW1c (page : Nat) (v : Word)
  /-- INT_SET, R105. -/
  | intSet (page : Nat) (v : Word)
  /-- RC_READ, R8. -/
  | rcRead (page off words : Nat)
  /-- LO_READ, R115. -/
  | loRead (page off words : Nat)
  /-- REGISTER_WRITE, R6. -/
  | registerWrite (page off : Nat) (data : List (Option Byte))
  /-- GLB_WARM_RESET, R121. -/
  | glbWarmReset (v : Word)
  /-- WARM_RESET_RELEASE, R125. -/
  | warmResetRelease
  /-- IDLE_REQUEST_Z1, R128. -/
  | idleRequestZ1 (v : Word)
  /-- IDLE_REQUEST_Z2, R128. -/
  | idleRequestZ2 (v : Word)
  /-- IDLE_EXIT_REQUEST, R122. -/
  | idleExitRequest (v : Word)
  /-- IDLE_MOVE, R133. -/
  | idleMove (v : Word)
  /-- IDLE_AUTO, R122. -/
  | idleAuto
  /-- IDLE_ENTRY_DONE, R131. -/
  | idleEntryDone
  /-- WAKE, R124. -/
  | wake (src : WakeSource)
  /-- IDLE_EXIT_DONE, R131. -/
  | idleExitDone
  /-- SELF_REFRESH_EXIT, R330. -/
  | selfRefreshExit
  /-- CLUSTER_POWER_UP, R132. -/
  | clusterPowerUp (nn : Nat)
  /-- RNG_DOORBELL, R147. -/
  | rngDoorbell (fn ring : Nat) (v : Word)
  /-- RING_ENABLE, R138. -/
  | ringEnable (fn ring : Nat) (v : Word)
  /-- RING_DISABLE, R140. -/
  | ringDisable (fn ring : Nat) (v : Word)
  /-- CQ_ENABLE, R139. -/
  | cqEnable (fn ring : Nat) (v : Word)
  /-- CQ_DISABLE, R139. -/
  | cqDisable (fn ring : Nat) (v : Word)
  /-- RING_PAUSE, R149. -/
  | ringPause (fn ring : Nat) (v : Word)
  /-- RING_RESUME, R149. -/
  | ringResume (fn ring : Nat) (v : Word)
  /-- DCACHE_INV, R150. -/
  | dcacheInv (fn ring : Nat) (v : Word)
  /-- HOST_SEEN_WRITE, R157. -/
  | hostSeenWrite (fn ring : Nat) (v : Word)
  /-- CQ_RESYNC, R164. -/
  | cqResync (fn ring : Nat) (v : Word)
  /-- RESYNC_SEQ_WRITE, R164. -/
  | resyncSeqWrite (fn ring : Nat) (v : Word)
  /-- DESCRIPTOR_FETCH, R148. -/
  | descriptorFetch (fn ring : Nat)
  /-- FETCH_RETURN, R148. -/
  | fetchReturn (fn ring : Nat) (hv : HostView)
  /-- DESCRIPTOR_ADMIT, R29. -/
  | descriptorAdmit (src : Source)
  /-- COMPLETION_ISSUE, R157. -/
  | completionIssue (src : Source) (hv : HostView)
  /-- CQ_MOD_TIMER, R158. -/
  | cqModTimer (fn ring : Nat)
  /-- TLB_MISS, R175. -/
  | tlbMiss (fn va : Nat)
  /-- TLB_FILL, R175. -/
  | tlbFill (fn va : Nat) (write ats : Bool)
  /-- ATS_COMPLETION, R176. -/
  | atsCompletion (fn va : Nat) (whole : Option Nat) (permitted : Bool) (write : Bool)
  /-- ATS_INVALIDATION, R177. -/
  | atsInvalidation (fn va len : Nat)
  /-- FAULT_STALL_RELEASE, R180. -/
  | faultStallRelease
  /-- PRI_REQUEST, R182. -/
  | priRequest (fn va : Nat)
  /-- PRI_RESPONSE, R182. -/
  | priResponse (fn va : Nat) (code : PriCode)
  /-- PRI_TIMEOUT, R182. -/
  | priTimeout (fn va : Nat)
  /-- MIGRATE_ON_FAULT_DONE, R184. -/
  | migrateOnFaultDone (fn va : Nat) (hv : HostView)
  /-- MAP, R188. -/
  | map (op : Nat)
  /-- UNMAP, R189. -/
  | unmap (op : Nat)
  /-- PROTECT, R190. -/
  | protect (op : Nat)
  /-- MIGRATE, R191. -/
  | migrate (op : Nat) (hv : HostView)
  /-- ADVISE, R192. -/
  | advise (op : Advised)
  /-- QUOTA_WRITE, R195. -/
  | quotaWrite (reg fn : Nat) (v : Word)
  /-- QUIESCE_START, R200. -/
  | quiesceStart (fn : Nat) (v : Word)
  /-- QUIESCE_FLUSH_ESCALATE, R197. -/
  | quiesceFlushEscalate (fn : Nat) (v : Word)
  /-- QUIESCE_END, R205. -/
  | quiesceEnd (fn : Nat) (v : Word)
  /-- QUIESCED, R201. -/
  | quiesced (fn : Nat)
  /-- INSTANCE_RESET, R202. -/
  | instanceReset (fn : Nat) (v : Word)
  /-- INSTANCE_RESET_DONE, R202. -/
  | instanceResetDone (fn : Nat)
  /-- VF_REMOVE, R203. -/
  | vfRemove (numVfs : Nat)
  /-- WORK_UNIT_DISPATCH, R268. -/
  | workUnitDispatch (nn t offered : Nat)
  /-- TILE_BLOCK, R216. -/
  | tileBlock (nn t fa fb : Nat) (load : TilePass) (scale : Option Nat) (a b : List Row) (own : List TileRun)
  /-- TILE_RETIRE, R237. -/
  | tileRetire (nn : Nat) (v : Word)
  /-- TILE_RESTORE, R234. -/
  | tileRestore (nn : Nat) (v : Word)
  /-- SELF_TEST_DONE, R234. -/
  | selfTestDone (nn t : Nat) (pass : Bool)
  /-- CHECK_INJECT, R239. -/
  | checkInject (nn : Nat) (v : Word)
  /-- STRETCH_INIT, R284. -/
  | stretchInit (op : Nat) (hv : HostView)
  /-- APPEND, R252. -/
  | append (op : Nat) (hv : HostView)
  /-- ATTEND_DENSE, R259. -/
  | attendDense (op : Nat) (hv : HostView) (join : Join)
  /-- ATTEND_SELECTED, R260. -/
  | attendSelected (op : Nat) (hv : HostView) (join : Join)
  /-- SUMMARISE, R264. -/
  | summarise (op : Nat) (hv : HostView)
  /-- TRUNCATE, R293. -/
  | truncate (op : Nat) (hv : HostView)
  /-- PACK_WAIT_EXPIRY, R269. -/
  | packWaitExpiry (op : Nat) (hv : HostView) (join : Join)
  /-- CTX_SHARE_WRITE, R273. -/
  | ctxShareWrite (share : Bool) (fn : Nat) (v : Word)
  /-- COPY, R294. -/
  | copy (op : Nat) (hv : HostView)
  /-- WRITE, R295. -/
  | write (op : Nat) (hv : HostView)
  /-- SEND, R296. -/
  | send (op : Nat) (hv : HostView)
  /-- READ, R348. -/
  | read (op : Nat) (hv : HostView)
  /-- WINDOW_SET, R342. -/
  | windowSet (op : Nat)
  /-- WINDOW_CLOSE, R343. -/
  | windowClose (op : Nat)
  /-- RECV_POST, R349. -/
  | recvPost (op : Nat)
  /-- QP_MODIFY, R371. -/
  | qpModify (op : Nat) (hv : HostView)
  /-- NOP, R297. -/
  | nop (op : Nat)
  /-- TIMESTAMP, R297. -/
  | timestamp (op : Nat) (hv : HostView)
  /-- INVALID_OPCODE, R14. -/
  | invalidOpcode (op : Nat)
  /-- TRIGGER_ARM, R299. -/
  | triggerArm (op : Nat) (hv : HostView)
  /-- TRIGGER_ARM_DONE, R299. -/
  | triggerArmDone (q : Nat)
  /-- TRIGGER_DISARM, R301. -/
  | triggerDisarm (op : Nat)
  /-- TRIGGER_DISARM_DONE, R301. -/
  | triggerDisarmDone (q : Nat)
  /-- TRIGGER_RUN_ADMIT, R304. -/
  | triggerRunAdmit (q : Nat)
  /-- TQ_OWNER_WRITE, R305. -/
  | tqOwnerWrite (q : Nat) (v : Word)
  /-- SCRUB_STEP, R321. -/
  | scrubStep (hv : HostView)
  /-- SCRUB_WAKE, R322. -/
  | scrubWake
  /-- OSCILLATOR_READ, R324. -/
  | oscillatorRead (chan linkErrors : Nat)
  /-- CHANNEL_RETRAIN, R324. -/
  | channelRetrain (chan : Nat)
  /-- MEM_RETRAIN_REQUEST, R333. -/
  | memRetrainRequest (nn : Nat) (v : Word)
  /-- RETRAIN_DONE, R324. -/
  | retrainDone (ok : Bool) (us : Nat)
  /-- REFRESH, R326. -/
  | refresh (nn temp : Nat)
  /-- MEM_TEMP_HOT, R336. -/
  | memTempHot (nn temp : Nat)
  /-- ARB_AGE_EXPIRY, R328. -/
  | arbAgeExpiry (chan : Nat) (waiting : List (Nat × Nat))
  /-- CLASS_SEL_WRITE, R334. -/
  | classSelWrite (v : Word)
  /-- WRITE_PACKET_RECEIVE, R344. -/
  | writePacketReceive (hv : HostView)
  /-- READ_REQUEST_RECEIVE, R364. -/
  | readRequestReceive (hv : HostView)
  /-- RECONSTRUCT_STAGED, R459. -/
  | reconstructStaged (stage : Nat) (hv : HostView)
  /-- STAGE_EXPIRY, R459. -/
  | stageExpiry (stage : Nat)
  /-- READ_RESPONDER_SEND, R364. -/
  | readResponderSend (r : Nat) (hv : HostView)
  /-- READ_RESPONSE_RECEIVE, R364. -/
  | readResponseReceive (hv : HostView)
  /-- SEND_PACKET_RECEIVE, R361. -/
  | sendPacketReceive (hv : HostView)
  /-- ACK_RECEIVE, R365. -/
  | ackReceive (hv : HostView)
  /-- NAK_RECEIVE, R357. -/
  | nakReceive (withdrawn : Bool)
  /-- PROBE_RECEIVE, R360. -/
  | probeReceive
  /-- ACK_DELAY_TIMER, R362. -/
  | ackDelayTimer (dev fn opid : Nat)
  /-- RETRANSMIT_TIMEOUT, R365. -/
  | retransmitTimeout (queuePair : Bool) (slot : Nat) (hv : HostView)
  /-- HOLDING_END, R366. -/
  | holdingEnd (slot : Nat)
  /-- TRACKER_EXPIRY, R363. -/
  | trackerExpiry (dev fn opid : Nat)
  /-- SEND_RECORD_EXPIRY, R363. -/
  | sendRecordExpiry (dev fn opid : Nat)
  /-- PATH_PROBE, R360. -/
  | pathProbe (dev path : Nat)
  /-- ORDERED_SEND_RELEASE, R352. -/
  | orderedSendRelease (slot : Nat) (hv : HostView)
  /-- CC_PERIOD, R368. -/
  | ccPeriod
  /-- RATE_IDLE_RESET, R368. -/
  | rateIdleReset (queuePair : Bool) (j : Nat)
  /-- RATE_FLOOR, R379. -/
  | rateFloor (dev : Nat)
  /-- CREW_ID_WRITE, R575. -/
  | crewIdWrite (v : Word)
  /-- QP_PACKET_RECEIVE, R372. -/
  | qpPacketReceive (hv : HostView)
  /-- NET_MODE_WRITE, R382. -/
  | netModeWrite (v : Word)
  /-- PORT_ENABLE, R383. -/
  | portEnable (v : Word)
  /-- PORT_TRAIN_DONE, R383. -/
  | portTrainDone (port failed : Nat)
  /-- PORT_DOWN, R383. -/
  | portDown (port : Nat) (fec : Fec)
  /-- LANE_FAULT_RETRY, R383. -/
  | laneFaultRetry (port : Nat)
  /-- FRAME_RECEIVE, R389. -/
  | frameReceive (port : Nat) (f : Frame) (fec : Fec)
  /-- PAUSE_REPEAT, R387. -/
  | pauseRepeat (port cls : Nat)
  /-- FRAME_TRANSMIT, R390. -/
  | frameTransmit (port : Nat)
  /-- SHARE_WRITE, R387. -/
  | shareWrite (port : Nat) (high : Bool) (v : Word)
  /-- TIME_SOURCE_TIMEOUT, R392. -/
  | timeSourceTimeout
  /-- CREW_TIME_DRIVE, R393. -/
  | crewTimeDrive
  /-- CREW_TIME_PULSE, R393. -/
  | crewTimePulse
  /-- TIME_BLOCK_RECEIVE, R393. -/
  | timeBlockReceive (link : Nat) (b : TimeBlock)
  /-- PLAN_SWITCH_ARM, R396. -/
  | planSwitchArm (port : Nat) (v : Word)
  /-- PLAN_SWITCH, R396. -/
  | planSwitch (port : Nat)
  /-- GATE_CHANGE, R395. -/
  | gateChange (port : Nat)
  /-- LINK_ENABLE, R398. -/
  | linkEnable (v : Word)
  /-- LINK_RETRAIN, R398. -/
  | linkRetrain (link : Nat) (v : Word)
  /-- LINK_TRAIN_DONE, R398. -/
  | linkTrainDone (link : Nat) (r : TrainResult)
  /-- LINK_TRAIN_RETRY, R398. -/
  | linkTrainRetry (link : Nat)
  /-- LANE_EXCLUDE, R399. -/
  | laneExclude (link lane lost : Nat) (fec : Fec)
  /-- WIDTH_CHANGE_DONE, R399. -/
  | widthChangeDone (link : Nat)
  /-- LINK_TIMEOUT, R400. -/
  | linkTimeout (link : Nat)
  /-- CONTROL_BLOCK_SEND, R397. -/
  | controlBlockSend (link : Nat)
  /-- OZMEN_PACKET_RECEIVE, R402. -/
  | ozmenPacketReceive (link : Nat) (p : OzPkt) (fec : Fec)
  /-- XOFF_REPEAT, R405. -/
  | xoffRepeat (link vl : Nat)
  /-- OZMEN_TRANSMIT, R408. -/
  | ozmenTransmit (link : Nat)
  /-- XOFF_RECEIVE, R405. -/
  | xoffReceive (link vl : Nat) (xoff : Bool)
  /-- HEAD_DROP, R408. -/
  | headDrop (link vl input : Nat)
  /-- EPOCH_WRITE, R411. -/
  | epochWrite (v : Word)
  /-- TABLE_XFER, R412. -/
  | tableXfer (op : Nat) (hv : HostView)
  /-- TABLE_SAVE, R413. -/
  | tableSave
  /-- GROUP_SET, R421. -/
  | groupSet (op : Nat) (hv : HostView)
  /-- GROUP_DELETE, R423. -/
  | groupDelete (op : Nat)
  /-- HEAT, R425. -/
  | heat (op : Nat) (hv : HostView)
  /-- HEAT_ABORT, R439. -/
  | heatAbort (op : Nat)
  /-- HEAT_DATA_RECEIVE, R437. -/
  | heatDataReceive
  /-- CREDIT_RECEIVE, R437. -/
  | creditReceive
  /-- ABORT_RECEIVE, R439. -/
  | abortReceive
  /-- CHUNK_SEND, R437. -/
  | chunkSend (group chunk : Nat) (hv : HostView)
  /-- CHUNK_MERGE, R431. -/
  | chunkMerge (group chunk : Nat) (crcOk first again : Bool) (hv : HostView)
  /-- HEAT_TIMEOUT, R439. -/
  | heatTimeout (group : Nat)
  /-- PARITY_SYNC, R462. -/
  | paritySync (op : Nat) (hv : HostView)
  /-- PARITY_UNBIND, R462. -/
  | parityUnbind (op : Nat) (hv : HostView)
  /-- RECOVER_LANDMARKS, R462. -/
  | recoverLandmarks (op : Nat) (hv : HostView)
  /-- RECOVER_BLOCKS, R462. -/
  | recoverBlocks (op : Nat)
  /-- RECOVERY_DONE, R462. -/
  | recoveryDone (op : Nat) (hv : HostView)
  /-- RESCAN, R462. -/
  | rescan (op : Nat) (hv : HostView)
  /-- RESCAN_DONE, R462. -/
  | rescanDone
  /-- MEMBER_LOSS_DETECT, R464. -/
  | memberLossDetect (member : Nat)
  /-- PAR_DECLARE, R464. -/
  | parDeclare (v : Word)
  /-- PAR_WITHDRAW, R465. -/
  | parWithdraw (v : Word)
  /-- PAR_LOST_CLEAR, R467. -/
  | parLostClear (v : Word)
  /-- PAR_CTRL_WRITE, R468. -/
  | parCtrlWrite (reg : Nat) (v : Word)
  /-- BURST_REWRITE, R452. -/
  | burstRewrite (burst : Nat)
  /-- SRAM_PATROL, R451. -/
  | sramPatrol (w : SramWord) (uncorrectable : Bool)
  /-- POWER_MODEL_TICK, R476. -/
  | powerModelTick (counts : List Nat) (hot : Int) (vcore measured : Nat)
  /-- CAP_CONTROL_TICK, R482. -/
  | capControlTick
  /-- CLOCK_STEP, R474. -/
  | clockStep (nn : Nat)
  /-- RAIL_REACHED, R474. -/
  | railReached (measured : Nat)
  /-- TRIM_TICK, R478. -/
  | trimTick (rails : List Nat)
  /-- MODEL_STALE, R479. -/
  | modelStale (percent : Nat)
  /-- MODEL_STALE_CLEAR, R479. -/
  | modelStaleClear (percent : Nat)
  /-- PHASE_UPDATE, R483. -/
  | phaseUpdate (obs : List PhaseObs)
  /-- CLUSTER_IDLE_TIMER, R483. -/
  | clusterIdleTimer (nn : Nat)
  /-- DROOP_DETECT, R485. -/
  | droopDetect (nn : Nat)
  /-- DROOP_END, R485. -/
  | droopEnd (nn : Nat)
  /-- DROOP_LONG, R485. -/
  | droopLong (nn : Nat)
  /-- FMAX_RETRAIN, R475. -/
  | fmaxRetrain
  /-- FMAX_START, R475. -/
  | fmaxStart (v : Word)
  /-- FMAX_TILE_TEST_DONE, R475. -/
  | fmaxTileTestDone (tile : Nat) (passed : Option Nat)
  /-- THERMAL_CAP_TICK, R487. -/
  | thermalCapTick (hot conv : Int) (measured : Nat)
  /-- DRAM_THROTTLE_TICK, R488. -/
  | dramThrottleTick (nn : Nat) (temp : Int)
  /-- PACE_LAPSE, R490. -/
  | paceLapse (group : Nat)
  /-- CAP_WRITE, R480. -/
  | capWrite (v : Word)
  /-- MCTP_CAP, R480. -/
  | mctpCap (watts : Nat)
  /-- INLET_HOT, R489. -/
  | inletHot (temp : Int)
  /-- CORE_CRASH, R499. -/
  | coreCrash (core cause : Nat) (access : Option (Nat × Nat))
  /-- WATCHDOG_EXPIRY, R505. -/
  | watchdogExpiry (core : Nat)
  /-- CORE_RESTART_DONE, R505. -/
  | coreRestartDone (core : Nat)
  /-- CORE_RESTART_WRITE, R513. -/
  | coreRestartWrite (v : Word)
  /-- BANK_ACTIVATE, R504. -/
  | bankActivate (v : Word)
  /-- BANK_COMMIT, R518. -/
  | bankCommit (v : Word)
  /-- BANK_CHECK, R60. -/
  | bankCheck (image : Image)
  /-- HANDOVER_START, R511. -/
  | handoverStart (v : Word)
  /-- HANDOVER_CORE_DONE, R512. -/
  | handoverCoreDone (ok : Bool)
  /-- DUMP_WRITE, R508. -/
  | dumpWrite (done : Bool)
  /-- DUMP_READ, R510. -/
  | dumpRead (op : Nat) (hv : HostView)
  /-- DUMP_CLEAR, R513. -/
  | dumpClear (v : Word)
  /-- SPDM_REQUEST, R523. -/
  | spdmRequest (doe : Bool) (req : SpdmReq)
  /-- KEY_SET, R526. -/
  | keySet (session : Option Nat) (slot owner keyId key : Nat)
  /-- KEY_ERASE, R526. -/
  | keyErase (session : Option Nat) (slot : Nat)
  /-- KEY_QUERY, R526. -/
  | keyQuery (session : Option Nat) (slot : Nat)
  /-- DEBUG_NONCE, R524. -/
  | debugNonce (session : Option Nat)
  /-- DEBUG_UNLOCK, R524. -/
  | debugUnlock (session : Option Nat) (serial nonce root : Nat) (sigOk : Bool)
  /-- DEBUG_LOCK, R524. -/
  | debugLock (session : Option Nat)
  /-- DEBUG_MODULE_ACCESS, R524. -/
  | debugModuleAccess (core command arg : Nat)
  /-- ATTEST_CERT_READY, R521. -/
  | attestCertReady (digest : Nat)
  /-- SECURITY_ALARM, R536. -/
  | securityAlarm (alarm : Nat)
  /-- SEC_ERASE_WRITE, R537. -/
  | secEraseWrite (v : Word)
  /-- BINDING_WRITE, R528. -/
  | bindingWrite (slots : Bool) (j : Nat) (v : Word)
  /-- CNT_CLEAR_ALL, R548. -/
  | cntClearAll (v : Word)
  /-- CNT_CLEAR_ONE, R548. -/
  | cntClearOne (v : Word)
  /-- FREEZE, R549. -/
  | freeze (v : Word)
  /-- FREEZE_RELEASE, R552. -/
  | freezeRelease (v : Word)
  /-- CREW_FREEZE_FALL, R551. -/
  | crewFreezeFall
  /-- MCTP_FREEZE, R549. -/
  | mctpFreeze
  /-- CREW_FREEZE_PULSE_END, R550. -/
  | crewFreezePulseEnd
  /-- TRACE_SPILL, R555. -/
  | traceSpill (hv : HostView)
  /-- BELVEDERE_CAPTURE, R556. -/
  | belvedereCapture (v : Word)
  /-- CAPTURE_DONE, R556. -/
  | captureDone
  /-- HANG_DETECT, R557. -/
  | hangDetect (condition : Nat)
  /-- DEBUG_READ, R560. -/
  | debugRead (op : Nat) (hv : HostView)
  /-- INTERNAL_BOOT_DONE, R563. -/
  | internalBootDone (okA okB : Bool)
  /-- MEMORY_TRAINING_DONE, R563. -/
  | memoryTrainingDone (fast : Bool) (failed : List Nat)
  /-- SERDES_CAL_DONE, R563. -/
  | serdesCalDone (ok : Bool)
  /-- TILE_SELFTEST_DONE, R563. -/
  | tileSelftestDone (retested failed : List Nat)
  /-- DRAM_INIT_DONE, R320. -/
  | dramInitDone
  /-- CALIBRATION_DONE, R477. -/
  | calibrationDone (coefs : Option (List (Nat × Nat)))
  /-- RESTORE_DONE, R565. -/
  | restoreDone
  /-- SERVICE_QUERY, R568. -/
  | serviceQuery (op : Nat)
  /-- SERVICE_REQUEST_FULL, R570. -/
  | serviceRequestFull (op : Nat) (fast : Bool) (serdes : Bool) (retested : List Nat) (calib : Bool)
  /-- SERVICE_HOLD_REDUCED, R570. -/
  | serviceHoldReduced (op : Nat)
  /-- SERVICE_SAVE_CONFIG, R568. -/
  | serviceSaveConfig (op : Nat)
  /-- ROSTER_SEND, R571. -/
  | rosterSend
  /-- ROSTER_RECEIVE, R571. -/
  | rosterReceive (link : Nat) (r : Roster)
  /-- CREW_JOIN, R571. -/
  | crewJoin
  /-- INPUT_REVERSED, R63. -/
  | inputReversed
  /-- CAGE_PRESENT_CHANGE, R42. -/
  | cagePresentChange (cage : Nat) (present : Bool)
  /-- ALARM_CLEAR, R536. -/
  | alarmClear (alarm : Nat)
  /-- COEFFICIENT_SAVE, R478. -/
  | coefficientSave
  /-- MSI_X_UNMASK, R90. -/
  | msiXUnmask (fn vec : Nat)
  /-- INT_ENABLE_WRITE, R109. -/
  | intEnableWrite (page : Nat) (v : Word)
  /-- PAUSE_QUANTA_EXPIRY, R387. -/
  | pauseQuantaExpiry (port cls : Nat)
  /-- MEM_TEMP_NORMAL, R326. -/
  | memTempNormal (nn temp : Nat)
deriving DecidableEq, Repr

end Sys2Proof
end

