-- ==== Sys2Proof/Config.lean ====
section
/-! DEFINITION. Sys2Proof/Config.lean: what the spec leaves open. Every constant here is opaque: it has no body, so no proof can lean on a value
of it, and a statement about it holds whatever it is (log entry 3). -/

namespace Sys2Proof.Config

/-- A free value for the n-th time the machine needs one: `State.freeCtr` is n. -/
opaque freeNat : Nat → Nat

/-- The choice, the n-th time, among alternatives to which the spec gives no order (a free frame, a path, a slot). -/
opaque choice : Nat → Nat

/-- What a DRAM byte reads as between entry to ON and DRAM_INIT_DONE (R126: undefined until bring-up initialises it). -/
opaque undefByte : Nat → Byte

/-- A 256-bit key, a random draw, a signature or another cryptographic result the spec names and does not compute. -/
opaque crypto : Nat → Nat → Nat

/-- The module's serial number and the base of its MAC addresses in the vital product data (R59). -/
opaque serial : Nat
opaque macBase : Nat

/-- The fused maximum frequency of a tile in MHz (R59, R472). -/
opaque fusedFmax : Nat → Nat

/-- The build and interface versions of the image a module leaves the factory with. -/
opaque factoryFw : Nat
opaque factoryIf : Nat

/-- The factory's energy and efficiency coefficients by part (R476), as fractions. -/
opaque factoryCoef : Nat → Nat × Nat

/-- The factor 2^((T − 95 °C) ÷ 20 °C) of R471 for a temperature in 1/16 °C, as a fraction. -/
opaque leakFactor : Int → Nat × Nat

/-- The power of a cluster at another clock (R482): from the model's figure for it, its clock now and the clock asked for, in MHz. The manual gives no formula. -/
opaque powerAt : Nat × Nat → Nat → Nat → Nat × Nat

/-- A byte of the crash dump with a SEQ, and of the Belvedere image with a SEQ: the manual gives their content, not its places. -/
opaque dumpByte : Nat → Nat → Byte
opaque belvByte : Nat → Nat → Byte

/-- The bytes that a Belvedere image holds (R558: at most about 2.3 MiB). -/
opaque belvBytes : Nat → Nat

/-- Cox's estimate of a tagged descriptor's tile-cycles and DRAM bytes (R270), from its opcode and, of an attend, TOKEN_COUNT and k, of an append, T and the size of
the weights. The manual gives no formula. -/
opaque estimate : Nat → Nat → Nat → Nat × Nat

/-- The manufacturing date in the vital product data (R59). -/
opaque mfgDate : Nat

/-- The certificate chain of the device identity key, as it is stored at manufacture (R520). -/
opaque idCertChain : Nat

/-- The fused DEVICE_SECRET (R516), and HKDF-SHA-256 of a secret with a label (R520). -/
opaque deviceSecret : Nat
opaque hkdf : Nat → String → Nat

/-- Region i of a core's memory protection unit as its firmware sets it (R497): component, base, length. -/
opaque mpuRegion : Nat → Nat → Nat × Nat × Nat

/-- The training result of a memory channel as Boathouse stores it in flash (R58), by channel and free-value number. -/
opaque trainingResult : Nat → Nat → Nat

/-- The fields of an IP, UDP or RDMA header to which no rule gives a value (identification, hop limit, checksum, message number), by the field's place (R4, R353,
R370). -/
opaque headerOpen : Nat → Nat

end Sys2Proof.Config
end

