-- ==== Sys2Proof/Machine/Tab.lean ====
section
/-! DEFINITION. Sys2Proof/Machine/Tab.lean: finite tables in one canonical form (keys strictly rising), tables that read a default where nothing
is listed, and the bit-field and byte-order helpers (R3, R4). -/

namespace Sys2Proof.Machine

/-- A finite table with keys that are numbers. In canonical form its keys rise strictly. -/
abbrev Tab (β : Type) := List (Nat × β)

namespace Tab
variable {β : Type}

/-- The entry at a key. -/
def look : Tab β → Nat → Option β
  | [], _ => none
  | (k', v) :: r, k => if k' = k then some v else look r k

/-- Enter or replace the entry at a key, keeping the keys rising. -/
def put : Tab β → Nat → β → Tab β
  | [], k, v => [(k, v)]
  | (k', w) :: r, k, v =>
    if k < k' then (k, v) :: (k', w) :: r
    else if k = k' then (k, v) :: r
    else (k', w) :: put r k v

/-- Remove the entry at a key. -/
def del (t : Tab β) (k : Nat) : Tab β := t.filter (fun e => e.1 ≠ k)

/-- Change the entry at a key, if there is one. -/
def upd (t : Tab β) (k : Nat) (f : β → β) : Tab β := t.map (fun e => if e.1 = k then (e.1, f e.2) else e)

/-- Change every entry. -/
def mapv (t : Tab β) (f : Nat → β → β) : Tab β := t.map (fun e => (e.1, f e.1 e.2))

/-- Keep the entries that satisfy a test. -/
def keep (t : Tab β) (p : Nat → β → Bool) : Tab β := t.filter (fun e => p e.1 e.2)

/-- The values, in key order. -/
def vals (t : Tab β) : List β := List.map Prod.snd t

def has (t : Tab β) (k : Nat) : Bool := (t.look k).isSome

/-- The least number below a bound that is no key of the table. -/
def freshBelow (t : Tab β) : Nat → Option Nat
  | bound => (List.range (t.length + 1)).find? (fun i => i < bound && !t.has i)

/-- Every key lies below the next. -/
def risingFrom : Option Nat → Tab β → Bool
  | _, [] => true
  | none, (k, _) :: r => risingFrom (some k) r
  | some j, (k, _) :: r => decide (j < k) && risingFrom (some k) r

def rising (t : Tab β) : Bool := risingFrom none t

/-- Read of a table whose unlisted keys hold a default. -/
def getD (d : Nat → β) (t : Tab β) (k : Nat) : β := (t.look k).getD (d k)

/-- Write of a table whose unlisted keys hold a default: writing the default removes the entry, so equal contents are equal data. -/
def setD [DecidableEq β] (d : Nat → β) (t : Tab β) (k : Nat) (v : β) : Tab β :=
  if v = d k then t.del k else t.put k v

/-- Canonical form of a table with a default: rising keys and no entry equal to the default. -/
def wf [DecidableEq β] (d : Nat → β) (t : Tab β) : Bool := t.rising && t.all (fun e => decide (e.2 ≠ d e.1))

end Tab

/-- Bits [lo + w − 1 : lo] of a number. -/
def bitsOf (n lo w : Nat) : Nat := n / 2 ^ lo % 2 ^ w

/-- Bit i of a number. -/
def bitOf (n i : Nat) : Bool := n / 2 ^ i % 2 == 1

/-- The number with bits [lo + w − 1 : lo] replaced by x modulo 2^w. -/
def putBits (n lo w x : Nat) : Nat := n - bitsOf n lo w * 2 ^ lo + x % 2 ^ w * 2 ^ lo

def b2n (b : Bool) : Nat := if b then 1 else 0

/-- Field [lo + w − 1 : lo] of a register (R3). -/
def fld (v : Word) (lo w : Nat) : Nat := bitsOf v.toNat lo w

/-- Bit i of a register. -/
def bit (v : Word) (i : Nat) : Bool := bitOf v.toNat i

/-- A register with field [lo + w − 1 : lo] replaced. -/
def setFld (v : Word) (lo w x : Nat) : Word := BitVec.ofNat 32 (putBits v.toNat lo w x)

/-- A register with bit i set or cleared. -/
def setBit (v : Word) (i : Nat) (b : Bool) : Word := setFld v i 1 (b2n b)

def word (n : Nat) : Word := BitVec.ofNat 32 n

/-- Field at byte offset o, bits [lo + w − 1 : lo], of a descriptor. -/
def dfld (d : Desc) (o lo w : Nat) : Nat := bitsOf d.toNat (8 * o + lo) w

/-- The number that bytes spell, lowest byte first (R4). -/
def leNat : List Byte → Nat
  | [] => 0
  | b :: r => b.toNat + 256 * leNat r

/-- The n low bytes of a number, lowest first (R4). -/
def leBytes : Nat → Nat → List Byte
  | 0, _ => []
  | n + 1, x => BitVec.ofNat 8 x :: leBytes n (x / 256)

/-- The number that bytes spell, most significant byte first (R4, packet headers). -/
def beNat (bs : List Byte) : Nat := leNat bs.reverse

/-- The n low bytes of a number, most significant first. -/
def beBytes (n x : Nat) : List Byte := (leBytes n x).reverse

/-- Signed value of a field of w bits. -/
def sx (w n : Nat) : Int := if n < 2 ^ (w - 1) then (n : Int) else (n : Int) - 2 ^ w

/-- The serial difference a − b of two 32-bit counts, as a signed number. -/
def serial (a b : Word) : Int := sx 32 (a - b).toNat

def ceilDiv (a b : Nat) : Nat := (a + b - 1) / b

end Sys2Proof.Machine
end

