-- ==== Sys2Proof/Machine/RegTable.lean ====
section
/-! DEFINITION. Sys2Proof/Machine/RegTable.lean: every register of the spec's register tables (R73, R85, R105, R118, R137, R196, R235,
R271, R275, R305, R332, R334, R374, R377, R414, R416, R445, R467, R492, R513, R538, R548, R561) as data: offset, access code (R6), Reset value,
bits that are not reserved (R5), Kept column (R10) and select register. -/
namespace Sys2Proof.Machine

/-- The access codes of R6. -/
inductive Access where
  | ro | rw | w1c | w1s | rc | wo
deriving DecidableEq, Repr

/-- One row of a register table. `words`: consecutive 32-bit words of the row. `mask`: the bits that are not reserved (R5).
`kept`: the Kept column (R10) as a bit set, W 1, H 2, I 4, F 8, Z1 16, Z2 32. `sel`: for a register that acts on the item a
select register names, that select register's offset and the width of its index; width 0 where there is none. -/
structure RegRow where
  off : Nat
  words : Nat
  acc : Access
  reset : Nat
  mask : Nat
  kept : Nat
  sel : Nat
  selW : Nat
deriving DecidableEq, Repr

/-- The page kinds: 0 to 15 the one-page blocks in the order of R71, 16 a CLS page, 17 a MEM page, 18 a Pavilion page, 19 a ring page. -/
abbrev PageKind := Nat

/-- R105: the common block of every page. ID and CTRL take their Reset value from `commonReset`. -/
def commonRows : List RegRow :=
  [⟨0x000, 1, .ro, 0, 0xFFFFFFFF, 63, 0, 0⟩, ⟨0x004, 1, .ro, 0, 0, 63, 0, 0⟩, ⟨0x008, 1, .rw, 0, 0x1F000000, 62, 0, 0⟩,
   ⟨0x00C, 1, .ro, 0, 0xFFFFFFFF, 62, 0, 0⟩, ⟨0x010, 1, .w1c, 0, 0xFFFFFFFF, 62, 0, 0⟩, ⟨0x014, 1, .rw, 0, 0xFFFFFFFF, 62, 0, 0⟩,
   ⟨0x018, 1, .w1s, 0, 0xFFFFFFFF, 0, 0, 0⟩, ⟨0x01C, 1, .rc, 0, 0xFFFFFFFF, 62, 0, 0⟩, ⟨0x020, 8, .ro, 0, 0xFFFFFFFF, 62, 0, 0⟩]

/-- R118: the block registers of the GLB page. -/
def glbRows : List RegRow :=
  [⟨0x040, 1, .ro, 0x8800020, 0xFFFFFFFF, 63, 0, 0⟩, ⟨0x044, 1, .ro, 0x101, 0xFFFFFFFF, 63, 0, 0⟩, ⟨0x048, 1, .ro, 0x0, 0xFFFFFFFF, 62, 0, 0⟩,
    ⟨0x04C, 1, .ro, 0x0, 0xFFFFFFFF, 62, 0, 0⟩, ⟨0x050, 1, .ro, 0x0, 0xFFFFFFFF, 63, 0, 0⟩, ⟨0x054, 1, .w1c, 0x1, 0x1F, 62, 0, 0⟩,
    ⟨0x058, 1, .wo, 0x0, 0xFFFFFFFF, 0, 0, 0⟩, ⟨0x05C, 1, .rw, 0x8, 0x1F, 62, 0, 0⟩, ⟨0x060, 1, .ro, 0x0, 0x7F0F, 62, 0, 0⟩,
    ⟨0x064, 1, .rw, 0x3E8, 0xFFFFFFFF, 62, 0, 0⟩, ⟨0x068, 1, .w1c, 0x0, 0x1FF, 62, 0, 0⟩, ⟨0x06C, 1, .ro, 0x0, 0xFFFFFFFF, 62, 0, 0⟩,
    ⟨0x070, 1, .ro, 0x0, 0xFFFFFFFF, 62, 0, 0⟩, ⟨0x074, 1, .rw, 0x0, 0xFFFFFFFF, 63, 0, 0⟩, ⟨0x078, 1, .rc, 0x0, 0xFFFFFFFF, 62, 0, 0⟩]

/-- R73: the block registers of the HIF page. -/
def hifRows : List RegRow :=
  [⟨0x040, 1, .ro, 0x0, 0xFFFFFFFF, 56, 0, 0⟩, ⟨0x044, 1, .rw, 0x5B, 0x7F, 62, 0, 0⟩, ⟨0x048, 1, .w1c, 0x0, 0x1F, 62, 0, 0⟩,
    ⟨0x04C, 1, .rc, 0x0, 0xFFFFFFFF, 62, 0, 0⟩, ⟨0x050, 1, .rc, 0x0, 0xFFFFFFFF, 62, 0, 0⟩, ⟨0x054, 1, .rw, 0x7D0, 0xFFFFFFFF, 62, 0, 0⟩,
    ⟨0x058, 1, .rw, 0x1, 0x3, 62, 0, 0⟩, ⟨0x05C, 1, .ro, 0x0, 0xFFFFFFFF, 56, 0, 0⟩, ⟨0x060, 1, .rc, 0x0, 0xFFFFFFFF, 62, 0, 0⟩,
    ⟨0x064, 1, .rc, 0x0, 0xFFFFFFFF, 62, 0, 0⟩, ⟨0x068, 1, .rc, 0x0, 0xFFFFFFFF, 62, 0, 0⟩]

/-- R196: the block registers of the TRN page. -/
def trnRows : List RegRow :=
  [⟨0x040, 1, .rw, 0x0, 0x3F, 62, 0, 0⟩, ⟨0x044, 1, .rw, 0x0, 0x7, 58, 0x40, 6⟩, ⟨0x048, 1, .ro, 0x0, 0xFFFFFFFF, 58, 0x40, 6⟩,
    ⟨0x04C, 1, .rw, 0x0, 0x800FFFFF, 63, 0x40, 6⟩, ⟨0x050, 1, .ro, 0x0, 0xFFFFFFFF, 63, 0x40, 6⟩, ⟨0x054, 1, .ro, 0x0, 0xFFFFFFFF, 63, 0x40, 6⟩,
    ⟨0x058, 1, .rw, 0x0, 0xFFFFF, 63, 0x40, 6⟩, ⟨0x05C, 1, .ro, 0x0, 0xFFFFFFFF, 59, 0x40, 6⟩, ⟨0x060, 1, .rw, 0x0, 0x1FFF, 63, 0x40, 6⟩,
    ⟨0x064, 1, .rw, 0x4, 0x3FF, 63, 0x40, 6⟩, ⟨0x068, 1, .rw, 0x0, 0xFFFF, 63, 0x40, 6⟩, ⟨0x06C, 1, .rw, 0x0, 0x1FFF, 63, 0x40, 6⟩,
    ⟨0x070, 1, .rw, 0x0, 0xFFFF, 63, 0x40, 6⟩, ⟨0x074, 1, .rw, 0x0, 0x7FF, 63, 0x40, 6⟩, ⟨0x078, 1, .rc, 0x0, 0xFFFFFFFF, 58, 0x40, 6⟩,
    ⟨0x07C, 1, .rc, 0x0, 0xFFFFFFFF, 58, 0x40, 6⟩, ⟨0x080, 1, .ro, 0x0, 0xFFFFFFFF, 10, 0, 0⟩, ⟨0x084, 1, .w1c, 0x0, 0x1, 62, 0, 0⟩,
    ⟨0x088, 1, .rc, 0x0, 0xFFFFFFFF, 62, 0, 0⟩, ⟨0x08C, 1, .rc, 0x0, 0xFFFFFFFF, 62, 0, 0⟩, ⟨0x090, 1, .rc, 0x0, 0xFFFFFFFF, 62, 0, 0⟩,
    ⟨0x094, 1, .rc, 0x0, 0xFFFFFFFF, 62, 0, 0⟩, ⟨0x098, 1, .rw, 0x3E8, 0xFFFFFFFF, 63, 0, 0⟩, ⟨0x09C, 1, .rc, 0x0, 0xFFFFFFFF, 62, 0, 0⟩]

/-- R271, R305, R467: the block registers of the CTX page. -/
def ctxRows : List RegRow :=
  [⟨0x040, 1, .rw, 0x0, 0x3F, 62, 0, 0⟩, ⟨0x044, 1, .rw, 0x10004, 0x1FFFF, 63, 0x40, 6⟩, ⟨0x048, 1, .rw, 0x40, 0x1FFF, 63, 0x40, 6⟩,
    ⟨0x04C, 1, .rc, 0x0, 0xFFFFFFFF, 58, 0x40, 6⟩, ⟨0x050, 1, .rw, 0x1, 0xFFFF0001, 62, 0, 0⟩, ⟨0x054, 1, .ro, 0x0, 0x73E, 14, 0, 0⟩,
    ⟨0x058, 1, .ro, 0x0, 0xFFFFFFFF, 14, 0, 0⟩, ⟨0x05C, 1, .rc, 0x0, 0xFFFFFFFF, 62, 0, 0⟩, ⟨0x060, 1, .rc, 0x0, 0xFFFFFFFF, 62, 0, 0⟩,
    ⟨0x064, 1, .rc, 0x0, 0xFFFFFFFF, 62, 0, 0⟩, ⟨0x068, 1, .rc, 0x0, 0xFFFFFFFF, 62, 0, 0⟩, ⟨0x100, 1, .rw, 0x0, 0xFFF, 62, 0, 0⟩,
    ⟨0x104, 1, .rw, 0x0, 0x8000003F, 63, 0x100, 12⟩, ⟨0x108, 1, .ro, 0x0, 0xFFFFFFFF, 58, 0x100, 12⟩, ⟨0x10C, 1, .rw, 0x4, 0x1F, 63, 0x100, 12⟩,
    ⟨0x110, 1, .ro, 0x0, 0xFFFFFFFF, 58, 0x100, 12⟩, ⟨0x114, 1, .rc, 0x0, 0xFFFFFFFF, 62, 0x100, 12⟩, ⟨0x118, 1, .ro, 0x0, 0xFFFFFFFF, 58, 0, 0⟩,
    ⟨0x200, 1, .rw, 0x800, 0xFFFF7F01, 62, 0, 0⟩, ⟨0x204, 1, .rw, 0x0, 0xFFFE0000, 62, 0, 0⟩, ⟨0x208, 1, .rw, 0x0, 0xFFFFFFFF, 62, 0, 0⟩,
    ⟨0x20C, 1, .rw, 0x0, 0x7FFFFF, 62, 0, 0⟩, ⟨0x210, 1, .w1c, 0x0, 0xFF, 62, 0, 0⟩, ⟨0x214, 1, .wo, 0x0, 0x1FF, 0, 0, 0⟩,
    ⟨0x218, 1, .rw, 0xC8, 0xFFFF, 62, 0, 0⟩, ⟨0x21C, 1, .rw, 0x80, 0xFFFF, 62, 0, 0⟩, ⟨0x220, 1, .ro, 0x0, 0xFFFFFFFF, 62, 0, 0⟩,
    ⟨0x224, 1, .rc, 0x0, 0xFFFFFFFF, 62, 0, 0⟩, ⟨0x228, 1, .rc, 0x0, 0xFFFFFFFF, 62, 0, 0⟩, ⟨0x22C, 1, .rc, 0x0, 0xFFFFFFFF, 62, 0, 0⟩,
    ⟨0x230, 1, .ro, 0x0, 0xFFFFFFFF, 62, 0, 0⟩, ⟨0x234, 1, .rc, 0x0, 0xFFFFFFFF, 62, 0, 0⟩, ⟨0x238, 1, .rc, 0x0, 0xFFFFFFFF, 62, 0, 0⟩,
    ⟨0x23C, 1, .ro, 0x0, 0xFFFFFFFF, 62, 0, 0⟩]

/-- R414: the block registers of the NET page. -/
def netRows : List RegRow :=
  [⟨0x040, 1, .rw, 0x0, 0x7, 62, 0, 0⟩, ⟨0x044, 1, .ro, 0x0, 0xFFFFFFFF, 62, 0x40, 3⟩, ⟨0x048, 1, .rw, 0x0, 0xFF, 62, 0x40, 3⟩,
    ⟨0x04C, 1, .rw, 0x20202020, 0xFFFFFFFF, 62, 0x40, 3⟩, ⟨0x050, 1, .rw, 0x20202020, 0xFFFFFFFF, 62, 0x40, 3⟩,
    ⟨0x054, 1, .rw, 0x520000, 0xFF00FF, 62, 0x40, 3⟩, ⟨0x058, 1, .rw, 0x0, 0xFFFFFFFF, 62, 0x40, 3⟩, ⟨0x05C, 1, .rw, 0x0, 0xFFFFFFFF, 62, 0x40, 3⟩,
    ⟨0x060, 1, .ro, 0x0, 0xFFFFFFFF, 62, 0x40, 3⟩, ⟨0x064, 1, .rc, 0x0, 0xFFFFFFFF, 62, 0x40, 3⟩, ⟨0x068, 1, .rc, 0x0, 0xFFFFFFFF, 62, 0x40, 3⟩,
    ⟨0x06C, 1, .rc, 0x0, 0xFFFFFFFF, 62, 0x40, 3⟩, ⟨0x070, 1, .rc, 0x0, 0xFFFFFFFF, 62, 0x40, 3⟩, ⟨0x074, 1, .rc, 0x0, 0xFFFFFFFF, 62, 0x40, 3⟩,
    ⟨0x078, 1, .rc, 0x0, 0xFFFFFFFF, 62, 0x40, 3⟩, ⟨0x07C, 1, .rc, 0x0, 0xFFFFFFFF, 62, 0x40, 3⟩, ⟨0x080, 1, .rc, 0x0, 0xFFFFFFFF, 62, 0x40, 3⟩,
    ⟨0x084, 1, .rc, 0x0, 0xFFFFFFFF, 62, 0x40, 3⟩, ⟨0x088, 1, .rc, 0x0, 0xFFFFFFFF, 62, 0x40, 3⟩, ⟨0x08C, 1, .rc, 0x0, 0xFFFFFFFF, 62, 0x40, 3⟩,
    ⟨0x090, 1, .rw, 0x0, 0x3F, 62, 0, 0⟩, ⟨0x094, 1, .rw, 0x0, 0x1FFF, 63, 0x90, 6⟩, ⟨0x098, 1, .rw, 0x76543210, 0x77777777, 62, 0, 0⟩,
    ⟨0x09C, 1, .rw, 0x18100800, 0x3F3F3F3F, 62, 0, 0⟩, ⟨0x0A0, 1, .rw, 0x38302820, 0x3F3F3F3F, 62, 0, 0⟩, ⟨0x0A4, 1, .ro, 0x0, 0xFFFFFFFF, 62, 0, 0⟩,
    ⟨0x0A8, 1, .ro, 0x0, 0xFFFFFFFF, 62, 0, 0⟩, ⟨0x0AC, 1, .rw, 0x0, 0x307, 62, 0, 0⟩, ⟨0x0B0, 1, .ro, 0x0, 0xFFFFFFFF, 62, 0, 0⟩,
    ⟨0x0B4, 1, .ro, 0x0, 0xFFFFFFFF, 62, 0, 0⟩, ⟨0x0B8, 1, .ro, 0x0, 0xFFFFFFFF, 62, 0, 0⟩]

/-- R416: the block registers of the CRW page. -/
def crwRows : List RegRow :=
  [⟨0x040, 1, .rw, 0x0, 0x73, 62, 0, 0⟩, ⟨0x044, 1, .ro, 0x0, 0xFFFFFFFF, 62, 0x40, 2⟩, ⟨0x048, 1, .ro, 0x0, 0xFFFFFFFF, 62, 0x40, 2⟩,
    ⟨0x04C, 1, .ro, 0x0, 0xFFFFFFFF, 62, 0x40, 2⟩, ⟨0x050, 1, .wo, 0x0, 0x1, 0, 0x40, 2⟩, ⟨0x054, 1, .rw, 0x4000B80, 0x7FFF7FFF, 62, 0, 0⟩,
    ⟨0x058, 1, .rw, 0x800, 0x7FFF, 62, 0, 0⟩, ⟨0x05C, 1, .rw, 0x1000, 0xFFFFFFFF, 62, 0, 0⟩, ⟨0x060, 1, .rw, 0x0, 0x7, 62, 0, 0⟩,
    ⟨0x064, 1, .ro, 0x0, 0xFFFFFFFF, 62, 0, 0⟩, ⟨0x068, 1, .ro, 0x0, 0xFFFFFFFF, 14, 0x40, 7⟩, ⟨0x06C, 1, .rc, 0x0, 0xFFFFFFFF, 62, 0x40, 2⟩,
    ⟨0x070, 1, .rc, 0x0, 0xFFFFFFFF, 62, 0, 0⟩, ⟨0x074, 1, .rc, 0x0, 0xFFFFFFFF, 62, 0, 0⟩, ⟨0x078, 1, .rc, 0x0, 0xFFFFFFFF, 62, 0, 0⟩,
    ⟨0x07C, 1, .rc, 0x0, 0xFFFFFFFF, 62, 0, 0⟩, ⟨0x080, 1, .rc, 0x0, 0xFFFFFFFF, 62, 0, 0⟩, ⟨0x084, 1, .rc, 0x0, 0xFFFFFFFF, 62, 0, 0⟩,
    ⟨0x088, 1, .rc, 0x0, 0xFFFFFFFF, 62, 0, 0⟩, ⟨0x08C, 1, .rc, 0x0, 0xFFFFFFFF, 62, 0, 0⟩, ⟨0x090, 1, .rc, 0x0, 0xFFFFFFFF, 62, 0, 0⟩,
    ⟨0x094, 1, .rc, 0x0, 0xFFFFFFFF, 62, 0, 0⟩, ⟨0x098, 1, .rc, 0x0, 0xFFFFFFFF, 62, 0, 0⟩, ⟨0x09C, 1, .rc, 0x0, 0xFFFFFFFF, 62, 0, 0⟩]

/-- R374: the block registers of the YDT page. -/
def ydtRows : List RegRow :=
  [⟨0x040, 1, .rw, 0x0, 0xFFF, 62, 0, 0⟩, ⟨0x044, 1, .rw, 0x4A39, 0xFFFF, 62, 0, 0⟩, ⟨0x048, 1, .rw, 0x106, 0xFF0F, 62, 0, 0⟩,
    ⟨0x04C, 1, .rw, 0x0, 0x3F, 62, 0, 0⟩, ⟨0x050, 1, .rw, 0x0, 0x8001FFFF, 62, 0x4C, 6⟩, ⟨0x054, 1, .ro, 0x0, 0xFFFFFFFF, 10, 0, 0⟩,
    ⟨0x058, 1, .ro, 0x0, 0xFFFFFFFF, 10, 0, 0⟩, ⟨0x05C, 1, .ro, 0x0, 0xFFFFFFFF, 58, 0, 0⟩, ⟨0x060, 1, .rc, 0x0, 0xFFFFFFFF, 62, 0, 0⟩,
    ⟨0x064, 1, .rc, 0x0, 0xFFFFFFFF, 62, 0, 0⟩, ⟨0x068, 1, .rc, 0x0, 0xFFFFFFFF, 62, 0, 0⟩, ⟨0x06C, 1, .rc, 0x0, 0xFFFFFFFF, 62, 0, 0⟩,
    ⟨0x070, 1, .rc, 0x0, 0xFFFFFFFF, 62, 0, 0⟩, ⟨0x074, 1, .rc, 0x0, 0xFFFFFFFF, 62, 0, 0⟩, ⟨0x078, 1, .rc, 0x0, 0xFFFFFFFF, 62, 0, 0⟩,
    ⟨0x07C, 1, .rc, 0x0, 0xFFFFFFFF, 62, 0, 0⟩, ⟨0x080, 1, .rw, 0x0, 0xFFF, 62, 0, 0⟩, ⟨0x084, 1, .ro, 0x0, 0xFFFFFFFF, 14, 0x80, 12⟩,
    ⟨0x088, 1, .rw, 0xA320541, 0xFFFFFFF1, 62, 0, 0⟩, ⟨0x08C, 1, .rw, 0x1388, 0xFFFF, 62, 0, 0⟩, ⟨0x090, 1, .rc, 0x0, 0xFFFFFFFF, 62, 0, 0⟩,
    ⟨0x094, 1, .rw, 0x0, 0xFFF, 62, 0, 0⟩, ⟨0x098, 1, .rw, 0x0, 0x8000003F, 62, 0x94, 12⟩]

/-- R377: the block registers of the QPM page. -/
def qpmRows : List RegRow :=
  [⟨0x040, 1, .rw, 0x0, 0xFFF, 62, 0, 0⟩, ⟨0x044, 1, .rw, 0x0, 0x8000003F, 63, 0x40, 12⟩, ⟨0x048, 1, .ro, 0x0, 0xFFFFFFFF, 58, 0x40, 12⟩,
    ⟨0x04C, 1, .ro, 0x0, 0xFFFFFFFF, 58, 0x40, 12⟩, ⟨0x050, 1, .ro, 0x0, 0xFFFFFFFF, 58, 0x40, 12⟩, ⟨0x054, 1, .ro, 0x0, 0xFFFFFFFF, 10, 0x40, 12⟩,
    ⟨0x058, 1, .rc, 0x0, 0xFFFFFFFF, 62, 0, 0⟩, ⟨0x05C, 1, .rc, 0x0, 0xFFFFFFFF, 62, 0, 0⟩, ⟨0x060, 1, .rc, 0x0, 0xFFFFFFFF, 62, 0, 0⟩,
    ⟨0x064, 1, .rc, 0x0, 0xFFFFFFFF, 62, 0, 0⟩, ⟨0x068, 1, .rc, 0x0, 0xFFFFFFFF, 62, 0, 0⟩, ⟨0x06C, 1, .rc, 0x0, 0xFFFFFFFF, 62, 0, 0⟩,
    ⟨0x070, 1, .rw, 0x32, 0xFFFF, 62, 0, 0⟩]

/-- R445: the block registers of the HEA page. -/
def heaRows : List RegRow :=
  [⟨0x040, 1, .rw, 0x0, 0xFF, 62, 0, 0⟩, ⟨0x044, 1, .ro, 0x0, 0xFFFFFFFF, 62, 0x40, 8⟩, ⟨0x048, 1, .ro, 0x0, 0xFFFFFFFF, 62, 0x40, 8⟩,
    ⟨0x04C, 1, .ro, 0x0, 0xFFFFFFFF, 62, 0x40, 8⟩, ⟨0x050, 1, .ro, 0x0, 0xFFFFFFFF, 62, 0x40, 8⟩, ⟨0x054, 1, .ro, 0x100, 0xFFFFFFFF, 62, 0, 0⟩,
    ⟨0x058, 1, .ro, 0x0, 0xFFFFFFFF, 10, 0, 0⟩, ⟨0x05C, 1, .rc, 0x0, 0xFFFFFFFF, 62, 0, 0⟩, ⟨0x060, 1, .rc, 0x0, 0xFFFFFFFF, 62, 0, 0⟩,
    ⟨0x064, 1, .rc, 0x0, 0xFFFFFFFF, 62, 0, 0⟩, ⟨0x068, 1, .rc, 0x0, 0xFFFFFFFF, 62, 0, 0⟩, ⟨0x06C, 1, .rc, 0x0, 0xFFFFFFFF, 62, 0, 0⟩,
    ⟨0x070, 1, .rc, 0x0, 0xFFFFFFFF, 62, 0, 0⟩, ⟨0x074, 1, .rc, 0x0, 0xFFFFFFFF, 62, 0, 0⟩, ⟨0x078, 1, .rc, 0x0, 0xFFFFFFFF, 62, 0, 0⟩,
    ⟨0x07C, 1, .rc, 0x0, 0xFFFFFFFF, 62, 0, 0⟩, ⟨0x080, 1, .rc, 0x0, 0xFFFFFFFF, 62, 0, 0⟩, ⟨0x084, 1, .rc, 0x0, 0xFFFFFFFF, 62, 0, 0⟩]

/-- R492: the block registers of the PWR page. -/
def pwrRows : List RegRow :=
  [⟨0x040, 1, .rw, 0xDC, 0xFF, 62, 0, 0⟩, ⟨0x044, 1, .ro, 0xDC, 0xFFFFFFFF, 62, 0, 0⟩, ⟨0x048, 1, .rw, 0x5A5F02, 0xFFFF03, 62, 0, 0⟩,
    ⟨0x04C, 1, .ro, 0x0, 0xFFFFFFFF, 14, 0, 0⟩, ⟨0x050, 1, .ro, 0x0, 0xFFFFFFFF, 62, 0, 0⟩, ⟨0x054, 1, .rw, 0x0, 0xF, 62, 0, 0⟩,
    ⟨0x058, 1, .ro, 0x0, 0xFFFFFFFF, 62, 0x54, 4⟩, ⟨0x05C, 1, .rw, 0x0, 0x7FF, 62, 0x54, 4⟩, ⟨0x060, 1, .rc, 0x0, 0xFFFFFFFF, 62, 0x54, 4⟩,
    ⟨0x064, 1, .rw, 0x10A1E, 0x1FFFF, 62, 0, 0⟩, ⟨0x068, 1, .ro, 0x2EE, 0xFFFFFFFF, 62, 0, 0⟩, ⟨0x06C, 1, .rw, 0x0, 0x7, 62, 0, 0⟩,
    ⟨0x070, 1, .ro, 0x0, 0xFFFFFFFF, 62, 0x6C, 3⟩, ⟨0x074, 1, .rw, 0x0, 0x3F, 62, 0, 0⟩, ⟨0x078, 1, .ro, 0x0, 0xFFFFFFFF, 62, 0x74, 6⟩,
    ⟨0x07C, 1, .rw, 0xA8, 0x800000FF, 62, 0, 0⟩, ⟨0x080, 1, .rw, 0x736464, 0xFFFFFF, 62, 0, 0⟩, ⟨0x084, 1, .ro, 0x0, 0xFFFFFFFF, 62, 0, 0⟩,
    ⟨0x088, 1, .rc, 0x0, 0xFFFFFFFF, 62, 0, 0⟩, ⟨0x08C, 1, .rw, 0x0, 0x7F, 62, 0, 0⟩, ⟨0x090, 1, .ro, 0x0, 0xFFFFFFFF, 14, 0x8C, 7⟩,
    ⟨0x094, 1, .rw, 0x0, 0xFF, 62, 0, 0⟩, ⟨0x098, 1, .ro, 0x0, 0xFFFFFFFF, 62, 0x94, 8⟩]

/-- R538: the block registers of the SEC page. -/
def secRows : List RegRow :=
  [⟨0x040, 1, .ro, 0x0, 0xFFFFFFFF, 62, 0, 0⟩, ⟨0x044, 1, .ro, 0x0, 0xFFFFFFFF, 62, 0, 0⟩, ⟨0x048, 1, .rw, 0x0, 0x3FF, 62, 0, 0⟩,
    ⟨0x04C, 1, .ro, 0x0, 0xFFFFFFFF, 58, 0x48, 10⟩, ⟨0x050, 1, .ro, 0x0, 0xFFFFFFFF, 58, 0x48, 10⟩, ⟨0x054, 1, .ro, 0x0, 0xFFFFFFFF, 58, 0x48, 10⟩,
    ⟨0x058, 1, .rw, 0x0, 0xFF, 62, 0, 0⟩, ⟨0x05C, 1, .rw, 0x0, 0x8001FFFF, 62, 0x58, 8⟩, ⟨0x060, 1, .rw, 0x0, 0x3FF03FF, 62, 0x58, 8⟩,
    ⟨0x064, 1, .wo, 0x0, 0xFFFFFFFF, 0, 0, 0⟩, ⟨0x068, 1, .w1c, 0x0, 0x1F, 62, 0, 0⟩, ⟨0x06C, 1, .rc, 0x0, 0xFFFFFFFF, 62, 0, 0⟩,
    ⟨0x070, 1, .rc, 0x0, 0xFFFFFFFF, 62, 0, 0⟩, ⟨0x074, 1, .rc, 0x0, 0xFFFFFFFF, 62, 0, 0⟩, ⟨0x078, 1, .rc, 0x0, 0xFFFFFFFF, 62, 0, 0⟩,
    ⟨0x07C, 1, .rc, 0x0, 0xFFFFFFFF, 62, 0, 0⟩, ⟨0x080, 1, .ro, 0x0, 0xFFFFFFFF, 62, 0, 0⟩]

/-- R513: the block registers of the FWC page. -/
def fwcRows : List RegRow :=
  [⟨0x040, 1, .ro, 0x0, 0xFFFFFFFF, 62, 0, 0⟩, ⟨0x044, 1, .ro, 0x0, 0xFFFFFFFF, 62, 0, 0⟩, ⟨0x048, 1, .rw, 0x0, 0x7, 62, 0, 0⟩,
    ⟨0x04C, 1, .ro, 0x0, 0xFFFFFFFF, 62, 0x48, 3⟩, ⟨0x050, 1, .wo, 0x0, 0xFFFFFFFF, 0, 0, 0⟩, ⟨0x054, 1, .rc, 0x0, 0xFFFFFFFF, 62, 0x48, 3⟩,
    ⟨0x058, 1, .ro, 0x0, 0xFFFFFFFF, 62, 0, 0⟩, ⟨0x05C, 1, .wo, 0x0, 0xFFFFFF03, 0, 0, 0⟩, ⟨0x060, 1, .wo, 0x0, 0xFFFFFFFF, 0, 0, 0⟩,
    ⟨0x064, 1, .ro, 0x0, 0xFFFFFFFF, 62, 0, 0⟩, ⟨0x068, 1, .ro, 0x0, 0xFFFFFFFF, 62, 0, 0⟩, ⟨0x06C, 1, .wo, 0x0, 0x3, 0, 0, 0⟩,
    ⟨0x070, 1, .rw, 0x8, 0xFF, 62, 0, 0⟩, ⟨0x074, 1, .rw, 0x80003C03, 0x80FFFFFF, 62, 0, 0⟩, ⟨0x078, 1, .rc, 0x0, 0xFFFFFFFF, 62, 0, 0⟩,
    ⟨0x07C, 1, .ro, 0x0, 0xFFFFFFFF, 62, 0, 0⟩, ⟨0x080, 1, .ro, 0x0, 0xFFFFFFFF, 62, 0, 0⟩]

/-- R561: the block registers of the DBG page. -/
def dbgRows : List RegRow :=
  [⟨0x040, 1, .wo, 0x0, 0xFFFFFFFF, 0, 0, 0⟩, ⟨0x044, 1, .rw, 0x20000, 0x37EFE, 62, 0, 0⟩, ⟨0x048, 1, .w1c, 0x0, 0xFF, 62, 0, 0⟩,
    ⟨0x04C, 1, .ro, 0x0, 0xFFFFFFFF, 62, 0, 0⟩, ⟨0x050, 1, .ro, 0x0, 0xFFFFFFFF, 62, 0, 0⟩, ⟨0x054, 1, .rw, 0x0, 0xFFFF0007, 62, 0, 0⟩,
    ⟨0x058, 1, .rw, 0x0, 0x7FFFE, 62, 0, 0⟩, ⟨0x05C, 1, .rw, 0x100, 0x33F, 62, 0, 0⟩, ⟨0x060, 1, .rw, 0x0, 0xFFFFFFFF, 62, 0, 0⟩,
    ⟨0x064, 1, .rw, 0x0, 0xFFFFFFFF, 62, 0, 0⟩, ⟨0x068, 1, .rw, 0x0, 0x8000FFFF, 62, 0, 0⟩, ⟨0x06C, 1, .ro, 0x0, 0xFFFFFFFF, 62, 0, 0⟩,
    ⟨0x070, 1, .rc, 0x0, 0xFFFFFFFF, 62, 0, 0⟩, ⟨0x074, 1, .rw, 0x0, 0xFFFFF000, 62, 0, 0⟩, ⟨0x078, 1, .rw, 0x0, 0xFFFFFFFF, 62, 0, 0⟩,
    ⟨0x07C, 1, .rw, 0x0, 0xFFFF, 62, 0, 0⟩, ⟨0x080, 1, .rw, 0x3E80002, 0xFFFF0007, 62, 0, 0⟩, ⟨0x084, 1, .ro, 0x0, 0xFFFFFFFF, 63, 0, 0⟩,
    ⟨0x088, 1, .rc, 0x0, 0xFFFFFFFF, 62, 0, 0⟩]

/-- R548: the block registers of the CNT page. -/
def cntRows : List RegRow :=
  [⟨0x040, 1, .rw, 0x0, 0x3F, 62, 0, 0⟩, ⟨0x044, 1, .rw, 0xFF00, 0xC0FFFFFF, 62, 0x40, 6⟩, ⟨0x048, 1, .rw, 0x300, 0x33F, 62, 0x40, 6⟩,
    ⟨0x04C, 1, .rw, 0x0, 0xFFFFFFFF, 62, 0x40, 6⟩, ⟨0x050, 1, .rw, 0x0, 0xFFFFFFFF, 62, 0x40, 6⟩, ⟨0x054, 1, .rw, 0xFFFF0000, 0xFFFFFFFF, 62, 0x40, 6⟩,
    ⟨0x058, 1, .rw, 0x10000, 0x1FFFF, 62, 0x40, 6⟩, ⟨0x05C, 1, .ro, 0x0, 0xFFFFFFFF, 62, 0x40, 6⟩, ⟨0x060, 1, .ro, 0x0, 0xFFFFFFFF, 62, 0x40, 6⟩,
    ⟨0x064, 1, .rw, 0x0, 0xFFFFFFFF, 62, 0x40, 6⟩, ⟨0x068, 1, .rw, 0x0, 0xFFFF, 62, 0x40, 6⟩, ⟨0x06C, 1, .wo, 0x0, 0xFFFFFFFF, 0, 0, 0⟩,
    ⟨0x070, 1, .rw, 0x0, 0xF, 62, 0, 0⟩, ⟨0x074, 1, .rc, 0x0, 0xFFFFFFFF, 62, 0x70, 4⟩]

/-- R235, R275: the block registers of the CLS page. -/
def clsRows : List RegRow :=
  [⟨0x040, 1, .ro, 0x0, 0x1FFFF, 62, 0, 0⟩, ⟨0x044, 1, .wo, 0x0, 0xFF, 0, 0, 0⟩, ⟨0x048, 1, .rw, 0x3E80003, 0xFFFF00FF, 62, 0, 0⟩,
    ⟨0x04C, 1, .rc, 0x0, 0xFFFFFFFF, 62, 0, 0⟩, ⟨0x050, 1, .rc, 0x0, 0xFFFFFFFF, 62, 0, 0⟩, ⟨0x054, 1, .rc, 0x0, 0xFFFFFFFF, 62, 0, 0⟩,
    ⟨0x058, 4, .rc, 0x0, 0xFFFFFFFF, 62, 0, 0⟩, ⟨0x068, 1, .rc, 0x0, 0xFFFFFFFF, 62, 0, 0⟩, ⟨0x06C, 1, .rc, 0x0, 0xFFFFFFFF, 62, 0, 0⟩,
    ⟨0x070, 1, .wo, 0x0, 0xF, 0, 0, 0⟩, ⟨0x080, 1, .rc, 0x0, 0xFFFFFFFF, 62, 0, 0⟩, ⟨0x084, 1, .rc, 0x0, 0xFFFFFFFF, 62, 0, 0⟩,
    ⟨0x088, 1, .ro, 0x0, 0xFFFFFFFF, 10, 0, 0⟩, ⟨0x08C, 1, .rc, 0x0, 0xFFFFFFFF, 62, 0, 0⟩]

/-- R332, R334: the block registers of the MEM page. -/
def memRows : List RegRow :=
  [⟨0x040, 1, .ro, 0x0, 0xFFFFFFFF, 62, 0, 0⟩, ⟨0x044, 1, .ro, 0x0, 0xFFFFFFFF, 62, 0, 0⟩, ⟨0x048, 4, .rc, 0x0, 0xFFFFFFFF, 62, 0, 0⟩,
    ⟨0x058, 1, .rc, 0x0, 0xFFFFFFFF, 62, 0, 0⟩, ⟨0x05C, 1, .rc, 0x0, 0xFFFFFFFF, 62, 0, 0⟩, ⟨0x060, 1, .rc, 0x0, 0xFFFFFFFF, 62, 0, 0⟩,
    ⟨0x064, 1, .ro, 0x0, 0xFFFFFFFF, 62, 0, 0⟩, ⟨0x068, 1, .ro, 0x0, 0xFFFFFFFF, 62, 0, 0⟩, ⟨0x06C, 1, .wo, 0x0, 0xF, 0, 0, 0⟩,
    ⟨0x0C0, 1, .rw, 0x281010B0, 0xFFFFFFFF, 62, 0, 0⟩, ⟨0x0C4, 1, .rw, 0x20204, 0xFFFFFF, 62, 0, 0⟩, ⟨0x0C8, 1, .rw, 0xC8, 0xFFFF, 62, 0, 0⟩,
    ⟨0x0CC, 1, .rw, 0x418, 0xFFFF, 62, 0, 0⟩, ⟨0x0D0, 1, .ro, 0x0, 0xFFFFFFFF, 62, 0, 0⟩, ⟨0x0D4, 1, .rc, 0x0, 0xFFFFFFFF, 62, 0, 0⟩,
    ⟨0x0D8, 1, .rc, 0x0, 0xFFFFFFFF, 62, 0, 0⟩, ⟨0x0DC, 1, .rw, 0x0, 0x7, 62, 0, 0⟩, ⟨0x0E0, 1, .rc, 0x0, 0xFFFFFFFF, 62, 0, 0⟩,
    ⟨0x0E4, 1, .rc, 0x0, 0xFFFFFFFF, 62, 0, 0⟩]

/-- R85: the block registers of the PAV page. -/
def pavRows : List RegRow :=
  [⟨0x040, 1, .wo, 0x0, 0xFF, 0, 0, 0⟩, ⟨0x044, 1, .ro, 0x0, 0xFFFFFFFF, 56, 0, 0⟩, ⟨0x048, 1, .rw, 0x0, 0x8000FFFF, 56, 0, 0⟩,
    ⟨0x04C, 1, .rc, 0x0, 0xFFFFFFFF, 56, 0, 0⟩, ⟨0x050, 1, .ro, 0x0, 0xFFFFFFFF, 62, 0, 0⟩, ⟨0x054, 1, .ro, 0x0, 0xFFFFFFFF, 62, 0, 0⟩,
    ⟨0x058, 1, .rw, 0x0, 0xFFFFF000, 56, 0, 0⟩, ⟨0x05C, 1, .rw, 0x0, 0xFFFFFFFF, 56, 0, 0⟩, ⟨0x060, 1, .rw, 0x600, 0x1F01, 56, 0, 0⟩,
    ⟨0x064, 1, .ro, 0x0, 0xFFFFFFFF, 56, 0, 0⟩, ⟨0x068, 1, .rw, 0x0, 0xFFFFFFFF, 56, 0, 0⟩, ⟨0x06C, 1, .rc, 0x0, 0xFFFFFFFF, 56, 0, 0⟩,
    ⟨0x400, 128, .rw, 0x0, 0xFFFFFFFF, 56, 0, 0⟩, ⟨0x600, 128, .wo, 0x0, 0xFFFFFFFF, 0, 0, 0⟩]

/-- R137: the block registers of the RING page. -/
def ringRows : List RegRow :=
  [⟨0x040, 1, .rw, 0x0, 0xFFFFF000, 58, 0, 0⟩, ⟨0x044, 1, .rw, 0x0, 0xFFFFFFFF, 58, 0, 0⟩, ⟨0x048, 1, .rw, 0x600, 0xF1F07, 58, 0, 0⟩,
    ⟨0x04C, 1, .wo, 0x0, 0xFFFFFFFF, 0, 0, 0⟩, ⟨0x050, 1, .ro, 0x0, 0xFFFFFFFF, 58, 0, 0⟩, ⟨0x054, 1, .ro, 0x0, 0xFFFFFFFF, 58, 0, 0⟩,
    ⟨0x058, 1, .ro, 0x0, 0xFFFFFFFF, 58, 0, 0⟩, ⟨0x05C, 1, .wo, 0x0, 0xFFFFFFFF, 0, 0, 0⟩, ⟨0x060, 1, .wo, 0x0, 0x1, 0, 0, 0⟩,
    ⟨0x064, 1, .rw, 0x0, 0xFFFFF000, 58, 0, 0⟩, ⟨0x068, 1, .rw, 0x0, 0xFFFFFFFF, 58, 0, 0⟩, ⟨0x06C, 1, .rw, 0x600, 0x1F01, 58, 0, 0⟩,
    ⟨0x070, 1, .ro, 0x0, 0xFFFFFFFF, 58, 0, 0⟩, ⟨0x074, 1, .rw, 0x0, 0xFFFFFFFF, 58, 0, 0⟩, ⟨0x078, 1, .rw, 0x1, 0xFFFFFFFF, 58, 0, 0⟩,
    ⟨0x07C, 1, .rc, 0x0, 0xFFFFFFFF, 58, 0, 0⟩, ⟨0x080, 1, .rc, 0x0, 0xFFFFFFFF, 58, 0, 0⟩]

/-- The block registers of a page of a kind. The manager-wide MBX and RNG pages hold only the common registers (R85, R137). -/
def blockRows : PageKind → List RegRow
  | 0 => glbRows
  | 1 => hifRows
  | 4 => trnRows
  | 5 => ctxRows
  | 6 => netRows
  | 7 => crwRows
  | 8 => ydtRows
  | 9 => qpmRows
  | 10 => heaRows
  | 11 => pwrRows
  | 12 => secRows
  | 13 => fwcRows
  | 14 => dbgRows
  | 15 => cntRows
  | 16 => clsRows
  | 17 => memRows
  | 18 => pavRows
  | 19 => ringRows
  | _ => []

/-- R106: the block type of a page kind. -/
def blockType : PageKind → Nat
  | 0 => 0x01 | 1 => 0x02 | 2 => 0x03 | 3 => 0x04 | 4 => 0x05 | 5 => 0x06 | 6 => 0x09 | 7 => 0x0A | 8 => 0x0B | 9 => 0x0C
  | 10 => 0x0D | 11 => 0x0E | 12 => 0x0F | 13 => 0x10 | 14 => 0x11 | 15 => 0x12 | 16 => 0x07 | 17 => 0x08 | 18 => 0x03 | 19 => 0x04
  | _ => 0

/-! Register names. A key is offset + 4096 × (page + 4096 × index): pages 0 to 15 are the one-page blocks, 16 + nn CLSnn, 32 + nn MEMnn,
64 + 16 × function + p page p of a function window; index is the value of the select register, 0 for a register without one. -/

def rkey (page off idx : Nat) : Nat := off + 4096 * (page + 4096 * idx)
def pavPage (fn : Nat) : Nat := 64 + 16 * fn
def ringPage (fn ring : Nat) : Nat := 64 + 16 * fn + ring
def clsPage (nn : Nat) : Nat := 16 + nn
def memPage (nn : Nat) : Nat := 32 + nn

namespace R
def HIF_LINK_STATUS : Nat := rkey 1 0x040 0
def HIF_LINK_CTRL : Nat := rkey 1 0x044 0
def HIF_LINK_EVENTS : Nat := rkey 1 0x048 0
def HIF_RETRAIN_COUNT : Nat := rkey 1 0x04C 0
def HIF_DISCARD_COUNT : Nat := rkey 1 0x050 0
def HIF_PROBE_PERIOD : Nat := rkey 1 0x054 0
def HIF_CC_CTRL : Nat := rkey 1 0x058 0
def HIF_CC_STATUS : Nat := rkey 1 0x05C 0
def HIF_SNOOP_COUNT : Nat := rkey 1 0x060 0
def HIF_CHANNEL_PROBES : Nat := rkey 1 0x064 0
def HIF_ERR_COUNT : Nat := rkey 1 0x068 0
def MBX_DOORBELL (fn : Nat) : Nat := rkey (pavPage fn) 0x040 0
def MBX_SLOT_BUSY (fn : Nat) : Nat := rkey (pavPage fn) 0x044 0
def MBX_CQ (fn : Nat) : Nat := rkey (pavPage fn) 0x048 0
def MBX_REJECT_COUNT (fn : Nat) : Nat := rkey (pavPage fn) 0x04C 0
def MBX_VISIBLE_TIME_LO (fn : Nat) : Nat := rkey (pavPage fn) 0x050 0
def MBX_VISIBLE_TIME_HI (fn : Nat) : Nat := rkey (pavPage fn) 0x054 0
def MBX_EVQ_BASE_LO (fn : Nat) : Nat := rkey (pavPage fn) 0x058 0
def MBX_EVQ_BASE_HI (fn : Nat) : Nat := rkey (pavPage fn) 0x05C 0
def MBX_EVQ_CTRL (fn : Nat) : Nat := rkey (pavPage fn) 0x060 0
def MBX_EVQ_WRITTEN (fn : Nat) : Nat := rkey (pavPage fn) 0x064 0
def MBX_EVQ_SEEN (fn : Nat) : Nat := rkey (pavPage fn) 0x068 0
def MBX_EVQ_LOST (fn : Nat) : Nat := rkey (pavPage fn) 0x06C 0
def MBX_SLOT (fn : Nat) (j : Nat) : Nat := rkey (pavPage fn) (0x400 + 4 * j) 0
def MBX_GO (fn : Nat) (j : Nat) : Nat := rkey (pavPage fn) (0x600 + 4 * j) 0
def GLB_PART_CODE : Nat := rkey 0 0x040 0
def GLB_SILICON_STEP : Nat := rkey 0 0x044 0
def GLB_SERIAL_LO : Nat := rkey 0 0x048 0
def GLB_SERIAL_HI : Nat := rkey 0 0x04C 0
def GLB_MEMBER : Nat := rkey 0 0x050 0
def GLB_RESET_CAUSE : Nat := rkey 0 0x054 0
def GLB_WARM_RESET : Nat := rkey 0 0x058 0
def GLB_IDLE_CTRL : Nat := rkey 0 0x05C 0
def GLB_IDLE_STATUS : Nat := rkey 0 0x060 0
def GLB_IDLE_DELAY : Nat := rkey 0 0x064 0
def GLB_WAKE_CAUSE : Nat := rkey 0 0x068 0
def GLB_TIME_LO : Nat := rkey 0 0x06C 0
def GLB_TIME_HI : Nat := rkey 0 0x070 0
def GLB_SCRATCH : Nat := rkey 0 0x074 0
def GLB_IF_ERR_COUNT : Nat := rkey 0 0x078 0
def RNG_RING_BASE_LO (fn ring : Nat) : Nat := rkey (ringPage fn ring) 0x040 0
def RNG_RING_BASE_HI (fn ring : Nat) : Nat := rkey (ringPage fn ring) 0x044 0
def RNG_RING_CTRL (fn ring : Nat) : Nat := rkey (ringPage fn ring) 0x048 0
def RNG_DOORBELL (fn ring : Nat) : Nat := rkey (ringPage fn ring) 0x04C 0
def RNG_PRODUCER_SEQ (fn ring : Nat) : Nat := rkey (ringPage fn ring) 0x050 0
def RNG_CONSUMED_SEQ (fn ring : Nat) : Nat := rkey (ringPage fn ring) 0x054 0
def RNG_COMPLETED_SEQ (fn ring : Nat) : Nat := rkey (ringPage fn ring) 0x058 0
def RNG_RESYNC_SEQ (fn ring : Nat) : Nat := rkey (ringPage fn ring) 0x05C 0
def RNG_DCACHE_INV (fn ring : Nat) : Nat := rkey (ringPage fn ring) 0x060 0
def RNG_CQ_BASE_LO (fn ring : Nat) : Nat := rkey (ringPage fn ring) 0x064 0
def RNG_CQ_BASE_HI (fn ring : Nat) : Nat := rkey (ringPage fn ring) 0x068 0
def RNG_CQ_CTRL (fn ring : Nat) : Nat := rkey (ringPage fn ring) 0x06C 0
def RNG_CQ_WRITTEN_SEQ (fn ring : Nat) : Nat := rkey (ringPage fn ring) 0x070 0
def RNG_HOST_SEEN_SEQ (fn ring : Nat) : Nat := rkey (ringPage fn ring) 0x074 0
def RNG_CQ_MOD (fn ring : Nat) : Nat := rkey (ringPage fn ring) 0x078 0
def RNG_CQ_STALL_TIME (fn ring : Nat) : Nat := rkey (ringPage fn ring) 0x07C 0
def RNG_REJECT_COUNT (fn ring : Nat) : Nat := rkey (ringPage fn ring) 0x080 0
def TRN_FN_SELECT : Nat := rkey 4 0x040 0
def TRN_FN_CTRL (i : Nat) : Nat := rkey 4 0x044 i
def TRN_FN_STATUS (i : Nat) : Nat := rkey 4 0x048 i
def TRN_FN_PASID (i : Nat) : Nat := rkey 4 0x04C i
def TRN_FN_DPT_ROOT_LO (i : Nat) : Nat := rkey 4 0x050 i
def TRN_FN_DPT_ROOT_HI (i : Nat) : Nat := rkey 4 0x054 i
def TRN_FN_MEM_QUOTA (i : Nat) : Nat := rkey 4 0x058 i
def TRN_FN_MEM_USED (i : Nat) : Nat := rkey 4 0x05C i
def TRN_FN_TLB_MIN (i : Nat) : Nat := rkey 4 0x060 i
def TRN_FN_FQ_RESERVE (i : Nat) : Nat := rkey 4 0x064 i
def TRN_FN_YDT_OPS (i : Nat) : Nat := rkey 4 0x068 i
def TRN_FN_QPS (i : Nat) : Nat := rkey 4 0x06C i
def TRN_FN_HEAT (i : Nat) : Nat := rkey 4 0x070 i
def TRN_FN_KEYS (i : Nat) : Nat := rkey 4 0x074 i
def TRN_FN_FAULT_COUNT (i : Nat) : Nat := rkey 4 0x078 i
def TRN_FN_MIGRATE_SKIP (i : Nat) : Nat := rkey 4 0x07C i
def TRN_FQ_OCCUPANCY : Nat := rkey 4 0x080 0
def TRN_FQ_FLAGS : Nat := rkey 4 0x084 0
def TRN_FQ_STALL_CYCLES : Nat := rkey 4 0x088 0
def TRN_TLB_MISS_COUNT : Nat := rkey 4 0x08C 0
def TRN_ATS_SHORT_COUNT : Nat := rkey 4 0x090 0
def TRN_REMOTE_FAULT_COUNT : Nat := rkey 4 0x094 0
def TRN_PRI_TIMEOUT : Nat := rkey 4 0x098 0
def TRN_REFUSE_COUNT : Nat := rkey 4 0x09C 0
def CLS_TILE_STATE (nn : Nat) : Nat := rkey (clsPage nn) 0x040 0
def CLS_TILE_CTRL (nn : Nat) : Nat := rkey (clsPage nn) 0x044 0
def CLS_RETIRE_LIMIT (nn : Nat) : Nat := rkey (clsPage nn) 0x048 0
def CLS_RETRY_COUNT (nn : Nat) : Nat := rkey (clsPage nn) 0x04C 0
def CLS_MOVED_COUNT (nn : Nat) : Nat := rkey (clsPage nn) 0x050 0
def CLS_UNRECOVERED_COUNT (nn : Nat) : Nat := rkey (clsPage nn) 0x054 0
def CLS_CHECK_COUNT (nn : Nat) (j : Nat) : Nat := rkey (clsPage nn) (0x058 + 4 * j) 0
def CLS_NONFINITE_COUNT (nn : Nat) : Nat := rkey (clsPage nn) 0x068 0
def CLS_SAT_COUNT (nn : Nat) : Nat := rkey (clsPage nn) 0x06C 0
def CLS_CHECK_INJECT (nn : Nat) : Nat := rkey (clsPage nn) 0x070 0
def CTX_FN_SELECT : Nat := rkey 5 0x040 0
def CTX_FN_SHARE (i : Nat) : Nat := rkey 5 0x044 i
def CTX_FN_ADMIT_MAX (i : Nat) : Nat := rkey 5 0x048 i
def CTX_FN_TILE_TIME (i : Nat) : Nat := rkey 5 0x04C i
def CTX_PACK_CTRL : Nat := rkey 5 0x050 0
def CTX_PHASE_STATUS : Nat := rkey 5 0x054 0
def CTX_ADMITTED : Nat := rkey 5 0x058 0
def CTX_PACK_COUNT : Nat := rkey 5 0x05C 0
def CTX_SEAL_COUNT : Nat := rkey 5 0x060 0
def CTX_PARITY_WAIT_TIME : Nat := rkey 5 0x064 0
def CTX_REFUSE_COUNT : Nat := rkey 5 0x068 0
def CLS_ARRAY_CYCLES (nn : Nat) : Nat := rkey (clsPage nn) 0x080 0
def CLS_COLUMN_FILL (nn : Nat) : Nat := rkey (clsPage nn) 0x084 0
def CLS_QUEUE_DEPTH (nn : Nat) : Nat := rkey (clsPage nn) 0x088 0
def CLS_MEM_WAIT (nn : Nat) : Nat := rkey (clsPage nn) 0x08C 0
def CTX_TQ_SELECT : Nat := rkey 5 0x100 0
def CTX_TQ_OWNER (i : Nat) : Nat := rkey 5 0x104 i
def CTX_TQ_STATUS (i : Nat) : Nat := rkey 5 0x108 i
def CTX_TQ_DEPTH (i : Nat) : Nat := rkey 5 0x10C i
def CTX_TQ_SENDS (i : Nat) : Nat := rkey 5 0x110 i
def CTX_TQ_REFUSED (i : Nat) : Nat := rkey 5 0x114 i
def CTX_TQ_ARMED_DESC : Nat := rkey 5 0x118 0
def MEM_CHAN_STATE (nn : Nat) : Nat := rkey (memPage nn) 0x040 0
def MEM_SPEED (nn : Nat) : Nat := rkey (memPage nn) 0x044 0
def MEM_CE_COUNT (nn : Nat) (j : Nat) : Nat := rkey (memPage nn) (0x048 + 4 * j) 0
def MEM_UE_COUNT (nn : Nat) : Nat := rkey (memPage nn) 0x058 0
def MEM_LINK_ECC_COUNT (nn : Nat) : Nat := rkey (memPage nn) 0x05C 0
def MEM_RETRAIN_COUNT (nn : Nat) : Nat := rkey (memPage nn) 0x060 0
def MEM_TEMP (nn : Nat) : Nat := rkey (memPage nn) 0x064 0
def MEM_TRAIN_TIME (nn : Nat) : Nat := rkey (memPage nn) 0x068 0
def MEM_RETRAIN (nn : Nat) : Nat := rkey (memPage nn) 0x06C 0
def MEM00_ARB_WEIGHT0 : Nat := rkey 32 0x0C0 0
def MEM00_ARB_WEIGHT1 : Nat := rkey 32 0x0C4 0
def MEM00_ARB_AGE : Nat := rkey 32 0x0C8 0
def MEM00_SCRUB_CTRL : Nat := rkey 32 0x0CC 0
def MEM00_SCRUB_POS : Nat := rkey 32 0x0D0 0
def MEM00_SCRUB_CE_COUNT : Nat := rkey 32 0x0D4 0
def MEM00_POISON_COUNT : Nat := rkey 32 0x0D8 0
def MEM00_CLASS_SEL : Nat := rkey 32 0x0DC 0
def MEM00_CLASS_BYTES : Nat := rkey 32 0x0E0 0
def MEM00_CHECK_MISS : Nat := rkey 32 0x0E4 0
def YDT_DEVICE_ID : Nat := rkey 8 0x040 0
def YDT_UDP_PORT : Nat := rkey 8 0x044 0
def YDT_TIMER : Nat := rkey 8 0x048 0
def YDT_FN_SELECT : Nat := rkey 8 0x04C 0
def YDT_FN_PKEY (i : Nat) : Nat := rkey 8 0x050 i
def YDT_OPS_IN_FLIGHT : Nat := rkey 8 0x054 0
def YDT_TRACKERS : Nat := rkey 8 0x058 0
def YDT_SEND_RECORDS : Nat := rkey 8 0x05C 0
def YDT_RETRANS_COUNT : Nat := rkey 8 0x060 0
def YDT_TIMEOUT_COUNT : Nat := rkey 8 0x064 0
def YDT_DUP_COUNT : Nat := rkey 8 0x068 0
def YDT_STALE_COUNT : Nat := rkey 8 0x06C 0
def YDT_EXPIRED_COUNT : Nat := rkey 8 0x070 0
def YDT_PARTITION_DROP_COUNT : Nat := rkey 8 0x074 0
def YDT_NAK_SENT_COUNT : Nat := rkey 8 0x078 0
def YDT_CE_COUNT : Nat := rkey 8 0x07C 0
def YDT_RATE_SELECT : Nat := rkey 8 0x080 0
def YDT_RATE (i : Nat) : Nat := rkey 8 0x084 i
def YDT_CC_CTRL : Nat := rkey 8 0x088 0
def YDT_CC_CUT_GAP : Nat := rkey 8 0x08C 0
def YDT_TRACKER_EXPIRE_COUNT : Nat := rkey 8 0x090 0
def YDT_RQ_SELECT : Nat := rkey 8 0x094 0
def YDT_RQ_OWNER (i : Nat) : Nat := rkey 8 0x098 i
def QPM_QP_SELECT : Nat := rkey 9 0x040 0
def QPM_QP_OWNER (i : Nat) : Nat := rkey 9 0x044 i
def QPM_QP_STATUS (i : Nat) : Nat := rkey 9 0x048 i
def QPM_QP_SQ_PSN (i : Nat) : Nat := rkey 9 0x04C i
def QPM_QP_RQ_PSN (i : Nat) : Nat := rkey 9 0x050 i
def QPM_QP_RATE (i : Nat) : Nat := rkey 9 0x054 i
def QPM_CNP_SENT_COUNT : Nat := rkey 9 0x058 0
def QPM_CNP_RCVD_COUNT : Nat := rkey 9 0x05C 0
def QPM_RETRANS_COUNT : Nat := rkey 9 0x060 0
def QPM_SEQ_ERR_COUNT : Nat := rkey 9 0x064 0
def QPM_ERROR_QP_COUNT : Nat := rkey 9 0x068 0
def QPM_ICRC_ERR_COUNT : Nat := rkey 9 0x06C 0
def QPM_CNP_GAP : Nat := rkey 9 0x070 0
def NET_PORT_SELECT : Nat := rkey 6 0x040 0
def NET_PORT_STATUS (i : Nat) : Nat := rkey 6 0x044 i
def NET_PORT_TX_INVERT (i : Nat) : Nat := rkey 6 0x048 i
def NET_PORT_SHARE0 (i : Nat) : Nat := rkey 6 0x04C i
def NET_PORT_SHARE1 (i : Nat) : Nat := rkey 6 0x050 i
def NET_PORT_PFC (i : Nat) : Nat := rkey 6 0x054 i
def NET_PORT_PLAN_TIME_LO (i : Nat) : Nat := rkey 6 0x058 i
def NET_PORT_PLAN_TIME_HI (i : Nat) : Nat := rkey 6 0x05C i
def NET_PORT_PLAN_STATUS (i : Nat) : Nat := rkey 6 0x060 i
def NET_PORT_RX_FRAMES (i : Nat) : Nat := rkey 6 0x064 i
def NET_PORT_TX_FRAMES (i : Nat) : Nat := rkey 6 0x068 i
def NET_PORT_RUNT (i : Nat) : Nat := rkey 6 0x06C i
def NET_PORT_FCS_ERR (i : Nat) : Nat := rkey 6 0x070 i
def NET_PORT_FILTERED (i : Nat) : Nat := rkey 6 0x074 i
def NET_PORT_TAG_DROP (i : Nat) : Nat := rkey 6 0x078 i
def NET_PORT_OVERFLOW (i : Nat) : Nat := rkey 6 0x07C i
def NET_PORT_PFC_TX (i : Nat) : Nat := rkey 6 0x080 i
def NET_PORT_PFC_RX (i : Nat) : Nat := rkey 6 0x084 i
def NET_PORT_FEC_CORR (i : Nat) : Nat := rkey 6 0x088 i
def NET_PORT_FEC_UNCORR (i : Nat) : Nat := rkey 6 0x08C i
def NET_FN_SELECT : Nat := rkey 6 0x090 0
def NET_FN_VLAN (i : Nat) : Nat := rkey 6 0x094 i
def NET_CLASS_PCP : Nat := rkey 6 0x098 0
def NET_CLASS_DSCP0 : Nat := rkey 6 0x09C 0
def NET_CLASS_DSCP1 : Nat := rkey 6 0x0A0 0
def NET_MAC_BASE_LO : Nat := rkey 6 0x0A4 0
def NET_MAC_BASE_HI : Nat := rkey 6 0x0A8 0
def NET_TIME_CTRL : Nat := rkey 6 0x0AC 0
def NET_TIME_OFFSET : Nat := rkey 6 0x0B0 0
def NET_TIME_RATE : Nat := rkey 6 0x0B4 0
def NET_TIME_SOURCE : Nat := rkey 6 0x0B8 0
def CRW_LINK_SELECT : Nat := rkey 7 0x040 0
def CRW_LINK_STATUS (i : Nat) : Nat := rkey 7 0x044 i
def CRW_LINK_PEER (i : Nat) : Nat := rkey 7 0x048 i
def CRW_LINK_DELAY (i : Nat) : Nat := rkey 7 0x04C i
def CRW_LINK_RETRAIN (i : Nat) : Nat := rkey 7 0x050 i
def CRW_FC_THRESH : Nat := rkey 7 0x054 0
def CRW_CE_THRESH : Nat := rkey 7 0x058 0
def CRW_LANE_SER_LIMIT : Nat := rkey 7 0x05C 0
def CRW_EPOCH : Nat := rkey 7 0x060 0
def CRW_EPOCH_AGE : Nat := rkey 7 0x064 0
def CRW_VL_OCCUPANCY (i : Nat) : Nat := rkey 7 0x068 i
def CRW_RX_PACKETS (i : Nat) : Nat := rkey 7 0x06C i
def CRW_CUT_THROUGH : Nat := rkey 7 0x070 0
def CRW_HDR_ERR : Nat := rkey 7 0x074 0
def CRW_LCRC_ERR : Nat := rkey 7 0x078 0
def CRW_STOMPED : Nat := rkey 7 0x07C 0
def CRW_PARTITION_DROP : Nat := rkey 7 0x080 0
def CRW_EPOCH_DROP : Nat := rkey 7 0x084 0
def CRW_ROUTE_DROP : Nat := rkey 7 0x088 0
def CRW_HEAD_DROP : Nat := rkey 7 0x08C 0
def CRW_VL_OVERFLOW : Nat := rkey 7 0x090 0
def CRW_FEC_CORR : Nat := rkey 7 0x094 0
def CRW_FEC_UNCORR : Nat := rkey 7 0x098 0
def CRW_WIDTH_CHANGES : Nat := rkey 7 0x09C 0
def HEA_GRP_SELECT : Nat := rkey 10 0x040 0
def HEA_GRP_STATUS (i : Nat) : Nat := rkey 10 0x044 i
def HEA_GRP_MEMBERS (i : Nat) : Nat := rkey 10 0x048 i
def HEA_GRP_SEQ (i : Nat) : Nat := rkey 10 0x04C i
def HEA_GRP_LIST_CRC (i : Nat) : Nat := rkey 10 0x050 i
def HEA_SLABS_FREE : Nat := rkey 10 0x054 0
def HEA_ACTIVE : Nat := rkey 10 0x058 0
def HEA_HEATS_DONE : Nat := rkey 10 0x05C 0
def HEA_MISMATCH_COUNT : Nat := rkey 10 0x060 0
def HEA_ABORT_COUNT : Nat := rkey 10 0x064 0
def HEA_CRC_ERR_COUNT : Nat := rkey 10 0x068 0
def HEA_DROPPED_COUNT : Nat := rkey 10 0x06C 0
def HEA_CHECK_COUNT : Nat := rkey 10 0x070 0
def HEA_UNRECOVERED_COUNT : Nat := rkey 10 0x074 0
def HEA_NONFINITE_COUNT : Nat := rkey 10 0x078 0
def HEA_SAT_COUNT : Nat := rkey 10 0x07C 0
def HEA_CREDIT_WAIT_TIME : Nat := rkey 10 0x080 0
def HEA_STALE_CHUNK_COUNT : Nat := rkey 10 0x084 0
def CTX_PAR_CTRL : Nat := rkey 5 0x200 0
def CTX_PAR_BASE_LO : Nat := rkey 5 0x204 0
def CTX_PAR_BASE_HI : Nat := rkey 5 0x208 0
def CTX_PAR_LINES : Nat := rkey 5 0x20C 0
def CTX_PAR_LOST : Nat := rkey 5 0x210 0
def CTX_PAR_DECLARE : Nat := rkey 5 0x214 0
def CTX_PAR_LOSS_MS : Nat := rkey 5 0x218 0
def CTX_PAR_REBUILD_RATE : Nat := rkey 5 0x21C 0
def CTX_PAR_STATE : Nat := rkey 5 0x220 0
def CTX_PAR_UPDATES : Nat := rkey 5 0x224 0
def CTX_PAR_SKIP_COUNT : Nat := rkey 5 0x228 0
def CTX_PAR_RECON_COUNT : Nat := rkey 5 0x22C 0
def CTX_PAR_RECON_PENDING : Nat := rkey 5 0x230 0
def CTX_PAR_LOCK_NAK : Nat := rkey 5 0x234 0
def CTX_PAR_REPAIR_COUNT : Nat := rkey 5 0x238 0
def CTX_PAR_RESCAN_POS : Nat := rkey 5 0x23C 0
def PWR_CAP : Nat := rkey 11 0x040 0
def PWR_CAP_EFFECTIVE : Nat := rkey 11 0x044 0
def PWR_POLICY : Nat := rkey 11 0x048 0
def PWR_INPUT_POWER : Nat := rkey 11 0x04C 0
def PWR_MODEL_STATUS : Nat := rkey 11 0x050 0
def PWR_CLUSTER_SELECT : Nat := rkey 11 0x054 0
def PWR_CLUSTER_CLOCK (i : Nat) : Nat := rkey 11 0x058 i
def PWR_CLUSTER_FORCE (i : Nat) : Nat := rkey 11 0x05C i
def PWR_DROOP_COUNT (i : Nat) : Nat := rkey 11 0x060 i
def PWR_DROOP_CTRL : Nat := rkey 11 0x064 0
def PWR_VCORE : Nat := rkey 11 0x068 0
def PWR_PHASE_SELECT : Nat := rkey 11 0x06C 0
def PWR_PHASE_POINT (i : Nat) : Nat := rkey 11 0x070 i
def PWR_TILE_SELECT : Nat := rkey 11 0x074 0
def PWR_TILE_FMAX (i : Nat) : Nat := rkey 11 0x078 i
def PWR_FMAX_CTRL : Nat := rkey 11 0x07C 0
def PWR_THERM_LIMITS : Nat := rkey 11 0x080 0
def PWR_THERM_STATUS : Nat := rkey 11 0x084 0
def PWR_THROTTLE_TIME : Nat := rkey 11 0x088 0
def PWR_SENSOR_SELECT : Nat := rkey 11 0x08C 0
def PWR_SENSOR_VALUE (i : Nat) : Nat := rkey 11 0x090 i
def PWR_PACE_SELECT : Nat := rkey 11 0x094 0
def PWR_PACE_STATUS (i : Nat) : Nat := rkey 11 0x098 i
def FWC_IF_VERSION : Nat := rkey 13 0x040 0
def FWC_FW_VERSION : Nat := rkey 13 0x044 0
def FWC_CORE_SELECT : Nat := rkey 13 0x048 0
def FWC_CORE_STATUS (i : Nat) : Nat := rkey 13 0x04C i
def FWC_CORE_RESTART : Nat := rkey 13 0x050 0
def FWC_RESTART_COUNT (i : Nat) : Nat := rkey 13 0x054 i
def FWC_BANK : Nat := rkey 13 0x058 0
def FWC_BANK_CTRL : Nat := rkey 13 0x05C 0
def FWC_HANDOVER : Nat := rkey 13 0x060 0
def FWC_HANDOVER_STATUS : Nat := rkey 13 0x064 0
def FWC_DUMP_STATUS : Nat := rkey 13 0x068 0
def FWC_DUMP_CLEAR : Nat := rkey 13 0x06C 0
def FWC_WDOG_PERIOD : Nat := rkey 13 0x070 0
def FWC_ESCALATE : Nat := rkey 13 0x074 0
def FWC_MPU_FAULT_COUNT : Nat := rkey 13 0x078 0
def FWC_LAST_CRASH_LO : Nat := rkey 13 0x07C 0
def FWC_LAST_CRASH_HI : Nat := rkey 13 0x080 0
def SEC_BOOT_STATUS : Nat := rkey 12 0x040 0
def SEC_SVN : Nat := rkey 12 0x044 0
def SEC_SLOT_SELECT : Nat := rkey 12 0x048 0
def SEC_SLOT_STATUS (i : Nat) : Nat := rkey 12 0x04C i
def SEC_SLOT_KEY_ID (i : Nat) : Nat := rkey 12 0x050 i
def SEC_SLOT_PN (i : Nat) : Nat := rkey 12 0x054 i
def SEC_PART_SELECT : Nat := rkey 12 0x058 0
def SEC_PART_KEY (i : Nat) : Nat := rkey 12 0x05C i
def SEC_PART_SLOTS (i : Nat) : Nat := rkey 12 0x060 i
def SEC_ERASE : Nat := rkey 12 0x064 0
def SEC_ALARM_STATUS : Nat := rkey 12 0x068 0
def SEC_TAG_FAIL_COUNT : Nat := rkey 12 0x06C 0
def SEC_NO_KEY_COUNT : Nat := rkey 12 0x070 0
def SEC_MODE_DROP_COUNT : Nat := rkey 12 0x074 0
def SEC_SEALED : Nat := rkey 12 0x078 0
def SEC_OPENED : Nat := rkey 12 0x07C 0
def SEC_REQ_STATUS : Nat := rkey 12 0x080 0
def CNT_SELECT : Nat := rkey 15 0x040 0
def CNT_CTR_EVENT (i : Nat) : Nat := rkey 15 0x044 i
def CNT_CTR_FILTER (i : Nat) : Nat := rkey 15 0x048 i
def CNT_CTR_JOB_MATCH (i : Nat) : Nat := rkey 15 0x04C i
def CNT_CTR_JOB_MASK (i : Nat) : Nat := rkey 15 0x050 i
def CNT_CTR_LAYER (i : Nat) : Nat := rkey 15 0x054 i
def CNT_CTR_OPERATOR (i : Nat) : Nat := rkey 15 0x058 i
def CNT_CTR_VALUE_LO (i : Nat) : Nat := rkey 15 0x05C i
def CNT_CTR_VALUE_HI (i : Nat) : Nat := rkey 15 0x060 i
def CNT_CTR_COMPARE_LO (i : Nat) : Nat := rkey 15 0x064 i
def CNT_CTR_COMPARE_HI (i : Nat) : Nat := rkey 15 0x068 i
def CNT_CLEAR : Nat := rkey 15 0x06C 0
def CNT_SRAM_CE_SELECT : Nat := rkey 15 0x070 0
def CNT_SRAM_CE_COUNT (i : Nat) : Nat := rkey 15 0x074 i
def DBG_FREEZE : Nat := rkey 14 0x040 0
def DBG_FREEZE_ENABLE : Nat := rkey 14 0x044 0
def DBG_FREEZE_CAUSE : Nat := rkey 14 0x048 0
def DBG_FREEZE_TIME_LO : Nat := rkey 14 0x04C 0
def DBG_FREEZE_TIME_HI : Nat := rkey 14 0x050 0
def DBG_TRACE_CTRL : Nat := rkey 14 0x054 0
def DBG_TRACE_SOURCE : Nat := rkey 14 0x058 0
def DBG_TRACE_FN : Nat := rkey 14 0x05C 0
def DBG_TRACE_JOB_MATCH : Nat := rkey 14 0x060 0
def DBG_TRACE_JOB_MASK : Nat := rkey 14 0x064 0
def DBG_TRACE_TRIGGER : Nat := rkey 14 0x068 0
def DBG_TRACE_COUNT : Nat := rkey 14 0x06C 0
def DBG_TRACE_LOST : Nat := rkey 14 0x070 0
def DBG_SPILL_BASE_LO : Nat := rkey 14 0x074 0
def DBG_SPILL_BASE_HI : Nat := rkey 14 0x078 0
def DBG_SPILL_SIZE : Nat := rkey 14 0x07C 0
def DBG_BELV_CTRL : Nat := rkey 14 0x080 0
def DBG_BELV_STATUS : Nat := rkey 14 0x084 0
def DBG_BELV_REFUSED : Nat := rkey 14 0x088 0
end R

end Sys2Proof.Machine
end

