-- ==== Sys2Proof/Machine/State.lean ====
section
/-! DEFINITION. Sys2Proof/Machine/State.lean: everything the spec gives the device, as plain data, and the device right after reset. -/

namespace Sys2Proof.Machine
open Sys2Proof

/-! ## Module hardware (chapter 2) -/

/-- The five power states of R51. -/
inductive PowerState where
  | dark | aux | ramp | on | fault
deriving DecidableEq, Repr

/-- What the always-on fault log records (R57, R63). -/
inductive FaultCause where
  | trip (sensor : Nat) | railLost (rail : Nat) | overVoltage | reversed
deriving DecidableEq, Repr

structure FaultEntry where
  cause : FaultCause
  time : Nat
deriving DecidableEq, Repr

/-- The causes of a reset, as the bit numbers of GLB_RESET_CAUSE (R120). -/
inductive ResetCause where
  | powerOn | pin | software | mctp | watchdog
deriving DecidableEq, Repr

/-- A management event that awaits collection over MCTP (R38): an entry of the always-on fault log, a crash dump in a flash slot. -/
inductive MgmtEvent where
  | faultLog | dump (slot : Nat)
deriving DecidableEq, Repr

/-- An asynchronous event as it is held for a function (R93, R95). -/
structure EvRec where
  event : Nat
  code : Nat
  cls : Nat
  block : Nat
  inst : Nat
  fn : Nat
  detail : Nat
  addr : Nat
  time : Nat
deriving DecidableEq, Repr

/-- A message to a core of Boathouse, from the management controller, from a block or from another core (R26, R62, R497, R506): an MCTP message; the MCTP
commands to freeze, to reset and to read a sensor or a dump; a part of a firmware update; the host's answer to a page request or to a translation
request; an event of a block of its role for a function (R496); a flash record that core 4 asks core 0 for: tile states of a cluster (R234), the coefficients of
R478. -/
inductive CoreMsg where
  | mctp (kind : MctpKind) (payload : List Byte)
  | freeze
  | warmReset
  | sensor (i : Nat) (current : Bool) (value : Int)
  | dumpRead (what : DumpSel)
  | update (off : Nat) (data : List Byte) (last : Bool)
  | pri (fn va : Nat) (code : PriCode)
  | ats (fn va : Nat) (whole : Option Nat) (permitted write : Bool)
  | event (dest : Nat) (e : EvRec)
  | recordTiles (nn : Nat)
  | saveCoefs
deriving DecidableEq, Repr

/-- A warm reset in progress (R125): waiting for the write-back of step 1, or the die held in reset. -/
inductive WarmPhase where
  | writeBack | held
deriving DecidableEq, Repr

/-- The module hardware. `alerts`: the management events that hold SMB_ALERT# low (R38); `ledOn`: the cages whose CAGE_LED is on (R42); `lastOn`: the device time
of the last ON second (R57); `mctpHeld`: what the management controller holds for a core that restarts, with the core (R62). -/
structure ModuleHw where
  power : PowerState
  auxIn : Bool
  inputOk : Bool
  lockout : Bool
  lowInput : Bool
  pwrdis : Bool
  modResetLow : Bool
  perstLow : Bool
  bulk : Bool
  railsGood : Nat
  pwrgd : Bool
  smbAddr : Nat
  faultLog : List FaultEntry
  thermalLatch : List Nat
  inputFaultSeen : Bool
  dieHeld : Bool
  warm : Option (ResetCause × WarmPhase)
  freezeIgnored : Bool
  crewTimeLost : Bool
  cageSuspended : List Nat
  alerts : List MgmtEvent
  ledOn : List Nat
  lastOn : Nat
  mctpHeld : List (Nat × CoreMsg)
deriving DecidableEq, Repr

/-! ## Host interface (chapter 3) -/

/-- A line of the coherent cache (R81): the function whose address space it belongs to, whether the device has written into it since it was fetched or last
written back, and its 64 bytes. -/
structure CcLine where
  fn : Nat
  dirty : Bool
  data : List Byte
deriving DecidableEq, Repr

/-- The actions that a write-back of R83 must complete first. -/
inductive CcAction where
  | disable | wbInv | idle | warm
deriving DecidableEq, Repr

/-- A probe on the link (R100): its issue time, and the descriptor whose completion entry waits for it. -/
structure Probe where
  issued : Nat
  op : Option Nat
deriving DecidableEq, Repr

/-- An MSI-X table entry (R90). -/
structure Msix where
  addr : Nat
  data : Nat
  masked : Bool
  pending : Bool
deriving DecidableEq, Repr

structure Hif where
  training : Bool
  refOther : Bool
  prevWidth : Nat
  prevSpeed : Nat
  lines : Tab CcLine
  ccActions : List CcAction
  probes : List Probe
  visible : Nat
  writesSinceProbe : Bool
  lastNonSnoop : Nat
  msix : Tab Msix
deriving DecidableEq, Repr

/-- The undelivered event records of a function, oldest first, and whether one was lost (R95). -/
structure FnEvents where
  held : List EvRec
  lost : Bool
deriving DecidableEq, Repr

/-! ## Idle states (chapter 4) -/

structure Idle where
  goal : Nat
  abandon : Bool
  clustersUp : List Nat
  selfRefresh : Bool
deriving DecidableEq, Repr

/-! ## Cox: chains and admitted descriptors (chapter 5) -/

/-- The state of an admitted descriptor: admitted, running, ended. -/
inductive OpSt where
  | admitted | running | done
deriving DecidableEq, Repr

/-- An admitted descriptor. `early`: it ended at admission and was not executed (R146); `issued`: no completion entry will be written for it; `est`: Cox's estimate of its
tile-cycles and DRAM bytes (R270); `fresh`: its phase was present on no cluster when Cox reported it (R484); `store`: the descriptor before it in its chain is an
attend with TO_REDUCTION (R425). -/
structure Op where
  fn : Nat
  src : Source
  seq : Word
  queue : Nat
  desc : Desc
  chain : Nat
  pos : Nat
  st : OpSt
  status : Nat
  result : Nat
  issued : Bool
  progress : Nat
  early : Bool
  waitFault : Bool
  nonSnoop : Bool
  cached : Bool
  probe : Nat
  est : Nat × Nat
  fresh : Bool
  store : Bool
  aux : List Nat
deriving DecidableEq, Repr

/-- A chain (R152 to R154). `start`: when its first descriptor was admitted (R490); `last`: the sequence of its last admitted descriptor, and that descriptor. -/
structure Chain where
  fn : Nat
  src : Source
  coalesce : Bool
  count : Nat
  lastSeen : Bool
  cut : Option Nat
  cutStatus : Nat
  fail : Option Nat
  alone : Bool
  start : Nat
  last : Option (Word × Desc)
deriving DecidableEq, Repr

/-- A descriptor that waits for admission, with what its completion entry reports. -/
structure Waiting where
  seq : Word
  queue : Nat
  desc : Desc
  endsBatch : Bool
deriving DecidableEq, Repr

/-- An admission queue (R29): its prefetch cache or submitted slots, the fetch in flight, the open chain, whether it is discarding to the
next LAST (R153), and, for the completion queue of the same page, its entries not yet announced (R158) and since when an entry waits for space (R157). -/
structure Queue where
  cache : List Waiting
  fetch : Option Nat
  chain : Option Nat
  discarding : Bool
  submits : Nat
  unannounced : Nat
  stalled : Option Nat
deriving DecidableEq, Repr

/-! ## Translation (chapter 6) -/

/-- Where a TLB entry points (R173). -/
inductive TlbTarget where
  | device (frame : Nat) | hostAt (addr : Nat) | hostUntranslated
deriving DecidableEq, Repr

structure TlbEntry where
  fn : Nat
  gib : Bool
  page : Nat
  target : TlbTarget
  read : Bool
  write : Bool
  shared : Bool
deriving DecidableEq, Repr

/-- Who waits on a fault: a descriptor, by an engine or by Cox itself (R244), a ring's fetch, an event or completion write of a page, the
write of a SEND into a posted receive buffer (R349), any other remote packet. -/
inductive Waiter where
  | op (id : Nat) | cox (id : Nat) | fetch (fn ring : Nat) | entry (src : Source) | event (fn : Nat) | recv (id : Nat) | remote
deriving DecidableEq, Repr

inductive FaultSt where
  | queued | requested | migrating
deriving DecidableEq, Repr

structure FaultQ where
  fn : Nat
  page : Nat
  gib : Bool
  va : Nat
  write : Bool
  prefer : Bool
  st : FaultSt
  waiters : List Waiter
  since : Nat
deriving DecidableEq, Repr

/-- An access that stalls its engine (R180). `cluster`: the cluster whose DMA engine made it, which stalls with the cluster's queue behind it. -/
structure Stall where
  fn : Nat
  va : Nat
  write : Bool
  prefer : Bool
  gib : Bool
  waiter : Waiter
  cluster : Option Nat
  since : Nat
deriving DecidableEq, Repr

/-- TRN. `pt`: the 64-bit entries of the device page tables that are not 0, by their device physical address in the region that Boathouse reserves (R170 to
R172); `roots`: each function's L0 table; `nextTable`: the tables in use; `tlb`: the TLB, most recently used first (R174). -/
structure Trn where
  pt : Tab Nat
  roots : Tab Nat
  nextTable : Nat
  tlb : List TlbEntry
  misses : List (Nat × Nat)
  shortLogged : List (Nat × Nat)
  faults : List FaultQ
  stalls : List Stall
  unmapping : List Nat
  numVfs : Nat
deriving DecidableEq, Repr

/-! ## Tiles (chapter 7) -/

/-- A tile: the uptimes of its counted mismatches since it booted or was restored (R232), an armed injection (R239: whether it corrupts the exponent
path, and whether also the retry), its queued work units as (descriptor, number of the unit in it) (R267), whether the unit at the head runs (R275), its 64 × 32
accumulators as its tile SRAM holds them (R216), by 32 × row + column, and the function whose work they hold. -/
structure Tile where
  mismatches : List Nat
  inject : Option (Bool × Bool)
  units : List (Nat × Nat)
  busy : Bool
  acc : Tab Nat
  accFn : Nat
deriving DecidableEq, Repr

/-- The tiles, by cluster the functions whose data its cluster store holds (R126), the restores held until the device is active (R237), the tile-cycles used as
(time, function, cycles) over the last 100 µs (R268), by descriptor the numbers of its units that were dispatched (R267), and the cycles not yet making a unit of
a counter, by register key. -/
structure Tiles where
  tile : Tab Tile
  store : Tab (List Nat)
  heldRestores : List Nat
  use : List (Nat × Nat × Nat)
  dispatched : Tab (List Nat)
  rem : Tab Nat
deriving DecidableEq, Repr

/-! ## Trigger queues (chapter 9) -/

/-- A patch entry of R300: descriptor, body word, width, argument. -/
structure Patch where
  index : Nat
  word : Nat
  wide : Bool
  arg : Nat
deriving DecidableEq, Repr

/-- A pending trigger: the owning function, SEQ of its run, its arguments, and the chain, patches and completion queue of the arm that took it; `once`: that arm had REPEAT = 0, so
that the trigger holds the chain's store space (R304). -/
structure Trigger where
  fn : Nat
  seq : Nat
  args : List Nat
  chain : List Desc
  patches : List Patch
  cq : Nat
  once : Bool
deriving DecidableEq, Repr

/-- A trigger queue: the function and the completion queue of the runs that are not ended, the armed chain, its patches and its completion queue, the
pending triggers, the arm in progress, and the disarms in progress with what each discarded. -/
structure Tq where
  fn : Nat
  cq : Nat
  armed : List Desc
  patches : List Patch
  armCq : Nat
  pending : List Trigger
  armOp : Option Nat
  disarms : List (Nat × Nat)
deriving DecidableEq, Repr

/-! ## Memory system (chapter 10) -/

/-- What the memory controllers hold: the poisoned bursts (R317), per channel the 16 most recently corrected bursts with the times of their
corrections (R319), the scrubber's position (R321), the channels due for a full retrain and the one being retrained (R324), the temperatures
at the last training by package, the arbiter's deficits by 8 × channel + class (R328), the bytes not yet making a 4 KiB unit of MEM00_CLASS_BYTES, and the
check bursts that each channel's check cache holds, each with whether it is dirty (R314). -/
structure MemSys where
  poison : Tab Unit
  ceTrack : Tab (List (Nat × List Nat))
  scrubPos : Nat
  retrainDue : List Nat
  retraining : Option Nat
  trainedAt : Tab Nat
  deficit : Tab Nat
  classRem : Nat
  checks : Tab (List (Nat × Bool))
deriving DecidableEq, Repr

/-! ## Transport (chapter 11) -/

/-- What an initiator slot works for: a transfer descriptor, a part of a descriptor's parity update and its function (R458, R201), a chunk of a heat (R433), a CREDIT or ABORT
packet, the reconstruction of a granule for a descriptor's repair (R460), the read of a member's image for a staged reconstruction (R459). -/
inductive XOwner where
  | op (i : Nat) | part (i fn : Nat) | chunk (group rank chunk : Nat) | note | repair (i binding granule : Nat) (lost : Bool) | gather (stage member : Nat)
deriving DecidableEq, Repr

/-- The last transmission of a packet: its time, its path and its attempt. -/
structure Sent where
  time : Nat
  path : Nat
  attempt : Nat
deriving DecidableEq, Repr

/-- An initiator slot (R358). `kind`: the packet TYPE it sends. `data`: the bytes of a message that no local address holds. `holding`: the status it will
report when the packet lifetime has passed (R366). `got`: what the device itself has read, by packet. -/
structure Xfer where
  owner : XOwner
  inc : Nat
  kind : Nat
  fn : Nat
  dev : Nat
  dfn : Nat
  window : Nat
  gen : Nat
  off : Nat
  va : Nat
  len : Nat
  tclass : Nat
  ordered : Bool
  started : Bool
  data : Option (List Byte)
  heat : Nat
  hash : Nat
  sent : Tab Sent
  acked : List Nat
  nakked : List Nat
  timeout : Nat
  attempts : Nat
  answered : Bool
  stale : Bool
  hi : Nat
  lastRetrans : Option Nat
  got : Tab (List Byte)
  holding : Option Nat
deriving DecidableEq, Repr

/-- A received YDT packet that waits in a port's or a link's buffer: where it is held, as (port, class, bytes) or (link, VL, bytes). -/
structure Rx where
  pkt : Pkt
  port : Option (Nat × Nat × Nat)
  link : Option (Nat × Nat × Nat)
deriving DecidableEq, Repr

/-- A receive tracker (R361): its key, the packets placed, the count expected, those placed since the last ACK and how many of them were marked, the
gathered data of a SEND or HEAT message, a chunk's hash and CRC (R434), the last packet and the time it arrived. -/
structure Tracker where
  dev : Nat
  fn : Nat
  opid : Nat
  typ : Nat
  placed : List Nat
  expected : Option Nat
  fresh : List Nat
  marked : Nat
  data : Tab (List Byte)
  hash : Nat
  crc : Nat
  pkt : Pkt
  last : Nat
deriving DecidableEq, Repr

/-- A window (R342). -/
structure Window where
  base : Nat
  len : Nat
  key : Nat
  gen : Nat
  write : Bool
  read : Bool
deriving DecidableEq, Repr

/-- What a read responder returns: memory from an address, a committed image (R457), a staged reconstruction (R459). -/
inductive RespSrc where
  | mem (va : Nat) | image | staged (stage : Nat)
deriving DecidableEq, Repr

/-- A read responder (R364): the request, what it returns, the next packet index and how many are left. -/
structure Responder where
  req : Pkt
  src : RespSrc
  idx : Nat
  left : Nat
deriving DecidableEq, Repr

/-- A rate entry (R368); rates in Gb/s and alpha as fractions. -/
structure Rate where
  rate : Nat × Nat
  target : Nat × Nat
  alpha : Nat × Nat
  marked : Nat
  acked : Nat
  clean : Nat
  lastCut : Option Nat
  lastSend : Nat
  sentInPeriod : Bool
  floorSince : Option Nat
deriving DecidableEq, Repr

/-- A path to a destination (R360): out of use, consecutive timeouts, the OPID of a PROBE sent over it. -/
structure PathSt where
  down : Bool
  timeouts : Nat
  probe : Option Nat
deriving DecidableEq, Repr

/-- YDT. `records`: (device, function, OPID, time) of delivered SENDs (R363). `posts`: the RECV_POSTs of each receive queue. -/
structure Ydt where
  rx : List Rx
  xfers : Tab Xfer
  inc : Tab Nat
  trackers : List Tracker
  records : List (Nat × Nat × Nat × Nat)
  windows : Tab Window
  posts : Tab (List Nat)
  responders : Tab Responder
  nextResponder : Nat
  rates : Tab Rate
  paths : Tab PathSt
  unreachable : Tab Nat
  recordsFullAt : Option Nat
deriving DecidableEq, Repr

/-- A request outstanding on a queue pair: its descriptor, its kind (TYPE as in YDT), its first PSN, its packets, its bytes, the trigger queue a SEND names,
and the highest attempt. -/
structure QpReq where
  op : Nat
  kind : Nat
  psn : Nat
  packets : Nat
  va : Nat
  len : Nat
  remote : Nat
  rkey : Nat
  target : Option Nat
  hi : Nat
deriving DecidableEq, Repr

/-- A message that a queue pair is receiving: where its bytes go, the room left, how many have come, the RECV_POST of a SEND, the payload of a SEND to a
trigger queue. -/
structure QpIn where
  va : Nat
  left : Nat
  got : Nat
  recv : Option Nat
  data : List Byte
deriving DecidableEq, Repr

/-- A queue pair (R369 to R373): its context image, the first PSN not acknowledged, its outstanding requests, its posted receives, the message being received,
its retry counts, whether it waits after an RNR NAK. -/
structure Qp where
  destIp : Nat
  port : Nat
  tclass : Nat
  remote : Nat
  mtu : Nat
  retryCnt : Nat
  rnrRetry : Nat
  mac : Nat
  pkey : Nat
  maxReads : Nat
  maxDest : Nat
  una : Nat
  sq : List QpReq
  recvs : List Nat
  inMsg : Option QpIn
  nakSent : Bool
  attempts : Nat
  rnrTries : Nat
  rnrWait : Bool
  timeout : Nat
  answered : Bool
  lastCnp : Option Nat
  rate : Option Rate
deriving DecidableEq, Repr

/-- A received RoCEv2 packet that waits, and where it is held, as in `Rx`. -/
structure RxQ where
  pkt : Roce
  port : Option (Nat × Nat × Nat)
  link : Option (Nat × Nat × Nat)
deriving DecidableEq, Repr

structure Qpm where
  rx : List RxQ
  qps : Tab Qp
deriving DecidableEq, Repr

/-! ## Ethernet ports and Ozmen links (chapter 12) -/

/-- A frame in a port's transmit queue: the port, the class, and who sent it: 0 YDT, 1 QPM, 2 the responder. -/
structure TxFrame where
  port : Nat
  cls : Nat
  who : Nat
  frame : Frame
deriving DecidableEq, Repr

/-- A slot plan version (R394): its slot length in ns, its base time, its entries as (gate mask, slots). -/
structure Plan where
  gran : Nat
  base : Nat
  entries : List (Nat × Nat)
deriving DecidableEq, Repr

/-- NET: transmit queues; classes paused by the partner and the classes this port has paused, by 8 × port + class; who was served last, by the same key;
slot plans by 2 × port + version; switch times; the function address table's words, by 8 × function; the time unit: whether it has locked since reset,
intervals in band, the round and hop count of the block in use, the last pulse, the billionths of a nanosecond not yet counted; the tables to be
saved (R413) as (table, version or port). -/
structure Net where
  tx : List TxFrame
  pausedBy : List Nat
  pausing : List Nat
  lastServed : Tab Nat
  plans : Tab Plan
  switchAt : Tab Nat
  fnAddr : Tab Nat
  firstLock : Bool
  inBand : Nat
  block : Option (Nat × Nat)
  pulseAt : Option Nat
  rem : Nat
  saveDue : List (Nat × Nat)
deriving DecidableEq, Repr

/-- A packet in a link's transmit buffer: the link, the VL, its input (a link, or 4 for the local transmit path), and when it reached its head. -/
structure TxOz where
  link : Nat
  vl : Nat
  input : Nat
  pkt : OzPkt
deriving DecidableEq, Repr

/-- CRW: transmit buffers; the VLs whose XOFF this member has sent and received, by 8 × link + VL; the last VL and input served; route words by
8 × (4,096 × version + device) + word; the links that trained at 50 Gb/s a lane (R567); partition entries by 256 × version + entry; the tables loaded since reset as 2 × table + version; when a
packet of the other epoch was last met. -/
structure Crw where
  tx : List TxOz
  xoffSent : List Nat
  xoffReceived : List Nat
  lastVl : Tab Nat
  lastInput : Tab Nat
  halfRate : List Nat
  route : Tab Nat
  part : Tab Nat
  loaded : List Nat
  otherEpochAt : Option Nat
deriving DecidableEq, Repr

/-! ## Groups and heats (chapter 13) -/

/-- A heat that runs on this member. `chunks`: the current vector by chunk, in FP32; `done`: how many of its chunk's schedule actions each chunk has
behind it; `begun`, `firstIn`: when its contribution was in, and when the last chunk its first step needed had arrived (R490); `waits`: since when a
chunk's send waits for a credit. -/
structure Heat where
  op : Nat
  lse : Bool
  dtype : Nat
  ring : Bool
  rowLen : Nat
  elements : Nat
  output : Nat
  chunks : Tab (List Nat)
  done : Tab Nat
  truncated : Bool
  progressAt : Nat
  begun : Nat
  firstIn : Nat
  waits : Tab Nat
deriving DecidableEq, Repr

/-- A delivered chunk that waits in the group's pool, with the credit it came against. -/
structure Arrived where
  rank : Nat
  chunk : Nat
  gather : Bool
  seqLo : Nat
  standing : Bool
  hash : Nat
  data : List Nat
  time : Nat
deriving DecidableEq, Repr

/-- A group (R420): its list, the next or running heat's sequence, the heats that wait, the credits it holds by rank, the standing and further credits it
has granted by rank, its pool, the partials written by TO_REDUCTION by the HEAT they wait for, and a status an ABORT gave its next heat. -/
structure Group where
  owner : Nat
  list : List (Nat × Nat)
  rank : Nat
  reserve : Nat
  standing : Nat
  tclass : Nat
  timeoutMs : Nat
  seq : Nat
  crc : Nat
  running : Option Heat
  waiting : List Nat
  credits : Tab Nat
  granted : Tab Nat
  further : Tab Nat
  pool : List Arrived
  partials : Tab (List Nat)
  abortNext : Option Nat
deriving DecidableEq, Repr

/-! ## Context engine and parity (chapters 8, 14) -/

/-- A stretch header (R243, R455) as it was read at `va`; `pa`: its device physical address, which identifies the stretch (R266). -/
structure Stretch where
  va : Nat
  pa : Nat
  landmarks : Bool
  parity : Bool
  layers : Nat
  kvHeads : Nat
  groupHeads : Nat
  dim : Nat
  keyFmt : Nat
  valueFmt : Nat
  cap : Nat
  width : Nat
  firstPos : Nat
  blockBase : Nat
  landmarkBase : Nat
  layerTable : Nat
  scale : Nat
  blockGranule : Nat
  landmarkGranule : Nat
  srcMember : Nat
  recovery : Bool
  srcBlockGranule : Nat
  srcLandmarkGranule : Nat
  srcCap : Nat
  srcFirst : Nat
deriving DecidableEq, Repr

/-- A parity binding (R456): the owning function, the stretch, and of a piece the lost granules rebuilt (R463). -/
structure Binding where
  fn : Nat
  st : Stretch
  rebuilt : List Nat
deriving DecidableEq, Repr

/-- A part of a parity update that waits for an initiator slot (R458): its descriptor and its function, the granule, the offset in it, the bytes. -/
structure Part where
  op : Nat
  fn : Nat
  granule : Nat
  off : Nat
  data : List Byte
deriving DecidableEq, Repr

/-- A line that a reconstruction (R459) or a RESCAN (R462) holds. `key`: the member and granule asked for, or none for a RESCAN; `waits`: the members
whose images have not come; `acc`: the exclusive-or so far; `staged`: when the result was staged; `returned`: the packets returned. -/
structure Stage where
  key : Option (Nat × Nat)
  line : Nat
  waits : List Nat
  acc : List Byte
  bad : Bool
  staged : Option Nat
  returned : List Nat
deriving DecidableEq, Repr

/-- A RESCAN that runs: its descriptor, its lines, how many are done, the members marked LOST when it started. -/
structure Rescan where
  op : Nat
  first : Nat
  count : Nat
  done : Nat
  lost : Nat
deriving DecidableEq, Repr

structure Par where
  bindings : Tab Binding
  unsent : List Part
  stages : Tab Stage
  rescan : Option Rescan
  withdrawn : Bool
deriving DecidableEq, Repr

/-! ## Power and thermal control (chapter 15) -/

/-- PWR and Stroke. `coef`: energy coefficients by part (0 to 15 the arrays of a cluster, 16 to 31 its SRAM and vector units, 32 DRAM devices, 33 PHY,
34 SerDes, 35 transport, 36 firmware and miscellaneous, 40 + r the efficiency of converter r); `clock`, `target`, `want`: the clusters' clocks in MHz, 600
where not listed; `idle`: clusters without a unit for 1 ms; `need`: f_need by phase, 1,050 where not listed; `k` in 1/256 and the 10 µs periods not yet
making its step of 50 µs; the model's figures by cluster and its fixed share, in mW as fractions; the last 100 (measured, modelled) input powers; the
sums of each rail's modelled power since the last trim, and their number; the thermal cap in W; the service fractions of R488 in eighths, by package;
the cap set over MCTP; what Cox last reported, as (phase, function, tile-cycles, DRAM bytes) (R270); tiles due for retraining and the one under test; stretched clusters; p_g by group. -/
structure Pwr where
  coef : Tab (Nat × Nat)
  clock : Tab Nat
  target : Tab Nat
  want : Tab Nat
  idle : List Nat
  need : Tab Nat
  k : Nat
  periods : Nat
  cluster : Tab (Nat × Nat)
  fixed : Nat × Nat
  window : List (Nat × (Nat × Nat))
  railSum : Tab (Nat × Nat)
  railCount : Nat
  thermal : Option Nat
  dramShare : Tab Nat
  mctpCap : Option Nat
  told : Option (Nat × Nat × Nat × Nat)
  due : List Nat
  testing : Option Nat
  stretched : List Nat
  pace : Tab (Nat × Nat)
deriving DecidableEq, Repr

/-! ## Flash, fuses and Boathouse (chapters 2, 6, 12, 15, 16, 17, 19) -/

/-- A firmware bank (R58, R60): the image bytes written, whether the image is complete, whether it was written without checks (UNCHECKED), what its checks
found, and whether it is valid. -/
structure Bank where
  data : Tab Byte
  complete : Bool
  unchecked : Bool
  info : Option Image
  valid : Bool
deriving DecidableEq, Repr

/-- A crash dump (R509): in flash, or staged in the reserved region (R508); `headerOnly`: staged as its header alone. -/
structure Dump where
  seq : Nat
  time : Nat
  core : Nat
  cause : Nat
  fw : Nat
  ifv : Nat
  headerOnly : Bool
deriving DecidableEq, Repr

/-- The vital product data of R59, but for the fused maximum frequencies, which are `Config.fusedFmax`: the part number, the serial number, the manufacturing
date, the base of its MAC addresses. -/
structure Vpd where
  part : String
  serial : Nat
  date : Nat
  macBase : Nat
deriving DecidableEq, Repr

/-- The flash behind Boathouse, and the fuses of R516. Banks 0 A and 1 B; the active bank, in trial, its trial boot taken (R503, R504); the bank that passed its
checks and awaits activation; the crash dump slots and the last SEQ. The configuration region: tile states by cluster (R234); the saved tables (R413),
routes by 8 × device + word, partition entries, slot plans by port, the function address table's words; saved registers (R568); the hold (R565); current
tile maximum frequencies (R475); coefficients and phase points (R478, R483); the measurement digest that the stored attestation certificate
covers (R521); the results of memory training by channel; the vital product data; the certificate chain of the identity key (R520). Fuses: SVN, ROOT0_REVOKED. -/
structure Flash where
  banks : Tab Bank
  active : Nat
  trial : Bool
  trialBooted : Bool
  pending : Option Nat
  dumps : Tab Dump
  dumpSeq : Nat
  tileState : Tab Word
  route : Tab Nat
  part : Tab Nat
  plan : Tab Plan
  fnAddr : Tab Nat
  config : Tab Word
  hold : Bool
  fmax : Tab Nat
  coef : Tab (Nat × Nat)
  need : Tab Nat
  cert : Option Nat
  training : Tab Nat
  vpd : Vpd
  idCert : Nat
  svn : Nat
  root0Revoked : Bool
deriving DecidableEq, Repr

/-- A region of a core's memory protection unit (R497): the component it belongs to, its base and its length. -/
structure MpuRegion where
  component : Nat
  base : Nat
  len : Nat
deriving DecidableEq, Repr

/-- Boathouse: crash times by core (R507), staged crashes (R508), the dump slot being written, the cores a handover has moved (R512), halted cores (R524), the
image the cores run, the time of the last crash, the causes of the crashes by core, and the cores that a rolled back handover still restarts onto the old
image; by core the 16 regions of its memory protection unit (R497) and its queue from the fabric, oldest first (R23); the mailboxes by 6 × sender + receiver
(R497). -/
structure Fwc where
  crashes : Tab (List Nat)
  staged : List Dump
  writing : Option Nat
  handover : Option (List Nat)
  halted : List Nat
  running : Option Image
  lastCrash : Nat
  cause : Tab Nat
  back : List Nat
  mpu : Tab (List MpuRegion)
  inq : Tab (List CoreMsg)
  mail : Tab (List CoreMsg)
deriving DecidableEq, Repr

/-- Bring-up (chapter 19): the stages that have ended and what they found: stage 1; stage 2 and whether every channel runs at 9,600 MT/s; stage 3 and
whether every lane passed; stage 4 and whether every active tile passed at its maximum frequency; stage 6. The boot follows a warm reset; the recovery
image runs. The roster (R571), with when each record was heard, and the reason of R572 while the member refuses. -/
structure Boot where
  internal : Bool
  mem : Option Bool
  serdes : Option Bool
  tiles : Option Bool
  calib : Bool
  warm : Bool
  recovery : Bool
  roster : List (Roster × Nat)
  breach : Nat
deriving DecidableEq, Repr

/-! ## The Orangery and attestation (chapter 17) -/

/-- An SPDM session (R522): its number, whether it came over DOE, and the nonce it holds (R524). -/
structure Session where
  id : Nat
  doe : Bool
  nonce : Option Nat
deriving DecidableEq, Repr

/-- The key slots' keys and packet numbers (R525, R531); the open sessions and the last session number; requests that wait for core 0 (R523, R526); the
alarm conditions that persist (R536); whether debug has been opened since the last reset (R524); measurements by index (R519); the seed of
the identity key, 0 before boot has formed it (R520); the digest that the
current attestation key stands for, and its certificate's (R521); when a packet failure last raised an event (R539). -/
structure Sec where
  key : Tab Nat
  pn : Tab Nat
  sessions : List Session
  lastSession : Nat
  waitKey : List (Option Nat × KeyReq)
  waitSpdm : List (Bool × SpdmReq)
  alarms : List Nat
  wasOpen : Bool
  measure : Tab Nat
  identity : Nat
  attest : Nat
  eventAt : Option Nat
deriving DecidableEq, Repr

/-! ## Debug and telemetry (chapter 18) -/

/-- A trace record (R553). -/
structure TraceRec where
  time : Nat
  block : Nat
  inst : Nat
  event : Nat
  fn : Nat
  desc : Bool
  job : Nat
  layer : Nat
  oper : Nat
  arg0 : Nat
  arg1 : Nat
deriving DecidableEq, Repr

/-- A Belvedere snapshot (R556, R558): the header, and its sections as (type, entries), each entry the fields of R558 in their order. -/
structure BelvSlot where
  seq : Nat
  start : Nat
  finish : Nat
  cause : Nat
  freezeCause : Nat
  sections : List (Nat × List (List Nat))
deriving DecidableEq, Repr

/-- CNT and DBG: the counters' values; the trace records, oldest first; how many further records a freeze lets in (R550); how far the spill region is filled, and
whether a fault has stopped spilling (R555); the Belvedere slots, and the capture that runs as (slot, cause, start); the hang conditions that have fired, each
with what it fired on (R557); the time of the last freeze; whether this member holds CREW_FREEZE# low (R550). -/
structure Dbg where
  counters : Tab Nat
  trace : List TraceRec
  postLeft : Option Nat
  spillPos : Nat
  spillStopped : Bool
  slots : Tab BelvSlot
  capturing : Option (Nat × Nat × Nat)
  hangFired : Tab (List Nat)
  freezeTime : Nat
  crewDriven : Bool
deriving DecidableEq, Repr


/-! ## Everything the device emits -/

/-- The request of an access to host memory (R78): CXL.io reads and writes with No Snoop clear or set; on CXL.cache RdShared, RdCurr, RdOwn, ItoMWr, and the write of
a dirty line back. -/
inductive HostReq where
  | read | readNoSnoop | rdShared | rdCurr | rdOwn | write | writeNoSnoop | itoMWr | writeBack
deriving DecidableEq, Repr

/-- How a request names its target (R168, R176): the translated address of a TLB entry, or untranslated with the function's PASID while that is enabled. -/
inductive HostRoute where
  | translated (addr : Nat) | untranslated (pasid : Option Nat)
deriving DecidableEq, Repr

/-- What the device puts on its links and pins, and what it answers. -/
inductive Out where
  | readData (words : List Word)
  | hostWrite (fn addr : Nat) (data : List Byte) (req : HostReq) (route : HostRoute)
  | hostRead (fn addr len : Nat) (req : HostReq) (route : HostRoute)
  | hostPage (fn addr len : Nat) (bytes : List (Nat × Byte)) (req : HostReq) (route : HostRoute)
  | hostProbe (page : Nat)
  | snoopReply (line : Nat) (hit dirty : Bool)
  | msix (fn vector addr data : Nat)
  | atsRequest (fn va : Nat)
  | atsInvDone (fn va : Nat)
  | priRequest (fn va pasid : Nat) (write : Bool)
  | pin (name : String) (level : Bool)
  | mctp (data : List Nat)
  | toCore (core : Nat) (kind : MctpKind) (data : List Byte)
  | memServe (chan cls : Nat)
  | frame (port : Nat) (head : List Byte) (f : Frame)
  | cagePin (cage : Nat) (name : String) (level : Bool)
  | ozmen (link : Nat) (head : List Byte) (p : OzPkt)
  | control (link : Nat) (vl : Nat) (xoff : Bool)
  | idleBlock (link : Nat)
  | timeBlock (link : Nat) (b : TimeBlock)
  | train (port : Bool) (i : Nat)
  | spdm (answer : SpdmAnswer) (data : List Nat)
  | sensor (i : Nat) (current : Bool) (value : Option Int)
  | toController (kind : MctpKind) (data : List Byte)
  | dump (d : Option Dump)
  | faultLog (l : List FaultEntry)
  | roster (link : Nat) (r : Roster)
  | debugModule (core command arg : Nat) (granted : Bool)
deriving DecidableEq, Repr

/-! ## Outcomes -/

/-- Reasons a step can stop with a fault. Raised by no command of this block: every fault of the spec is an effect on State. Safe. -/
inductive Fault where
  /-- Raised by nothing; the type is not empty so that claims can name it. Safe. -/
  | none
deriving DecidableEq, Repr

/-- Reasons a step can be refused. -/
inductive Refusal where
  /-- Raised by Machine/Dispatch.lean for a command that has no meaning yet. Safe. -/
  | notModelled (mnemonic : String)
deriving DecidableEq, Repr

/-- The device. `pending` is the queue of commands (first in, first out), `out` what the device has emitted, newest first, `freeCtr` the
number of free values used so far, `uptime` the nanoseconds since power-on; these four are the model's own. `devTime` is device time (R17),
`regs` every register that does not hold its Reset value, `mem` the bytes of DRAM that are not zero. -/
structure State where
  pending : List Instr
  out : List Out
  freeCtr : Nat
  uptime : Nat
  devTime : Nat
  regs : Tab Word
  mem : List Host.Cell
  dramInit : Bool
  hw : ModuleHw
  hif : Hif
  events : Tab FnEvents
  idle : Idle
  ops : Tab Op
  chains : Tab Chain
  nextOp : Nat
  nextChain : Nat
  queues : Tab Queue
  lastTag : Nat
  trn : Trn
  tiles : Tiles
  tqs : Tab Tq
  msys : MemSys
  ydt : Ydt
  qpm : Qpm
  net : Net
  crw : Crw
  groups : Tab Group
  par : Par
  pwr : Pwr
  flash : Flash
  fwc : Fwc
  boot : Boot
  sec : Sec
  dbg : Dbg
deriving DecidableEq, Repr

/-- A step of a meaning. -/
abbrev Res := Host.Outcome State Fault Refusal

def Idle.reset : Idle := { goal := 0, abandon := false, clustersUp := List.range 16, selfRefresh := false }

def Hif.reset : Hif :=
  { training := false, refOther := false, prevWidth := 0, prevSpeed := 0, lines := [], ccActions := [], probes := [], visible := 0,
    writesSinceProbe := false, lastNonSnoop := 0, msix := [] }

def Trn.reset : Trn := { pt := [], roots := [], nextTable := 0, tlb := [], misses := [], shortLogged := [], faults := [], stalls := [], unmapping := [], numVfs := 0 }

def ModuleHw.reset : ModuleHw :=
  { power := .on, auxIn := true, inputOk := true, lockout := false, lowInput := false, pwrdis := false, modResetLow := false,
    perstLow := true, bulk := true, railsGood := 10, pwrgd := true, smbAddr := 0x64, faultLog := [], thermalLatch := [],
    inputFaultSeen := false, dieHeld := false, warm := none, freezeIgnored := false, crewTimeLost := false, cageSuspended := [],
    alerts := [], ledOn := [], lastOn := 0, mctpHeld := [] }

def Tiles.reset : Tiles := { tile := [], store := [], heldRestores := [], use := [], dispatched := [], rem := [] }

def MemSys.reset : MemSys :=
  { poison := [], ceTrack := [], scrubPos := 0, retrainDue := [], retraining := none, trainedAt := [], deficit := [], classRem := 0, checks := [] }

def Ydt.reset : Ydt :=
  { rx := [], xfers := [], inc := [], trackers := [], records := [], windows := [], posts := [], responders := [], nextResponder := 0,
    rates := [], paths := [], unreachable := [], recordsFullAt := none }

def Qpm.reset : Qpm := { rx := [], qps := [] }

def Net.reset : Net :=
  { tx := [], pausedBy := [], pausing := [], lastServed := [], plans := [], switchAt := [], fnAddr := [], firstLock := false, inBand := 0,
    block := none, pulseAt := none, rem := 0, saveDue := [] }

def Crw.reset : Crw :=
  { tx := [], xoffSent := [], xoffReceived := [], lastVl := [], lastInput := [], halfRate := [], route := [], part := [], loaded := [], otherEpochAt := none }
def Par.reset : Par := { bindings := [], unsent := [], stages := [], rescan := none, withdrawn := false }


def Pwr.reset : Pwr :=
  { coef := [], clock := [], target := [], want := [], idle := [], need := [], k := 256, periods := 0, cluster := [], fixed := (0, 1), window := [],
    railSum := [], railCount := 0, thermal := none, dramShare := [], mctpCap := none, told := none, due := [], testing := none, stretched := [], pace := [] }

/-- The image a module leaves the factory with. -/
def factoryImage : Image :=
  { root := 1, keyOk := true, sigOk := true, partOk := true, digestsOk := true, svn := 0, fw := Config.factoryFw, ifv := Config.factoryIf, accepts := [],
    revoke := false, digest := Config.crypto 0 0 }

/-- The flash of a module as it comes from the factory: bank A holds an image, bank B none, and nothing is saved. -/
def Flash.reset : Flash :=
  { banks := [(0, { data := [], complete := true, unchecked := false, info := some factoryImage, valid := true }),
      (1, { data := [], complete := false, unchecked := false, info := none, valid := false })],
    active := 0, trial := false, trialBooted := false, pending := none, dumps := [], dumpSeq := 0, tileState := [], route := [], part := [], plan := [],
    fnAddr := [], config := [], hold := false, fmax := [], coef := [], need := [], cert := none, training := [],
    vpd := ⟨"BX880-M20", Config.serial, Config.mfgDate, Config.macBase⟩, idCert := Config.idCertChain, svn := 0, root0Revoked := false }

def Fwc.reset : Fwc :=
  { crashes := [], staged := [], writing := none, handover := none, halted := [], running := none, lastCrash := 0, cause := [], back := [],
    mpu := [], inq := [], mail := [] }

def Boot.reset : Boot :=
  { internal := false, mem := none, serdes := none, tiles := none, calib := false, warm := false, recovery := false, roster := [], breach := 0 }

def Sec.reset : Sec :=
  { key := [], pn := [], sessions := [], lastSession := 0, waitKey := [], waitSpdm := [], alarms := [], wasOpen := false, measure := [], identity := 0, attest := 0,
    eventAt := none }

def Dbg.reset : Dbg :=
  { counters := [], trace := [], postLeft := none, spillPos := 0, spillStopped := false, slots := [], capturing := none, hangFired := [], freezeTime := 0,
    crewDriven := false }

/-- The device right after power-on reset: entry to ON, PWRGD released, die reset released (R51), every register at its Reset value (R9),
boot not yet done. -/
def State.reset : State :=
  { pending := [], out := [], freeCtr := 0, uptime := 0, devTime := 0, regs := [], mem := [], dramInit := false,
    hw := ModuleHw.reset, hif := Hif.reset, events := [], idle := Idle.reset, ops := [], chains := [], nextOp := 0, nextChain := 0,
    queues := [], lastTag := 0, trn := Trn.reset
    , tiles := Tiles.reset
    , tqs := []
    , msys := MemSys.reset
    , ydt := Ydt.reset
    , qpm := Qpm.reset
    , net := Net.reset
    , crw := Crw.reset
    , groups := []
    , par := Par.reset
    , pwr := Pwr.reset
    , flash := Flash.reset
    , fwc := Fwc.reset
    , boot := Boot.reset
    , sec := Sec.reset
    , dbg := Dbg.reset
  }

end Sys2Proof.Machine
end

