-- ==== Sys2Proof/Machine/Ops.lean ====
section
/-! DEFINITION. Sys2Proof/Machine/Ops.lean: the operations every block shares: registers and their access codes (R5 to R11, R105 to R116),
interrupts (R107, R109), error capture (R112), asynchronous events (R94, R95), MSI-X (R90), free choices, and the queue-free idle step. -/

namespace Sys2Proof.Machine
open Sys2Proof

/-! ## Register pages -/

/-- The kind of a page number, if there is a page of that number. -/
def pageKind (page : Nat) : Option PageKind :=
  if page < 16 then some page
  else if page < 32 then some 16
  else if page < 52 then some 17
  else if page < 64 then none
  else if page < 64 + 1024 then some (if (page - 64) % 16 = 0 then 18 else 19)
  else none

/-- R107: the function that owns a page: the manager for pages in BAR0, else the function whose window holds it. -/
def ownerFn (page : Nat) : Nat := if page < 64 then 0 else (page - 64) / 16

/-- The common CTRL bits that are not reserved, with the blocks' own CTRL fields (R107, R415, R417). -/
def ctrlMask (kind : PageKind) : Nat :=
  if kind = 6 then 0x1F00FF03 else if kind = 7 then 0x1F00000F else 0x1F000000

/-- The bits of INT_STATUS, INT_ENABLE and INT_SET that are not reserved (R5), by kind of page: ERROR (R110), and the causes of the block's own chapter. GLB, HIF
and RNG name none, and their bits are taken as reserved (DEDUCED, log entry 93). -/
def intMask (kind : PageKind) : Word :=
  word (2 ^ 31 + match kind with
    | 4 => 0xF | 5 => 0x7 | 6 => 0xF | 7 => 0x1F | 8 => 0x1F | 9 => 0x3 | 10 | 11 | 12 | 13 => 0x1F | 14 => 0x7 | 15 => 0x1
    | 16 | 17 => 0x1F | 18 => 0x1 | 19 => 0x3F | _ => 0)

/-- The same of a page; of no page, none. MEM00 has SCRUB_PASS beside (R336). -/
def pageIntMask (page : Nat) : Word := match pageKind page with | some k => intMask k ||| (if page = 32 then 0x20 else 0) | none => 0

/-- The register row at an offset of a page (R105 and the block's table; R334: the device-wide registers exist in MEM00 only). -/
def regRow (page off : Nat) : Option RegRow :=
  match pageKind page with
  | none => none
  | some k =>
    if off < 0x40 then
      (commonRows.find? (fun r => r.off ≤ off && off < r.off + 4 * r.words)).map
        (fun r => if r.off = 8 then { r with mask := ctrlMask k } else r)
    else if k = 17 && 0xC0 ≤ off && page ≠ 32 then none
    else (blockRows k).find? (fun r => r.off ≤ off && off < r.off + 4 * r.words)

def keyOff (k : Nat) : Nat := k % 4096
def keyPage (k : Nat) : Nat := k / 4096 % 4096
def keyIdx (k : Nat) : Nat := k / 4096 / 4096

/-- R105, R106, R415: the Reset value of a register. NET CTRL.MODE resets to 1. -/
def regDefault (k : Nat) : Word :=
  let page := keyPage k
  let off := keyOff k
  match pageKind page with
  | none => 0
  | some kind =>
    if off = 0 then word (blockType kind * 65536 + 1)
    else if off = 8 && kind = 6 then 1
    else match regRow page off with
      | some r => word r.reset
      | none => 0

/-- Whether a register keeps its value through an event of R10 (the event as its bit in the Kept column). -/
def keptOn (ev : Nat) (k : Nat) : Bool :=
  match regRow (keyPage k) (keyOff k) with
  | some r => bitOf (r.kept / ev) 0
  | none => false

/-- The stored value of a register. -/
def State.rd (s : State) (k : Nat) : Word := s.regs.getD regDefault k

/-- Store a register. -/
def State.wr (s : State) (k : Nat) (v : Word) : State := { s with regs := s.regs.setD regDefault k v }

/-- R115: the value of a LO and HI pair that is in force: LO as it stood at the last write of HI. It is kept under the key of LO plus `pairKey`. -/
def pairKey : Nat := 2 ^ 44

def State.pair (s : State) (lo hi : Nat) : Nat := (s.rd (lo + pairKey)).toNat + 2 ^ 32 * (s.rd hi).toNat

/-- R115: a write of HI puts the pair in force. -/
def State.setPair (s : State) (lo hi : Nat) (v : Word) : State := (s.wr hi v).wr (lo + pairKey) (s.rd lo)

/-- Field of a stored register. -/
def State.getF (s : State) (k lo w : Nat) : Nat := fld (s.rd k) lo w

def State.getB (s : State) (k i : Nat) : Bool := bit (s.rd k) i

/-- Replace a field of a stored register. -/
def State.setF (s : State) (k lo w x : Nat) : State := s.wr k (setFld (s.rd k) lo w x)

def State.setB (s : State) (k i : Nat) (b : Bool) : State := s.setF k i 1 (b2n b)

/-- R8: a counter that saturates at all ones. -/
def State.bump (s : State) (k : Nat) (n : Nat := 1) : State := s.wr k (word (min 0xFFFFFFFF ((s.rd k).toNat + n)))

/-- Add to a counter that counts in units, keeping the part below a unit. -/
def State.addUnits (s : State) (k n unit : Nat) : State :=
  let t := ((s.tiles.rem.look k).getD 0) + n
  { s with tiles := { s.tiles with rem := s.tiles.rem.put k (t % unit) } }.bump k (t / unit)

/-- R9, R10: an event returns every register that does not list it to its Reset value. -/
def State.regEvent (s : State) (ev : Nat) : State := { s with regs := s.regs.keep (fun k _ => keptOn ev k) }

def evW : Nat := 1
def evH : Nat := 2
def evI : Nat := 4
def evF : Nat := 8
def evZ1 : Nat := 16
def evZ2 : Nat := 32

def pGLB : Nat := 0
def pHIF : Nat := 1
def pRNG : Nat := 3
def pTRN : Nat := 4
def pCTX : Nat := 5
def pNET : Nat := 6
def pCRW : Nat := 7
def pYDT : Nat := 8
def pQPM : Nat := 9
def pHEA : Nat := 10
def pPWR : Nat := 11
def pSEC : Nat := 12
def pFWC : Nat := 13
def pDBG : Nat := 14
def pCNT : Nat := 15

def ctrlK (page : Nat) : Nat := rkey page 0x008 0
def statusK (page : Nat) : Nat := rkey page 0x00C 0
def intK (page : Nat) : Nat := rkey page 0x010 0
def enK (page : Nat) : Nat := rkey page 0x014 0
def errCountK (page : Nat) : Nat := rkey page 0x01C 0
def errLogK (page j : Nat) : Nat := rkey page (0x020 + 4 * j) 0

/-! ## Output and free choices -/

def State.emit (s : State) (o : Out) : State := { s with out := o :: s.out }

/-- A free value: nothing constrains it. -/
def State.free (s : State) : Nat × State := (Config.freeNat s.freeCtr, { s with freeCtr := s.freeCtr + 1 })

/-- One of the alternatives of a list, by the free choice of `Config.choice`: always a member. -/
def State.pick {α : Type} (s : State) (l : List α) : Option α × State :=
  match l with
  | [] => (none, s)
  | a :: _ => (some (l.getD (Config.choice s.freeCtr % l.length) a), { s with freeCtr := s.freeCtr + 1 })

/-! ## Link state -/

/-- HIF_LINK_STATUS.DL_UP (R74). -/
def State.linkUp (s : State) : Bool := s.getB R.HIF_LINK_STATUS 8

/-- HIF_LINK_STATUS.CACHE_ACTIVE (R66, R74). -/
def State.cacheActive (s : State) : Bool := s.getB R.HIF_LINK_STATUS 10

/-! ## MSI-X and interrupts -/

/-- The MSI-X table entry of a vector; after reset the PCIe base specification leaves every vector masked (R90). -/
def State.msixEntry (s : State) (fn vec : Nat) : Msix :=
  (s.hif.msix.look (32 * fn + vec)).getD { addr := 0, data := 0, masked := true, pending := false }

def State.putMsix (s : State) (fn vec : Nat) (m : Msix) : State :=
  { s with hif := { s.hif with msix := s.hif.msix.put (32 * fn + vec) m } }

/-- R90: trigger a vector. While masked it becomes pending; otherwise one message goes out. With the link down nothing is sent (R103). -/
def State.msix (s : State) (fn vec : Nat) : State :=
  let m := s.msixEntry fn vec
  if m.masked then s.putMsix fn vec { m with pending := true }
  else if s.linkUp then s.emit (.msix fn vec m.addr m.data)
  else s

/-- R109: the interrupt request of a page. -/
def State.intReq (s : State) (page : Nat) : Bool := (s.rd (intK page) &&& s.rd (enK page)) != 0

/-- R107: one message on the page's vector of the owning function. -/
def State.pageMsg (s : State) (page : Nat) : State := s.msix (ownerFn page) (s.getF (ctrlK page) 24 5)

/-- Set interrupt causes of a page, but no reserved bit (R5); a request that rises from 0 to 1 sends one message (R109). -/
def State.raiseInts (s : State) (page : Nat) (m : Word) : State :=
  let was := s.intReq page
  let s := s.wr (intK page) (s.rd (intK page) ||| (m &&& pageIntMask page))
  if !was && s.intReq page then s.pageMsg page else s

def State.raiseInt (s : State) (page b : Nat) : State := s.raiseInts page (word (2 ^ b))

/-- R109: after a write to INT_STATUS or INT_ENABLE, a request that rises or stays at 1 sends one message. -/
def State.afterIntWrite (s : State) (page : Nat) : State := if s.intReq page then s.pageMsg page else s

/-! ## Frames this device queues -/

/-- The port count of NET CTRL.MODE (R381). -/
def portCount (s : State) : Nat := let m := s.getF (ctrlK pNET) 0 2; if m = 0 then 2 else if m = 2 then 8 else 4

/-- R384: the address block of the device. -/
def State.macBase (s : State) : Nat := (s.rd R.NET_MAC_BASE_LO).toNat + 2 ^ 32 * s.getF R.NET_MAC_BASE_HI 0 16

def State.queueFrame (s : State) (t : TxFrame) : State := { s with net := { s.net with tx := s.net.tx ++ [t] } }

/-- R387, R418: a pause frame takes its turn in class 7 among the responder's. -/
def State.sendPause (s : State) (port classes quanta : Nat) : State :=
  s.queueFrame ⟨port, 7, 2, { len := 64, fcsOk := true, dst := 0x0180C2000001, src := s.macBase, tags := [], body := .pause classes quanta }⟩

/-- R130: a Z2 exit begins: pause on every enabled class of each UP port, XOFF on every VL of each UP link. -/
def State.z2Hold (s : State) : State :=
  let s := (List.range 8).foldl (fun s p =>
    let cs := fld (s.rd (R.NET_PORT_PFC p)) 0 8
    if s.getF (R.NET_PORT_STATUS p) 0 2 = 2 && cs ≠ 0 then
      let ks := ((List.range 8).filter (fun c => bitOf cs c)).map (fun c => 8 * p + c)
      { s with net := { s.net with pausing := s.net.pausing ++ ks.filter (· ∉ s.net.pausing) } }.sendPause p cs 0xFFFF
    else s) s
  (List.range 32).foldl (fun s k =>
    if s.getB (statusK pCRW) (k / 8) && k ∉ s.crw.xoffSent then
      { s with crw := { s.crw with xoffSent := s.crw.xoffSent ++ [k] } }.emit (.control (k / 8) (k % 8) true)
    else s) s

/-! ## Idle states: wake -/

def State.idleState (s : State) : Nat := s.getF R.GLB_IDLE_STATUS 0 2
def State.entering (s : State) : Bool := s.getB R.GLB_IDLE_STATUS 2
def State.exiting (s : State) : Bool := s.getB R.GLB_IDLE_STATUS 3

/-- The bit of a wake source in GLB_WAKE_CAUSE (R124). -/
def wakeBit : WakeSource → Nat
  | .doorbell => 0 | .pavilion => 1 | .network => 2 | .crew => 3 | .software => 4 | .config => 5 | .mctp => 6 | .firmware => 7 | .freeze => 8

/-- R124, R127, R133: a wake source. In Z1 or Z2 it starts an exit; during an entry or a move the device returns to active at the end of the
current stage; each records its cause. -/
def State.wake (s : State) (w : WakeSource) : State :=
  if s.entering then { s.setB R.GLB_WAKE_CAUSE (wakeBit w) true with idle := { s.idle with abandon := true } }
  else if s.exiting then
    if s.idle.goal = 0 then s
    else { s.setB R.GLB_WAKE_CAUSE (wakeBit w) true with idle := { s.idle with goal := 0 } }
  else if s.idleState = 0 then s
  else
    let z2 := s.idleState = 2
    let s := (s.setB R.GLB_WAKE_CAUSE (wakeBit w) true).setB R.GLB_IDLE_STATUS 3 true
    let s := { s with idle := { s.idle with goal := 0 } }
    if z2 then s.z2Hold else s

/-! ## Error capture, freeze, counters and trace -/

/-- The descriptor that an error, a count or a trace record concerns, by its tags (R13, R111): layer, operator, job. -/
structure Tags where
  layer : Nat
  oper : Nat
  job : Nat
deriving DecidableEq, Repr

def noTags : Tags := ⟨0, 0, 0⟩

def descTags (d : Desc) : Tags := ⟨dfld d 8 0 16, dfld d 8 16 16, dfld d 4 0 32⟩

/-- The event classes of R16, as coded in R93. -/
def clsPort : Nat := 1
def clsDevice : Nat := 2
def clsMemory : Nat := 3
def clsPower : Nat := 4
def clsSecurity : Nat := 5
def clsFirmware : Nat := 6

/-- The block type of a page (R106). -/
def pageType (page : Nat) : Nat := ((pageKind page).map blockType).getD 0

/-- R112, R110: an error of a block. It counts, it sets INT_STATUS.ERROR, and it is captured while LOG_VALID is 0. -/
def State.logOnly (s : State) (page code cls fn : Nat) (t : Tags) (addr detail : Nat) : State :=
  let s := s.bump (errCountK page)
  let s := if s.getB (statusK page) 31 then s
    else
      let s := s.wr (errLogK page 0) (word (code + 256 * cls + 65536 * fn))
      let s := s.wr (errLogK page 1) (word s.devTime)
      let s := s.wr (errLogK page 2) (word (s.devTime / 2 ^ 32))
      let s := s.wr (errLogK page 3) (word (t.layer + 65536 * t.oper))
      let s := s.wr (errLogK page 4) (word t.job)
      let s := s.wr (errLogK page 5) (word addr)
      let s := s.wr (errLogK page 6) (word (addr / 2 ^ 32))
      let s := s.wr (errLogK page 7) (word detail)
      s.setB (statusK page) 31 true
  s.raiseInt page 31

/-- DBG STATUS.FROZEN: a freeze is in force (R561). -/
def State.frozen (s : State) : Bool := s.getB (statusK pDBG) 0

/-- R556: start a Belvedere capture into the slot that does not hold the newest valid snapshot. With KEEP_FIRST a capture that would overwrite a
valid slot is refused, as is one while a capture runs; each refusal counts and logs code 0x01. The slot is invalid until its header is written. -/
def State.startCapture (s : State) (cause : Nat) : State :=
  let st := s.rd R.DBG_BELV_STATUS
  let newest := fld st 2 1
  let slot := if fld st 0 2 = 0 then 0 else 1 - newest
  if s.dbg.capturing.isSome || (s.getB R.DBG_BELV_CTRL 2 && bit st slot) then
    (s.bump R.DBG_BELV_REFUSED).logOnly pDBG 0x01 clsDevice 0 noTags 0 0
  else
    let s := { s with dbg := { s.dbg with capturing := some (slot, cause, s.devTime), slots := s.dbg.slots.del slot } }
    (s.setB R.DBG_BELV_STATUS slot false).setB (statusK pDBG) 2 true

/-- R549, R550: a freeze source acts. Its cause bit is set; the first source freezes: device time is recorded, trace stops after POST_COUNT further
records, a capture starts under SNAP_ON_FREEZE, CREW_FREEZE# is driven under DRIVE_CREW, and Z1 or Z2 is left. -/
def State.freeze (s : State) (src : Nat) : State :=
  let en := s.rd R.DBG_FREEZE_ENABLE
  if !(src = 0 || src = 7 || bit en src) then s
  else
    let s := s.setB R.DBG_FREEZE_CAUSE src true
    if s.frozen then s
    else
      let s := ((s.setB (statusK pDBG) 0 true).wr R.DBG_FREEZE_TIME_LO (word s.devTime)).raiseInt pDBG 0
      let s := { s with dbg := { s.dbg with postLeft := some (s.getF R.DBG_TRACE_CTRL 16 16), freezeTime := s.devTime } }
      let s := if bit en 17 then s.startCapture 2 else s
      let s := if src ≠ 1 && bit en 16 then { s.emit (.pin "CREW_FREEZE#" false) with dbg := { s.dbg with crewDriven := true } } else s
      s.wake .freeze

/-- R554, R545: a trace record passes the function and job filters. -/
def State.traceFilter (s : State) (fn : Nat) (t : Option Tags) : Bool :=
  let f := s.rd R.DBG_TRACE_FN
  match t with
  | some t => (bit f 8 || fld f 0 6 = fn) &&
      ((word t.job &&& s.rd R.DBG_TRACE_JOB_MASK) == (s.rd R.DBG_TRACE_JOB_MATCH &&& s.rd R.DBG_TRACE_JOB_MASK))
  | none => bit f 9

/-- R549, R554, R555: a traced event of a block type. It enters the buffer of 8,192 records, replaces the oldest, or is dropped and counted; a record
that matches DBG_TRACE_TRIGGER is a freeze source. -/
def State.trace (s : State) (block inst event fn : Nat) (t : Option Tags) (arg0 arg1 : Nat) : State :=
  if !(s.getB R.DBG_TRACE_CTRL 0 && s.getB R.DBG_TRACE_SOURCE block && s.traceFilter fn t && s.dbg.postLeft ≠ some 0) then s
  else
    let full := 8192 ≤ s.dbg.trace.length
    if full && s.getB R.DBG_TRACE_CTRL 1 then (s.bump R.DBG_TRACE_LOST).raiseInt pDBG 2
    else
      let tg := t.getD noTags
      let r : TraceRec := ⟨s.devTime, block, inst, event, fn, t.isSome, tg.job, tg.layer, tg.oper, arg0 % 2 ^ 32, arg1 % 2 ^ 64⟩
      let keep := if full then s.dbg.trace.drop 1 else s.dbg.trace
      let s := { s with dbg := { s.dbg with trace := keep ++ [r], postLeft := s.dbg.postLeft.map (· - 1) } }
      let s := s.wr R.DBG_TRACE_COUNT (s.rd R.DBG_TRACE_COUNT + 1)
      let g := s.rd R.DBG_TRACE_TRIGGER
      if bit g 31 && fld g 0 8 = block && fld g 8 8 = event then s.freeze 4 else s

/-- The counters that are enabled (R543). -/
def State.liveCounters (s : State) : List (Nat × Word) :=
  s.regs.filterMap (fun e => if keyPage e.1 = pCNT && keyOff e.1 = 0x44 && bit e.2 31 then some (keyIdx e.1, e.2) else none)

/-- R545: an event passes a counter's filter. -/
def State.ctrFilter (s : State) (i fn : Nat) (t : Option Tags) : Bool :=
  let f := s.rd (R.CNT_CTR_FILTER i)
  match t with
  | none => bit f 9
  | some t =>
    let l := s.rd (R.CNT_CTR_LAYER i)
    let o := s.rd (R.CNT_CTR_OPERATOR i)
    (bit f 8 || fld f 0 6 = fn) &&
    ((word t.job &&& s.rd (R.CNT_CTR_JOB_MASK i)) == (s.rd (R.CNT_CTR_JOB_MATCH i) &&& s.rd (R.CNT_CTR_JOB_MASK i))) &&
    (fld l 0 16 ≤ t.layer && t.layer ≤ fld l 16 16) && (bit o 16 || fld o 0 16 = t.oper)

/-- R543, R544, R546: n occurrences of an event of a block type. -/
def State.count (s : State) (block inst event fn : Nat) (t : Option Tags) (n : Nat) : State :=
  if s.frozen then s
  else s.liveCounters.foldl (fun s c =>
    if fld c.2 0 8 = block && fld c.2 16 8 = event && (fld c.2 8 8 = inst || fld c.2 8 8 = 0xFF) && s.ctrFilter c.1 fn t then
      let old := (s.dbg.counters.look c.1).getD 0
      let v := min (2 ^ 48 - 1) (old + n)
      let s := { s with dbg := { s.dbg with counters := s.dbg.counters.put c.1 v } }
      let cmp := s.pair (R.CNT_CTR_COMPARE_LO c.1) (R.CNT_CTR_COMPARE_HI c.1)
      if cmp ≠ 0 && old < cmp && cmp ≤ v then
        let s := s.raiseInt pCNT 0
        if bit c.2 30 then s.freeze 3 else s
      else s
    else s) s

/-- The instance number of a page for counters and traces: cluster or package, else 0. -/
def pageInst (page : Nat) : Nat := if page < 16 then 0 else if page < 32 then page - 16 else if page < 52 then page - 32 else 0

/-- R112, R549, R554: an error of a block, with its trace record and, when it is captured, the freeze source ERROR. -/
def State.logErr (s : State) (page code cls fn : Nat) (t : Tags) (addr detail : Nat) : State :=
  let captured := !s.getB (statusK page) 31
  let s := s.logOnly page code cls fn t addr detail
  if captured then
    let s := s.trace (pageType page) (pageInst page) 0x04 fn none code addr
    if s.getB R.DBG_FREEZE_ENABLE (8 + cls) then s.freeze 2 else s
  else s

/-! ## Boathouse's cores -/

/-- The Boathouse core n is RUNNING (FWC_CORE_STATUS.STATE 0) and not halted by the debug module (R524). Work that needs it waits until it is (R506, R159, R175). -/
def State.coreUp (s : State) (n : Nat) : Bool := s.getF (R.FWC_CORE_STATUS n) 0 2 = 0 && !s.fwc.halted.contains n

/-- The core that serves the host interface and translation (R496). -/
def coreTrn : Nat := 1

/-- A message to a core that is not up waits in its queue from the fabric (R26, R506). -/
def State.toInbox (s : State) (c : Nat) (m : CoreMsg) : State :=
  { s with fwc := { s.fwc with inq := s.fwc.inq.put c (((s.fwc.inq.look c).getD []) ++ [m]) } }

/-! ## Asynchronous events -/

def State.fnEvents (s : State) (fn : Nat) : FnEvents := (s.events.look fn).getD ⟨[], false⟩

/-- R95: queue an event for a function; with 32 records held it is counted as lost. -/
def State.queueEvent (s : State) (dest : Nat) (e : EvRec) : State :=
  let f := s.fnEvents dest
  if f.held.length < 32 then { s with events := s.events.put dest { f with held := f.held ++ [e] } }
  else ({ s with events := s.events.put dest { f with lost := true } }).bump (R.MBX_EVQ_LOST dest)

/-- R491, R496: the core that raises the events of a block: core 2 for YDT, QPM, NET and CRW, core 3 for HEA, core 4 for PWR; the others need none. -/
def eventCore (block : Nat) : Option Nat :=
  if block = pageType pYDT || block = pageType pQPM || block = pageType pNET || block = pageType pCRW then some 2
  else if block = pageType pHEA then some 3
  else if block = pageType pPWR then some 4
  else none

/-- R95, R496: an event is raised. While the core that raises the events of its block is not up it waits in that core's queue. -/
def State.raiseTo (s : State) (dest : Nat) (e : EvRec) : State :=
  let s := s.trace e.block e.inst 0x05 e.fn none (e.cls + 65536 * e.event) e.detail
  match eventCore e.block with
  | some c => if s.coreUp c then s.queueEvent dest e else s.toInbox c (.event dest e)
  | none => s.queueEvent dest e

/-- An event of R94 from a block, to function `dest`. -/
def State.event (s : State) (dest page event code cls inst fn detail addr : Nat) : State :=
  s.raiseTo dest ⟨event, code, cls, pageType page, inst, fn, detail, addr, s.devTime⟩

/-- A rule that logs an ERR_LOG code and raises an event: LOGGED (0x0001) unless the event has a row of its own (R94). -/
def State.logEvent (s : State) (dest page code cls inst fn : Nat) (t : Tags) (addr detail : Nat) (event : Nat := 1) : State :=
  (s.logErr page code cls fn t addr detail).event dest page event code cls inst fn detail addr

/-- A rule that raises an event for an INT_STATUS cause without a code: INT_CAUSE (0x0002), CODE the bit number (R94). -/
def State.intEvent (s : State) (page b cls inst detail addr : Nat) : State :=
  (s.raiseInt page b).event 0 page 2 b cls inst 0 detail addr

/-! ## Access codes -/

/-- R6: the effect of a 4-byte write on a register that has no behaviour of its own, by its access code. -/
def State.writePlain (s : State) (page off idx : Nat) (v : Word) : State :=
  match regRow page off with
  | none => s
  | some r =>
    let k := rkey page off idx
    let m := word r.mask
    match r.acc with
    | .rw => s.wr k (v &&& m)
    | .w1c => s.wr k (s.rd k &&& ~~~(v &&& m))
    | .w1s => s
    | .ro | .rc | .wo => s

/-- The index a register with a select register acts on: the select register's field (R196, R271, …); 0 without one. FWC_CORE_SELECT values 6
and 7 act as 0 (R513). -/
def State.selIdx (s : State) (page off : Nat) : Nat :=
  match regRow page off with
  | none => 0
  | some r =>
    if r.selW = 0 then 0
    else
      let i := fld (s.rd (rkey page r.sel 0)) 0 r.selW
      if page = pFWC && 6 ≤ i then 0 else i

/-- The device has no reset held and the die runs: registers answer. -/
def State.dieUp (s : State) : Bool :=
  s.hw.power == .on && !s.hw.dieHeld && (match s.hw.warm with | some (_, .held) => false | _ => true)

/-- R565, R566: the device has booted into reduced service (GLB_STATUS.BOOT_DONE 1, FULL_SERVICE 0). -/
def State.reduced (s : State) : Bool := s.getB (statusK pGLB) 0 && !s.getB (statusK pGLB) 1

/-! ## Uncoded errors -/

/-- An error that a block detects and for which its chapter lists no ERR_LOG code: it is captured as R112 says, with a code that is a free value (log entry 94). -/
def State.uncodedErr (s : State) (page fn detail : Nat) (cls : Nat := clsDevice) : State :=
  let c := s.free
  c.2.logErr page (c.1 % 256) cls fn noTags 0 detail

/-! ## Time and the idle step -/

/-- What a step does with no command waiting: one nanosecond passes (log entry 4, DESIGN CHOICE). Device time runs, while the die does, at the rate correction
(R392). -/
def State.tick (s : State) : State :=
  let s := { s with uptime := s.uptime + 1 }
  if s.dieUp then
    let n := (s.net.rem + 1000000000 + sx 32 (s.rd R.NET_TIME_RATE).toNat).toNat
    { s with devTime := (s.devTime + n / 1000000000) % 2 ^ 64, net := { s.net with rem := n % 1000000000 } }
  else s

/-! ## Cox's tables -/

def srcKey : Source → Nat
  | .ring f r => 32 * f + r
  | .pav f => 32 * f
  | .tq q => 65536 + q

def State.queue (s : State) (q : Source) : Queue :=
  (s.queues.look (srcKey q)).getD
    { cache := [], fetch := none, chain := none, discarding := false, submits := 0, unannounced := 0, stalled := none }

def State.putQueue (s : State) (q : Source) (x : Queue) : State := { s with queues := s.queues.put (srcKey q) x }

def State.op? (s : State) (i : Nat) : Option Op := s.ops.look i
def State.putOp (s : State) (i : Nat) (o : Op) : State := { s with ops := s.ops.put i o }

end Sys2Proof.Machine
end

