-- ==== Sys2Proof/Machine/Access.lean ====
section
/-! DEFINITION. Sys2Proof/Machine/Access.lean: every access to memory. Device page tables (R167 to R172), the page bias and the coherent
cache (R78, R81), DRAM with its inline code and poison (R311 to R319), faults and the fault queue (R178 to R181). -/

namespace Sys2Proof.Machine
open Sys2Proof

/-! ## DRAM -/

/-- R308, R310: the size of the data region and of the allocatable frames. -/
def gib : Nat := 2 ^ 30
def mib32 : Nat := 2 ^ 25
def dramBytes : Nat := 620 * gib
def frameCount : Nat := 612

/-- R311: the device channel, 4 × package + channel, of a device physical address. -/
def chanOf (p : Nat) : Nat :=
  let g := p / 4096
  let q := g / 80
  let r := g % 80
  let t := (Nat.xor (Nat.xor (q % 128) (q / 128 % 128)) (q / 2 ^ 14 % 128)) % 80
  let i := (r + t) % 80
  4 * (5 * (i % 4) + (i / 4) % 5) + i / 20

/-- R311: the channel address of a device physical address. -/
def chanAddr (p : Nat) : Nat := p / 4096 / 80 * 4096 + p % 4096

/-- Where a channel address lies in its channel (R312). -/
structure DramLoc where
  byte : Nat
  burst : Nat
  rank : Nat
  row : Nat
  bank : Nat
deriving DecidableEq, Repr

/-- R312: the place of channel address a; the bank, with its group in bits 1 and 0, is A[14:11] exclusive-or A[19:16]. -/
def dramLoc (a : Nat) : DramLoc := ⟨a % 64, bitsOf a 6 5, bitsOf a 15 1, bitsOf a 16 17, Nat.xor (bitsOf a 11 4) (bitsOf a 16 4)⟩

/-- R312: the check word's channel address of the burst at channel address a. -/
def checkAddr (a : Nat) : Nat := 0x1F0000000 + a / 32

/-- The state of a channel, 0 OFF to 5 FAILED (R333). -/
def State.chanState (s : State) (c : Nat) : Nat := s.getF (R.MEM_CHAN_STATE (c / 4)) (4 * (c % 4)) 4

/-- A channel's state changes, traced (R554). -/
def State.setChan (s : State) (c x : Nat) : State :=
  let old := s.chanState c
  if old = x then s else (s.setF (R.MEM_CHAN_STATE (c / 4)) (4 * (c % 4)) 4 x).trace 8 (c / 4) 0x07 0 none x old

def State.poisoned (s : State) (burst : Nat) : Bool := s.msys.poison.has burst

/-- What an unlisted byte of DRAM reads as: undefined before bring-up has initialised DRAM (R126), 0 after (R320). -/
def State.memDefault (s : State) (p : Nat) : Byte := if s.dramInit then 0 else Config.undefByte p

/-- A byte of DRAM. -/
def State.dram (s : State) (p : Nat) : Byte := Tab.getD s.memDefault s.mem p

/-- Store a byte of DRAM, in the canonical form: rising addresses, and no entry that equals what an unlisted address reads as. -/
def State.setDram (s : State) (p : Nat) (b : Byte) : State := { s with mem := Tab.setD s.memDefault s.mem p b }

def State.setDrams (s : State) (p : Nat) : List Byte → State
  | [] => s
  | b :: r => (s.setDram p b).setDrams (p + 1) r

def State.drams (s : State) (p : Nat) (n : Nat) : List Byte := (List.range n).map (fun i => s.dram (p + i))

/-- R317: mark a burst poisoned; each burst marked counts in MEM00_POISON_COUNT. -/
def State.markPoison (s : State) (burst : Nat) : State :=
  if s.poisoned burst then s
  else { s with msys := { s.msys with poison := s.msys.poison.put burst () } }.bump R.MEM00_POISON_COUNT

/-- R336: DETAIL of a MEM page's ERR_LOG: the channel and the syndrome. The syndrome depends on a check matrix the manual does not give: a free
value, not zero. -/
def State.memDetail (s : State) (c : Nat) : Nat × State :=
  let f := s.free
  (c % 4 + 65536 * (1 + f.1 % 65535), f.2)

/-- Error of the page of the package that holds a burst. `fn`, `tags`: whose access met it, and the tags of the descriptor it belongs to (R111). -/
def State.memErr (s : State) (code burst : Nat) (fn : Nat := 0) (tags : Tags := noTags) : State :=
  let c := chanOf (64 * burst)
  let d := s.memDetail c
  d.2.logErr (memPage (c / 4)) code clsMemory fn tags (64 * burst) d.1

/-- R316: a read finds an uncorrectable codeword: counted, logged with code 0x02, and the burst is marked. -/
def State.ueRead (s : State) (burst : Nat) (fn : Nat := 0) (tags : Tags := noTags) : State :=
  let nn := chanOf (64 * burst) / 4
  ((s.bump (R.MEM_UE_COUNT nn)).raiseInt (memPage nn) 1).memErr 0x02 burst fn tags |>.markPoison burst

def dayNs : Nat := 24 * 3600 * 1000000000

/-- R313, R319: a correction of a burst. It counts on its channel; the third within 24 hours logs code 0x06, sets CE_REPEAT and raises a MEMORY
event to the manager. The 16 most recently corrected bursts of the channel are tracked. -/
def State.ceRead (s : State) (burst : Nat) (fn : Nat := 0) (tags : Tags := noTags) : State :=
  let c := chanOf (64 * burst)
  let nn := c / 4
  let s := (s.bump (R.MEM_CE_COUNT nn (c % 4))).count 8 nn 0x03 0 none 1
  let l := (s.msys.ceTrack.look c).getD []
  let old := ((l.find? (fun e => e.1 = burst)).map Prod.snd).getD []
  let ts := (s.uptime :: old).filter (fun t => s.uptime - t < dayNs)
  let s := { s with msys := { s.msys with ceTrack := s.msys.ceTrack.put c (((burst, ts) :: l.filter (fun e => e.1 ≠ burst)).take 16) } }
  if ts.length = 3 then
    let d := s.memDetail c
    (d.2.raiseInt (memPage nn) 0).logEvent 0 (memPage nn) 0x06 clsMemory nn fn tags (64 * burst) d.1
  else s

/-- R312, R314: a channel's check cache holds 64 check bursts, each of 32 data bursts, by their channel addresses over 64; `w`: the check burst is written, and
held dirty. Which one leaves a full cache is a free choice; a dirty one is written back. -/
def State.checkLookup (s : State) (burst : Nat) (w : Bool) : State :=
  let c := chanOf (64 * burst)
  let k := checkAddr (chanAddr (64 * burst)) / 64
  let l := (s.msys.checks.look c).getD []
  match l.find? (fun e => e.1 = k) with
  | some e =>
    if w && !e.2 then { s with msys := { s.msys with checks := s.msys.checks.put c (l.map (fun x => if x.1 = k then (k, true) else x)) } } else s
  | none =>
    let s := (s.bump R.MEM00_CHECK_MISS).count 8 (c / 4) 0x04 0 none 1
    let v := if l.length < 64 then (none, s) else s.pick l
    let l := match v.1 with | some j => l.erase j | none => l
    { v.2 with msys := { v.2.msys with checks := v.2.msys.checks.put c (l ++ [(k, w)]) } }

/-- R314, R330: before self-refresh every dirty check burst is written back. -/
def State.checksClean (s : State) : State :=
  { s with msys := { s.msys with checks := s.msys.checks.mapv (fun _ l => l.map (fun e => (e.1, false))) } }

/-- What the check of a read of one burst finds (R313, R316, R317). `rmw`: the read of a read-modify-write, to which a burst marked already is nothing new. -/
def State.burstFound (s : State) (env : HostView) (burst fn : Nat) (tags : Tags) (rmw : Bool) : State :=
  if s.poisoned burst then (if rmw then s else s.ueRead burst fn tags)
  else if burst ∈ env.ue then s.ueRead burst fn tags
  else if burst ∈ env.ce then s.ceRead burst fn tags
  else s

/-- The controller's part of a read of one burst (R313, R325). -/
def State.checkBurst (s : State) (env : HostView) (burst : Nat) (fn : Nat := 0) (tags : Tags := noTags) (rmw : Bool := false) : State :=
  if s.chanState (chanOf (64 * burst)) = 5 then s else
  ((s.checkLookup burst false).count 8 (chanOf (64 * burst) / 4) 0x01 0 none 1).burstFound env burst fn tags rmw

/-- The burst reads as poison (R317, R325). -/
def State.badBurst (s : State) (burst : Nat) : Bool := s.poisoned burst || s.chanState (chanOf (64 * burst)) == 5

/-- R334: data bytes served to an arbitration class (R327), in units of 4 KiB of the selected class. -/
def State.served (s : State) (cls n : Nat) : State :=
  let sel := s.getF R.MEM00_CLASS_SEL 0 3
  if sel = cls || sel = 7 then
    let t := s.msys.classRem + n
    { s with msys := { s.msys with classRem := t % 4096 } }.bump R.MEM00_CLASS_BYTES (t / 4096)
  else s

/-! ## Page tables -/

/-- The key of a leaf: function, size, page number (R168, R171). -/
def ptKey (fn : Nat) (g : Bool) (page : Nat) : Nat := fn * 2 ^ 34 + (if g then 2 ^ 33 else 0) + page

def pageBytes (g : Bool) : Nat := if g then gib else mib32

/-- A leaf entry of R172. -/
structure Leaf where
  host : Bool
  read : Bool
  write : Bool
  shared : Bool
  prefer : Bool
  busy : Bool
  addr : Nat
deriving DecidableEq, Repr

/-- The 64-bit entry of a leaf, by R172. -/
def Leaf.enc (l : Leaf) : Nat :=
  1 + (if l.host then 4 else 2) + 8 * b2n l.read + 16 * b2n l.write + 32 * b2n l.shared + 64 * b2n l.prefer + 128 * b2n l.busy
    + (if l.host then 0 else l.addr / 4096 * 4096)

/-- The leaf a 64-bit entry spells. VALID = 0, TABLE and TYPE 3 spell none (R172). -/
def Leaf.dec (e : Nat) : Option Leaf :=
  if bitOf e 0 && (bitsOf e 1 2 = 1 || bitsOf e 1 2 = 2) then
    some ⟨bitsOf e 1 2 = 2, bitOf e 3, bitOf e 4, bitOf e 5, bitOf e 6, bitOf e 7, bitsOf e 12 40 * 4096⟩
  else none

/-- An entry that names the next table (R172). -/
def isTable (e : Nat) : Bool := bitOf e 0 && bitsOf e 1 2 = 0

/-- R308, R170: the region that Boathouse reserves lies above the frames; table n of the device page tables is its n-th 4 KiB. -/
def tableAt (n : Nat) : Nat := frameCount * gib + 4096 * n

/-- R171: the index of an address in its table of a level, 0 to 3. -/
def walkIndex (va lvl : Nat) : Nat := if lvl = 3 then bitsOf va 25 5 else bitsOf va (48 - 9 * lvl) 9

/-- A 64-bit page-table entry. -/
def State.pte (s : State) (a : Nat) : Nat := s.trn.pt.getD (fun _ => 0) a

def State.setPte (s : State) (a e : Nat) : State := { s with trn := { s.trn with pt := s.trn.pt.setD (fun _ => 0) a e } }

/-- How a walk ends (R171, R172): no mapping; an entry its level does not allow, which acts as none; a leaf, at its entry's address. -/
inductive WalkEnd where
  | unmapped | malformed (entry : Nat) | leaf (g : Bool) (entry : Nat) (l : Leaf)
deriving DecidableEq, Repr

/-- R171: the walk from a table of a level; the first argument is the number of levels left. -/
def State.walkFrom (s : State) (va : Nat) : Nat → Nat → Nat → WalkEnd
  | 0, _, _ => .unmapped
  | n + 1, lvl, t =>
    let a := t + 8 * walkIndex va lvl
    let e := s.pte a
    if !bitOf e 0 then .unmapped
    else if isTable e then (if lvl < 3 then s.walkFrom va n (lvl + 1) (bitsOf e 12 40 * 4096) else .malformed a)
    else if lvl < 2 then .malformed a
    else match Leaf.dec e with | some l => .leaf (lvl = 2) a l | none => .malformed a

/-- The walk of a function's address, from its root (R171). A function that has mapped nothing has no table. -/
def State.walkEnd (s : State) (fn va : Nat) : WalkEnd :=
  match s.trn.roots.look fn with
  | some t => s.walkFrom va 4 0 t
  | none => .unmapped

/-- The leaf that covers an address, and whether it is a 1 GiB leaf. -/
def State.walk (s : State) (fn va : Nat) : Option (Bool × Leaf) :=
  match s.walkEnd fn va with | .leaf g _ l => some (g, l) | _ => none

/-- The leaf of a page. -/
def State.leafAt (s : State) (fn : Nat) (g : Bool) (page : Nat) : Option Leaf :=
  match s.walk fn (page * pageBytes g) with
  | some (g', l) => if g' = g then some l else none
  | none => none

/-- Take the next table for a page table. -/
def State.newTable (s : State) : Nat × State := (tableAt s.trn.nextTable, { s with trn := { s.trn with nextTable := s.trn.nextTable + 1 } })

/-- The address of the entry of an address n levels below a table, entering the tables on the way that are not there. -/
def State.entryFor (s : State) (va : Nat) : Nat → Nat → Nat → State × Nat
  | 0, lvl, t => (s, t + 8 * walkIndex va lvl)
  | n + 1, lvl, t =>
    let a := t + 8 * walkIndex va lvl
    let e := s.pte a
    if isTable e then s.entryFor va n (lvl + 1) (bitsOf e 12 40 * 4096)
    else
      let w := s.newTable
      (w.2.setPte a (1 + w.1)).entryFor va n (lvl + 1) w.1

/-- The root of a function's page table, taken at its first mapping. -/
def State.rootFor (s : State) (fn : Nat) : State × Nat :=
  match s.trn.roots.look fn with
  | some t => (s, t)
  | none =>
    let w := s.newTable
    ({ w.2 with trn := { w.2.trn with roots := w.2.trn.roots.put fn w.1 } }, w.1)

/-- Write the leaf of a page. -/
def State.putLeaf (s : State) (fn : Nat) (g : Bool) (page : Nat) (l : Leaf) : State :=
  let r := s.rootFor fn
  let e := r.1.entryFor (page * pageBytes g) (if g then 2 else 3) 0 r.2
  e.1.setPte e.2 l.enc

/-- Remove the leaf of a page: its entry is 0 again. -/
def State.delLeaf (s : State) (fn : Nat) (g : Bool) (page : Nat) : State :=
  match s.walkEnd fn (page * pageBytes g) with
  | .leaf g' a _ => if g' = g then s.setPte a 0 else s
  | _ => s

/-- The leaves below a table: whether of 1 GiB, the entry's address, the leaf. -/
def State.leavesBelow (s : State) : Nat → Nat → Nat → List (Bool × Nat × Leaf)
  | 0, _, _ => []
  | n + 1, lvl, t =>
    (s.trn.pt.filter (fun (e : Nat × Nat) => t ≤ e.1 && e.1 < t + 4096)).flatMap (fun (e : Nat × Nat) =>
      if isTable e.2 then (if lvl < 3 then s.leavesBelow n (lvl + 1) (bitsOf e.2 12 40 * 4096) else [])
      else if lvl < 2 then []
      else match Leaf.dec e.2 with | some l => [(decide (lvl = 2), e.1, l)] | none => [])

/-- The leaves of a function. -/
def State.leavesOf (s : State) (fn : Nat) : List (Bool × Nat × Leaf) :=
  match s.trn.roots.look fn with | some t => s.leavesBelow 4 0 t | none => []

/-! ## TLB -/

/-- R179: the page of a fault or a TLB entry: the leaf's page, or the 32 MiB range of an address without a leaf. -/
def State.faultPage (s : State) (fn va : Nat) : Bool × Nat :=
  match s.walk fn va with
  | some (true, _) => (true, va / gib)
  | _ => (false, va / mib32)

def State.tlbPage (s : State) (fn va : Nat) : Nat :=
  let p := s.faultPage fn va
  ptKey fn p.1 p.2

def TlbEntry.key (e : TlbEntry) : Nat := ptKey e.fn e.gib e.page

/-- A TLB entry covers an address of a function. -/
def TlbEntry.covers (e : TlbEntry) (fn va : Nat) : Bool := e.fn = fn && va / pageBytes e.gib = e.page

def State.tlbHit (s : State) (fn va : Nat) : Bool := s.trn.tlb.any (fun e => e.covers fn va)

/-- R174: the entry an access uses becomes the most recently used. -/
def State.tlbUse (s : State) (fn va : Nat) : State :=
  match s.trn.tlb.find? (fun e => e.covers fn va) with
  | some e => { s with trn := { s.trn with tlb := e :: s.trn.tlb.erase e } }
  | none => s

/-- R159, R175: an access waits for its translation: a miss of its page is being served, or would have to be while the core that serves it is not up. Any other
miss is served at once (DESIGN CHOICE, log entry 95). -/
def State.tlbWaits (s : State) (fn va : Nat) : Bool :=
  (fn, s.tlbPage fn va) ∈ s.trn.misses || (!s.tlbHit fn va && !s.coreUp coreTrn)

/-- R168, R176: how a request for host memory names its target. -/
def State.hostRoute (s : State) (fn va : Nat) : HostRoute :=
  let pasid := if s.getB (R.TRN_FN_PASID fn) 31 then some (s.getF (R.TRN_FN_PASID fn) 0 20) else none
  match s.trn.tlb.find? (fun e => e.covers fn va) with
  | some e => match e.target with | .hostAt a => .translated (a + va % pageBytes e.gib) | _ => .untranslated pasid
  | none => .untranslated pasid

/-- What an access meets. `held`: it waits and is tried again; `lost`: a host page while the link is down. -/
inductive AccFail where
  | fault (va : Nat) (prefer : Bool)
  | denied (va : Nat)
  | held (va : Nat)
  | lost (va : Nat)
  | poison (burst : Nat)
deriving DecidableEq, Repr

inductive Acc where
  | dev (p : Nat)
  | host (shared : Bool)
  | fail (f : AccFail)
deriving DecidableEq, Repr

/-- R31, R78, R167, R178, R189, R191, R103, R130, R175: one access. No mapping, no permission at the host, and the first access to a PREFER_DEVICE page
fault; the leaf's READ and WRITE bits deny; a page being unmapped faults; a page being migrated, one whose translation is awaited, and device memory in
self-refresh hold; a host page is lost while the link is down. -/
def State.access (s : State) (env : HostView) (fn va : Nat) (wr : Bool) : Acc :=
  if 2 ^ 57 ≤ va then .fail (.fault va false)
  else if s.tlbWaits fn va then .fail (.held va)
  else match s.walk fn va with
    | none => .fail (.fault va false)
    | some (g, l) =>
      if l.busy && ptKey fn g (va / pageBytes g) ∈ s.trn.unmapping then .fail (.fault va false)
      else if l.busy then .fail (.held va)
      else if (wr && !l.write) || (!wr && !l.read) then .fail (.denied va)
      else if l.host then
        if !s.linkUp then .fail (.lost va)
        else if l.prefer then .fail (.fault va true)
        else if va / mib32 ∈ env.deny then .fail (.fault va false)
        else .host l.shared
      else if s.idle.selfRefresh then .fail (.held va)
      else .dev (l.addr + va % pageBytes g)

/-- The bursts, as (first address, length), that a range of addresses touches. -/
def segs (va n : Nat) : List (Nat × Nat) :=
  if n = 0 then []
  else (List.range ((va + n - 1) / 64 - va / 64 + 1)).map (fun i =>
    let a := max va (64 * (va / 64 + i))
    let e := min (va + n) (64 * (va / 64 + i + 1))
    (a, e - a))

/-- The first access of a range that fails, if any. -/
def State.rangeFail (s : State) (env : HostView) (fn va n : Nat) (wr : Bool) : Option AccFail :=
  (segs va n).findSome? (fun g => match s.access env fn g.1 wr with | .fail f => some f | _ => none)

/-! ## Host memory and the coherent cache -/

/-- The key of a coherent-cache line: the function and the line number of its address. -/
def ccKey (fn line : Nat) : Nat := fn * 2 ^ 51 + line

/-- R78: the cache is used for SHARED pages with CXL.cache active and HIF_CC_CTRL.ENABLE. -/
def State.ccOn (s : State) : Bool := s.cacheActive && s.getB R.HIF_CC_CTRL 0

/-- Write a dirty line back to host memory. -/
def State.ccWriteBack (s : State) (fn line : Nat) (l : CcLine) : State :=
  if l.dirty then s.emit (.hostWrite fn (64 * line) l.data .writeBack (s.hostRoute fn (64 * line))) else s

/-- R101: the visible time follows device time until a non-snooped write is issued. -/
def State.noteNonSnoop (s : State) (va : Nat) : State :=
  let quiet := !s.hif.writesSinceProbe && s.hif.probes.isEmpty
  { s with hif := { s.hif with visible := if quiet then s.devTime else s.hif.visible, writesSinceProbe := true, lastNonSnoop := va / 4096 } }

/-- R81: room for a line in its set of 16 ways: with the set full a line leaves it, written back if dirty. Which one is the free choice. The manual does not say
what indexes the sets: the model takes the low 12 bits of the line number of the function virtual address, and tags a line by the function and that
number (DESIGN CHOICE, log entry 96). -/
def State.ccRoom (s : State) (line : Nat) : State :=
  let inSet := s.hif.lines.keep (fun k _ => k % 4096 == line % 4096)
  if inSet.length < 16 then s
  else
    let p := s.pick (inSet.map Prod.fst)
    match p.1 with
    | none => p.2
    | some k =>
      match p.2.hif.lines.look k with
      | none => p.2
      | some l =>
        let s := p.2.ccWriteBack l.fn (k % 2 ^ 51) l
        { s with hif := { s.hif with lines := s.hif.lines.del k } }

/-- n bytes of host memory as the host answers them. -/
def hostBytes (env : HostView) (va n : Nat) : List Byte := (List.range n).map (fun i => Tab.getD (fun _ => 0) env.bytes (va + i))

/-- The line of the coherent cache that an address of a function lies in. -/
def State.ccLine (s : State) (fn va : Nat) : Option CcLine := s.hif.lines.look (ccKey fn (va / 64))

/-- R78, R81: fetch the line of an address by RdShared or RdOwn, and hold it clean; the answer is its data. -/
def State.ccFetch (s : State) (env : HostView) (fn va : Nat) (req : HostReq) : State × List Byte :=
  let line := va / 64
  let s := s.emit (.hostRead fn (64 * line) 64 req (s.hostRoute fn va))
  let s := if (s.ccLine fn va).isSome then s else s.ccRoom line
  let d := match s.ccLine fn va with | some l => l.data | none => hostBytes env (64 * line) 64
  ({ s with hif := { s.hif with lines := s.hif.lines.put (ccKey fn line) ⟨fn, false, d⟩ } }, d)

/-- R78: a write of part of a line: RdOwn, unless the cache owns the line by an earlier write of it, then the write into the cached line. -/
def State.ccWrite (s : State) (env : HostView) (fn va : Nat) (data : List Byte) : State :=
  let w := match s.ccLine fn va with
    | some l => if l.dirty then (s, l.data) else s.ccFetch env fn va .rdOwn
    | none => s.ccFetch env fn va .rdOwn
  let o := va % 64
  { w.1 with hif := { w.1.hif with
    lines := w.1.hif.lines.put (ccKey fn (va / 64)) ⟨fn, true, w.2.take o ++ data ++ w.2.drop (o + data.length)⟩ } }

/-- R78: a write of at most one line to a host page. SHARED with CXL.cache active: a whole line by ItoMWr, a partial line into the cached line; SHARED otherwise:
with No Snoop clear; DEVICE_OWNED: with No Snoop set. -/
def State.hostWriteSeg (s : State) (env : HostView) (fn va : Nat) (data : List Byte) (shared : Bool) : State :=
  if !shared then (s.emit (.hostWrite fn va data .writeNoSnoop (s.hostRoute fn va))).noteNonSnoop va
  else if !s.ccOn then s.emit (.hostWrite fn va data .write (s.hostRoute fn va))
  else if data.length < 64 then s.ccWrite env fn va data
  else
    { s.emit (.hostWrite fn va data .itoMWr (s.hostRoute fn va)) with hif := { s.hif with lines := s.hif.lines.del (ccKey fn (va / 64)) } }

/-- R78: a read of n bytes within one line of a host page, of a read of `total` bytes. SHARED with CXL.cache active: a line the cache holds is read there; a read of
at most 256 bytes fetches and holds the line by RdShared, a larger one reads by RdCurr. -/
def State.hostReadSeg (s : State) (env : HostView) (fn va n total : Nat) (shared : Bool) : State × List Byte :=
  if shared && s.ccOn then
    match s.ccLine fn va with
    | some l => (s, (l.data.drop (va % 64)).take n)
    | none =>
      if total ≤ 256 then
        let r := s.ccFetch env fn va .rdShared
        (r.1, (r.2.drop (va % 64)).take n)
      else (s.emit (.hostRead fn va n .rdCurr (s.hostRoute fn va)), hostBytes env va n)
  else (s.emit (.hostRead fn va n (if shared then .read else .readNoSnoop) (s.hostRoute fn va)), hostBytes env va n)

/-! ## Reads and writes of function virtual ranges -/

/-- Read one burst's part of a read of `total` bytes. -/
def State.readSeg (s : State) (env : HostView) (cls fn : Nat) (g : Nat × Nat) (tags : Tags := noTags) (total : Nat := g.2) :
    State × Except AccFail (List Byte) :=
  match s.access env fn g.1 false with
  | .fail f => (s, .error f)
  | .host shared =>
    let r := (s.tlbUse fn g.1).hostReadSeg env fn g.1 g.2 total shared
    (r.1, .ok r.2)
  | .dev p =>
    let s := ((s.tlbUse fn g.1).checkBurst env (p / 64) fn tags).served cls g.2
    if s.badBurst (p / 64) then (s, .error (.poison (p / 64))) else (s, .ok (s.drams p g.2))

def State.readSegs (s : State) (env : HostView) (cls fn : Nat) (tags : Tags) (total : Nat) : List (Nat × Nat) → State × Except AccFail (List Byte)
  | [] => (s, .ok [])
  | g :: r =>
    match s.readSeg env cls fn g tags total with
    | (s, .error f) => (s, .error f)
    | (s, .ok a) =>
      match s.readSegs env cls fn tags total r with
      | (s, .error f) => (s, .error f)
      | (s, .ok b) => (s, .ok (a ++ b))

/-- Read n bytes of a function's address space, in ascending order, to the first failure. `cls`: the arbitration class (R327); `tags`: those of the
descriptor the access belongs to. -/
def State.vread (s : State) (env : HostView) (cls fn va n : Nat) (tags : Tags := noTags) : State × Except AccFail (List Byte) :=
  s.readSegs env cls fn tags n (segs va n)

/-- The bursts of a range of whole granules that lie on a package. -/
def burstsOn (p n nn : Nat) : Nat := 64 * ((List.range (n / 4096)).filter (fun i => chanOf (p + 4096 * i) / 4 = nn)).length

/-- The counter event of the bursts of a range, read (0x01) or written (0x02), package by package (R544). -/
def State.countRange (s : State) (event p n : Nat) : State :=
  (List.range 20).foldl (fun s nn => s.count 8 nn event 0 none (burstsOn p n nn)) s

/-- A read of whole granules by an engine that moves pages or images (R313, R316, R317, R325): every burst of it is checked. The answer tells whether any reads as
poison. Such a range spans every channel many times over, so that it passes the check caches by: each of its check bursts is read once (DESIGN CHOICE, log
entry 97). -/
def State.checkRange (s : State) (env : HostView) (cls p n fn : Nat) (tags : Tags) : State × Bool :=
  let hit := fun (b : Nat) => p ≤ 64 * b && 64 * b < p + n && s.chanState (chanOf (64 * b)) ≠ 5
  let marked := (s.msys.poison.map Prod.fst).filter hit
  let ue := (env.ue.eraseDups.filter hit).filter (· ∉ marked)
  let ce := (env.ce.eraseDups.filter hit).filter (fun b => b ∉ marked && b ∉ ue)
  let failed := (List.range 80).any (fun c => s.chanState c = 5 && (List.range (min (n / 4096) 10240)).any (fun i => chanOf (p + 4096 * i) = c))
  let s := (((s.served cls n).countRange 0x01 p n).bump R.MEM00_CHECK_MISS (n / 2048))
  ((marked ++ ue ++ ce).foldl (fun s b => s.burstFound env b fn tags false) s, failed || !marked.isEmpty || !ue.isEmpty)

/-- R315, R317, R325: write the bytes of one burst of DRAM. A whole burst replaces poison; a partial write to a poisoned burst is refused with code
0x07; a FAILED channel refuses every write. `cls`: the arbitration class, in which the read of a read-modify-write counts too. -/
def State.writeBurst (s : State) (env : HostView) (cls p : Nat) (data : List Byte) (fn : Nat := 0) (tags : Tags := noTags) : State × Option AccFail :=
  let b := p / 64
  if s.chanState (chanOf p) = 5 then (s, some (.poison b)) else
  let s := ((s.served cls data.length).checkLookup b true).count 8 (chanOf p / 4) 0x02 0 none 1
  if data.length = 64 then
    (({ s with msys := { s.msys with poison := s.msys.poison.del b } }).setDrams p data, none)
  else
    let s := (s.checkBurst env b fn tags true).served cls 64
    if s.poisoned b then (s.memErr 0x07 b fn tags, some (.poison b))
    else (s.setDrams p data, none)

def State.writeSeg (s : State) (env : HostView) (cls fn va : Nat) (data : List Byte) (tags : Tags := noTags) : State × Option AccFail :=
  match s.access env fn va true with
  | .fail f => (s, some f)
  | .host shared => ((s.tlbUse fn va).hostWriteSeg env fn va data shared, none)
  | .dev p => (s.tlbUse fn va).writeBurst env cls p data fn tags

def State.writeSegs (s : State) (env : HostView) (cls fn : Nat) (tags : Tags) (data : List Byte) : List (Nat × Nat) → State × Option AccFail
  | [] => (s, none)
  | g :: r =>
    match s.writeSeg env cls fn g.1 (data.take g.2) tags with
    | (s, some f) => (s, some f)
    | (s, none) => s.writeSegs env cls fn tags (data.drop g.2) r

/-- Write bytes to a function's address space, in ascending order, to the first failure. -/
def State.vwrite (s : State) (env : HostView) (cls fn va : Nat) (data : List Byte) (tags : Tags := noTags) : State × Option AccFail :=
  s.writeSegs env cls fn tags data (segs va data.length)

/-- Whether a range lies in HOST pages at any point (R97), and whether any such page is DEVICE_OWNED or reached without the cache. -/
def State.touchesHost (s : State) (fn va n : Nat) (nonSnoop : Bool) : Bool :=
  (segs va n).any (fun g => match s.walk fn g.1 with
    | some (_, l) => l.host && (!nonSnoop || !l.shared)
    | none => false)

/-- Whether a page of a range is being migrated: an access to it waits (R191, R242). -/
def State.rangeBusy (s : State) (fn va n : Nat) : Bool :=
  n ≠ 0 && (List.range ((va + n - 1) / mib32 - va / mib32 + 1)).any (fun i =>
    match s.walk fn (mib32 * (va / mib32 + i)) with
    | some (g, l) => l.busy && ptKey fn g (mib32 * (va / mib32 + i) / pageBytes g) ∉ s.trn.unmapping
    | none => false)

/-- Whether every page of a range is mapped DEVICE (R242 and others): a leaf covers whole 32 MiB ranges (R171). -/
def State.allDevice (s : State) (fn va n : Nat) : Bool :=
  n = 0 || (List.range ((va + n - 1) / mib32 - va / mib32 + 1)).all (fun i =>
    match s.walk fn (mib32 * (va / mib32 + i)) with | some (_, l) => !l.host | none => false)

/-! ## Faults -/

def State.fnCtrl (s : State) (fn b : Nat) : Bool := s.getB (R.TRN_FN_CTRL fn) b

/-- TRN_FN_STATUS.PRI_FAILED (R198). -/
def State.priFailed (s : State) (fn : Nat) : Bool := s.getB (R.TRN_FN_STATUS fn) 2

/-- R179: the entries a function may still take: one of its reserve, or one of the shared pool. -/
def State.faultRoom (s : State) (fn : Nat) : Bool :=
  let used := fun f => (s.trn.faults.filter (fun e => e.fn = f)).length
  let res := fun f => s.getF (R.TRN_FN_FQ_RESERVE f) 0 10
  let resSum := ((List.range 64).map res).sum
  let poolUsed := ((List.range 64).map (fun f => used f - res f)).sum
  used fn < res fn || poolUsed < 512 - resSum

/-- What becomes of an access that faults. -/
inductive FaultEnd where
  | waits | stalls | ended
deriving DecidableEq, Repr

/-- A packet that comes again makes a new access. -/
def Waiter.fromPacket : Waiter → Bool
  | .recv _ | .remote => true
  | _ => false

/-- The access of a waiter to an address already waits for its fault. -/
def State.faultWaits (s : State) (fn va : Nat) (w : Waiter) : Bool :=
  let pg := s.faultPage fn va
  !w.fromPacket &&
    (s.trn.faults.any (fun e => e.fn = fn && e.gib = pg.1 && e.page = pg.2 && e.waiters.contains w) ||
     s.trn.stalls.any (fun e => e.fn = fn && e.va = va && e.waiter = w))

/-- R180: the cluster whose DMA engine makes the accesses of a descriptor: one that holds a unit of it, else a free choice among those not power-gated. COPY and the
context operations have one. -/
def State.engineOf (s : State) (w : Waiter) : Option Nat × State :=
  match w with
  | .op i =>
    match s.tiles.tile.find? (fun (e : Nat × Tile) => e.2.units.any (fun u => u.1 = i)), s.ops.look i with
    | some e, _ => (some (e.1 / 4), s)
    | none, some o =>
      if dfld o.desc 0 0 8 = 1 || (0x20 ≤ dfld o.desc 0 0 8 && dfld o.desc 0 0 8 < 0x40) then
        s.pick ((List.range 16).filter (fun nn => !s.getB (R.CLS_TILE_STATE nn) 16))
      else (none, s)
    | none, none => (none, s)
  | _ => (none, s)

/-- R180: the cluster's queue waits behind its stalled DMA engine. -/
def State.clusterStalled (s : State) (nn : Nat) : Bool := s.trn.stalls.any (fun x => x.cluster = some nn)

/-- R178 to R182: an access faults. It shares the page's entry, takes one, or stalls its engine; while PRI_FAILED is 1 it ends at once. An access that waits
already goes on waiting. -/
def State.raiseFault (s : State) (fn va : Nat) (wr prefer : Bool) (w : Waiter) : State × FaultEnd :=
  if s.faultWaits fn va w then (s, .waits) else
  let t := match w with | .op i | .cox i => (s.ops.look i).map (fun o => descTags o.desc) | _ => none
  let s := (s.bump (R.TRN_FN_FAULT_COUNT fn)).count 5 0 0x02 fn t 1
  let pg := s.faultPage fn va
  if s.priFailed fn && !prefer then (s.raiseInt pTRN 1, .ended)
  else if s.trn.faults.any (fun e => e.fn = fn && e.gib = pg.1 && e.page = pg.2) then
    ({ s with trn := { s.trn with faults := s.trn.faults.map (fun e =>
        if e.fn = fn && e.gib = pg.1 && e.page = pg.2 then { e with waiters := e.waiters ++ [w] } else e) } }, .waits)
  else if s.faultRoom fn then
    ({ s with trn := { s.trn with faults := s.trn.faults ++ [(⟨fn, pg.2, pg.1, va, wr, prefer, .queued, [w], s.uptime⟩ : FaultQ)] } }, .waits)
  else
    let c := s.engineOf w
    let s := c.2
    (({ s with trn := { s.trn with stalls := s.trn.stalls ++ [(⟨fn, va, wr, prefer, pg.1, w, c.1, s.uptime⟩ : Stall)] } }.setB R.TRN_FQ_FLAGS 0 true).raiseInt pTRN 0,
      .stalls)

/-- R178: an access denied by a leaf is logged with code 0x02. -/
def State.logDenied (s : State) (fn va : Nat) (t : Tags) : State := s.logErr pTRN 0x02 clsMemory fn t va 0

end Sys2Proof.Machine
end

