-- ==== Sys2Proof/Machine/Arith.lean ====
section
/-! DEFINITION. Sys2Proof/Machine/Arith.lean: number formats (R206 to R214), the array's group sum and accumulation (R215 to R220), and the vector
unit's functions (R222, R223). FP32 values travel as their 32 bits, in a Nat. -/

namespace Sys2Proof.Machine
open Sys2Proof

/-! ## Values and formats -/

/-- A decoded value: NaN, an infinity, or (−1)^neg × m × 2^e exactly. -/
inductive Fp where
  | nan
  | inf (neg : Bool)
  | fin (neg : Bool) (m : Nat) (e : Int)
deriving DecidableEq, Repr

/-- A floating-point format of R207: mantissa bits, width without the sign, bias, the encoding of the largest finite magnitude, and the encodings of
infinity and of the canonical NaN (R208), where it has them. -/
structure Fmt where
  man : Nat
  width : Nat
  bias : Nat
  maxEnc : Nat
  infEnc : Option Nat
  nanEnc : Option Nat
deriving DecidableEq, Repr

def f32 : Fmt := ⟨23, 31, 127, 0x7F7FFFFF, some 0x7F800000, some 0x7FC00000⟩

/-- The floating-point format of a code of R206. -/
def fmtOf : Nat → Option Fmt
  | 1 => some ⟨3, 7, 7, 0x7E, none, some 0x7F⟩
  | 2 => some ⟨2, 7, 15, 0x7B, some 0x7C, some 0x7E⟩
  | 3 => some ⟨3, 5, 1, 0x1F, none, none⟩
  | 4 => some ⟨2, 5, 3, 0x1F, none, none⟩
  | 5 => some ⟨1, 3, 1, 0x7, none, none⟩
  | 7 => some ⟨7, 15, 127, 0x7F7F, some 0x7F80, some 0x7FC0⟩
  | 8 => some ⟨10, 15, 15, 0x7BFF, some 0x7C00, some 0x7E00⟩
  | 9 => some f32
  | _ => none

/-- A block-scaled format (R209). -/
def isBlockFmt (c : Nat) : Bool := c == 3 || c == 4 || c == 5

def isFp8 (c : Nat) : Bool := c == 1 || c == 2

/-- Bytes of one element, of the formats that are not block-scaled. -/
def elemBytes (c : Nat) : Nat := if c = 7 || c = 8 then 2 else if c = 9 then 4 else 1

/-- The least exponent of a format: that of a subnormal's unit (R207). -/
def Fmt.emin (f : Fmt) : Int := 1 - (f.bias : Int) - f.man

/-- R207: the value an encoding spells. -/
def Fmt.dec (f : Fmt) (x : Nat) : Fp :=
  let neg := bitOf x f.width
  let mag := x % 2 ^ f.width
  if f.maxEnc < mag then (if f.infEnc = some mag then .inf neg else .nan)
  else
    let e := mag / 2 ^ f.man
    let m := mag % 2 ^ f.man
    if e = 0 then .fin neg m f.emin else .fin neg (2 ^ f.man + m) (f.emin + e - 1)

/-- The value of an element in a format code (R206, R207); INT8 is two's complement. -/
def decodeElem (c x : Nat) : Fp :=
  if c = 6 then (let v := sx 8 (x % 256); .fin (decide (v < 0)) v.natAbs 0)
  else match fmtOf c with
    | some f => f.dec x
    | none => .nan

def dec32 (x : Nat) : Fp := f32.dec x

/-- m ÷ 2^k rounded to nearest. A tie goes to even, or up when something below it was lost. -/
def shiftRne (m k : Nat) (sticky : Bool) : Nat :=
  let q := m / 2 ^ k
  let r := m % 2 ^ k
  let h := 2 ^ k / 2
  if h < r || (r = h && 0 < k && (sticky || q % 2 = 1)) then q + 1 else q

/-- The encoding of m × 2^e rounded by RNE as though the exponent had no upper limit (R213). -/
def Fmt.roundMag (f : Fmt) (m : Nat) (e : Int) (sticky : Bool) : Nat :=
  if m = 0 then 0
  else
    let q := max (e + Nat.log2 m - f.man) f.emin
    let mant := if q ≤ e then m * 2 ^ (e - q).toNat else shiftRne m (q - e).toNat sticky
    (q - f.emin).toNat * 2 ^ f.man + mant

def nan32 : Nat := 0x7FC00000
def inf32 (neg : Bool) : Nat := 0x7F800000 + b2n neg * 2 ^ 31
def zero32 (neg : Bool) : Nat := b2n neg * 2 ^ 31
def one32 : Nat := 0x3F800000

/-- Round to FP32 by RNE, subnormals kept, overflow to infinity. -/
def round32 (neg : Bool) (m : Nat) (e : Int) (sticky : Bool := false) : Nat :=
  let x := f32.roundMag m e sticky
  if f32.maxEnc < x then inf32 neg else x + b2n neg * 2 ^ 31

/-- A value as FP32 bits. -/
def enc32 : Fp → Nat
  | .nan => nan32
  | .inf neg => inf32 neg
  | .fin neg m e => round32 neg m e

/-! ## Conversions -/

/-- R212: an input element in FP32; exact. -/
def toF32 (c x : Nat) : Nat := enc32 (decodeElem c x)

/-- R209, R212: an element of a block with scale E in FP32. -/
def blockToF32 (c scale x : Nat) : Nat :=
  if scale = 255 then nan32
  else match decodeElem c x with
    | .fin neg m e => round32 neg m (e + scale - 127)
    | v => enc32 v

/-- R213: FP32 to INT8. The second part: whether the conversion counts. -/
def toInt8 (x : Nat) : Nat × Bool :=
  match dec32 x with
  | .nan => (0, true)
  | .inf neg => (if neg then 0x80 else 0x7F, true)
  | .fin neg m e =>
    let a := if 0 ≤ e then m * 2 ^ e.toNat else shiftRne m (-e).toNat false
    if neg then (if 128 < a then (0x80, true) else ((256 - a) % 256, false))
    else if 127 < a then (0x7F, true) else (a, false)

/-- R213: FP32 to a format that is not block-scaled. The second part: whether the conversion counts as a saturation or a NaN turned into 0. -/
def fromF32 (c x : Nat) : Nat × Bool :=
  if c = 6 then toInt8 x
  else match fmtOf c with
    | none => (0, false)
    | some f =>
      let s := fun (neg : Bool) => b2n neg * 2 ^ f.width
      match dec32 x with
      | .nan => (f.nanEnc.getD 0, false)
      | .inf neg => (match f.infEnc with | some i => i + s neg | none => f.nanEnc.getD 0, false)
      | .fin neg m e =>
        let r := f.roundMag m e false
        if f.maxEnc < r then
          ((if c = 7 || c = 8 || c = 9 then f.infEnc.getD 0 else f.maxEnc) + s neg, true)
        else (r + s neg, false)

/-- ⌊log2⌋ of a finite value that is not zero. -/
def Fp.ilog : Fp → Option Int
  | .fin _ m e => if m = 0 then none else some (e + Nat.log2 m)
  | _ => none

/-- R214: a block of 32 FP32 values as a scale and elements. With an infinity or a NaN the scale is 255 and the elements carry nothing: `junk` fills them.
The last part: how many elements saturated. -/
def blockOut (c : Nat) (junk : Nat → Nat) (xs : List Nat) : Nat × List Nat × Nat :=
  let vs := xs.map dec32
  if vs.any (fun v => match v with | .fin _ _ _ => false | _ => true) then (255, (List.range xs.length).map junk, 0)
  else
    let top := (vs.filterMap Fp.ilog).foldl (fun (a : Option Int) b => some (match a with | some x => max x b | none => b)) none
    let emax : Int := if c = 4 then 4 else 2
    let sc : Int := match top with | none => 0 | some t => max 0 (min 254 (t - emax + 127))
    match fmtOf c with
    | none => (0, [], 0)
    | some f =>
      let es := vs.map (fun v => match v with
        | .fin neg m e =>
          let r := f.roundMag m (e - (sc - 127)) false
          (if f.maxEnc < r then f.maxEnc + b2n neg * 2 ^ f.width else r + b2n neg * 2 ^ f.width, decide (f.maxEnc < r))
        | _ => (0, false))
      (sc.toNat, es.map Prod.fst, (es.filter Prod.snd).length)

/-- R210: element i of a block of bytes in FP4 or FP6. -/
def blockElem (c : Nat) (bytes : List Byte) (i : Nat) : Nat :=
  if c = 5 then bitsOf (leNat bytes) (4 * i) 4 else bitsOf (leNat bytes) (6 * i) 6

/-- R210: the bytes of a block of 32 elements, in FP4 or FP6. -/
def blockBytes (c : Nat) : Nat := if c = 5 then 16 else 24

/-- The encodings of n elements of a format that is not block-scaled, lowest address first. -/
def elemsOf (c : Nat) : Nat → List Byte → List Nat
  | 0, _ => []
  | n + 1, bs => leNat (bs.take (elemBytes c)) :: elemsOf c n (bs.drop (elemBytes c))

def bytesOf (c : Nat) (xs : List Nat) : List Byte := xs.flatMap (leBytes (elemBytes c))

/-- R210: the encodings of an operand row in a format: block b of a block-scaled format lies at b × its size. -/
def rowElems (c : Nat) (r : Row) : List Nat :=
  if isBlockFmt c then (List.range r.k).map (fun i => blockElem c ((r.data.drop (i / 32 * blockBytes c)).take (blockBytes c)) (i % 32))
  else elemsOf c r.k r.data

/-- A row's arrays have the sizes of R210. -/
def rowShapeOk (c : Nat) (r : Row) : Bool :=
  if isBlockFmt c then r.data.length = r.k / 32 * blockBytes c && r.scales.length = r.k / 32 else r.data.length = r.k * elemBytes c

/-! ## FP32 functions of the vector unit (R222) -/

/-- The signed integer that a finite value is, in units of 2^e0. -/
def alignTo (neg : Bool) (m : Nat) (e e0 : Int) : Int :=
  let v : Int := (m * 2 ^ (e - e0).toNat : Nat)
  if neg then -v else v

def roundInt (v e : Int) (sticky : Bool := false) : Nat := round32 (decide (v < 0)) v.natAbs e sticky

/-- Exact sum of two finite values, rounded once; zeros of unlike sign, and cancellation, give +0. -/
def addFin (n1 : Bool) (m1 : Nat) (e1 : Int) (n2 : Bool) (m2 : Nat) (e2 : Int) : Nat :=
  if m1 = 0 && m2 = 0 then zero32 (n1 && n2)
  else
    let e0 := min e1 e2
    let v := alignTo n1 m1 e1 e0 + alignTo n2 m2 e2 e0
    if v = 0 then 0 else roundInt v e0

def addV (a b : Fp) : Nat :=
  match a, b with
  | .nan, _ | _, .nan => nan32
  | .inf x, .inf y => if x = y then inf32 x else nan32
  | .inf x, _ => inf32 x
  | _, .inf y => inf32 y
  | .fin n1 m1 e1, .fin n2 m2 e2 => addFin n1 m1 e1 n2 m2 e2

/-- The exact product. -/
def mulFp (a b : Fp) : Fp :=
  match a, b with
  | .nan, _ | _, .nan => .nan
  | .inf x, .inf y => .inf (x != y)
  | .inf x, .fin n m _ => if m = 0 then .nan else .inf (x != n)
  | .fin n m _, .inf x => if m = 0 then .nan else .inf (x != n)
  | .fin n1 m1 e1, .fin n2 m2 e2 => .fin (n1 != n2) (m1 * m2) (e1 + e2)

def neg32 (x : Nat) : Nat := Nat.xor x (2 ^ 31)
def add32 (a b : Nat) : Nat := addV (dec32 a) (dec32 b)
def sub32 (a b : Nat) : Nat := add32 a (neg32 b)
def mul32 (a b : Nat) : Nat := enc32 (mulFp (dec32 a) (dec32 b))
def fma32 (a b c : Nat) : Nat := addV (mulFp (dec32 a) (dec32 b)) (dec32 c)

/-- Order of two finite or infinite values; with `zeros`, +0 exceeds −0. -/
def ltFp (a b : Fp) : Bool :=
  match a, b with
  | .nan, _ | _, .nan => false
  | .inf x, .inf y => x && !y
  | .inf x, _ => x
  | _, .inf y => !y
  | .fin n1 m1 e1, .fin n2 m2 e2 =>
    let e0 := min e1 e2
    alignTo n1 m1 e1 e0 < alignTo n2 m2 e2 e0

def isNan32 (x : Nat) : Bool := dec32 x == .nan
def isInf32 (x : Nat) : Bool := dec32 x == .inf true || dec32 x == .inf false

def max32 (a b : Nat) : Nat :=
  if isNan32 a || isNan32 b then nan32
  else if ltFp (dec32 a) (dec32 b) then b
  else if ltFp (dec32 b) (dec32 a) then a
  else if bitOf a 31 then b else a

def min32 (a b : Nat) : Nat :=
  if isNan32 a || isNan32 b then nan32
  else if ltFp (dec32 a) (dec32 b) then a
  else if ltFp (dec32 b) (dec32 a) then b
  else if bitOf a 31 then a else b

/-! ### Elementary functions, to 256 fraction bits -/

/-- The fraction bits of the fixed-point work. -/
def fxBits : Nat := 256
def fxOne : Nat := 2 ^ fxBits

/-- Σ z^(2i+1) ÷ (2i+1), for z in fixed point: the terms from index i on, `n` of them. -/
def atanhTerms : Nat → Nat → Nat → Nat → Nat
  | 0, _, _, _ => 0
  | n + 1, i, p, z2 => p / (2 * i + 1) + atanhTerms n (i + 1) (p * z2 / fxOne) z2

def atanhFx (z : Nat) : Nat := atanhTerms 90 0 z (z * z / fxOne)

/-- ln 2 in fixed point: 2 atanh(1 ÷ 3). -/
def ln2Fx : Nat := 2 * atanhFx (fxOne / 3)

/-- ln of m ÷ 2^k for a value in [1, 2). -/
def lnFx (m k : Nat) : Nat :=
  let x := m * fxOne / 2 ^ k
  2 * atanhFx ((x - fxOne) * fxOne / (x + fxOne))

/-- Σ t^i ÷ i!, for t in fixed point. -/
def expTerms : Nat → Nat → Nat → Nat → Nat
  | 0, _, _, _ => 0
  | n + 1, i, p, t => p + expTerms n (i + 1) (p * t / fxOne / (i + 1)) t

/-- 2^f for a fraction f in fixed point. -/
def exp2Fx (f : Nat) : Nat := expTerms 70 0 fxOne (f * ln2Fx / fxOne)

/-- 2^t for an exact t = v × 2^e, rounded once, with the limits of EXP2 (R222). -/
def exp2Of (neg : Bool) (m : Nat) (e : Int) : Nat :=
  if m = 0 then one32
  else
    let v := alignTo neg m e (-(fxBits : Int))
    if (128 : Int) * fxOne ≤ v then inf32 false
    else if v < -(126 : Int) * fxOne then 0
    else
      let n := v.fdiv fxOne
      let f := (v.fmod fxOne).toNat
      if f = 0 then round32 false 1 n else round32 false (exp2Fx f) (n - fxBits) true

def exp2_32 (x : Nat) : Nat :=
  match dec32 x with
  | .nan => nan32
  | .inf neg => if neg then 0 else inf32 false
  | .fin neg m e => exp2Of neg m e

/-- log2 e rounded to 48 significant bits: C × 2^47 of R222. -/
def log2eC : Nat := shiftRne (2 ^ (fxBits + fxBits) / ln2Fx) (fxBits - 47) true

/-- EXP: 2^(x × C), the product formed exactly. -/
def exp32 (x : Nat) : Nat :=
  match dec32 x with
  | .nan => nan32
  | .inf neg => if neg then 0 else inf32 false
  | .fin neg m e => exp2Of neg (m * log2eC) (e - 47)

/-- LOG: ln x. -/
def log32 (x : Nat) : Nat :=
  match dec32 x with
  | .nan => nan32
  | .inf neg => if neg then nan32 else inf32 false
  | .fin neg m e =>
    if m = 0 then inf32 true
    else if neg then nan32
    else
      let k := Nat.log2 m
      let n : Int := e + k
      let v : Int := n * ln2Fx + lnFx m k
      if v = 0 then 0 else roundInt v (-(fxBits : Int)) true

/-- RCP: 1 ÷ x. -/
def rcp32 (x : Nat) : Nat :=
  match dec32 x with
  | .nan => nan32
  | .inf neg => zero32 neg
  | .fin neg m e => if m = 0 then inf32 neg else round32 neg (fxOne / m) (-e - fxBits) (fxOne % m != 0)

/-- ⌊√n⌋, bit by bit from bit i − 1. -/
def sqrtBits : Nat → Nat → Nat → Nat
  | 0, r, _ => r
  | i + 1, r, n => sqrtBits i (if (r + 2 ^ i) * (r + 2 ^ i) ≤ n then r + 2 ^ i else r) n

def isqrt (n : Nat) : Nat := sqrtBits (Nat.log2 n / 2 + 1) 0 n

/-- RSQRT: 1 ÷ √x. -/
def rsqrt32 (x : Nat) : Nat :=
  match dec32 x with
  | .nan => nan32
  | .inf neg => if neg then nan32 else 0
  | .fin neg m e =>
    if m = 0 then inf32 neg
    else if neg then nan32
    else
      let m' := if e % 2 = 0 then m else 2 * m
      let e' := if e % 2 = 0 then e else e - 1
      let q := 2 ^ (2 * 200) / m'
      let r := isqrt q
      round32 false r (-(e' / 2) - 200) (r * r * m' != 2 ^ (2 * 200))

/-- R223: the pairwise tree over 2^n lanes. -/
def pairUp : List Nat → List Nat
  | a :: b :: r => add32 a b :: pairUp r
  | l => l

def sumTree : Nat → List Nat → Nat
  | 0, l => l.headD 0
  | n + 1, l => sumTree n (pairUp l)

/-- SUM over 64 lanes. -/
def sum64 (l : List Nat) : Nat := sumTree 6 l

/-- A sum in list order, by RNE. -/
def sumSeq (l : List Nat) : Nat := l.foldl add32 0

/-! ## Arrays (R215 to R220) -/

/-- R215: the pairs of formats that the arrays take. -/
def pairOk (a b : Nat) : Bool :=
  (isFp8 a && (isFp8 b || b == 7 || b == 8)) || (isFp8 b && (a == 7 || a == 8)) || (a == 6 && b == 6) ||
  (isBlockFmt a && isBlockFmt b) || (a == 7 && b == 7) || (a == 8 && b == 8)

/-- R566: the pairs that reduced service takes: FP8 × FP8, FP8 × BF16, FP8 × FP16, INT8 × INT8. -/
def pairReduced (a b : Nat) : Bool := pairOk a b && (isFp8 a || isFp8 b || a == 6)

/-- A product's floor log2, if it is finite and not zero. -/
def topExp (ps : List Fp) : Option Int :=
  (ps.filterMap Fp.ilog).foldl (fun (a : Option Int) b => some (match a with | some x => max x b | none => b)) none

/-- R217, steps 1 to 6, R219: the group sum of products, scaled by 2^k for a block-scaled pair. -/
def groupSum (ps : List Fp) (k : Int) : Nat :=
  let negInf := ps.any (· == .inf true)
  let posInf := ps.any (· == .inf false)
  if ps.any (· == .nan) || (negInf && posInf) then nan32
  else if negInf || posInf then inf32 negInf
  else match topExp ps with
    | none => 0
    | some t =>
      let e0 := t - 65
      let terms := ps.map (fun p => match p with
        | .fin neg m e =>
          if e0 ≤ e then (alignTo neg m e e0, false)
          else
            let sh := (e0 - e).toNat
            let v : Int := (m / 2 ^ sh : Nat)
            (if neg then -v else v, m % 2 ^ sh != 0)
        | _ => (0, false))
      let w := (terms.map Prod.fst).foldl (· + ·) 0
      if w = 0 then 0 else roundInt w (e0 + k) (terms.any Prod.snd)

/-- Products of two rows of elements. -/
def products (a b : List Fp) : List Fp := List.zipWith mulFp a b

/-- R211, R217, R218: one output of a tile block: the operands' elements along K, in groups of 32, added to the accumulator in ascending order.
`fuel` bounds the groups. -/
def dotAcc : Nat → List Fp → List Fp → Nat → Nat
  | 0, _, _, acc => acc
  | n + 1, a, b, acc =>
    if a.isEmpty then acc
    else dotAcc n (a.drop 32) (b.drop 32) (add32 acc (groupSum (products (a.take 32) (b.take 32)) 0))

def dot (a b : List Fp) (acc : Nat) : Nat := dotAcc (a.length / 32 + 1) a b acc

/-- R212: an element of a block with scale E whose value is 2^128 or more in magnitude is an infinity of its own sign. -/
def scaledElem (scale : Nat) : Fp → Fp
  | .fin neg m e => if m ≠ 0 && (255 : Int) ≤ e + Nat.log2 m + scale then .inf neg else .fin neg m e
  | v => v

/-- The same for a block-scaled pair: each group is one block with its two scales; a scale of 255 makes the group sum NaN (R209, R212, R219). -/
def blockDotAcc : Nat → List Fp → List Fp → List Nat → List Nat → Nat → Nat
  | 0, _, _, _, _, acc => acc
  | n + 1, a, b, sa, sb, acc =>
    if a.isEmpty then acc
    else
      let x := sa.headD 127
      let y := sb.headD 127
      let g := if x = 255 || y = 255 then nan32 else groupSum (products ((a.take 32).map (scaledElem x)) ((b.take 32).map (scaledElem y))) ((x : Int) + y - 254)
      blockDotAcc n (a.drop 32) (b.drop 32) (sa.drop 1) (sb.drop 1) (add32 acc g)

/-- One output of a tile block (R216 to R220). -/
def tileDot (fa fb : Nat) (a b : Row) (acc : Nat) : Nat :=
  let x := (rowElems fa a).map (decodeElem fa)
  let y := (rowElems fb b).map (decodeElem fb)
  if isBlockFmt fa then blockDotAcc (x.length / 32 + 1) x y (a.scales.map BitVec.toNat) (b.scales.map BitVec.toNat) acc else dot x y acc

/-- R226, R227: the residue of an integer significand modulo 7, by its 3-bit groups; the first argument bounds their number. -/
def residue7 : Nat → Nat → Nat
  | 0, _ => 0
  | f + 1, n => if n = 0 then 0 else (n % 8 + residue7 f (n / 8)) % 7

/-- R226, R227: a fault that the checks of a block see: one of the duplicated exponent path, or an error of a significand whose value is no multiple of 7. -/
def faultSeen (f : TileFault) : Bool := f.exponent || residue7 (f.err.natAbs + 1) f.err.natAbs ≠ 0

end Sys2Proof.Machine
end

