-- ==== Sys2Proof/Machine/Cox.lean ====
section
/-! DEFINITION. Sys2Proof/Machine/Cox.lean: what every command of the work paths shares: wake causes (R124, R127), descriptors (R144), chains
(R152 to R155), admission (R29, R265, R200), the end of a descriptor (R154, R183) and the issue of its completion entry (R145, R151, R156 to R158). -/

namespace Sys2Proof.Machine
open Sys2Proof

/-! ## Statuses (R15) -/

def stOK : Nat := 0x00
def stTruncated : Nat := 0x01
def stInvalid : Nat := 0x02
def stTransFault : Nat := 0x10
def stDenied : Nat := 0x11
def stUnreachable : Nat := 0x20
def stRetry : Nat := 0x21
def stStale : Nat := 0x22
def stMismatch : Nat := 0x30
def stAborted : Nat := 0x31
def stCheck : Nat := 0x32
def stArith : Nat := 0x40
def stFlushed : Nat := 0x50
def stQuiesced : Nat := 0x51
def stKeyErased : Nat := 0x60
def stInternal : Nat := 0x7F

def isOk (st : Nat) : Bool := st == stOK || st == stTruncated

/-! ## Descriptor header (R144) -/

def dOpcode (d : Desc) : Nat := dfld d 0 0 8
def dFirst (d : Desc) : Bool := dfld d 0 8 1 = 1
def dLast (d : Desc) : Bool := dfld d 0 9 1 = 1
def dCoal (d : Desc) : Bool := dfld d 0 10 1 = 1
def dFence (d : Desc) : Bool := dfld d 0 11 1 = 1
def dInt (d : Desc) : Bool := dfld d 0 12 1 = 1
def dPhase (d : Desc) : Nat := dfld d 0 13 3
def dFlags (d : Desc) : Nat := dfld d 0 16 16
def dQuad (d : Desc) (o : Nat) : Nat := dfld d o 0 64
def dWord (d : Desc) (o : Nat) : Nat := dfld d o 0 32

/-- A descriptor of the context family (R14). -/
def isContext (d : Desc) : Bool := 0x20 ≤ dOpcode d && dOpcode d < 0x40

/-- R280: DETACH of a context descriptor. -/
def dDetach (d : Desc) : Bool := isContext d && bitOf (dFlags d) 0

/-- R279: RESULT of an INVALID completion names a field: bit 31, and the field's offset. -/
def invalidAt (o : Nat) : Nat := 2 ^ 31 + o

/-! ## Queues of a function -/

def State.ringPg (_ : State) (fn r : Nat) : Nat := ringPage fn r

/-- Ring STATE of R141: 0 DISABLED, 1 RUNNING, 2 PAUSING, 3 PAUSED, 4 HOST_LOST, 5 FAULTED. -/
def State.ringState (s : State) (fn r : Nat) : Nat := s.getF (statusK (ringPage fn r)) 0 3
def State.setRingState (s : State) (fn r x : Nat) : State := s.setF (statusK (ringPage fn r)) 0 3 x

/-- CQ_STATE of R141: 0 DISABLED, 1 RUNNING, 2 HOST_LOST, 3 FAULTED. -/
def State.cqState (s : State) (fn r : Nat) : Nat := s.getF (statusK (ringPage fn r)) 5 2
def State.setCqState (s : State) (fn r x : Nat) : State := s.setF (statusK (ringPage fn r)) 5 2 x

/-- R138, R139: LOG2_DEPTH 0 to 5 act as 6, 17 to 31 as 16. -/
def depthOf (l : Nat) : Nat := 2 ^ (if l < 6 then 6 else if 16 < l then 16 else l)

def State.ringDepth (s : State) (fn r : Nat) : Nat := depthOf (s.getF (R.RNG_RING_CTRL fn r) 8 5)
def State.cqDepth (s : State) (fn r : Nat) : Nat := depthOf (s.getF (R.RNG_CQ_CTRL fn r + pairKey) 8 5)
def State.ringBase (s : State) (fn r : Nat) : Nat := s.pair (R.RNG_RING_BASE_LO fn r) (R.RNG_RING_BASE_HI fn r)
def State.cqBase (s : State) (fn r : Nat) : Nat :=
  (s.rd (R.RNG_CQ_BASE_LO fn r + 2 * pairKey)).toNat + 2 ^ 32 * (s.rd (R.RNG_CQ_BASE_HI fn r + 2 * pairKey)).toNat

/-- R139: the enable of a completion queue puts its depth and base into force: the depth under the key of RNG_CQ_CTRL plus `pairKey`, the base under its keys
plus twice `pairKey`. -/
def State.cqLatch (s : State) (fn r : Nat) : State :=
  let base := s.pair (R.RNG_CQ_BASE_LO fn r) (R.RNG_CQ_BASE_HI fn r)
  ((s.wr (R.RNG_CQ_CTRL fn r + pairKey) (s.rd (R.RNG_CQ_CTRL fn r))).wr (R.RNG_CQ_BASE_LO fn r + 2 * pairKey) (word base)).wr
    (R.RNG_CQ_BASE_HI fn r + 2 * pairKey) (word (base / 2 ^ 32))

/-- R138: the completion queue of a ring: CQ 0 is the page's own. -/
def State.ringCq (s : State) (fn r : Nat) : Nat :=
  let c := s.getF (R.RNG_RING_CTRL fn r) 16 4
  if c = 0 then r else c

/-- The function and completion queue page that a source's entries go to (R89, R138, R299). -/
def State.srcFn (s : State) : Source → Nat
  | .ring f _ => f
  | .pav f => f
  | .tq q => ((s.tqs.look q).map Tq.fn).getD 0

/-- A descriptor wrote data to a DEVICE_OWNED host page: its data went out non-snooped (R78, R97). -/
def State.noteData (s : State) (i fn va n : Nat) : State :=
  if s.touchesHost fn va n true then { s with ops := s.ops.upd i (fun o => { o with nonSnoop := true }) } else s

/-- R143: a refused write of a ring page: counted, REFUSED set, and logged in the page and in the manager's RNG page. -/
def State.ringErr (s : State) (fn r code cls : Nat) (t : Tags) (addr detail : Nat) : State :=
  (s.logErr (ringPage fn r) code cls fn t addr detail).logErr pRNG code cls fn t addr detail

def State.ringRefuse (s : State) (fn r code detail : Nat) : State :=
  ((s.bump (R.RNG_REJECT_COUNT fn r)).raiseInt (ringPage fn r) 3).ringErr fn r code clsDevice noTags 0 detail

/-! ## Admitted descriptors -/

def State.opDone (s : State) (i : Nat) : Bool := match s.op? i with | some o => o.st == .done | none => true

/-- R554: a trace record of an operation, from the CTX block. -/
def State.traceSrc (s : State) (fn : Nat) (d : Desc) (event a b : Nat) : State := s.trace 6 0 event fn (some (descTags d)) a b

/-- R554: operation started. -/
def State.traceStart (s : State) (o : Op) (arg1 : Nat) : State := s.traceSrc o.fn o.desc 0x02 (dOpcode o.desc) arg1

/-- YDT_OPS_IN_FLIGHT, YDT_TRACKERS and YDT_SEND_RECORDS. -/
def State.noteSlots (s : State) : State :=
  ((s.wr R.YDT_OPS_IN_FLIGHT (word s.ydt.xfers.length)).wr R.YDT_TRACKERS (word s.ydt.trackers.length)).wr R.YDT_SEND_RECORDS
    (word s.ydt.records.length)

/-- Free an initiator slot (R358). -/
def State.dropXfer (s : State) (i : Nat) : State := { s with ydt := { s.ydt with xfers := s.ydt.xfers.del i } }.noteSlots

/-- The slot that works for a descriptor. -/
def State.slotOf (s : State) (i : Nat) : Option (Nat × Xfer) := s.ydt.xfers.find? (fun e => e.2.owner = .op i)

/-- RESULT of R351: the bytes acknowledged or placed, and the highest ATTEMPT. -/
def Xfer.result (x : Xfer) : Nat := (x.acked.map (fun k => min 4096 (x.len - 4096 * k))).sum % 2 ^ 25 + 2 ^ 25 * min 15 x.hi

/-- A chain that has seen its LAST and has no descriptor left is gone. -/
def State.dropChain (s : State) (c : Nat) : State :=
  match s.chains.look c with
  | some ch => if ch.lastSeen && !(s.ops.any (fun x => x.2.chain = c)) then { s with chains := s.chains.del c } else s
  | none => s

/-- R280: the descriptor is an attend with TO_REDUCTION. -/
def toReduction (d : Desc) : Bool := (dOpcode d = 0x22 || dOpcode d = 0x23) && bitOf (dFlags d) 1

/-- R425: a HEAT with FROM_STORE that follows a detached attend: it ends by itself when the attend has ended without its partial. -/
def heatFollows (o p : Op) : Bool :=
  dDetach o.desc && p.pos = o.pos + 1 && p.store && dOpcode p.desc = 0x42 && dfld p.desc 0x28 25 1 = 1

/-! ## Trigger queues -/

def State.tq (s : State) (q : Nat) : Tq := (s.tqs.look q).getD ⟨0, 0, [], [], 0, [], none, []⟩

/-- R299, R304: the descriptors that the trigger store holds. -/
def State.storeUsed (s : State) : Nat :=
  (s.tqs.map (fun e => e.2.armed.length + ((e.2.pending.filter (·.once)).map (fun t => t.chain.length)).sum)).sum

/-- Replace a queue, with PENDING and CTX_TQ_ARMED_DESC. -/
def State.putTq (s : State) (q : Nat) (x : Tq) : State :=
  let s := { s with tqs := s.tqs.put q x }.setF (R.CTX_TQ_STATUS q) 8 5 x.pending.length
  s.wr R.CTX_TQ_ARMED_DESC (word s.storeUsed)

/-- R299: an arm that ends before its queue is ARMED leaves it UNARMED. -/
def State.armEnds (s : State) (i : Nat) : State :=
  match s.tqs.find? (fun (e : Nat × Tq) => e.2.armOp = some i) with
  | none => s
  | some e => (s.setF (R.CTX_TQ_STATUS e.1) 0 2 0).putTq e.1 { e.2 with armOp := none, armed := [], patches := [] }

/-! ## The end of a descriptor -/

/-- A descriptor's end, with its status and RESULT. The later descriptors of its chain are not executed: those already admitted and not started, and those
that ended at admission, complete FLUSHED with RESULT 0 (R154, R281). One that will have no completion entry leaves Cox. -/
def State.finishOp (s : State) (i status result : Nat) : State :=
  match s.op? i with
  | none => s
  | some o =>
    let s := s.traceSrc o.fn o.desc 0x03 status result
    let s := if isContext o.desc then s.count 6 0 0x02 o.fn (some (descTags o.desc)) 1 else s
    let s := match s.slotOf i with | some e => s.dropXfer e.1 | none => s
    let s := s.armEnds i
    let s := s.putOp i { o with st := .done, status := status, result := result, waitFault := false }
    let s : State := if isOk status then s
      else
        let s := { s with chains := s.chains.upd o.chain (fun c => { c with fail := some (min o.pos (c.fail.getD o.pos)) }) }
        { s with ops := s.ops.mapv (fun _ p =>
            if p.chain = o.chain && o.pos < p.pos && ((p.st == OpSt.admitted && !p.waitFault && !heatFollows o p) || p.early) then { p with st := .done, status := stFlushed, result := 0 }
            else p) }
    if o.issued then { s with ops := s.ops.keep (fun _ (p : Op) => !(decide (p.chain = o.chain) && p.issued && p.st == OpSt.done)) }.dropChain o.chain else s

/-- R366: a descriptor ends; while its slot has retransmitted anything, it first holds for the packet lifetime (HOLDING_END). -/
def State.endOp (s : State) (i status : Nat) : State :=
  match s.slotOf i with
  | none => s.finishOp i status 0
  | some (k, x) =>
    if x.lastRetrans.isSome && x.holding.isNone then
      { s with ydt := { s.ydt with xfers := s.ydt.xfers.put k { x with holding := some status } },
               ops := s.ops.upd i (fun o => { o with waitFault := false }) }
    else s.finishOp i status x.result

/-- The cluster that did a piece of work whose placement the manual leaves open: a free choice among those not power-gated (R233). -/
def State.someCluster (s : State) : Nat × State :=
  let c := s.pick ((List.range 16).filter (fun nn => !s.getB (R.CLS_TILE_STATE nn) 16))
  (c.1.getD 0, c.2)

/-- R276: an access of a cluster's DMA engine ended with TRANSLATION_FAULT or ACCESS_DENIED. The DMA engines serve COPY and the context operations. -/
def State.dmaFault (s : State) (o : Op) (va : Nat) : State :=
  if dOpcode o.desc = 1 || isContext o.desc then
    let c := s.someCluster
    (c.2.raiseInt (clsPage c.1) 4).logErr (clsPage c.1) 0x06 clsMemory o.fn (descTags o.desc) va 0
  else s

/-- R103: work whose next step meets host memory while the link is down stops there. Neither it nor what is left of its chain will have a completion entry. -/
def State.loseOp (s : State) (i : Nat) : State :=
  match s.op? i with
  | none => s
  | some o => { s with ops := s.ops.mapv (fun _ p => if p.chain = o.chain then { p with issued := true } else p) }.endOp i stFlushed

/-- R183, R316, R103: what an access failure makes of a descriptor: it waits on a fault, or it ends. `dma`: an engine made the access, not Cox. -/
def State.opFail (s : State) (i : Nat) (f : AccFail) (wr : Bool := false) (dma : Bool := true) : State :=
  match s.op? i with
  | none => s
  | some o =>
    match f with
    | .fault va p =>
      match s.raiseFault o.fn va wr p (if dma then .op i else .cox i) with
      | (s, .ended) => (if dma then s.dmaFault o va else s).endOp i stTransFault
      | (s, _) => s.putOp i { o with waitFault := true }
    | .denied va =>
      let s := s.logDenied o.fn va (descTags o.desc)
      (if dma then s.dmaFault o va else s).endOp i stDenied
    | .held _ => s
    | .lost _ => s.loseOp i
    | .poison _ => s.endOp i stCheck

/-- R152, R280: within a chain each descriptor starts only after those before it have finished, but for those with DETACH. -/
def State.chainReady (s : State) (o : Op) : Bool :=
  !(s.ops.any (fun e => e.2.chain = o.chain && e.2.pos < o.pos && e.2.st != .done && !dDetach e.2.desc))

/-- R155: a descriptor with FENCE starts only when every descriptor of its function admitted before it, its own chain excepted, has had its entry
issued. One that will have no entry leaves Cox when it has completed. -/
def State.fenceReady (s : State) (i : Nat) (o : Op) : Bool :=
  !dFence o.desc || !(s.ops.any (fun e => e.1 < i && e.2.fn = o.fn && e.2.chain ≠ o.chain))

/-- The tags of an admitted descriptor. -/
def State.opTags (s : State) (i : Nat) : Option Tags := (s.op? i).map (fun o => descTags o.desc)

/-- A descriptor that may run its own effect now: admitted with one of the given opcodes, not ended, not waiting on a fault, its chain's turn. -/
def State.runnable (s : State) (i : Nat) (codes : List Nat) : Option Op :=
  match s.op? i with
  | none => none
  | some o =>
    if o.st != .done && !o.waitFault && dOpcode o.desc ∈ codes && s.chainReady o && s.fenceReady i o then some o else none

/-- The opcodes that the chapters give (R14, R185, R278, R297, R299, R371, R412, R421 to R425, R461, R510, R560, R568). -/
def knownOpcodes : List Nat :=
  (List.range 0x79).filter (fun c => (1 ≤ c && c ≤ 8) || (0x20 ≤ c && c ≤ 0x25) || (0x40 ≤ c && c ≤ 0x43) || (0x60 ≤ c && c ≤ 0x64) || 0x70 ≤ c)

/-! ## Admission -/

/-- A WRITE, SEND or READ of YDT (R295, R296, R348). -/
def ydtTransfer (d : Desc) : Bool :=
  ((dOpcode d = 2 || dOpcode d = 4) && dfld d 0x2C 31 1 = 0) || (dOpcode d = 3 && dfld d 0x1C 31 1 = 0)

/-- R265, R341: a context descriptor waits while its function, or the device, is at its limit, and a YDT transfer while its function is. With a quota of 0
it is admitted, and completes ACCESS_DENIED. -/
def State.admitRoom (s : State) (fn : Nat) (d : Desc) : Bool :=
  if isContext d then
    let live := s.ops.filter (fun e => isContext e.2.desc && e.2.st != .done)
    let m := s.getF (R.CTX_FN_ADMIT_MAX fn) 0 13
    let m := if m = 0 then 64 else min m 4096
    (live.filter (fun e => e.2.fn = fn)).length < m && live.length < 4096
  else if ydtTransfer d then
    let m := s.getF (R.TRN_FN_YDT_OPS fn) 0 16
    m = 0 || (s.ops.filter (fun e => e.2.fn = fn && ydtTransfer e.2.desc && e.2.st != .done)).length < m
  else true

/-- R200: a quiesced function's queues take in nothing, but that under DRAIN an open chain is admitted up to its LAST. -/
def State.admitOpen (s : State) (fn : Nat) (q : Queue) (d : Desc) : Bool :=
  !s.fnCtrl fn 0 || (!s.fnCtrl fn 1 && q.chain.isSome && !dFirst d)

def State.newChain (s : State) (fn : Nat) (src : Source) (coal alone : Bool) : Nat × State :=
  let ch : Chain :=
    { fn := fn, src := src, coalesce := coal, count := 0, lastSeen := alone, cut := none, cutStatus := stInvalid, fail := none, alone := alone,
      start := s.uptime, last := none }
  (s.nextChain, { s with nextChain := s.nextChain + 1, chains := s.chains.put s.nextChain ch })

/-- R544, R554: an admission's counter event and trace record. -/
def State.noteAdmit (s : State) (fn : Nat) (src : Source) (w : Waiting) : State :=
  let t := some (descTags w.desc)
  let s := s.count 6 0 0x01 fn t 1
  s.trace (match src with | .ring _ _ => 4 | .pav _ => 3 | .tq _ => 6) 0 0x01 fn t (dOpcode w.desc) (w.seq.toNat + 2 ^ 32 * w.queue)

/-- n bytes of a function's DEVICE pages as a number, as Cox finds them without an operation's access; 0 elsewhere. -/
def State.peek (s : State) (fn va n : Nat) : Nat :=
  match s.walk fn va with
  | some (g, l) => if l.host then 0 else leNat (s.drams (l.addr + va % pageBytes g) n)
  | none => 0

/-- R270: what Cox's estimate of a tagged descriptor is computed from: of an attend, TOKEN_COUNT and k; of an append, T and the bytes of its weights (R250). Of the
others the manual names nothing: a free value stands for it. The estimate itself is `Config.estimate`. -/
def State.coxEstimate (s : State) (fn : Nat) (d : Desc) : (Nat × Nat) × State :=
  let h := dQuad d 0x10
  let layer := fun l => s.peek fn (h + 0x30) 8 + 64 * l
  if dOpcode d = 0x22 || dOpcode d = 0x23 then
    (Config.estimate (dOpcode d) (s.peek fn (layer (dfld d 0x2C 16 16)) 4) (if dOpcode d = 0x23 then dfld d 0x30 16 13 else 0), s)
  else if dOpcode d = 0x21 then
    (Config.estimate 0x21 (dfld d 0x24 0 16) (2 * s.peek fn (h + 0x0A) 1 * s.peek fn (h + 0x0C) 2 * s.peek fn (h + 0x14) 2), s)
  else
    let f := s.free
    (Config.estimate (dOpcode d) f.1 0, f.2)

/-- R484: a unit of the phase is queued or runs on some cluster. -/
def State.phaseOnTiles (s : State) (phase : Nat) : Bool :=
  s.tiles.tile.any (fun (e : Nat × Tile) => e.2.units.any (fun u => match s.op? u.1 with | some o => dPhase o.desc = phase | none => false))

/-- R270: Cox reports a tagged descriptor to Stroke at its admission. -/
def State.report (s : State) (fn : Nat) (d : Desc) (o : Op) : Op × State :=
  if dPhase d = 0 then (o, s)
  else
    let e := s.coxEstimate fn d
    let s := e.2
    ({ o with est := e.1, fresh := !s.phaseOnTiles (dPhase d) },
      { s with lastTag := dPhase d, pwr := { s.pwr with told := some (dPhase d, fn, e.1.1, e.1.2) } })

/-- Enter a descriptor in a chain. -/
def State.addOp (s : State) (fn : Nat) (src : Source) (w : Waiting) (c : Nat) (status : Option Nat) : State :=
  match s.chains.look c with
  | none => s
  | some ch =>
    let o : Op :=
      { fn := fn, src := src, seq := w.seq, queue := w.queue, desc := w.desc, chain := c, pos := ch.count, st := .admitted, status := 0,
        result := 0, issued := false, progress := 0, early := status.isSome || ch.fail.isSome, waitFault := false, nonSnoop := false, cached := false, probe := 0, est := (0, 0), fresh := false,
        store := match ch.last with | some l => toReduction l.2 | none => false, aux := [] }
    let i := s.nextOp
    let s := s.noteAdmit fn src w
    let e := s.report fn w.desc o
    let o := e.1
    let s := e.2
    let s := { s with nextOp := i + 1, ops := s.ops.put i o, chains := s.chains.put c { ch with count := ch.count + 1, last := some (w.seq, w.desc) } }
    match ch.fail, status with
    | some _, _ => s.putOp i { o with st := .done, status := stFlushed }
    | none, some st => s.finishOp i st 0
    | none, none => s

/-- R153: an open chain is cut after its last admitted descriptor. `st`: INVALID, or INSTANCE_QUIESCED by R200. When the entry of a chain without
CQ_ON_LAST has been issued already, the cut is reported only by code 0x09. Both codes name the last admitted descriptor (R143); code 0x06 is logged where
that descriptor, or the chain with CQ_ON_LAST, had not failed already. -/
def State.cutChain (s : State) (c st : Nat) : State :=
  match s.chains.look c with
  | none => s
  | some ch =>
    let lastIn := s.ops.any (fun e => e.2.chain = c && e.2.pos + 1 = ch.count)
    let single := ch.coalesce && ch.count ≠ 1
    let failed := if single then ch.fail.isSome else ch.fail.any (fun p => p + 1 ≤ ch.count)
    let tags := match ch.last with | some l => descTags l.2 | none => noTags
    let seq := match ch.last with | some l => l.1.toNat | none => 0
    let s := { s with chains := s.chains.put c { ch with cut := some ch.count, cutStatus := st, lastSeen := true } }
    match ch.src with
    | .ring f r =>
      if lastIn || single then (if st = stInvalid && !failed then s.ringErr f r 0x06 clsDevice tags 0 seq else s)
      else { s with chains := s.chains.del c }.ringErr f r 0x09 clsDevice tags 0 seq
    | _ => if lastIn then s else { s with chains := s.chains.del c }

/-- R153: a descriptor that completes alone with INVALID and is not executed. -/
def State.aloneInvalid (s : State) (fn : Nat) (src : Source) (w : Waiting) : State :=
  let c := s.newChain fn src false true
  let s := c.2.addOp fn src w c.1 (some stInvalid)
  match src with
  | .ring f r => s.ringErr f r 0x06 clsDevice (descTags w.desc) 0 w.seq.toNat
  | _ => s

/-- R146, R144: the checks at admission: SEQ_TAG of a ring descriptor under SEQ_CHECK, and PHASE 6 and 7. -/
def State.admitCheck (s : State) (src : Source) (w : Waiting) : State × Option Nat :=
  match src with
  | .ring f r =>
    if s.getB (R.RNG_RING_CTRL f r) 2 && dfld w.desc 0x0C 0 16 ≠ w.seq.toNat % 65536 then
      (s.ringErr f r 0x06 clsDevice (descTags w.desc) 0 w.seq.toNat, some stInvalid)
    else (s, if 5 < dPhase w.desc then some stInvalid else none)
  | _ => (s, if 5 < dPhase w.desc then some stInvalid else none)

/-- R152, R153: take one descriptor of a queue into its chain. The manual gives a 1,025th descriptor "without LAST": one that itself carries LAST is cut off and ends alone
in the same way, and as its LAST ends the chain there is nothing to discard after it (DESIGN CHOICE, log entry 98). -/
def State.admitInto (s : State) (fn : Nat) (src : Source) (w : Waiting) : State :=
  let q := s.queue src
  let d := w.desc
  if q.discarding && !dFirst d then
    (s.putQueue src { q with discarding := !dLast d }).aloneInvalid fn src w
  else if dFirst d then
    let s := match q.chain with | some c => s.cutChain c stInvalid | none => s
    let k := s.admitCheck src w
    let c := k.1.newChain fn src (dCoal d) false
    let s := c.2.addOp fn src w c.1 k.2
    if dLast d then
      { s with chains := s.chains.upd c.1 (fun ch => { ch with lastSeen := true }) }.putQueue src { q with chain := none, discarding := false }
    else s.putQueue src { q with chain := some c.1, discarding := false }
  else
    match q.chain with
    | none => s.aloneInvalid fn src w
    | some c =>
      let n := ((s.chains.look c).map Chain.count).getD 0
      if 1024 ≤ n then
        (((s.cutChain c stInvalid).putQueue src { q with chain := none, discarding := !dLast d }).aloneInvalid fn src w)
      else
        let k := s.admitCheck src w
        let s := k.1.addOp fn src w c k.2
        if dLast d then
          { s with chains := s.chains.upd c (fun ch => { ch with lastSeen := true }) }.putQueue src { q with chain := none }
        else s

/-- R153, R86: a Pavilion chain left open at the end of its doorbell write ends with INVALID. -/
def State.endBatch (s : State) (src : Source) (w : Waiting) : State :=
  let q := s.queue src
  match w.endsBatch, q.chain with
  | true, some c => (s.cutChain c stInvalid).putQueue src { q with chain := none }
  | _, _ => s

/-! ## Completion entries -/

/-- What one completion entry reports (R145). -/
structure Entry where
  seq : Word
  status : Nat
  source : Nat
  count : Nat
  tags : Tags
  result : Nat
  queue : Nat
  failIndex : Nat
  int : Bool
  ops : List Nat
  chain : Nat
deriving DecidableEq, Repr

def srcCode : Source → Nat
  | .ring _ _ => 0 | .pav _ => 1 | .tq _ => 2

/-- R145: the 32 bytes of entry c of a queue of depth 2^k. -/
def Entry.bytes (e : Entry) (c depth time : Nat) : List Byte :=
  let ph := 1 - c / depth % 2
  leBytes 4 e.seq.toNat ++ leBytes 4 (e.status + 256 * e.source + 1024 * e.count + 2 ^ 31 * ph) ++ leBytes 4 e.tags.job
    ++ leBytes 4 (e.tags.layer + 65536 * e.tags.oper) ++ leBytes 4 e.result ++ leBytes 4 (e.queue + 4096 * e.failIndex)
    ++ leBytes 8 (time % 2 ^ 63 + 2 ^ 63 * ph)

/-- The entry of one descriptor, without CQ_ON_LAST (R154, and R153 for the last of a chain that was cut). -/
def opEntry (i : Nat) (o : Op) (ch : Chain) : Entry :=
  let cutHere := ch.cut.isSome && o.pos + 1 = ch.count && isOk o.status
  let st := if cutHere then ch.cutStatus else o.status
  let fi := if isOk st then 0 else if cutHere then ch.count else if ch.alone then 0 else if o.status = stFlushed then ch.fail.getD o.pos else o.pos
  { seq := o.seq, status := st, source := srcCode o.src, count := 1, tags := descTags o.desc, result := if cutHere then 0 else o.result,
    queue := o.queue, failIndex := fi, int := dInt o.desc, ops := [i], chain := o.chain }

/-- The one entry of a chain with CQ_ON_LAST (R154; R153 when cut). R158 speaks of "an entry of a descriptor carrying INT": of the descriptors that the entry covers, any
that carries INT makes it set CQ_READY at once (DESIGN CHOICE, log entry 99). -/
def chainEntry (c : Nat) (ch : Chain) (os : List (Nat × Op)) : Option Entry :=
  match os.getLast? with
  | none => none
  | some l =>
    let failing := ch.fail.bind (fun p => os.find? (fun e => e.2.pos = p))
    let base : Entry :=
      { seq := l.2.seq, status := stOK, source := srcCode ch.src, count := ch.count, tags := descTags l.2.desc, result := l.2.result,
        queue := l.2.queue, failIndex := 0, int := os.any (fun e => dInt e.2.desc), ops := os.map Prod.fst, chain := c }
    match failing with
    | some f => some { base with status := f.2.status, tags := descTags f.2.desc, result := f.2.result, failIndex := f.2.pos }
    | none =>
      match ch.cut with
      | some n => some { base with status := ch.cutStatus, result := 0, failIndex := n }
      | none => some { base with status := if os.any (fun e => e.2.status = stTruncated) then stTruncated else stOK }

/-- The entry that the descriptor i makes ready, if its time has come: an ended descriptor, or an ended chain with CQ_ON_LAST. -/
def State.readyEntry (s : State) (i : Nat) (o : Op) : Option Entry :=
  match s.chains.look o.chain with
  | none => none
  | some ch =>
    if ch.coalesce && !(ch.count = 1 && ch.lastSeen) then
      let os := s.ops.filter (fun e => e.2.chain = o.chain)
      if ch.lastSeen && os.all (fun e => e.2.st == .done) then chainEntry o.chain ch os else none
    else if o.st == .done then some (opEntry i o ch) else none

/-- R151, R304: the next entry of a queue. A ring issues in sequence order; a Pavilion page issues what is ready; a trigger queue issues what is ready of its
oldest run, so that its entries go in trigger order. -/
def State.nextEntry (s : State) (src : Source) : Option Entry :=
  let os := s.ops.filter (fun e => e.2.src = src && !e.2.issued)
  match src with
  | .ring _ _ => match os with | [] => none | e :: _ => s.readyEntry e.1 e.2
  | .pav _ => os.findSome? (fun e => s.readyEntry e.1 e.2)
  | .tq _ =>
    match os with
    | [] => none
    | e :: _ => (os.filter (fun x => x.2.chain = e.2.chain)).findSome? (fun e => s.readyEntry e.1 e.2)

/-- Drop the descriptors an entry covers, and their chain when nothing of it is left. -/
def State.dropEntry (s : State) (e : Entry) : State := { s with ops := s.ops.keep (fun i _ => i ∉ e.ops) }.dropChain e.chain

/-- R158: announce the entries of a completion queue. -/
def State.announce (s : State) (fn r : Nat) : State :=
  let q := s.queue (.ring fn r)
  (s.putQueue (.ring fn r) { q with unannounced := 0 }).raiseInt (ringPage fn r) 0

/-- R158: the moderation rule after an entry. -/
def State.moderate (s : State) (fn r : Nat) (int : Bool) : State :=
  let q := s.queue (.ring fn r)
  let s := s.putQueue (.ring fn r) { q with unannounced := q.unannounced + 1 }
  let cnt := max 1 (s.getF (R.RNG_CQ_MOD fn r) 0 16)
  let tm := s.getF (R.RNG_CQ_MOD fn r) 16 16
  if int || tm = 0 || cnt ≤ q.unannounced + 1 then s.announce fn r else s

/-- R165: a completion queue enters FAULTED, with code 0x08; the entry and those after it are held. -/
def State.cqFault (s : State) (fn r addr seq : Nat) : State :=
  ((s.setCqState fn r 3).raiseInt (ringPage fn r) 5).ringErr fn r 0x08 clsMemory noTags addr seq

/-- R100: issue a probe to the page of the most recent non-snooped write. -/
def State.issueProbe (s : State) (op : Option Nat) : State :=
  { s.emit (.hostProbe s.hif.lastNonSnoop) with
    hif := { s.hif with probes := s.hif.probes ++ [⟨s.devTime, op⟩], writesSinceProbe := false } }

/-- Whether an entry must wait for a probe (R97, R102): a descriptor of it carries FENCE, or its data went out non-snooped and its completion queue's
page is SHARED through CXL.cache. The second part of the answer: the probe counts in HIF_CHANNEL_PROBES. The manual does not say whether the one probe of an
entry for which both hold counts there: here it does not (DESIGN CHOICE, log entry 100). -/
def State.needsProbe (s : State) (fn addr : Nat) (os : List Op) : Bool × Bool :=
  let shared := match s.walk fn addr with | some (_, l) => l.host && l.shared && s.ccOn | none => false
  let mixed := shared && os.any (fun o => o.nonSnoop)
  (os.any (fun o => dFence o.desc) || mixed, mixed && !os.any (fun o => dFence o.desc))

/-- R157, R544: the time an entry has waited for completion queue space enters RNG_CQ_STALL_TIME. -/
def State.cqStallCount (s : State) (fn r : Nat) (tags : Option Tags) : State :=
  let q := s.queue (.ring fn r)
  match q.stalled with
  | none => s
  | some t =>
    let s := s.putQueue (.ring fn r) { q with stalled := some s.uptime }
    (s.addUnits (R.RNG_CQ_STALL_TIME fn r) (s.uptime - t) 1000).count 4 0 0x03 fn tags ((s.uptime - t) / 1000)

/-- R157: no entry waits for space any more. -/
def State.cqStallEnd (s : State) (fn r : Nat) (tags : Option Tags) : State :=
  let s := (s.cqStallCount fn r tags).setB (statusK (ringPage fn r)) 4 false
  match (s.queue (.ring fn r)).stalled with
  | none => s
  | some _ => s.putQueue (.ring fn r) { s.queue (.ring fn r) with stalled := none }

/-- Write a ready entry to completion queue r of a function (R134, R145, R146, R156, R157). -/
def State.writeEntry (s : State) (env : HostView) (src : Source) (fn r : Nat) (e : Entry) : State :=
  let written := s.rd (R.RNG_CQ_WRITTEN_SEQ fn r)
  let seen := s.rd (R.RNG_HOST_SEEN_SEQ fn r)
  let depth := s.cqDepth fn r
  if depth ≤ (written - seen).toNat then
    if s.getB (statusK (ringPage fn r)) 4 then s
    else
      let s := s.putQueue (.ring fn r) { s.queue (.ring fn r) with stalled := some s.uptime }
      (s.setB (statusK (ringPage fn r)) 4 true).raiseInt (ringPage fn r) 1
  else
    let addr := s.cqBase fn r + 32 * (written.toNat % depth)
    let os := e.ops.filterMap s.op?
    let np := s.needsProbe fn addr os
    let st := (os.map Op.probe).foldl max 0
    if np.1 && st = 0 then
      match e.ops.getLast? with
      | none => s
      | some i =>
        let s := if np.2 then s.bump R.HIF_CHANNEL_PROBES else s
        match s.op? i with
        | none => s
        | some o => (s.issueProbe (some i)).putOp i { o with probe := 1 }
    else if np.1 && st = 1 then s
    else
      match s.vwrite env 4 fn addr (e.bytes written.toNat depth s.devTime) with
      | (s, some (.fault va p)) =>
        match s.raiseFault fn va true p (.entry src) with
        | (s, .ended) => s.cqFault fn r addr written.toNat
        | (s, _) => s
      | (s, some (.held _)) | (s, some (.lost _)) => s
      | (s, some (.denied va)) => (s.logDenied fn va noTags).cqFault fn r addr written.toNat
      | (s, some (.poison _)) => s.cqFault fn r addr written.toNat
      | (s, none) =>
        let s := (s.wr (R.RNG_CQ_WRITTEN_SEQ fn r) (written + 1)).cqStallEnd fn r (some e.tags)
        let s := match src with
          | .ring f k => s.wr (R.RNG_COMPLETED_SEQ f k) (s.rd (R.RNG_COMPLETED_SEQ f k) + word e.count)
          | _ => s
        let s := s.count 4 0 0x02 fn (some e.tags) 1
        (s.dropEntry e).moderate fn r e.int

/-- Issue the next entry of a source to completion queue r (R103, R156, R161, R165). -/
def State.issueEntry (s : State) (env : HostView) (src : Source) (fn r : Nat) : State :=
  match s.nextEntry src with
  | none => s
  | some e =>
    let lost := match src with
      | .ring f k => s.ringState f k = 4 || s.cqState fn r = 2
      | _ => s.cqState fn r ≠ 1
    if lost then (s.dropEntry e).cqStallEnd fn r (some e.tags)
    else if s.cqState fn r ≠ 1 then s
    else s.writeEntry env src fn r e

end Sys2Proof.Machine
end

