-- ==== Sys2Proof/Machine/Rings.lean ====
section
/-! DEFINITION. Sys2Proof/Machine/Rings.lean: rings, completion queues, fetching, admission and completion (chapter 05). -/

namespace Sys2Proof.Machine
open Sys2Proof

/-! ## Ring and queue control -/

/-- R147, R200: a doorbell is accepted while the ring is RUNNING, PAUSING or PAUSED, its function is not quiesced, P − producer is not negative and
P − completed does not exceed the depth. -/
def State.doorbellOk (s : State) (fn r : Nat) (v : Word) : Bool :=
  let st := s.ringState fn r
  (st = 1 || st = 2 || st = 3) && !s.fnCtrl fn 0 && 0 ≤ serial v (s.rd (R.RNG_PRODUCER_SEQ fn r)) &&
    (v - s.rd (R.RNG_COMPLETED_SEQ fn r)).toNat ≤ s.ringDepth fn r

/-- R147: a write to RNG_DOORBELL. -/
def State.ringDoorbell (s : State) (fn r : Nat) (v : Word) : State :=
  if s.doorbellOk fn r v then (s.wr (R.RNG_PRODUCER_SEQ fn r) v).wake .doorbell
  else s.ringRefuse fn r 0x01 v.toNat

/-- R554: a ring's state change, traced. -/
def State.moveRing (s : State) (fn r x : Nat) : State :=
  let old := s.ringState fn r
  if old = x then s else (s.setRingState fn r x).trace 4 r 0x07 fn none x old

/-- R149: the ring reaches PAUSED. -/
def State.ringPaused (s : State) (fn r : Nat) : State := (s.moveRing fn r 3).raiseInt (ringPage fn r) 4

/-- R149: PAUSE = 1 stops admission at the next chain boundary, at once when no chain is open; PAUSE = 0 resumes it. -/
def State.ringPauseSet (s : State) (fn r : Nat) (p : Bool) : State :=
  let s := s.setB (R.RNG_RING_CTRL fn r) 1 p
  let st := s.ringState fn r
  if p then
    if st = 1 then (if (s.queue (.ring fn r)).chain.isSome then s.moveRing fn r 2 else s.ringPaused fn r) else s
  else if st = 2 || st = 3 then s.moveRing fn r 1
  else s

/-- The ring's queue emptied: no prefetched descriptor, no fetch in flight, no chain open. -/
def State.emptyQueue (s : State) (fn r : Nat) : State :=
  let q := s.queue (.ring fn r)
  s.putQueue (.ring fn r) { q with cache := [], fetch := none, chain := none, discarding := false }

/-- R138: the ring's ENABLE goes from 0 to 1. The counts start at 0 and the prefetch cache is empty. While the target completion queue is not enabled the
write is ignored and counted, with code 0x05. -/
def State.ringEnable (s : State) (fn r : Nat) (v : Word) : State :=
  let k := R.RNG_RING_CTRL fn r
  let v := v &&& 0x000F1F07
  let cq := fld v 16 4
  let cq := if cq = 0 then r else cq
  if s.getB (R.RNG_CQ_CTRL fn cq) 0 then
    let s := s.wr k v
    let s := ((s.wr (R.RNG_PRODUCER_SEQ fn r) 0).wr (R.RNG_CONSUMED_SEQ fn r) 0).wr (R.RNG_COMPLETED_SEQ fn r) 0
    let s := (s.emptyQueue fn r).moveRing fn r 1
    if bit v 1 then s.ringPaused fn r else s
  else (s.wr k (setBit v 0 false)).ringRefuse fn r 0x05 v.toNat

/-- An open chain that no descriptor will follow: its queue forgets it. -/
def State.closeChain (s : State) (fn r : Nat) : State :=
  match (s.queue (.ring fn r)).chain with
  | none => s
  | some c => { s with chains := s.chains.upd c (fun ch => { ch with lastSeen := true }) }.dropChain c

/-- R140: ENABLE = 0 takes effect only in PAUSED, DISABLED, HOST_LOST or FAULTED with the completed count equal to the consumed count. The manual does not say whether
the other fields of a refused write act: here PAUSE does and SEQ_CHECK does not (DESIGN CHOICE, log entry 101). -/
def State.ringDisable (s : State) (fn r : Nat) (v : Word) : State :=
  let st := s.ringState fn r
  if (st = 3 || st = 0 || st = 4 || st = 5) && s.rd (R.RNG_COMPLETED_SEQ fn r) = s.rd (R.RNG_CONSUMED_SEQ fn r) then
    let s := ((s.wr (R.RNG_RING_CTRL fn r) (v &&& 0x000F1F07)).closeChain fn r).emptyQueue fn r
    { s with ops := s.ops.keep (fun _ o => !(o.src == Source.ring fn r && o.issued)) }.moveRing fn r 0
  else (s.ringPauseSet fn r (bit v 1)).ringRefuse fn r 0x05 v.toNat

/-- R138: a write of RNG_RING_CTRL. With ENABLE 1 kept, LOG2_DEPTH and CQ are ignored; SEQ_CHECK is stored and PAUSE acts. -/
def State.ringCtrlWrite (s : State) (fn r : Nat) (v : Word) : State :=
  let k := R.RNG_RING_CTRL fn r
  match bit v 0, s.getB k 0 with
  | true, false => s.ringEnable fn r v
  | false, true => s.ringDisable fn r v
  | true, true => (s.setB k 2 (bit v 2)).ringPauseSet fn r (bit v 1)
  | false, false => s.wr k (v &&& 0x000F1F07)

/-- R139: whether an enabled ring, an enabled MBX_CQ, or an ARMED or DISARMING trigger queue of the function names completion queue r. -/
def State.cqNamed (s : State) (fn r : Nat) : Bool :=
  ((List.range 16).any (fun k => k ≠ 0 && s.getB (R.RNG_RING_CTRL fn k) 0 && s.ringCq fn k = r)) ||
  (s.getB (R.MBX_CQ fn) 31 && s.getF (R.MBX_CQ fn) 0 16 = r) ||
  s.tqs.any (fun e => s.getF (R.CTX_TQ_OWNER e.1) 0 6 = fn && (let st := s.getF (R.CTX_TQ_STATUS e.1) 0 2; st = 1 || st = 2) &&
    (e.2.armCq = r || (e.2.cq = r && s.ops.any (fun o => o.2.src = .tq e.1))))

/-- R139: a write of RNG_CQ_CTRL. The depth and the base come into force when ENABLE changes from 0 to 1; later writes of them are stored. -/
def State.cqCtrlWrite (s : State) (fn r : Nat) (v : Word) : State :=
  let k := R.RNG_CQ_CTRL fn r
  let v' := v &&& 0x1F01
  match bit v 0, s.getB k 0 with
  | true, false =>
    let s := ((s.wr k v').wr (R.RNG_CQ_WRITTEN_SEQ fn r) 0).wr (R.RNG_HOST_SEEN_SEQ fn r) 0
    let s := (s.setCqState fn r 1).setB (statusK (ringPage fn r)) 4 false
    let s := s.cqLatch fn r
    let q := s.queue (.ring fn r)
    s.putQueue (.ring fn r) { q with unannounced := 0 }
  | false, true =>
    if s.cqNamed fn r then s.ringRefuse fn r 0x05 v.toNat
    else (s.wr k v').setCqState fn r 0
  | true, true => s.wr k v'
  | false, false => s.wr k v'

/-- R157, R164: a write of RNG_HOST_SEEN_SEQ. In RUNNING it releases space; in HOST_LOST or FAULTED it sets both counts and returns the queue to RUNNING;
outside its range, and in DISABLED, it is refused with code 0x03. -/
def State.hostSeenWrite (s : State) (fn r : Nat) (v : Word) : State :=
  let seen := s.rd (R.RNG_HOST_SEEN_SEQ fn r)
  let written := s.rd (R.RNG_CQ_WRITTEN_SEQ fn r)
  let inRange := 0 ≤ serial v seen && (v - seen).toNat ≤ (written - seen).toNat
  let st := s.cqState fn r
  if st = 1 && inRange then s.wr (R.RNG_HOST_SEEN_SEQ fn r) v
  else if (st = 2 || st = 3) && inRange then
    (((s.wr (R.RNG_HOST_SEEN_SEQ fn r) v).wr (R.RNG_CQ_WRITTEN_SEQ fn r) v).setCqState fn r 1).setB (statusK (ringPage fn r)) 4 false
  else s.ringRefuse fn r 0x03 v.toNat

/-- The admitted descriptors of a source will have no completion entry (R161, R164): those that have ended leave Cox, the others when they end. -/
def State.withoutEntries (s : State) (src : Source) : State :=
  let gone := (s.ops.filter (fun e => e.2.src = src && e.2.st == .done)).map (fun e => e.2.chain)
  let left := s.ops.keep (fun _ o => !(o.src == src && o.st == .done))
  let s := { s with ops := left.mapv (fun _ o => if o.src == src then { o with issued := true } else o) }
  gone.eraseDups.foldl (fun s c => s.dropChain c) s

/-- R164: a write of RNG_RESYNC_SEQ. The descriptors admitted before stay in Cox without an entry to come. -/
def State.resyncWrite (s : State) (fn r : Nat) (v : Word) : State :=
  let st := s.ringState fn r
  if (st = 4 || st = 5) && (s.rd (R.RNG_PRODUCER_SEQ fn r) - v).toNat ≤ s.ringDepth fn r then
    let s := (((s.wr (R.RNG_CONSUMED_SEQ fn r) v).wr (R.RNG_COMPLETED_SEQ fn r) v).closeChain fn r).emptyQueue fn r
    let s := s.withoutEntries (.ring fn r)
    if s.getB (R.RNG_RING_CTRL fn r) 1 then s.ringPaused fn r else s.moveRing fn r 1
  else s.ringRefuse fn r 0x02 v.toNat

/-- R150: a write of RNG_DCACHE_INV. -/
def State.dcacheInv (s : State) (fn r : Nat) (v : Word) : State :=
  if bit v 0 then
    if s.ringState fn r = 3 then
      let q := s.queue (.ring fn r)
      s.putQueue (.ring fn r) { q with cache := [], fetch := none }
    else s.ringRefuse fn r 0x04 v.toNat
  else s

/-! ## Fetching -/

/-- R148: how many descriptors a fetch reads: published and not cached, to at most 8 beyond the consumed count, not past the end of the ring. -/
def State.fetchCount (s : State) (fn r : Nat) : Nat :=
  let q := s.queue (.ring fn r)
  let n := q.cache.length
  let consumed := (s.rd (R.RNG_CONSUMED_SEQ fn r)).toNat
  let avail := (s.rd (R.RNG_PRODUCER_SEQ fn r) - s.rd (R.RNG_CONSUMED_SEQ fn r)).toNat - n
  let d := s.ringDepth fn r
  min (min avail (8 - n)) (d - (consumed + n) % d)

/-- R165: a fetch fault: the ring enters FAULTED with code 0x07, and its prefetched descriptors are discarded. R165 names them alone, where R159 has an event H clear
CHAIN_OPEN too: an open chain stays open until the resynchronisation or the disable (DEDUCED, log entry 102). -/
def State.fetchFault (s : State) (fn r addr seq : Nat) : State :=
  let s := s.putQueue (.ring fn r) { s.queue (.ring fn r) with cache := [], fetch := none }
  ((s.moveRing fn r 5).raiseInt (ringPage fn r) 5).ringErr fn r 0x07 clsMemory noTags addr seq

def waitings (r : Nat) (seq : Nat) : Nat → List Byte → List Waiting
  | 0, _ => []
  | n + 1, bs => ⟨word seq, r, BitVec.ofNat 512 (leNat (bs.take 64)), false⟩ :: waitings r (seq + 1) n (bs.drop 64)

/-- R148, R165: the fetch of a ring returns. -/
def State.fetchReturn (s : State) (env : HostView) (fn r : Nat) : State :=
  let q := s.queue (.ring fn r)
  match q.fetch with
  | none => s
  | some n =>
    let first := (s.rd (R.RNG_CONSUMED_SEQ fn r)).toNat + q.cache.length
    let addr := s.ringBase fn r + 64 * (first % s.ringDepth fn r)
    match s.vread env 4 fn addr (64 * n) with
    | (s, .ok bs) =>
      let q := s.queue (.ring fn r)
      let ws := waitings r first n bs
      ws.foldl (fun s w => s.count 4 0 0x01 fn (some (descTags w.desc)) 1) (s.putQueue (.ring fn r) { q with cache := q.cache ++ ws, fetch := none })
    | (s, .error (.fault va p)) =>
      match s.raiseFault fn va false p (.fetch fn r) with
      | (s, .ended) => s.fetchFault fn r va first
      | (s, _) => s
    | (s, .error (.held _)) | (s, .error (.lost _)) => s
    | (s, .error (.denied va)) => (s.logDenied fn va noTags).fetchFault fn r va first
    | (s, .error (.poison b)) => s.fetchFault fn r (64 * b) first

/-! ## Admission -/

/-- R149: at a chain boundary a PAUSING ring reaches PAUSED. -/
def State.pauseCheck (s : State) (src : Source) : State :=
  match src with
  | .ring f r => if s.ringState f r = 2 && (s.queue src).chain.isNone then s.ringPaused f r else s
  | _ => s

/-- The ring is in a state that admits (R149, R161). -/
def State.srcOpen (s : State) : Source → Bool
  | .ring f r => s.ringState f r = 1 || s.ringState f r = 2
  | _ => true

/-- R29, R86, R148, R200, R265: Cox takes the next descriptor of a queue, unless a limit, a pause or a quiesce holds it. The clocks of Cox run: the device
is active or leaving Z1 or Z2 (R86, R129). -/
def State.admitNext (s : State) (src : Source) : State :=
  let q := s.queue src
  let fn := s.srcFn src
  match q.cache with
  | [] => s
  | w :: rest =>
    if s.srcOpen src && s.admitOpen fn q w.desc && s.admitRoom fn w.desc && (s.idleState = 0 || s.exiting) then
      let s := s.putQueue src { q with cache := rest }
      let s := match src with
        | .ring f r => s.wr (R.RNG_CONSUMED_SEQ f r) (s.rd (R.RNG_CONSUMED_SEQ f r) + 1)
        | .pav f => if rest.any (fun x => x.queue = w.queue) then s else s.setB (R.MBX_SLOT_BUSY f) w.queue false
        | .tq _ => s
      ((s.admitInto fn src w).endBatch src w).pauseCheck src
    else s

/-! ## Meanings -/

/-- RNG_DOORBELL, R147. -/
def execRngDoorbell (fn ring : Nat) (v : Word) (s : State) : Res := .next (s.ringDoorbell fn ring v)

/-- RING_ENABLE, R138: a write of RNG_RING_CTRL with ENABLE = 1 while it is 0. -/
def execRingEnable (fn ring : Nat) (v : Word) (s : State) : Res :=
  .next (if bit v 0 && !s.getB (R.RNG_RING_CTRL fn ring) 0 then s.ringEnable fn ring v else s)

/-- RING_DISABLE, R140: a write of RNG_RING_CTRL with ENABLE = 0 while it is 1. -/
def execRingDisable (fn ring : Nat) (v : Word) (s : State) : Res :=
  .next (if !bit v 0 && s.getB (R.RNG_RING_CTRL fn ring) 0 then s.ringDisable fn ring v else s)

/-- CQ_ENABLE, R139: a write of RNG_CQ_CTRL with ENABLE = 1 while it is 0. -/
def execCqEnable (fn ring : Nat) (v : Word) (s : State) : Res :=
  .next (if bit v 0 && !s.getB (R.RNG_CQ_CTRL fn ring) 0 then s.cqCtrlWrite fn ring v else s)

/-- CQ_DISABLE, R139: a write of RNG_CQ_CTRL with ENABLE = 0 while it is 1. -/
def execCqDisable (fn ring : Nat) (v : Word) (s : State) : Res :=
  .next (if !bit v 0 && s.getB (R.RNG_CQ_CTRL fn ring) 0 then s.cqCtrlWrite fn ring v else s)

/-- RING_PAUSE, R149: a write of RNG_RING_CTRL with ENABLE and PAUSE 1 while the ring is enabled. -/
def execRingPause (fn ring : Nat) (v : Word) (s : State) : Res :=
  .next (if bit v 0 && bit v 1 && s.getB (R.RNG_RING_CTRL fn ring) 0 then s.ringCtrlWrite fn ring v else s)

/-- RING_RESUME, R149: a write of RNG_RING_CTRL with ENABLE 1 and PAUSE 0 while the ring is enabled. -/
def execRingResume (fn ring : Nat) (v : Word) (s : State) : Res :=
  .next (if bit v 0 && !bit v 1 && s.getB (R.RNG_RING_CTRL fn ring) 0 then s.ringCtrlWrite fn ring v else s)

/-- DCACHE_INV, R150. -/
def execDcacheInv (fn ring : Nat) (v : Word) (s : State) : Res := .next (s.dcacheInv fn ring v)

/-- HOST_SEEN_WRITE, R157: a write of RNG_HOST_SEEN_SEQ to a queue that is RUNNING or DISABLED. -/
def execHostSeenWrite (fn ring : Nat) (v : Word) (s : State) : Res :=
  .next (if s.cqState fn ring = 2 || s.cqState fn ring = 3 then s else s.hostSeenWrite fn ring v)

/-- CQ_RESYNC, R164: a write of RNG_HOST_SEEN_SEQ to a queue in HOST_LOST or FAULTED. -/
def execCqResync (fn ring : Nat) (v : Word) (s : State) : Res :=
  .next (if s.cqState fn ring = 2 || s.cqState fn ring = 3 then s.hostSeenWrite fn ring v else s)

/-- RESYNC_SEQ_WRITE, R164. -/
def execResyncSeqWrite (fn ring : Nat) (v : Word) (s : State) : Res := .next (s.resyncWrite fn ring v)

/-- DESCRIPTOR_FETCH, R148: RNG issues a fetch when there is room and a descriptor to fetch. -/
def execDescriptorFetch (fn ring : Nat) (s : State) : Res :=
  let q := s.queue (.ring fn ring)
  let st := s.ringState fn ring
  .next (if (st = 1 || st = 2 || st = 3) && q.fetch.isNone && 0 < s.fetchCount fn ring then
      s.putQueue (.ring fn ring) { q with fetch := some (s.fetchCount fn ring) }
    else s)

/-- FETCH_RETURN, R148 and R165. -/
def execFetchReturn (fn ring : Nat) (hv : HostView) (s : State) : Res := .next (s.fetchReturn hv fn ring)

/-- DESCRIPTOR_ADMIT, R29, R153. -/
def execDescriptorAdmit (src : Source) (s : State) : Res := .next (s.admitNext src)

/-- The completion queue of a source: a ring's own choice, MBX_CQ, or the queue named at arming. -/
def State.srcCq (s : State) : Source → Nat
  | .ring f r => s.ringCq f r
  | .pav f => s.getF (R.MBX_CQ f) 0 16
  | .tq q => ((s.tqs.look q).map Tq.cq).getD 0

/-- COMPLETION_ISSUE, R145, R151, R156 to R158. -/
def execCompletionIssue (src : Source) (hv : HostView) (s : State) : Res :=
  .next (s.issueEntry hv src (s.srcFn src) (s.srcCq src))

/-- CQ_MOD_TIMER, R158: the oldest unannounced entry has waited TIME. -/
def execCqModTimer (fn ring : Nat) (s : State) : Res :=
  .next (if 0 < (s.queue (.ring fn ring)).unannounced then s.announce fn ring else s)

end Sys2Proof.Machine
end

