-- ==== Sys2Proof/Machine/Host.lean ====
section
/-! DEFINITION. Sys2Proof/Machine/Host.lean: the host link, the coherent cache, Pavilion, MSI-X, event queues, probes (chapter 03) and the commands on the
common block of a page (chapter 04). -/

namespace Sys2Proof.Machine
open Sys2Proof

/-! ## Link -/

/-- R77: a bit of HIF_LINK_EVENTS is set, and a DEVICE event LINK_EVENT goes to the manager. -/
def State.linkEvent (s : State) (b : Nat) : State :=
  (s.setB R.HIF_LINK_EVENTS b true).event 0 pHIF 0x0003 0 clsDevice 0 0 (2 ^ b) 0

/-- R65: the widths and speeds of a mode (speed codes of R74). -/
def linkShapeOk (cxl : Bool) (width speed : Nat) : Bool :=
  if cxl then (width = 4 || width = 8 || width = 16) && 3 ≤ speed && speed ≤ 5
  else (width = 1 || width = 2 || width = 4 || width = 8 || width = 16) && 1 ≤ speed && speed ≤ 5

/-- The capabilities of configuration space (R69), with what each reports. -/
inductive Cap where
  | pciExpress (maxPayload maxRead outstanding : Nat) (tenBitTags : Bool)
  | msix (vectors : Nat)
  | sriov (vfs : Nat) (ari : Bool)
  | ats | pri | pasid | aer
  | doe (spdm cdat : Bool)
  | flexBus
  | cxlDevice (cacheCapable ioCapable memCapable : Bool)
deriving DecidableEq, Repr

/-- R65, R69: the capabilities of a function: the manager's, or an instance's. They are constants; no command of the table reads configuration space. -/
def capsOf (fn : Nat) : List Cap :=
  [.pciExpress 512 4096 768 true, .msix 32, .ats, .pri, .pasid] ++
    (if fn = 0 then [.sriov 63 true, .aer, .doe true true, .flexBus, .cxlDevice true true false] else [])

/-- LINK_TRAINED, R66, R74 to R77: training reaches L0. CXL mode needs CXL_ALLOWED, the host's negotiation, 8.0 GT/s or faster and x4 or wider. The first training
after a reset has no width and no speed before it, and sets neither WIDTH_CHANGED nor SPEED_CHANGED (DESIGN CHOICE, log entry 103). -/
def execLinkTrained (width speed : Nat) (negotiated reversed : Bool) (s : State) : Res :=
  let c := s.rd R.HIF_LINK_CTRL
  let cxl := bit c 0 && negotiated && 3 ≤ speed && 4 ≤ width
  let top := if fld c 4 3 = 0 then 5 else fld c 4 3
  .next (
    if s.hif.training && linkShapeOk cxl width speed && speed ≤ top then
      let sris := (bit c 2) != s.hif.refOther
      let st := width + 32 * speed + 256 + 512 * b2n cxl + 1024 * b2n (cxl && bit c 1) + 2048 * b2n reversed + 4096 * b2n sris
      let pw := s.hif.prevWidth
      let ps := s.hif.prevSpeed
      let s := { s with hif := { s.hif with training := false, refOther := false, prevWidth := width, prevSpeed := speed } }
      let s := s.wr R.HIF_LINK_STATUS (word st)
      let s := s.trace 2 0 0x07 0 none 1 0
      let s := if pw ≠ 0 && pw ≠ width then s.linkEvent 2 else s
      let s := if ps ≠ 0 && ps ≠ speed then s.linkEvent 3 else s
      if bit c 0 && !cxl then s.linkEvent 4 else s
    else s)

/-- REFCLK_RETRY, R76: the next attempt uses the other reference clock mode while AUTO_REFCLK is 1. -/
def execRefclkRetry (s : State) : Res :=
  .next (if s.hif.training && s.getB R.HIF_LINK_CTRL 3 then { s with hif := { s.hif with refOther := !s.hif.refOther } } else s)

/-- LINK_RECOVERY, R67: a pass through Recovery sets RECOVERED and nothing else. -/
def execLinkRecovery (s : State) : Res := .next (if s.linkUp then s.linkEvent 1 else s)

/-! ## Coherent cache -/

def State.ccStart (s : State) (a : CcAction) : State := { s with hif := { s.hif with ccActions := s.hif.ccActions ++ [a] } }

/-- R83: a write of HIF_CC_CTRL. ENABLE from 1 to 0, and WB_INV, each start a write-back and invalidation of the whole cache; ENABLE reads 0, and WB_INV
reads 0 again, once it completes. -/
def State.ccCtrlWrite (s : State) (v : Word) : State :=
  let en := s.getB R.HIF_CC_CTRL 0
  let s := if bit v 1 then (s.setB R.HIF_CC_CTRL 1 true).ccStart .wbInv else s
  if en && !bit v 0 then s.ccStart .disable else s.setB R.HIF_CC_CTRL 0 (bit v 0)

/-- CC_DISABLE, R83. -/
def execCcDisable (v : Word) (s : State) : Res := .next (if s.getB R.HIF_CC_CTRL 0 && !bit v 0 then s.ccCtrlWrite v else s)

/-- CC_WB_INV, R83. -/
def execCcWbInv (v : Word) (s : State) : Res := .next (if bit v 1 then s.ccCtrlWrite v else s)

/-- Every dirty line written back, the whole cache invalid (R83). -/
def State.ccFlush (s : State) : State :=
  let s := s.hif.lines.foldl (fun s e => s.ccWriteBack e.2.fn (e.1 % 2 ^ 51) e.2) s
  { s with hif := { s.hif with lines := [] } }

/-- The lines of a range of a function's addresses written back and invalid (R83, R189, R190). -/
def State.ccFlushRange (s : State) (fn va n : Nat) : State :=
  let hit := fun k => k / 2 ^ 51 = fn && va / 64 ≤ k % 2 ^ 51 && k % 2 ^ 51 < (va + n) / 64
  let s := s.hif.lines.foldl (fun s e => if hit e.1 then s.ccWriteBack e.2.fn (e.1 % 2 ^ 51) e.2 else s) s
  { s with hif := { s.hif with lines := s.hif.lines.keep (fun k _ => !hit k) } }

/-- SNOOP, R82: every snoop is answered, whether or not the line is present; a dirty line's bytes go to the host. -/
def execSnoop (fn line : Nat) (inv : Bool) (s : State) : Res :=
  let s := s.bump R.HIF_SNOOP_COUNT
  let k := ccKey fn line
  .next (match s.hif.lines.look k with
    | none => s.emit (.snoopReply line false false)
    | some l =>
      let s := (s.emit (.snoopReply line true l.dirty)).ccWriteBack fn line l
      if inv then { s with hif := { s.hif with lines := s.hif.lines.del k } }
      else { s with hif := { s.hif with lines := s.hif.lines.put k { l with dirty := false } } })

/-! ## Pavilion -/

/-- Byte o of a Pavilion page's slot area (R85). -/
def State.slotByte (s : State) (fn o : Nat) : Byte := BitVec.ofNat 8 ((s.rd (rkey (pavPage fn) (o / 4 * 4) 0)).toNat / 2 ^ (8 * (o % 4)))

def State.setSlotByte (s : State) (fn o : Nat) (b : Byte) : State :=
  s.setF (rkey (pavPage fn) (o / 4 * 4) 0) (8 * (o % 4)) 8 b.toNat

def State.setSlotBytes (s : State) (fn o : Nat) : List Byte → State
  | [] => s
  | b :: r => (s.setSlotByte fn o b).setSlotBytes fn (o + 1) r

/-- The descriptor in slot i. -/
def State.slotDesc (s : State) (fn i : Nat) : Desc := BitVec.ofNat 512 (leNat ((List.range 64).map (fun j => s.slotByte fn (0x400 + 64 * i + j))))

def State.slotBusy (s : State) (fn i : Nat) : Bool := s.getB (R.MBX_SLOT_BUSY fn) i

/-- R88, R200: whether a Pavilion page takes submissions: MBX_CQ enabled and naming an enabled completion queue, the function not quiesced. -/
def State.pavOpen (s : State) (fn : Nat) : Bool :=
  let c := s.rd (R.MBX_CQ fn)
  bit c 31 && 1 ≤ fld c 0 16 && fld c 0 16 ≤ 15 && s.getB (R.RNG_CQ_CTRL fn (fld c 0 16)) 0 && !s.fnCtrl fn 0

/-- R86, R153: submit slots, in ascending order; the last one ends the doorbell write. -/
def State.pavSubmit (s : State) (fn : Nat) : List Nat → State
  | [] => s
  | i :: r =>
    let q := s.queue (.pav fn)
    let w : Waiting := ⟨word q.submits, i, s.slotDesc fn i, r.isEmpty⟩
    let s := s.putQueue (.pav fn) { q with cache := q.cache ++ [w], submits := q.submits + 1 }
    (s.setB (R.MBX_SLOT_BUSY fn) i true).pavSubmit fn r

/-- R86, R88: a write of MBX_DOORBELL. R88 counts "any doorbell" while MBX_CQ is not enabled, and each bit for a busy slot: the first counts once for the write, however many
bits it has (DESIGN CHOICE, log entry 104). -/
def State.pavDoorbell (s : State) (fn : Nat) (v : Word) : State :=
  let asked := (List.range 8).filter (fun i => bit v i)
  if asked.isEmpty then s
  else if !s.pavOpen fn then s.bump (R.MBX_REJECT_COUNT fn)
  else
    let go := asked.filter (fun i => !s.slotBusy fn i)
    let s := s.bump (R.MBX_REJECT_COUNT fn) (asked.length - go.length)
    if go.isEmpty then s else (s.pavSubmit fn go).wake .pavilion

/-- MBX_DOORBELL, R86 and R88. -/
def execMbxDoorbell (fn : Nat) (v : Word) (s : State) : Res := .next (s.pavDoorbell fn v)

/-- R87, R88: a write into the store-and-submit area. -/
def State.pavGo (s : State) (fn off : Nat) (data : List Byte) : State :=
  let i := (off - 0x600) / 64
  if data.length = 64 && 0x600 ≤ off && off < 0x800 && off % 64 = 0 then
    if s.pavOpen fn && !s.slotBusy fn i then
      ((s.setSlotBytes fn (0x400 + 64 * i) data).pavSubmit fn [i]).wake .pavilion
    else s.bump (R.MBX_REJECT_COUNT fn)
  else s.bump (R.MBX_REJECT_COUNT fn)

/-- MBX_GO, R87. -/
def execMbxGo (fn off : Nat) (data : List Byte) (s : State) : Res := .next (s.pavGo fn off data)

/-- The enabled bytes of a write, each at its offset, are stored in the slot area. -/
def State.setSlotSome (s : State) (fn o : Nat) : List (Option Byte) → State
  | [] => s
  | some b :: r => (s.setSlotByte fn o b).setSlotSome fn (o + 1) r
  | none :: r => s.setSlotSome fn (o + 1) r

/-- R114, R88: a write into the slot area acts as one write to each slot it touches; the part beyond MBX_SLOT7 is discarded and counted. A byte of `data` that is none
is not enabled. -/
def State.pavSlotWrite (s : State) (fn off : Nat) (data : List (Option Byte)) : State :=
  let s := (List.range 8).foldl (fun s i =>
    let a := max off (0x400 + 64 * i)
    let part := (data.drop (a - off)).take (0x400 + 64 * (i + 1) - a)
    if 0x400 + 64 * i < off + data.length && off < 0x400 + 64 * (i + 1) && part.any Option.isSome then
      if s.slotBusy fn i then s.bump (R.MBX_REJECT_COUNT fn) else s.setSlotSome fn a part
    else s) s
  if (data.drop (0x600 - off)).any Option.isSome then s.bump (R.MBX_REJECT_COUNT fn) else s

/-- MBX_SLOT_WRITE, R114. -/
def execMbxSlotWrite (fn off : Nat) (data : List Byte) (s : State) : Res :=
  .next (if 0x400 ≤ off && off < 0x600 then s.pavSlotWrite fn off (data.map some) else s)

/-- PAVILION_TAKE, R86: the take waits for an admission limit or a quiesce with the slot busy. -/
def execPavilionTake (fn : Nat) (s : State) : Res := .next (s.admitNext (.pav fn))

/-! ## Event queues -/

/-- R92: LOG2_DEPTH 0 to 5 act as 6, 13 to 31 as 12. -/
def State.evqDepth (s : State) (fn : Nat) : Nat :=
  let l := s.getF (R.MBX_EVQ_CTRL fn) 8 5
  2 ^ (if l < 6 then 6 else if 12 < l then 12 else l)

def State.evqBase (s : State) (fn : Nat) : Nat := s.pair (R.MBX_EVQ_BASE_LO fn) (R.MBX_EVQ_BASE_HI fn)

/-- R92: a write of MBX_EVQ_CTRL. -/
def State.evqCtrlWrite (s : State) (fn : Nat) (v : Word) : State :=
  match bit v 0, s.getB (R.MBX_EVQ_CTRL fn) 0 with
  | true, false => ((s.wr (R.MBX_EVQ_CTRL fn) (v &&& 0x1F01)).wr (R.MBX_EVQ_WRITTEN fn) 0).wr (R.MBX_EVQ_SEEN fn) 0
  | false, true => s.setB (R.MBX_EVQ_CTRL fn) 0 false
  | true, true => s
  | false, false => s.wr (R.MBX_EVQ_CTRL fn) (v &&& 0x1F01)

/-- EVQ_ENABLE, R92. -/
def execEvqEnable (fn : Nat) (v : Word) (s : State) : Res :=
  .next (if bit v 0 && !s.getB (R.MBX_EVQ_CTRL fn) 0 then s.evqCtrlWrite fn v else s)

/-- EVQ_DISABLE, R92. -/
def execEvqDisable (fn : Nat) (v : Word) (s : State) : Res :=
  .next (if !bit v 0 && s.getB (R.MBX_EVQ_CTRL fn) 0 then s.evqCtrlWrite fn v else s)

/-- R92: a write of MBX_EVQ_SEEN outside the allowed range is ignored. -/
def State.evqSeenWrite (s : State) (fn : Nat) (v : Word) : State :=
  let seen := s.rd (R.MBX_EVQ_SEEN fn)
  if 0 ≤ serial v seen && (v - seen).toNat ≤ (s.rd (R.MBX_EVQ_WRITTEN fn) - seen).toNat then s.wr (R.MBX_EVQ_SEEN fn) v else s

/-- EVQ_SEEN_WRITE, R92. -/
def execEvqSeenWrite (fn : Nat) (v : Word) (s : State) : Res := .next (s.evqSeenWrite fn v)

/-- R93: the 32 bytes of an event record, number n of a queue of a depth. -/
def EvRec.bytes (e : EvRec) (n depth : Nat) (lost : Bool) : List Byte :=
  let ph := 1 - n / depth % 2
  leBytes 4 n ++ leBytes 4 (e.event + 2 ^ 16 * e.code + 2 ^ 24 * e.cls + 2 ^ 30 * b2n lost + 2 ^ 31 * ph)
    ++ leBytes 4 (e.block % 256 + 256 * (e.inst % 256) + 65536 * e.fn) ++ leBytes 4 e.detail ++ leBytes 8 e.addr
    ++ leBytes 8 (e.time % 2 ^ 63 + 2 ^ 63 * ph)

/-- R574: an event record write that fails: the record stays held, the queue is disabled, and the Pavilion page logs code 0x01. -/
def State.evqFail (s : State) (fn addr seq : Nat) : State :=
  (s.setB (R.MBX_EVQ_CTRL fn) 0 false).logErr (pavPage fn) 0x01 clsMemory fn noTags addr seq

/-- R95: the record that a write delivered leaves those held; what the write itself raised for the function stays behind it. `lost`: the mark that the record carried. -/
def State.eventSent (s : State) (fn : Nat) (lost : Bool) : State :=
  let f := s.fnEvents fn
  { s with events := s.events.put fn ⟨f.held.drop 1, f.lost && !lost⟩ }

/-- R95: write held records, in the order raised, while the queue takes them. The flag answers whether any was written. -/
def State.evqWrite (s : State) (env : HostView) (fn : Nat) : List EvRec → State × Bool
  | [] => (s, false)
  | e :: r =>
    let written := s.rd (R.MBX_EVQ_WRITTEN fn)
    let depth := s.evqDepth fn
    if depth ≤ (written - s.rd (R.MBX_EVQ_SEEN fn)).toNat then (s, false)
    else
      let addr := s.evqBase fn + 32 * (written.toNat % depth)
      let lost := (s.fnEvents fn).lost
      match s.vwrite env 4 fn addr (e.bytes written.toNat depth lost) with
      | (s, some (.fault va p)) =>
        match s.raiseFault fn va true p (.event fn) with
        | (s, .ended) => (s.evqFail fn addr written.toNat, false)
        | (s, _) => (s, false)
      | (s, some (.held _)) | (s, some (.lost _)) => (s, false)
      | (s, some (.denied va)) => ((s.logDenied fn va noTags).evqFail fn addr written.toNat, false)
      | (s, some (.poison _)) => (s.evqFail fn addr written.toNat, false)
      | (s, none) =>
        let s := s.eventSent fn lost
        let s := s.wr (R.MBX_EVQ_WRITTEN fn) (written + 1)
        ((s.evqWrite env fn r).1, true)

/-- EVENT_RECORD_WRITE, R95, R574: INT_STATUS.EVENT of the Pavilion page is set after one or more records. In Z1 and Z2 the coherent cache has been drained, and an
event H finds nothing to discard (R104): a record that goes through the cache there leaves no dirty line (DEDUCED, log entry 110). -/
def execEventRecordWrite (fn : Nat) (hv : HostView) (s : State) : Res :=
  .next (if s.getB (R.MBX_EVQ_CTRL fn) 0 && s.linkUp then
      let w := s.evqWrite hv fn (s.fnEvents fn).held
      let t := if w.2 then w.1.raiseInt (pavPage fn) 0 else w.1
      if s.idleState = 0 then t else t.ccFlush
    else s)

/-! ## Visibility -/

/-- R101: the visible time: it follows device time while no non-snooped write has been issued since the last probe and no probe is out. -/
def State.visibleTime (s : State) : Nat := if !s.hif.writesSinceProbe && s.hif.probes.isEmpty then s.devTime else s.hif.visible

/-- R85, R115: a read of MBX_VISIBLE_TIME_LO latches the high word. -/
def State.readVisible (s : State) (fn : Nat) : Word × State :=
  (word s.visibleTime, (s.wr (R.MBX_VISIBLE_TIME_LO fn) (word s.visibleTime)).wr (R.MBX_VISIBLE_TIME_HI fn) (word (s.visibleTime / 2 ^ 32)))

/-- VISIBLE_TIME_READ, R101: a flush read of LO, or of LO and HI. -/
def execVisibleTimeRead (fn words : Nat) (s : State) : Res :=
  let r := s.readVisible fn
  .next (r.2.emit (.readData (if 2 ≤ words then [r.1, r.2.rd (R.MBX_VISIBLE_TIME_HI fn)] else [r.1])))

/-- PROBE_PERIODIC, R101: while non-snooped writes are outstanding and HIF_PROBE_PERIOD is not 0. -/
def execProbePeriodic (s : State) : Res :=
  .next (if s.rd R.HIF_PROBE_PERIOD ≠ 0 && s.linkUp && (s.hif.writesSinceProbe || !s.hif.probes.isEmpty) then s.issueProbe none else s)

/-- PROBE_RETURN, R100, R102: the visible time advances to the probe's issue time if that is later; the entry that waits for it may go. -/
def execProbeReturn (issued : Nat) (s : State) : Res :=
  .next (match s.hif.probes.find? (fun p => p.issued = issued) with
    | none => s
    | some p =>
      let s := { s with hif := { s.hif with probes := s.hif.probes.erase p, visible := max s.hif.visible p.issued } }
      match p.op with
      | none => s
      | some i => { s with ops := s.ops.upd i (fun o => { o with probe := 2 }) })

/-! ## The common block, and MSI-X -/

/-- R71: an offset of the manager's BAR0 at which nothing is implemented. -/
def unimplemented (off : Nat) : Bool := off < 0x400000 && (0x340000 ≤ off || 0x1000 ≤ off % 0x10000)

/-- UNIMPLEMENTED_ACCESS, R71. -/
def execUnimplementedAccess (off : Nat) (write : Option Word) (s : State) : Res :=
  .next (if unimplemented off then
      let s := s.bump R.HIF_ERR_COUNT
      match write with | some _ => s | none => s.emit (.readData [0])
    else s)

/-- R112, R109: a write of INT_STATUS; clearing ERROR rearms the capture. -/
def State.intStatusWrite (s : State) (page : Nat) (v : Word) : State :=
  let s := s.wr (intK page) (s.rd (intK page) &&& ~~~v)
  let s := if bit v 31 then s.setB (statusK page) 31 false else s
  s.afterIntWrite page

/-- INT_STATUS_W1C, R112. -/
def execIntStatusW1c (page : Nat) (v : Word) (s : State) : Res := .next (if (pageKind page).isSome then s.intStatusWrite page v else s)

/-- INT_SET, R105, R5: each 1 sets the same bit of INT_STATUS, but no reserved one. -/
def execIntSet (page : Nat) (v : Word) (s : State) : Res := .next (if (pageKind page).isSome then s.raiseInts page v else s)

/-- R109, R5: a write of INT_ENABLE. -/
def State.intEnableWrite (s : State) (page : Nat) (v : Word) : State := (s.wr (enK page) (v &&& pageIntMask page)).afterIntWrite page

/-- INT_ENABLE_WRITE, R109. -/
def execIntEnableWrite (page : Nat) (v : Word) (s : State) : Res := .next (if (pageKind page).isSome then s.intEnableWrite page v else s)

/-- R90: a vector's mask is written; a message that was pending goes out once when the mask is cleared. -/
def State.msixMask (s : State) (fn vec : Nat) (masked : Bool) : State :=
  let m := s.msixEntry fn vec
  if masked then s.putMsix fn vec { m with masked := true }
  else
    let s := s.putMsix fn vec { m with masked := false, pending := false }
    if m.pending then s.msix fn vec else s

/-- MSI_X_UNMASK, R90: the host clears a vector's mask. -/
def execMsiXUnmask (fn vec : Nat) (s : State) : Res := .next (if fn < 64 && vec < 32 then s.msixMask fn vec false else s)

/-- R70: the MSI-X page of a function, which is its BAR4 or VF BAR2, has page number 1,088 plus the function (DESIGN CHOICE, log entry 105). -/
def msixPage (page : Nat) : Option Nat := if 1088 ≤ page && page < 1152 then some (page - 1088) else none

/-- R70, R90: a word of the MSI-X page: entry e of the table at 16 × e, as the PCIe base specification lays it out (address, upper address, data, vector control with
the mask in bit 0), and the pending bits at 0x800. -/
def State.msixRead (s : State) (fn off : Nat) : Word :=
  if off < 0x200 then
    let m := s.msixEntry fn (off / 16)
    word (match off / 4 % 4 with | 0 => m.addr | 1 => m.addr / 2 ^ 32 | 2 => m.data | _ => b2n m.masked)
  else if off = 0x800 then word (((List.range 32).filter (fun v => (s.msixEntry fn v).pending)).map (2 ^ ·)).sum
  else 0

/-- R70, R90: a write of a word of the MSI-X table. -/
def State.msixWrite (s : State) (fn off : Nat) (v : Word) : State :=
  if off < 0x200 then
    let m := s.msixEntry fn (off / 16)
    match off / 4 % 4 with
    | 0 => s.putMsix fn (off / 16) { m with addr := putBits m.addr 0 32 (v.toNat / 4 * 4) }
    | 1 => s.putMsix fn (off / 16) { m with addr := putBits m.addr 32 32 v.toNat }
    | 2 => s.putMsix fn (off / 16) { m with data := v.toNat }
    | _ => s.msixMask fn (off / 16) (bit v 0)
  else s

end Sys2Proof.Machine
end

