-- ==== Sys2Proof/Machine/Translate.lean ====
section
/-! DEFINITION. Sys2Proof/Machine/Translate.lean: the TLB, ATS and PRI, the fault queue, the memory management operations, and quotas (chapter 06). -/

namespace Sys2Proof.Machine
open Sys2Proof

/-! ## TLB -/

/-- R174: the entry a miss replaces: the least recently used among the entries of functions above their minimum and the function's own. -/
def State.tlbVictim (s : State) (fn : Nat) : Option TlbEntry :=
  let held := fun f => (s.trn.tlb.filter (fun e => e.fn = f)).length
  (s.trn.tlb.reverse).find? (fun e => e.fn = fn || s.getF (R.TRN_FN_TLB_MIN e.fn) 0 13 < held e.fn)

/-- R173, R174: enter a translation, as the most recently used. -/
def State.tlbPut (s : State) (e : TlbEntry) : State :=
  let rest := s.trn.tlb.filter (fun x => x.key ≠ e.key)
  let s := { s with trn := { s.trn with tlb := rest } }
  if rest.length < 4096 then { s with trn := { s.trn with tlb := e :: rest } }
  else match s.tlbVictim e.fn with
    | some v => { s with trn := { s.trn with tlb := e :: rest.erase v } }
    | none => s

/-- R177: remove the entries of a page. -/
def State.tlbDrop (s : State) (fn : Nat) (g : Bool) (page : Nat) : State :=
  { s with trn := { s.trn with tlb := s.trn.tlb.filter (fun e => e.key ≠ ptKey fn g page) } }

def State.missDone (s : State) (fn va : Nat) : State :=
  { s with trn := { s.trn with misses := s.trn.misses.filter (fun m => m ≠ (fn, s.tlbPage fn va)) } }

/-- TLB_MISS, R175: misses for one page are merged into one walk. -/
def execTlbMiss (fn va : Nat) (s : State) : Res :=
  .next (if s.tlbHit fn va then s
    else
      let s := (s.bump R.TRN_TLB_MISS_COUNT).count 5 0 0x01 fn none 1
      let m := (fn, s.tlbPage fn va)
      if m ∈ s.trn.misses then s else { s with trn := { s.trn with misses := s.trn.misses ++ [m] } })

/-- Enter the leaf of a page into the TLB with a target. -/
def State.tlbFill (s : State) (fn va : Nat) (t : TlbTarget) : State :=
  match s.walk fn va with
  | none => s
  | some (g, l) => s.tlbPut ⟨fn, g, va / pageBytes g, t, l.read, l.write, l.shared⟩

/-- The entries a walk reads (R175: at most four). -/
def State.walkReads (s : State) (fn va : Nat) : Nat :=
  match s.trn.roots.look fn with
  | none => 0
  | some _ => match s.walkEnd fn va with | .leaf true _ _ => 3 | _ => 4

/-- TLB_FILL, R175, R178, R172: the walk ends, its reads in the class FIRMWARE. A DEVICE leaf, or a HOST leaf reached untranslated, fills; a HOST leaf with ATS enabled
sends an ATS translation request for the whole page; no mapping raises a fault, and an entry that its level does not allow raises a MEMORY event beside. R172 gives
that event no code: it goes as LOGGED with code 0 (DESIGN CHOICE, log entry 106). -/
def execTlbFill (fn va : Nat) (write ats : Bool) (s : State) : Res :=
  .next (if (fn, s.tlbPage fn va) ∈ s.trn.misses && s.coreUp coreTrn then
      let s := s.served 5 (8 * s.walkReads fn va)
      let s := match s.walkEnd fn va with | .malformed a => s.event 0 pTRN 0x0001 0 clsMemory 0 fn 0 a | _ => s
      match s.walk fn va with
      | none => ((s.missDone fn va).raiseFault fn va write false .remote).1
      | some (g, l) =>
        if !l.host then (s.missDone fn va).tlbFill fn va (.device l.addr)
        else if ats then s.emit (.atsRequest fn (va / pageBytes g * pageBytes g))
        else (s.missDone fn va).tlbFill fn va .hostUntranslated
    else s)

/-- R176, R178: a translation completion covers the whole page, or less of it, or reports no permission. -/
def State.atsCompletion (s : State) (fn va : Nat) (whole : Option Nat) (permitted write : Bool) : State :=
  if (fn, s.tlbPage fn va) ∈ s.trn.misses then
    let k := s.tlbPage fn va
    let s := s.missDone fn va
    if !permitted then (s.raiseFault fn va write false .remote).1
    else match whole with
      | some a => s.tlbFill fn va (.hostAt a)
      | none =>
        let s := s.bump R.TRN_ATS_SHORT_COUNT
        let s := if (fn, k) ∈ s.trn.shortLogged then s
          else { s with trn := { s.trn with shortLogged := s.trn.shortLogged ++ [(fn, k)] } }.logErr pTRN 0x08 clsMemory fn noTags va 0
        s.tlbFill fn va .hostUntranslated
  else s

/-- ATS_COMPLETION, R176, R178; it waits while the core that serves translation restarts (R175, R26). -/
def execAtsCompletion (fn va : Nat) (whole : Option Nat) (permitted write : Bool) (s : State) : Res :=
  .next (if s.coreUp coreTrn then s.atsCompletion fn va whole permitted write else s.toInbox coreTrn (.ats fn va whole permitted write))

/-- ATS_INVALIDATION, R177: every matching entry of the function is removed, then the invalidation completion is sent. -/
def execAtsInvalidation (fn va len : Nat) (s : State) : Res :=
  let hit := fun (e : TlbEntry) => e.fn = fn &&
    e.page * pageBytes e.gib < va + len && va < (e.page + 1) * pageBytes e.gib
  .next ({ s with trn := { s.trn with tlb := s.trn.tlb.filter (fun e => !hit e) } }.emit (.atsInvDone fn va))

/-! ## Faults -/

/-- The waiting access goes on: it is tried again (R182). -/
def State.releaseWaiter (s : State) : Waiter → State
  | .op i => { s with ops := s.ops.upd i (fun o => { o with waitFault := false }) }
  | .cox i => { s with ops := s.ops.upd i (fun o => { o with waitFault := false }) }
  | _ => s

def State.faultAt (s : State) (fn va : Nat) : Option FaultQ :=
  s.trn.faults.find? (fun e => e.fn = fn && va / pageBytes e.gib = e.page)

def State.dropFault (s : State) (e : FaultQ) : State := { s with trn := { s.trn with faults := s.trn.faults.erase e } }

def State.setFaultSt (s : State) (e : FaultQ) (st : FaultSt) : State :=
  { s with trn := { s.trn with faults := s.trn.faults.map (fun x => if x = e then { x with st := st } else x) } }

/-- The tags of the descriptor that waits on a fault, if one does. -/
def State.faultTags (s : State) (e : FaultQ) : Tags :=
  (e.waiters.findSome? (fun w => match w with | .op i => (s.op? i).map (fun o => descTags o.desc) | .cox i => (s.op? i).map (fun o => descTags o.desc) | _ => none)).getD noTags

/-- R182, step 3: release every waiting access. -/
def State.releaseFault (s : State) (e : FaultQ) : State := e.waiters.foldl (fun s w => s.releaseWaiter w) (s.dropFault e)

/-- R180, R544: fabric cycles of 1.20 GHz in which some engine is stalled, from the time that the oldest stall counts from until now. Each cycle counts once, however
many engines are stalled: the stalls that go on count from now. -/
def State.stallCount (s : State) : State :=
  match s.trn.stalls with
  | [] => s
  | x :: r =>
    let since := r.foldl (fun m y => min m y.since) x.since
    let s := { s with trn := { s.trn with stalls := s.trn.stalls.map (fun (y : Stall) => ({ y with since := s.uptime } : Stall)) } }
    (s.addUnits R.TRN_FQ_STALL_CYCLES (6 * (s.uptime - since)) 5).count 5 0 0x03 0 none (6 * (s.uptime - since) / 5)

/-- R180: the stalls that a test picks end. -/
def State.stallsEnd (s : State) (gone : Stall → Bool) : State :=
  let left := s.trn.stalls.filter (fun x => !gone x)
  if s.trn.stalls.any gone then
    let s := s.stallCount
    { s with trn := { s.trn with stalls := left.map (fun (y : Stall) => ({ y with since := s.uptime } : Stall)) } }
  else s

/-- FAULT_STALL_RELEASE, R180, R179: a stalled engine whose page has an entry, or for which an entry is free, takes it. -/
def execFaultStallRelease (s : State) : Res :=
  let here := fun (st : Stall) (e : FaultQ) => e.fn = st.fn && e.gib = st.gib && e.page = st.va / pageBytes st.gib
  .next (match s.trn.stalls.find? (fun st => s.trn.faults.any (here st) || s.faultRoom st.fn) with
    | none => s
    | some st =>
      let faults := if s.trn.faults.any (here st) then s.trn.faults.map (fun e => if here st e then { e with waiters := e.waiters ++ [st.waiter] } else e)
        else s.trn.faults ++ [(⟨st.fn, st.va / pageBytes st.gib, st.gib, st.va, st.write, st.prefer, .queued, [st.waiter], s.uptime⟩ : FaultQ)]
      let s := s.stallsEnd (fun x => x = st)
      { s with trn := { s.trn with faults := faults } })

/-! ## Frames -/

/-- The device frames in use: (frame, part): a whole frame, or one of the 32 parts of a split one (R169). -/
def State.framesUsed (s : State) : List (Nat × Option Nat) :=
  (s.trn.roots.map Prod.fst).flatMap (fun f => (s.leavesOf f).filterMap (fun e =>
    if e.2.2.host then none else some (e.2.2.addr / gib, if e.1 then none else some (e.2.2.addr % gib / mib32))))

/-- R169: the addresses a page of a size could take. A 32 MiB page takes a free part of a frame already split, and splits a frame otherwise. -/
def State.framesFree (s : State) (g : Bool) : List Nat :=
  let used := s.framesUsed
  let whole := (List.range frameCount).filter (fun f => !used.any (fun u => u.1 = f))
  if g then whole.map (· * gib)
  else
    let split := (used.filterMap (fun u => u.2.map (fun _ => u.1))).eraseDups
    let parts := split.flatMap (fun f => ((List.range 32).filter (fun p => (f, some p) ∉ used)).map (fun p => f * gib + p * mib32))
    if parts.isEmpty then whole.map (· * gib) else parts

/-- R187: the units of 32 MiB a function has mapped to DEVICE pages: TRN_FN_MEM_USED. -/
def State.memUsed (s : State) (fn : Nat) : Nat :=
  ((s.leavesOf fn).map (fun e => if e.2.2.host then 0 else if e.1 then 32 else 1)).sum

/-- Fill a range of DRAM with zero by whole bursts, which replaces poison (R188, R315). -/
def State.zeroRange (s : State) (p n : Nat) : State :=
  { s with
    mem := if s.dramInit then s.mem.filter (fun c => c.1 < p || p + n ≤ c.1) else s.mem,
    msys := { s.msys with poison := s.msys.poison.keep (fun b _ => 64 * b < p || p + n ≤ 64 * b) } }

/-- Copy a page of host memory into a frame: the bytes the host answers, zero where it lists none. -/
def State.copyIn (s : State) (env : HostView) (va p n : Nat) : State :=
  (env.bytes.filter (fun b => va ≤ b.1 && b.1 < va + n)).foldl (fun s b => s.setDram (p + (b.1 - va)) b.2) (s.zeroRange p n)

/-- Why a page operation stops (REASON of R187); 0 is none; 7, which no REASON shows, stands for a page that is not to be read or written: it holds poison (R316), or a
channel is FAILED (R325). -/
def reasonStatus (r : Nat) : Nat :=
  if r = 0 then stOK else if r ≤ 2 then stDenied else if r ≤ 5 then stInvalid else if r = 6 then stTransFault else stCheck

/-- REASON 1 or 2, or a frame: what taking a frame for a function's page meets (R187). -/
def State.takeFrame (s : State) (fn : Nat) (g : Bool) : State × Except Nat Nat :=
  if s.getF (R.TRN_FN_MEM_QUOTA fn) 0 20 < s.memUsed fn + (if g then 32 else 1) then (s, .error 1)
  else match s.pick (s.framesFree g) with
    | (none, s) => (s, .error 2)
    | (some a, s) => (s, .ok a)

/-- Whether a page of the other size covers, or lies in, the page (REASON 5). -/
def State.otherSize (s : State) (fn : Nat) (g : Bool) (page : Nat) : Bool :=
  if g then (List.range 32).any (fun i => (s.leafAt fn false (32 * page + i)).isSome) else (s.leafAt fn true (page / 32)).isSome

/-- REASON 3, 4 or 5 of a page for an operation that wants it mapped or unmapped. -/
def State.pageReason (s : State) (fn : Nat) (g : Bool) (page : Nat) (wantMapped : Bool) : Nat :=
  if s.otherSize fn g page then 5
  else if (s.leafAt fn g page).isSome then (if wantMapped then 0 else 3)
  else if wantMapped then 4 else 0

/-! ## Memory management operations -/

/-- The fields of R186. -/
structure MmArgs where
  addr : Nat
  count : Nat
  g : Bool
  loc : Nat
  read : Bool
  write : Bool
  bias : Bool
  advice : Nat
deriving DecidableEq, Repr

def mmArgs (d : Desc) : MmArgs :=
  ⟨dQuad d 0x10, dfld d 0x18 0 24, dfld d 0x1C 0 1 = 1, dfld d 0x1C 1 2, dfld d 0x1C 3 1 = 1, dfld d 0x1C 4 1 = 1, dfld d 0x1C 5 1 = 1, dfld d 0x1C 8 3⟩

def MmArgs.page (a : MmArgs) : Nat := a.addr / pageBytes a.g

/-- R167, R186: the field that makes the descriptor INVALID, as RESULT of R279. -/
def MmArgs.bad (a : MmArgs) (needLoc needAdvice : Bool) : Option Nat :=
  if 2 ^ 57 ≤ a.addr || a.addr % pageBytes a.g ≠ 0 then some (invalidAt 0x10)
  else if 2 ^ 57 < a.addr + a.count * pageBytes a.g then some (invalidAt 0x18)
  else if needLoc && (a.loc = 0 || a.loc = 3) then some (invalidAt 0x1C)
  else if needAdvice && 3 < a.advice then some (invalidAt 0x1C)
  else none

/-- R187, R316: the completion of a page operation. -/
def State.mmFinish (s : State) (i done reason : Nat) : State := s.finishOp i (reasonStatus reason) (done + if reason = 7 then 0 else 2 ^ 24 * reason)

/-- R325: a channel is FAILED, and with it a burst of every page (R311). -/
def State.anyFailed (s : State) : Bool := (List.range 80).any (fun c => s.chanState c = 5)

/-- R19, R327: a page is written by whole bursts, in an arbitration class. -/
def State.pageWritten (s : State) (cls p n : Nat) : State := (s.served cls n).countRange 0x02 p n

/-- R188: map one page. Its fill with zero is the tiles' traffic. -/
def State.mapPage (s : State) (fn : Nat) (a : MmArgs) (page : Nat) : State × Nat :=
  let r := s.pageReason fn a.g page false
  if r ≠ 0 then (s, r)
  else if a.loc = 1 then
    if s.anyFailed then (s, 7)
    else match s.takeFrame fn a.g with
      | (s, .error r) => (s, r)
      | (s, .ok p) =>
        (((s.zeroRange p (pageBytes a.g)).pageWritten 0 p (pageBytes a.g)).putLeaf fn a.g page ⟨false, a.read, a.write, false, false, false, p⟩, 0)
  else (s.putLeaf fn a.g page ⟨true, a.read, a.write, a.bias, false, false, 0⟩, 0)

/-- R190: change one page's permissions and bias; SHARED to DEVICE_OWNED first writes back the page's lines. -/
def State.protectPage (s : State) (fn : Nat) (a : MmArgs) (page : Nat) : State × Nat :=
  let r := s.pageReason fn a.g page true
  if r ≠ 0 then (s, r)
  else match s.leafAt fn a.g page with
    | none => (s, 4)
    | some l =>
      let s := if l.host && l.shared && !a.bias then s.ccFlushRange fn (page * pageBytes a.g) (pageBytes a.g) else s
      let l' := { l with read := a.read, write := a.write, shared := if l.host then a.bias else l.shared }
      ((s.putLeaf fn a.g page l').tlbDrop fn a.g page, 0)

/-- R192: a HOST page's TLB entry is loaded: by an ATS request where ATS is enabled, whose completion fills it; untranslated otherwise. -/
def State.willUseHost (s : State) (fn va : Nat) (ats : Bool) : State :=
  if !ats then s.tlbFill fn va .hostUntranslated
  else if s.tlbHit fn va then s
  else
    let m := (fn, s.tlbPage fn va)
    let s := if m ∈ s.trn.misses then s else { s with trn := { s.trn with misses := s.trn.misses ++ [m] } }
    s.emit (.atsRequest fn va)

/-- R192: advise on one page. `ats`: ATS is enabled in the function's ATS capability. -/
def State.advisePage (s : State) (fn : Nat) (a : MmArgs) (ats : Bool) (page : Nat) : State × Nat :=
  let r := s.pageReason fn a.g page true
  if r ≠ 0 then (s, r)
  else match s.leafAt fn a.g page with
    | none => (s, 4)
    | some l =>
      if a.advice = 0 then ((s.putLeaf fn a.g page { l with prefer := false }).tlbDrop fn a.g page, 0)
      else if a.advice = 1 then
        (if l.host then (s.putLeaf fn a.g page { l with prefer := true }).tlbDrop fn a.g page else s, 0)
      else if a.advice = 2 then
        (if l.host then s.willUseHost fn (page * pageBytes a.g) ats else s.tlbFill fn (page * pageBytes a.g) (.device l.addr), 0)
      else (s.tlbDrop fn a.g page, 0)

/-- R189: remove one page whose BUSY is set: a SHARED page's lines are written back first, a DEVICE page's frame returns to the pool. -/
def State.unmapPage (s : State) (fn : Nat) (a : MmArgs) (page : Nat) : State × Nat :=
  let r := s.pageReason fn a.g page true
  if r ≠ 0 then (s, r)
  else match s.leafAt fn a.g page with
    | none => (s, 4)
    | some l =>
      let s := if l.host && l.shared then s.ccFlushRange fn (page * pageBytes a.g) (pageBytes a.g) else s
      let s := (s.delLeaf fn a.g page).tlbDrop fn a.g page
      ({ s with trn := { s.trn with unmapping := s.trn.unmapping.filter (· ≠ ptKey fn a.g page) } }, 0)

/-- R187: pages in ascending order, to the first that cannot be processed. Answers PAGES_DONE and REASON. -/
def State.eachPage (f : State → Nat → State × Nat) : State → Nat → Nat → Nat → State × Nat × Nat
  | s, _, 0, done => (s, done, 0)
  | s, page, n + 1, done =>
    match f s page with
    | (s, 0) => State.eachPage f s (page + 1) n (done + 1)
    | (s, r) => (s, done, r)

/-- A memory-management operation that may run: not while the channels that hold the page tables and the pages are in self-refresh (R132). -/
def State.mmReady (s : State) (i code : Nat) : Option Op := if s.idle.selfRefresh then none else s.runnable i [code]

/-- Run a page operation that ends in one step. -/
def State.mmRun (s : State) (i : Nat) (o : Op) (needLoc needAdvice : Bool) (f : MmArgs → State → Nat → State × Nat) : State :=
  let a := mmArgs o.desc
  match a.bad needLoc needAdvice with
  | some r => s.finishOp i stInvalid r
  | none =>
    let s := s.traceStart o 0
    let r := State.eachPage (f a) s a.page a.count 0
    r.1.mmFinish i r.2.1 r.2.2

/-- MAP, R188. -/
def execMap (op : Nat) (s : State) : Res :=
  .next (match s.mmReady op 0x60 with | none => s | some o => s.mmRun op o true false (fun a s p => s.mapPage o.fn a p))

/-- PROTECT, R190. -/
def execProtect (op : Nat) (s : State) : Res :=
  .next (match s.mmReady op 0x62 with | none => s | some o => s.mmRun op o false false (fun a s p => s.protectPage o.fn a p))

/-- ADVISE, R192. -/
def execAdvise (op : Advised) (s : State) : Res :=
  .next (match s.mmReady op.op 0x64 with | none => s | some o => s.mmRun op.op o false true (fun a s p => s.advisePage o.fn a op.ats p))

/-- R189, R205: a page of a range is BUSY for another operation, before this one starts. -/
def State.busyInRange (s : State) (fn : Nat) (a : MmArgs) : Bool :=
  (List.range a.count).any (fun i => match s.leafAt fn a.g (a.page + i) with | some l => l.busy | none => false)

/-- UNMAP, R189: it first sets BUSY on each page, so that later accesses fault; once accesses already translated have ended, it removes the pages. It waits for
a migration of one of them (R205). -/
def execUnmap (op : Nat) (s : State) : Res :=
  .next (match s.mmReady op 0x61 with
    | none => s
    | some o =>
      let a := mmArgs o.desc
      match a.bad false false with
      | some r => s.finishOp op stInvalid r
      | none =>
        if o.st == .running then
          let r := State.eachPage (fun s p => s.unmapPage o.fn a p) s a.page a.count 0
          r.1.mmFinish op r.2.1 r.2.2
        else if s.busyInRange o.fn a then s
        else
          let s := (s.traceStart o 0).putOp op { o with st := .running }
          (State.eachPage (fun s p =>
            let r := s.pageReason o.fn a.g p true
            match r, s.leafAt o.fn a.g p with
            | 0, some l =>
              let s := s.putLeaf o.fn a.g p { l with busy := true }
              ({ s with trn := { s.trn with unmapping := s.trn.unmapping ++ [ptKey o.fn a.g p] } }, 0)
            | 0, none => (s, 4)
            | r, _ => (s, r)) s a.page a.count 0).1)

/-- R191: clear BUSY on the pages of a range that a MIGRATE left it on. -/
def State.clearBusy (s : State) (fn : Nat) (a : MmArgs) : State :=
  (List.range a.count).foldl (fun s i => match s.leafAt fn a.g (a.page + i) with
    | some l => if l.busy then s.putLeaf fn a.g (a.page + i) { l with busy := false } else s
    | none => s) s

/-- R191, R327: move one page, in the class DMA. `tags`: those of the descriptor. -/
def State.movePage (s : State) (env : HostView) (fn : Nat) (a : MmArgs) (tags : Tags) (page : Nat) : State × Nat :=
  let r := s.pageReason fn a.g page true
  if r ≠ 0 then (s, r)
  else match s.leafAt fn a.g page with
    | none => (s, 4)
    | some l =>
      let va := page * pageBytes a.g
      let n := pageBytes a.g
      if l.host = (a.loc == 2) then (s.putLeaf fn a.g page { l with busy := false }, 0)
      else if a.loc = 1 then
        if !s.linkUp || env.deny.any (fun m => va / mib32 ≤ m && m < (va + n) / mib32) then (s, 6)
        else if s.anyFailed then (s, 7)
        else match s.takeFrame fn a.g with
          | (s, .error r) => (s, r)
          | (s, .ok p) =>
            let s := (s.ccFlushRange fn va n).copyIn env va p n
            (((s.pageWritten 1 p n).putLeaf fn a.g page ⟨false, l.read, l.write, false, false, false, p⟩).tlbDrop fn a.g page, 0)
      else if !s.linkUp || env.deny.any (fun m => va / mib32 ≤ m && m < (va + n) / mib32) then (s, 6)
      else
        match s.checkRange env 1 l.addr n fn tags with
        | (s, true) => (s, 7)
        | (s, false) =>
          let bytes := (s.mem.filter (fun c => l.addr ≤ c.1 && c.1 < l.addr + n)).map (fun c => (c.1 - l.addr, c.2))
          let req := if !a.bias then HostReq.writeNoSnoop else if s.ccOn then .itoMWr else .write
          let s := s.emit (.hostPage fn va n bytes req (s.hostRoute fn va))
          let s := if a.bias then s else s.noteNonSnoop (va + n - 1)
          ((s.putLeaf fn a.g page ⟨true, l.read, l.write, a.bias, false, false, 0⟩).tlbDrop fn a.g page, 0)

/-- MIGRATE, R191: it first sets BUSY on every page it will move; each later step moves one page, in ascending order. A page that goes to a DEVICE_OWNED host page is
written with No Snoop set, which R97 asks of the descriptor's completion. -/
def execMigrate (op : Nat) (hv : HostView) (s : State) : Res :=
  .next (match s.mmReady op 0x63 with
    | none => s
    | some o =>
      let a := mmArgs o.desc
      match a.bad true false with
      | some r => s.finishOp op stInvalid r
      | none =>
        if a.count = 0 then s.mmFinish op 0 0
        else if o.st == .admitted then
          if s.busyInRange o.fn a then s
          else
            let s := (s.traceStart o 0).putOp op { o with st := .running }
            (List.range a.count).foldl (fun s i => match s.leafAt o.fn a.g (a.page + i) with
              | some l => if l.host = (a.loc == 2) then s else s.putLeaf o.fn a.g (a.page + i) { l with busy := true }
              | none => s) s
        else
          let moved := (s.leafAt o.fn a.g (a.page + o.progress)).any (fun l => !l.host)
          match s.movePage hv o.fn a (descTags o.desc) (a.page + o.progress) with
          | (s, 0) =>
            let s := s.putOp op { o with progress := o.progress + 1, nonSnoop := o.nonSnoop || (moved && a.loc = 2 && !a.bias) }
            if o.progress + 1 = a.count then s.mmFinish op a.count 0 else s
          | (s, r) => (s.clearBusy o.fn a).mmFinish op o.progress r)

/-! ## PRI, and migration on fault -/

/-- R184: the quota or the free frames do not allow a migration on fault. -/
def State.migrateRoom (s : State) (fn : Nat) (g : Bool) : Bool :=
  s.memUsed fn + (if g then 32 else 1) ≤ s.getF (R.TRN_FN_MEM_QUOTA fn) 0 20 && !(s.framesFree g).isEmpty

/-- PRI_REQUEST, R182, R205: the core takes a queued entry. A PREFER_DEVICE fault starts a migration, or is served from host memory; while another operation holds the
page BUSY it waits, and where the page needs no migration any more its accesses are tried again. Any other fault sends one PRI page request for the 4 KiB-aligned
address, with the link up. -/
def execPriRequest (fn va : Nat) (s : State) : Res :=
  .next (match s.faultAt fn va with
    | none => s
    | some e =>
      if e.st ≠ .queued || !s.coreUp coreTrn then s
      else match e.prefer, s.leafAt fn e.gib e.page with
        | true, none => s.releaseFault e
        | true, some l =>
          if l.busy then s
          else if !(l.host && l.prefer && s.linkUp) then s.releaseFault e
          else if s.migrateRoom fn e.gib then (s.putLeaf fn e.gib e.page { l with busy := true }).setFaultSt e .migrating
          else ((s.putLeaf fn e.gib e.page { l with prefer := false }).bump (R.TRN_FN_MIGRATE_SKIP fn)).releaseFault e
        | false, _ => if !s.linkUp then s else (s.setFaultSt e .requested).emit (.priRequest fn (e.va / 4096 * 4096) (s.getF (R.TRN_FN_PASID fn) 0 20) e.write))

/-- MIGRATE_ON_FAULT_DONE, R184: the copy ends; the leaf becomes DEVICE with the same READ and WRITE bits and the waiting accesses are released. -/
def execMigrateOnFaultDone (fn va : Nat) (hv : HostView) (s : State) : Res :=
  .next (match s.faultAt fn va with
    | none => s
    | some e =>
      if e.st ≠ .migrating || s.idle.selfRefresh then s
      else match s.leafAt fn e.gib e.page with
        | none => s.releaseFault e
        | some l =>
          let n := pageBytes e.gib
          match s.takeFrame fn e.gib with
          | (s, .error _) =>
            ((s.putLeaf fn e.gib e.page { l with prefer := false, busy := false }).bump (R.TRN_FN_MIGRATE_SKIP fn)).releaseFault e
          | (s, .ok p) =>
            let s := ((s.ccFlushRange fn (e.page * n) n).copyIn hv (e.page * n) p n).pageWritten 4 p n
            ((s.putLeaf fn e.gib e.page ⟨false, l.read, l.write, false, false, false, p⟩).tlbDrop fn e.gib e.page).releaseFault e)

/-! ## Quotas -/

/-- R195: a quota register's fields and the limits of their sums over the 64 functions: (register of a function, low bit, width, limit). -/
def quotaFields : Nat → List ((Nat → Nat) × Nat × Nat × Nat)
  | 0x058 => [(R.TRN_FN_MEM_QUOTA, 0, 20, 19584)]
  | 0x060 => [(R.TRN_FN_TLB_MIN, 0, 13, 3584)]
  | 0x064 => [(R.TRN_FN_FQ_RESERVE, 0, 10, 448)]
  | 0x068 => [(R.TRN_FN_YDT_OPS, 0, 16, 32768)]
  | 0x06C => [(R.TRN_FN_QPS, 0, 13, 4096)]
  | 0x070 => [(R.TRN_FN_HEAT, 8, 8, 256), (R.TRN_FN_HEAT, 0, 8, 64)]
  | 0x074 => [(R.TRN_FN_KEYS, 0, 11, 1024)]
  | _ => []

/-- R199, R195, R202, R203: a refused write of the TRN page: counted, REFUSED set, logged. -/
def State.trnRefuse (s : State) (code fn detail : Nat) : State :=
  ((s.bump R.TRN_REFUSE_COUNT).raiseInt pTRN 3).logErr pTRN code clsDevice fn noTags 0 detail

/-- R195: a write of a quota register is taken, or refused if a sum would exceed its limit. -/
def State.quotaWrite (s : State) (reg fn : Nat) (v : Word) : State :=
  let beyond := (quotaFields reg).any (fun q =>
    q.2.2.2 < ((List.range 64).map (fun f => if f = fn then fld v q.2.1 q.2.2.1 else s.getF (q.1 f) q.2.1 q.2.2.1)).sum)
  if beyond then s.trnRefuse 0x05 fn v.toNat else s.writePlain pTRN reg fn v

/-- QUOTA_WRITE, R195. -/
def execQuotaWrite (reg fn : Nat) (v : Word) (s : State) : Res :=
  .next (if (quotaFields reg).isEmpty || 64 ≤ fn then s else s.quotaWrite reg fn v)

end Sys2Proof.Machine
end

