-- ==== Sys2Proof/Machine/Tiles.lean ====
section
/-! DEFINITION. Sys2Proof/Machine/Tiles.lean: tile blocks, checking, retirement and restore of tiles (chapter 07), and the dispatch of work units (R267, R268). -/

namespace Sys2Proof.Machine
open Sys2Proof

/-! ## Tiles -/

def tileKey (nn t : Nat) : Nat := 4 * nn + t

def State.tileAt (s : State) (nn t : Nat) : Tile := (s.tiles.tile.look (tileKey nn t)).getD ⟨[], none, [], false, [], 0⟩

def State.putTile (s : State) (nn t : Nat) (x : Tile) : State := { s with tiles := { s.tiles with tile := s.tiles.tile.put (tileKey nn t) x } }

/-- R236: RETIRED of a tile. -/
def State.tileRetired (s : State) (nn t : Nat) : Bool := s.getB (R.CLS_TILE_STATE nn) (4 * t)
def State.tileTesting (s : State) (nn t : Nat) : Bool := s.getB (R.CLS_TILE_STATE nn) (4 * t + 2)

/-- The 64 tiles. -/
def allTiles : List (Nat × Nat) := (List.range 64).map (fun i => (i / 4, i % 4))

def State.activeTiles (s : State) : List (Nat × Nat) := allTiles.filter (fun x => !s.tileRetired x.1 x.2)

def State.lastActive (s : State) (nn t : Nat) : Bool := s.activeTiles.all (fun x => x == (nn, t))

/-- A work-unit queue's depth in CLSnn_QUEUE_DEPTH, and BUSY of STATUS (R275). -/
def State.noteUnits (s : State) (nn t : Nat) : State :=
  let x := s.tileAt nn t
  (s.setF (R.CLS_QUEUE_DEPTH nn) (8 * t) 8 x.units.length).setB (statusK (clsPage nn)) t x.busy

/-- Set a tile's queue of units, and whether the one at its head runs. -/
def State.setUnits (s : State) (nn t : Nat) (l : List (Nat × Nat)) (busy : Bool) : State :=
  (s.putTile nn t { s.tileAt nn t with units := l, busy := busy && !l.isEmpty }).noteUnits nn t

/-- Place a unit on a tile's queue, at its head for a block moved by R229. -/
def State.addUnit (s : State) (nn t : Nat) (u : Nat × Nat) (atHead : Bool) : State :=
  let x := s.tileAt nn t
  if atHead then s.setUnits nn t (u :: x.units) false else s.setUnits nn t (x.units ++ [u]) x.busy

/-- A unit leaves a tile's queue. -/
def State.dropUnit (s : State) (nn t : Nat) (u : Nat × Nat) : State :=
  let x := s.tileAt nn t
  s.setUnits nn t (x.units.erase u) (x.busy && x.units.head? ≠ some u)

/-- R268: a tile can take a unit: active, with fewer than 16 queued (R267), its cluster's supply on, not under test. -/
def State.tileTakes (s : State) (nn t : Nat) : Bool :=
  !s.tileRetired nn t && (s.tileAt nn t).units.length < 16 && s.idle.clustersUp.contains nn && s.pwr.testing ≠ some (tileKey nn t)

/-- A message goes into the mailbox of a pair of cores (R497). One that waits there already says the same. -/
def State.toMail (s : State) (src dst : Nat) (m : CoreMsg) : State :=
  let l := (s.fwc.mail.look (6 * src + dst)).getD []
  if m ∈ l then s else { s with fwc := { s.fwc with mail := s.fwc.mail.put (6 * src + dst) (l ++ [m]) } }

/-- R234: the tile states of a cluster go into the configuration region of flash, for the next boot. -/
def State.saveTiles (s : State) (nn : Nat) : State :=
  { s with flash := { s.flash with tileState := s.flash.tileState.put nn (s.rd (R.CLS_TILE_STATE nn) &&& 0x13333) } }

/-- R234: the power and thermal core has the tile states recorded. That is core 4, and core 0 does every flash write (R496): the record waits for either that is not
up (R241, R506). -/
def State.recordTiles (s : State) (nn : Nat) : State :=
  if !s.coreUp 4 then s.toInbox 4 (.recordTiles nn)
  else if !s.coreUp 0 then s.toMail 4 0 (.recordTiles nn)
  else s.saveTiles nn

/-- A unit that no tile can take goes back to Cox, to be dispatched again. -/
def State.undispatch (s : State) (u : Nat × Nat) : State :=
  { s with tiles := { s.tiles with dispatched := s.tiles.dispatched.upd u.1 (fun l => l.erase u.2) } }

/-- R233: queued units of a retired tile go to other tiles that can take them (R267). -/
def State.moveUnits (s : State) (nn t : Nat) : List (Nat × Nat) → State
  | [] => s
  | u :: r =>
    match (s.dropUnit nn t u).pick (allTiles.filter (fun x => s.tileTakes x.1 x.2)) with
    | (none, s) => (s.undispatch u).moveUnits nn t r
    | (some x, s) => (s.addUnit x.1 x.2 u false).moveUnits nn t r

/-! ## The limit of a cluster's clock (R22, R233, R472) -/

/-- R22, R472: the fused maximum frequency of a tile, between 950 and 1,100 MHz. -/
def fusedFmax (t : Nat) : Nat := 950 + 10 * (Config.fusedFmax t % 16)

/-- R472: the current maximum frequency, never above the fused one. -/
def State.tileFmax (s : State) (t : Nat) : Nat := min (fusedFmax t) ((s.flash.fmax.look t).getD (fusedFmax t))

/-- R22, R233: the lowest current maximum frequency among the cluster's active tiles; 0 for a gated cluster. -/
def State.clusterLimit (s : State) (c : Nat) : Nat :=
  match (List.range 4).filter (fun t => !s.tileRetired c t) with
  | [] => 0
  | t :: r => (t :: r).foldl (fun m u => min m (s.tileFmax (4 * c + u))) (s.tileFmax (4 * c + t))

def State.clockOf (s : State) (c : Nat) : Nat := (s.pwr.clock.look c).getD 600
def State.targetOf (s : State) (c : Nat) : Nat := (s.pwr.target.look c).getD 600

/-- What PWR_CLUSTER_CLOCK shows. -/
def State.noteClock (s : State) (c : Nat) : State :=
  s.wr (R.PWR_CLUSTER_CLOCK c)
    (word (s.clockOf c + 65536 * s.clusterLimit c + 2 ^ 27 * b2n (s.pwr.stretched.contains c) + 2 ^ 28 * b2n (s.clockOf c != s.targetOf c)))

/-- R233: retire a tile: its state, the cluster's gating, and INT_STATUS.RETIRED. -/
def State.retireTile (s : State) (nn t : Nat) (byManager : Bool) : State :=
  let k := R.CLS_TILE_STATE nn
  let s := (s.setB k (4 * t) true).setB k (4 * t + 1) byManager
  let s := if (List.range 4).all (fun i => s.tileRetired nn i) then s.setB k 16 true else s
  let s := s.moveUnits nn t (s.tileAt nn t).units
  ((s.noteClock nn).raiseInt (clsPage nn) 1).recordTiles nn

/-- R232, R233: an automatic retirement, withheld for the last active tile. -/
def State.autoRetire (s : State) (nn t : Nat) : State :=
  if s.lastActive nn t then s.logEvent 0 (clsPage nn) 0x07 clsDevice nn 0 noTags 0 t
  else (s.retireTile nn t false).logEvent 0 (clsPage nn) 0x03 clsDevice nn 0 noTags 0 t

/-- An automatic retirement by a block under way: the block's unit is none of the queued ones, and stays where the retirement is withheld. -/
def State.retireUnder (s : State) (nn t : Nat) (u : Nat × Nat) : State :=
  let s := (s.dropUnit nn t u).autoRetire nn t
  if s.tileRetired nn t then s else s.addUnit nn t u true

/-- R232, R238: the tile's mismatches within WINDOW_MS have reached COUNT; a window of 0 counts all since boot or restore. -/
def State.limitReached (s : State) (nn t : Nat) : Bool :=
  let c := s.getF (R.CLS_RETIRE_LIMIT nn) 0 8
  let w := s.getF (R.CLS_RETIRE_LIMIT nn) 16 16
  let n := ((s.tileAt nn t).mismatches.filter (fun x => w = 0 || s.uptime - x ≤ w * 1000000)).length
  c ≠ 0 && c ≤ n

/-! ## Tile blocks -/

/-- R229, step 1, R240: count and log a mismatch of a tile. Injected ones do not count toward retirement (R232). -/
def State.noteMismatch (s : State) (nn t fn : Nat) (tags : Tags) (f : TileFault) (injected : Bool) : State :=
  let s := (s.bump (R.CLS_CHECK_COUNT nn t)).count 7 nn 0x05 fn (some tags) 1
  let s := (s.raiseInt (clsPage nn) 0).logErr (clsPage nn) (if f.exponent then 0x02 else 0x01) clsDevice fn tags 0
    (t + 16 * f.step + 4096 * f.row)
  let x := s.tileAt nn t
  if injected then s else s.putTile nn t { x with mismatches := s.uptime :: x.mismatches }

/-! ## Retirement and restore by the manager -/

/-- R237: RETIRE of one tile. -/
def State.managerRetire (s : State) (nn t : Nat) : State :=
  if s.tileRetired nn t then s
  else if s.lastActive nn t then s.logErr (clsPage nn) 0x06 clsDevice 0 noTags 0 t
  else (s.retireTile nn t true).event 0 (clsPage nn) 0x0002 1 clsDevice nn 0 0 0

/-! ## The runs of a tile block -/

/-- What a run of a block comes to: a fault that the checks see, with whether it was injected; or its end, with the row that an error the checks do not see has
spoilt (R227). -/
inductive RunEnd where
  | fault (f : TileFault) (injected : Bool)
  | ended (bad : Option Nat)
deriving DecidableEq, Repr

/-- A block's group steps and rows, in which an injection strikes. -/
structure BlockShape where
  steps : Nat
  rows : Nat
deriving DecidableEq, Repr

/-- One run of a block on a tile: a fault of its own, or the armed injection (R239), whose step and row are free values. A fault that coincides with the injection
counts as one mismatch, a real one (R241). `first`: a same-tile retry may follow, for which TWICE stays armed; `retry`: this is that retry. -/
def State.blockRun (s : State) (nn t : Nat) (z : BlockShape) (first retry : Bool) (own : Option TileFault) : RunEnd × State :=
  let x := s.tileAt nn t
  let inj := match x.inject with | some (e, tw) => if !retry || tw then some e else none | none => none
  let s := match x.inject with
    | some (_, tw) => if first && tw then s else s.putTile nn t { x with inject := none }
    | none => s
  match (own.filter (fun f => faultSeen f)), inj with
  | some f, _ => (.fault f false, s)
  | none, some e => let r := s.free; (.fault ⟨e, r.1 % max 1 z.steps, r.1 / 16 % max 1 z.rows, 1⟩ true, r.2)
  | none, none => (.ended ((own.filter (fun f => f.err ≠ 0)).map TileFault.row), s)

/-- An injection that was armed for a retry that does not run is spent (R229, R239). -/
def State.spendInject (s : State) (nn t : Nat) : State :=
  match (s.tileAt nn t).inject with
  | some _ => s.putTile nn t { s.tileAt nn t with inject := none }
  | none => s

/-- How a tile block ends: committed by a tile, with the row that an unseen error has spoilt; not recovered, on a tile (R229, step 4). -/
inductive BlockEnd where
  | commits (nn t : Nat) (bad : Option Nat)
  | fails (nn t : Nat)
deriving DecidableEq, Repr

/-- What a block carries through its runs: its function, its unit, its descriptor's tags and its shape. -/
structure BlockOf where
  fn : Nat
  u : Nat × Nat
  tags : Tags
  z : BlockShape
deriving DecidableEq, Repr

/-- R229, R232, step 3 on the device's last active tile: the block runs a third time there. -/
def State.lastRun (s : State) (nn t : Nat) (b : BlockOf) (own : Option TileFault) : State × BlockEnd :=
  match s.blockRun nn t b.z false false own with
  | (.ended bad, s) => (s, .commits nn t bad)
  | (.fault f inj, s) =>
    let s := s.noteMismatch nn t b.fn b.tags f inj
    (if !inj && s.limitReached nn t then s.autoRetire nn t else s, .fails nn t)

/-- R229, steps 3 and 4, from tile t of cluster nn: the block goes to the head of another active tile's queue and runs there. A tile that is retired before the block
reaches it is no failed attempt: another takes it (R241). -/
def State.moveRun (s : State) (nn t : Nat) (b : BlockOf) : List TileRun → State × BlockEnd
  | .retired :: r =>
    match s.pick (s.activeTiles.filter (fun x => x != (nn, t))) with
    | (none, s) => s.moveRun nn t b r
    | (some d, s) => (s.managerRetire d.1 d.2).moveRun nn t b r
  | own =>
    match s.pick (s.activeTiles.filter (fun x => x != (nn, t))) with
    | (none, s) => s.lastRun nn t b ((own.headD .clean).fault)
    | (some d, s) =>
      let s := ((s.bump (R.CLS_MOVED_COUNT nn)).dropUnit nn t b.u).addUnit d.1 d.2 b.u true
      match s.blockRun d.1 d.2 b.z false false ((own.headD .clean).fault) with
      | (.ended bad, s) => (s, .commits d.1 d.2 bad)
      | (.fault f inj, s) =>
        let s := s.noteMismatch d.1 d.2 b.fn b.tags f inj
        (if !inj && s.limitReached d.1 d.2 then s.retireUnder d.1 d.2 b.u else s, .fails d.1 d.2)

/-- R229, step 2: the same-tile retry, and step 3 when it mismatches too. The manager's retirement of the tile takes effect at once, and the retry goes on on another
tile (R241). -/
def State.retryRun (s : State) (nn t : Nat) (b : BlockOf) (own : List TileRun) : State × BlockEnd :=
  let s := s.bump (R.CLS_RETRY_COUNT nn)
  let gone := own.head? = some .retired && !s.lastActive nn t
  if gone then (((s.spendInject nn t).dropUnit nn t b.u).managerRetire nn t).moveRun nn t b (own.drop 1)
  else
    match s.blockRun nn t b.z false true ((own.headD .clean).fault) with
    | (.ended bad, s) => (s, .commits nn t bad)
    | (.fault f inj, s) =>
      let s := s.noteMismatch nn t b.fn b.tags f inj
      (if inj then s else s.retireUnder nn t b.u).moveRun nn t b (own.drop 1)

/-- R229: the runs of one tile block. `own`: what its runs meet of themselves, in their order. -/
def State.blockRuns (s : State) (nn t : Nat) (b : BlockOf) (own : List TileRun) : State × BlockEnd :=
  match s.blockRun nn t b.z true false ((own.headD .clean).fault) with
  | (.ended bad, s) => (s, .commits nn t bad)
  | (.fault f inj, s) =>
    let s := s.noteMismatch nn t b.fn b.tags f inj
    let s := if !inj && s.limitReached nn t then s.retireUnder nn t b.u else s
    if s.tileRetired nn t then (s.spendInject nn t).moveRun nn t b (own.drop 1) else s.retryRun nn t b (own.drop 1)

/-- The results of a block, by 32 × row + column (R216 to R220). -/
def blockOutputs (fa fb : Nat) (a b : List Row) (scale : Option Nat) (acc : Nat → Nat) : List (Nat × Nat) :=
  (List.range a.length).flatMap (fun r => (List.range b.length).map (fun c =>
    let k := 32 * r + c
    let v := tileDot fa fb (a.getD r ⟨0, [], []⟩) (b.getD c ⟨0, [], []⟩) (acc k)
    (k, match scale with | some m => if fa = 6 then mul32 v m else v | none => v)))

/-- R216, R275, R271: the cycles of a block: rows per group step, twice for BF16 and FP16 pairs. -/
def blockCycles (fa fb k rows : Nat) : Nat := ceilDiv k (if isBlockFmt fa then 64 else 32) * rows * (if fa = fb && (fa = 7 || fa = 8) then 2 else 1)

def State.noteCycles (s : State) (nn fn cycles columns : Nat) (tags : Tags) : State :=
  let s := ((s.count 7 nn 0x01 fn (some tags) 1).count 7 nn 0x02 fn (some tags) cycles).count 7 nn 0x03 fn (some tags) (cycles * columns)
  let s := (s.addUnits (R.CLS_ARRAY_CYCLES nn) cycles 128).addUnits (R.CLS_COLUMN_FILL nn) (cycles * columns) 4096
  let s := s.addUnits (R.CTX_FN_TILE_TIME fn) cycles 1024
  { s with tiles := { s.tiles with use := (s.uptime, fn, cycles) :: s.tiles.use.filter (fun u => s.uptime - u.1 ≤ 100000) } }

/-- The operands that R210, R211 and R216 allow. -/
def blockShapeOk (fa fb : Nat) (a b : List Row) (k : Nat) : Bool :=
  a.length ≤ 64 && b.length ≤ 32 && (a ++ b).all (fun r => r.k = k) && k ≤ (if isBlockFmt fa then 1024 else 512) &&
  a.all (rowShapeOk fa) && b.all (rowShapeOk fb)

/-- Commit a block's outputs to the tile SRAM of the tile that ran it, counting a NaN or an infinity once (R216, R219). -/
def State.commitBlock (s : State) (nn t fn : Nat) (outs : List (Nat × Nat)) : State :=
  let x := s.tileAt nn t
  let s := s.putTile nn t { x with acc := outs.foldl (fun (m : Tab Nat) o => m.put o.1 o.2) x.acc, accFn := fn }
  if outs.any (fun o => isNan32 o.2 || isInf32 o.2) then s.bump (R.CLS_NONFINITE_COUNT nn) else s

/-- R227: an error that the checks do not see leaves its row's outputs undefined: free values. -/
def State.spoilRow (s : State) (row : Nat) : List (Nat × Nat) → List (Nat × Nat) × State
  | [] => ([], s)
  | o :: r =>
    if o.1 / 32 = row then
      let f := s.free
      let q := f.2.spoilRow row r
      ((o.1, f.1 % 2 ^ 32) :: q.1, q.2)
    else
      let q := s.spoilRow row r
      (o :: q.1, q.2)

/-- A tile block of the unit at the head of the tile's queue. `ends`: it is the unit's last, so that the unit is done. The answer: the descriptor, if the block was not
recovered. -/
def State.tileBlock (s : State) (nn t fa fb : Nat) (load ends : Bool) (scale : Option Nat) (a b : List Row) (own : List TileRun) :
    State × Option Nat :=
  match (s.tileAt nn t).units with
  | [] => (s, none)
  | u :: r =>
    match s.op? u.1 with
    | none => (s, none)
    | some o =>
      if own.head? = some .retired && !s.lastActive nn t then (s.managerRetire nn t, none)
      else
        let k := (a.headD ⟨0, [], []⟩).k
        let x := s.tileAt nn t
        let acc := fun i => if load then (Tab.look x.acc i).getD 0 else 0
        let z : BlockOf := ⟨o.fn, u, descTags o.desc, ⟨ceilDiv k (if isBlockFmt fa then 64 else 32), a.length⟩⟩
        match (s.setUnits nn t (u :: r) true).blockRuns nn t z own with
        | (s, .commits dn dt bad) =>
          let outs := blockOutputs fa fb a b scale acc
          let q := match bad with | some row => s.spoilRow row outs | none => (outs, s)
          let s := (q.2.commitBlock dn dt o.fn q.1).noteCycles dn o.fn (blockCycles fa fb k a.length) b.length (descTags o.desc)
          (if ends then s.dropUnit dn dt u else s.setUnits dn dt (s.tileAt dn dt).units true, none)
        | (s, .fails dn dt) =>
          (((s.bump (R.CLS_UNRECOVERED_COUNT dn)).raiseInt (clsPage dn) 2).logErr (clsPage dn) 0x04 clsDevice o.fn (descTags o.desc) 0 dt, some u.1)

/-- R234: the restore of a tile starts its self-test. -/
def State.startRestore (s : State) (nn t : Nat) : State :=
  if s.tileRetired nn t then s.setB (R.CLS_TILE_STATE nn) (4 * t + 2) true else s

/-- R237: RESTORE of one tile; ignored for a tile that is not retired, held in Z1 and Z2. -/
def State.managerRestore (s : State) (nn t : Nat) : State :=
  if !s.tileRetired nn t then s
  else if s.idleState ≠ 0 then { s with tiles := { s.tiles with heldRestores := s.tiles.heldRestores ++ [tileKey nn t] } }
  else s.startRestore nn t

/-- R237: the restores held in Z1 or Z2 start when the device is active. -/
def State.releaseRestores (s : State) : State :=
  let l := s.tiles.heldRestores
  let s := { s with tiles := { s.tiles with heldRestores := [] } }
  l.foldl (fun s k => s.startRestore (k / 4) (k % 4)) s

/-- R237: a write of CLSnn_TILE_CTRL. A tile with both bits set is retired alone. -/
def State.tileCtrlWrite (s : State) (nn : Nat) (v : Word) : State :=
  (List.range 4).foldl (fun s t =>
    if bit v t then s.managerRetire nn t else if bit v (4 + t) then s.managerRestore nn t else s) s

/-- R239: a write of CLSnn_CHECK_INJECT. -/
def State.injectWrite (s : State) (nn : Nat) (v : Word) : State :=
  let t := fld v 0 2
  if s.tileRetired nn t then s else s.putTile nn t { s.tileAt nn t with inject := some (bit v 2, bit v 3) }

/-- TILE_RETIRE, R237: a write of CLSnn_TILE_CTRL with a RETIRE bit. -/
def execTileRetire (nn : Nat) (v : Word) (s : State) : Res := .next (if nn < 16 && fld v 0 4 ≠ 0 then s.tileCtrlWrite nn v else s)

/-- TILE_RESTORE, R234: a write of CLSnn_TILE_CTRL with a RESTORE bit and no RETIRE bit. -/
def execTileRestore (nn : Nat) (v : Word) (s : State) : Res :=
  .next (if nn < 16 && fld v 0 4 = 0 && fld v 4 4 ≠ 0 then s.tileCtrlWrite nn v else s)

/-- CHECK_INJECT, R239. -/
def execCheckInject (nn : Nat) (v : Word) (s : State) : Res := .next (if nn < 16 then s.injectWrite nn v else s)

/-! ## Dispatch of work units -/

/-- R268: the tile-cycles of a function over the last 100 µs. -/
def State.tileUse (s : State) (fn : Nat) : Nat :=
  ((s.tiles.use.filter (fun u => u.2.1 = fn && s.uptime - u.1 ≤ 100000)).map (fun u => u.2.2)).sum

def State.guarantee (s : State) (fn : Nat) : Nat := s.getF (R.CTX_FN_SHARE fn) 0 8

/-- R272, R273: CAP: 0 and values above 256 act as 256, a cap below the guarantee acts as the guarantee. -/
def State.cap (s : State) (fn : Nat) : Nat :=
  let c := s.getF (R.CTX_FN_SHARE fn) 8 9
  max (if c = 0 || 256 < c then 256 else c) (s.guarantee fn)

/-- The order within a function: Pavilion pages and trigger queues, then rings; each in admission order. -/
def unitOrder (l : List (Nat × Op)) : List (Nat × Op) :=
  let isRing := fun (o : Op) => match o.src with | .ring _ _ => true | _ => false
  l.filter (fun e => !isRing e.2) ++ l.filter (fun e => isRing e.2)

/-- R268: the function that gets the next unit. -/
def State.chooseFn (s : State) (queued : List Nat) (offered : Nat) : Option Nat :=
  let eligible := queued.filter (fun f => s.tileUse f * 256 < s.cap f * offered)
  let under := eligible.filter (fun f => s.tileUse f * 256 < s.guarantee f * offered)
  let pool := if under.isEmpty then eligible else under
  pool.foldl (fun (b : Option Nat) f => match b with
    | none => some f
    | some g =>
      let x := s.tileUse f * max (s.guarantee g) 1
      let y := s.tileUse g * max (s.guarantee f) 1
      if x < y || (x = y && f < g) then some f else some g) none

end Sys2Proof.Machine
end

