-- ==== Sys2Proof/Machine/Wire.lean ====
section
/-! DEFINITION. Sys2Proof/Machine/Wire.lean: what every remote operation shares: YDT packets (R353 to R355), sealing and opening (R529 to R532), routes and
paths (R360, R409), the transmit queues of ports and links, rate entries (R368), and the arrival of a packet at YDT (R356, R359, R575). -/

namespace Sys2Proof
open Machine

/-! ## Packet fields (R354, R355) -/

def Pkt.word (p : Pkt) (i : Nat) : Nat := p.words.getD i 0
def Pkt.version (p : Pkt) : Nat := bitsOf (p.word 0) 28 4
def Pkt.typ (p : Pkt) : Nat := bitsOf (p.word 0) 24 4
def Pkt.last (p : Pkt) : Bool := bitOf (p.word 0) 23
def Pkt.ordered (p : Pkt) : Bool := bitOf (p.word 0) 22
def Pkt.encrypted (p : Pkt) : Bool := bitOf (p.word 0) 20
def Pkt.tclass (p : Pkt) : Nat := bitsOf (p.word 0) 16 3
def Pkt.path (p : Pkt) : Nat := bitsOf (p.word 0) 12 4
def Pkt.attempt (p : Pkt) : Nat := bitsOf (p.word 0) 8 4
def Pkt.srcDev (p : Pkt) : Nat := bitsOf (p.word 1) 20 12
def Pkt.srcFn (p : Pkt) : Nat := bitsOf (p.word 1) 14 6
def Pkt.dstDev (p : Pkt) : Nat := bitsOf (p.word 1) 2 12
def Pkt.dstFn (p : Pkt) : Nat := bitsOf (p.word 2) 26 6
def Pkt.partition (p : Pkt) : Nat := bitsOf (p.word 2) 0 16
def Pkt.opid (p : Pkt) : Nat := p.word 3
def Pkt.msgLen (p : Pkt) : Nat := bitsOf (p.word 4) 0 25
def Pkt.idx (p : Pkt) : Nat := bitsOf (p.word 5) 20 12
def Pkt.gen (p : Pkt) : Nat := bitsOf (p.word 5) 0 16
def Pkt.window (p : Pkt) : Nat := p.word 6
def Pkt.sendTime (p : Pkt) : Nat := p.word 7
def Pkt.extWord (p : Pkt) (i : Nat) : Nat := p.ext.getD i 0

/-- The bytes of a packet's base header, extension and payload, most significant byte first (R354). -/
def Pkt.bytes (p : Pkt) : List Byte := p.words.flatMap (beBytes 4) ++ p.ext.flatMap (beBytes 8) ++ p.payload

/-- R4: header fields as they are transmitted, each of so many bytes, most significant byte first. -/
def wireFields (fields : List (Nat × Nat)) : List Byte := fields.flatMap (fun f => beBytes f.1 f.2)

/-- The header of an Ozmen packet as it is transmitted (R4, R401). -/
def OzPkt.head (p : OzPkt) : List Byte := wireFields (p.words.map (fun w => (4, w)))

/-- The BTH opcode of an operation (PRESUMED but for the CNP's, which R370 gives: the reliable connection codes of InfiniBand, log entry 115). -/
def RoceOp.code : RoceOp → Nat
  | .sendFirst => 0x00 | .sendMiddle => 0x01 | .sendLast => 0x02 | .sendOnly => 0x04
  | .writeFirst => 0x06 | .writeMiddle => 0x07 | .writeLast => 0x08 | .writeOnly => 0x0A
  | .readRequest => 0x0C | .readFirst => 0x0D | .readMiddle => 0x0E | .readLast => 0x0F | .readOnly => 0x10
  | .ack => 0x11 | .nakSequence => 0x11 | .nakInvalid => 0x11 | .nakAccess => 0x11 | .nakOperational => 0x11 | .rnrNak => 0x11
  | .cnp => 0x81
  | .unsupported c => c

/-- The headers of a RoCEv2 packet as they are transmitted: BTH, and the RDMA extended header where the operation has one (R4, R370; log entry 115). -/
def Roce.head (p : Roce) : List Byte :=
  let rdma := match p.op with | .writeFirst => true | .writeOnly => true | .readRequest => true | _ => false
  wireFields ([(1, p.op.code), (1, Config.headerOpen 0), (2, p.pkey), (4, p.qp), (4, p.psn)] ++ (if rdma then [(8, p.va), (4, p.rkey), (4, p.len)] else []))

/-- The headers of an IP packet as they are transmitted, the UDP header and that of what it carries behind it (R4, R353). -/
def Ip.head (p : Ip) (len : Nat) : List Byte :=
  let tos := 4 * p.dscp + p.ecn
  let ip : List (Nat × Nat) :=
    if p.v6 then [(4, 6 * 2 ^ 28 + tos * 2 ^ 20 + Config.headerOpen 1 % 2 ^ 20), (2, len - 40), (2, Config.headerOpen 2), (16, p.src), (16, p.dst)]
    else [(1, 0x45), (1, tos), (2, len), (4, Config.headerOpen 3), (2, Config.headerOpen 4), (2, Config.headerOpen 5), (4, p.src), (4, p.dst)]
  let udp : List (Nat × Nat) := match p.udpPort with
    | some d => [(2, p.udpSrc), (2, d), (2, len - (if p.v6 then 40 else 20)), (2, if p.v6 then Config.headerOpen 6 else 0)]
    | none => []
  let inner := match p.body with
    | .ydt q => q.words.flatMap (beBytes 4) ++ q.ext.flatMap (beBytes 8)
    | .roce q => q.head
    | _ => []
  wireFields (ip ++ udp) ++ inner

/-- The headers of a frame as they are transmitted: Ethernet, its tags, and those of the packet it carries (R4, R385). The EtherType of a body that is no IP packet
is none the manual gives. -/
def Frame.head (f : Frame) : List Byte :=
  let tags := f.tags.flatMap (fun t => [(2, t.1), (2, 8192 * t.2.1 + t.2.2)])
  let typ := match f.body with | .ip p => (if p.v6 then 0x86DD else 0x0800) | _ => Config.headerOpen 7
  let inner := match f.body with | .ip p => p.head (f.len - 18 - 4 * f.tags.length) | _ => []
  wireFields ([(6, f.dst), (6, f.src)] ++ tags ++ [(2, typ)]) ++ inner

def headerBytes (typ : Nat) : Nat := if typ = 0 || typ = 5 || typ = 6 then 40 else if typ = 1 || typ = 4 then 48 else 32

/-- The length of a packet with its CRC-32C, and cipher fields where it is sealed (R356, R530). -/
def Pkt.length (p : Pkt) : Nat := headerBytes p.typ + p.payload.length + 4 + (if p.encrypted then 28 else 0)

/-- DETAIL of YDT's ERR_LOG for a packet (R376). -/
def Pkt.origin (p : Pkt) : Nat := p.srcDev + 4096 * p.srcFn

/-- R354, R356, R434: a header that is well formed. -/
def Pkt.formed (p : Pkt) : Bool := p.version = 1 && p.typ ≤ 7 && p.path ≤ 3 && !(p.typ = 6 && bitsOf (p.extWord 0) 54 2 = 3)

end Sys2Proof

namespace Sys2Proof.Machine
open Sys2Proof

/-! ## Packet types and headers (R354) -/

def tyWrite : Nat := 0
def tyReadReq : Nat := 1
def tyReadResp : Nat := 2
def tySend : Nat := 3
def tyAck : Nat := 4
def tyNak : Nat := 5
def tyHeat : Nat := 6
def tyProbe : Nat := 7

/-- The fields a sender chooses for one packet. -/
structure Hdr where
  typ : Nat
  last : Bool
  ordered : Bool
  tclass : Nat
  path : Nat
  attempt : Nat
  fn : Nat
  dev : Nat
  dfn : Nat
  opid : Nat
  msgLen : Nat
  idx : Nat
  gen : Nat
  window : Nat
deriving DecidableEq, Repr

/-- R338, R354: the base header of a packet this device sends. RETRANS is set when ATTEMPT is not 0. -/
def Hdr.words (h : Hdr) (self part time : Nat) (sealed : Bool) : List Nat :=
  [2 ^ 28 + 2 ^ 24 * h.typ + 2 ^ 23 * b2n h.last + 2 ^ 22 * b2n h.ordered + 2 ^ 21 * b2n (h.attempt ≠ 0) + 2 ^ 20 * b2n sealed +
      2 ^ 16 * h.tclass + 2 ^ 12 * h.path + 2 ^ 8 * (h.attempt % 16),
    2 ^ 20 * self + 2 ^ 14 * h.fn + 4 * h.dev, 2 ^ 26 * h.dfn + part, h.opid, h.msgLen, 2 ^ 20 * h.idx + h.gen, h.window, time % 2 ^ 32]

/-! ## This device -/

/-- R338: the device ID: CREW as written, MEMBER from the straps. -/
def State.devId (s : State) : Nat := s.getF R.YDT_DEVICE_ID 3 9 * 8 + s.getF R.GLB_MEMBER 0 3

/-- R340: the base timeout and the packet lifetime towards a device, in ns. -/
def State.baseTimeout (s : State) (dev : Nat) : Nat := if dev / 8 = s.devId / 8 then 12000 else 40000
def State.lifetime (s : State) (dev : Nat) : Nat := if dev / 8 = s.devId / 8 then 20000 else 100000

/-- R375: a function's endpoint: ENABLE, ENCRYPT and its partition key. -/
def State.endpointOn (s : State) (fn : Nat) : Bool := s.getB (R.YDT_FN_PKEY fn) 31
def State.encrypts (s : State) (fn : Nat) : Bool := s.getB (R.YDT_FN_PKEY fn) 16
def State.pkey (s : State) (fn : Nat) : Nat := s.getF (R.YDT_FN_PKEY fn) 0 16

def State.timeLocked (s : State) : Bool := s.getB (statusK pYDT) 0

/-! ## Key slots (R525, R528 to R532) -/

def State.slotState (s : State) (i : Nat) : Nat := s.getF (R.SEC_SLOT_STATUS i) 0 2

/-- R537: erase a slot with a cause; KEY_LOST is set unless the cause is a request. -/
def State.eraseSlot (s : State) (i cause : Nat) : State :=
  let s := (s.setF (R.SEC_SLOT_STATUS i) 0 2 2).setF (R.SEC_SLOT_STATUS i) 20 4 cause
  let s := { s with sec := { s.sec with key := s.sec.key.del i } }
  if cause = 1 then s else s.raiseInt pSEC 1

/-- R528: the valid binding entry of a partition key. -/
def State.binding (s : State) (part : Nat) : Option Nat :=
  (List.range 256).find? (fun i => s.getB (R.SEC_PART_KEY i) 31 && s.getF (R.SEC_PART_KEY i) 0 16 = part)

def State.phaseSlot (s : State) (b : Nat) (phase : Bool) : Nat := if phase then s.getF (R.SEC_PART_SLOTS b) 16 10 else s.getF (R.SEC_PART_SLOTS b) 0 10

/-- R529: why a function's packets cannot be sealed: ACCESS_DENIED without a binding or with an EMPTY slot, KEY_ERASED with an ERASED one. -/
def State.sealBlock (s : State) (fn : Nat) : Option Nat :=
  if !s.encrypts fn then none
  else match s.binding (s.pkey fn) with
    | none => some stDenied
    | some b =>
      match s.slotState (s.phaseSlot b (s.getB (R.SEC_PART_KEY b) 16)) with
      | 0 => some stDenied
      | 1 => none
      | _ => some stKeyErased

/-- R529, R531: seal one packet: it takes the next PN of the slot of TX_PHASE. At 2^47 PN_WARN is set; at 2^48 the slot is erased and code 0x07 logged. -/
def State.sealPacket (s : State) (fn : Nat) : State × Option Cipher :=
  match s.encrypts fn, s.binding (s.pkey fn) with
  | true, some b =>
    let ph := s.getB (R.SEC_PART_KEY b) 16
    let i := s.phaseSlot b ph
    let pn := (s.sec.pn.look i).getD 0
    let s := { s with sec := { s.sec with pn := s.sec.pn.put i (pn + 1) } }.bump R.SEC_SEALED |>.count 15 0 0x01 0 none 1
    let s := if pn + 1 = 2 ^ 47 then s.raiseInt pSEC 4 else s
    let s := if pn + 1 = 2 ^ 48 then (s.eraseSlot i 5).logErr pSEC 0x07 clsSecurity fn noTags 0 (i + 65536 * b) else s
    (s, some ⟨ph, s.devId, pn, true⟩)
  | _, _ => (s, none)

/-- R539: TAG_FAIL, MODE_DROP and NO_KEY raise at most one SECURITY event per 1 ms. NO_KEY logs no code and has no INT_STATUS bit: its event is LOGGED with CODE 0. -/
def State.secEvent (s : State) (code fn detail : Nat) : State :=
  let due := match s.sec.eventAt with | none => true | some t => decide (t + 1000000 ≤ s.uptime)
  if due then { s with sec := { s.sec with eventAt := some s.uptime } }.event 0 pSEC 0x0001 code clsSecurity 0 fn detail 0 else s

/-- R532: a packet without a usable slot is dropped. -/
def State.noKey (s : State) (fn : Nat) : State := (s.bump R.SEC_NO_KEY_COUNT).secEvent 0 fn 0

/-- R532, R539: the cipher side of a packet received for a function under a partition key: its mode, its slot, its tag. -/
def State.openCipher (s : State) (fn part : Nat) (sealed : Bool) (ci : Option Cipher) : State × Bool :=
  if sealed != s.encrypts fn then
    (((s.bump R.SEC_MODE_DROP_COUNT).logErr pSEC 0x04 clsSecurity fn noTags 0 0).secEvent 0x04 fn 0, false)
  else match sealed, ci with
    | false, _ => (s, true)
    | true, none => (s.noKey fn, false)
    | true, some c =>
      match s.binding part with
      | none => (s.noKey fn, false)
      | some b =>
        let i := s.phaseSlot b c.phase
        if s.slotState i ≠ 1 then (s.noKey fn, false)
        else if !c.tagOk then
          ((((s.bump R.SEC_TAG_FAIL_COUNT).raiseInt pSEC 2).logErr pSEC 0x03 clsSecurity fn noTags 0 (i + 65536 * b)).secEvent 0x03 fn (i + 65536 * b), false)
        else ((s.bump R.SEC_OPENED).count 15 0 0x02 0 none 1, true)

def State.openPacket (s : State) (p : Pkt) : State × Bool := s.openCipher p.dstFn p.partition p.encrypted p.cipher

/-! ## Routes and paths (R360, R409) -/

/-- CRW_EPOCH.SEND. -/
def State.sendEpoch (s : State) : Nat := s.getF R.CRW_EPOCH 0 1

def State.routeWord (s : State) (ver dev i : Nat) : Nat := (s.crw.route.look (8 * (4096 * ver + dev) + i)).getD 0

/-- The route entry of a device is VALID in the version the sender reads. -/
def State.routed (s : State) (dev : Nat) : Bool := bitOf (s.routeWord s.sendEpoch dev 0) 0

/-- Path n of a device's entry: (TYPE, HOPS or PORT, ROUTE, NEXT_HOP_MAC). -/
def State.pathOf (s : State) (dev n : Nat) : Nat × Nat × Nat × Nat :=
  let w := s.routeWord s.sendEpoch dev (3 + n)
  (bitsOf w 0 2, bitsOf w 2 3, bitsOf w 5 18, bitsOf w 16 48)

def State.pathSt (s : State) (dev n : Nat) : PathSt := (s.ydt.paths.look (4 * dev + n)).getD ⟨false, 0, none⟩

def State.putPath (s : State) (dev n : Nat) (x : PathSt) : State := { s with ydt := { s.ydt with paths := s.ydt.paths.put (4 * dev + n) x } }

/-- The paths of the entry whose TYPE is OZMEN or ETHERNET. -/
def State.pathsTo (s : State) (dev : Nat) : List Nat :=
  (List.range 4).filter (fun n => let t := (s.pathOf dev n).1; s.routed dev && (t = 1 || t = 2))

def State.healthyPaths (s : State) (dev : Nat) : List Nat := (s.pathsTo dev).filter (fun n => !(s.pathSt dev n).down)

/-- R360: a path becomes unhealthy: code 0x07, PATH_DOWN and PATH_CHANGE. -/
def State.pathDown (s : State) (dev n : Nat) : State :=
  let x := s.pathSt dev n
  if x.down then s
  else (((s.putPath dev n { x with down := true }).trace 11 0 0x07 0 none 1 0).raiseInt pYDT 0).logEvent 0 pYDT 0x07 clsPort 0 0 noTags 0 (dev + 4096 * n) 0x0010

/-- R360, R379: a path becomes healthy again. -/
def State.pathUp (s : State) (dev n : Nat) : State :=
  let x := s.pathSt dev n
  if !x.down then s
  else (((s.putPath dev n ⟨false, 0, none⟩).trace 11 0 0x07 0 none 0 1).raiseInt pYDT 0).event 0 pYDT 0x0011 0 clsPort 0 0 (dev + 4096 * n) 0

/-! ## Transmit queues -/

/-- R385: a function's tag. -/
def State.txTags (s : State) (fn cls : Nat) : List (Nat × Nat × Nat) :=
  let v := s.rd (R.NET_FN_VLAN fn)
  if bit v 12 then [(0x8100, s.getF R.NET_CLASS_PCP (4 * cls) 3, fld v 0 12)] else []

def State.classDscp (s : State) (cls : Nat) : Nat :=
  if cls < 4 then s.getF R.NET_CLASS_DSCP0 (8 * cls) 6 else s.getF R.NET_CLASS_DSCP1 (8 * (cls - 4)) 6

/-- An Ozmen packet leaves on a link, its header first. -/
def State.emitOz (s : State) (link : Nat) (p : OzPkt) : State := s.emit (.ozmen link p.head p)

def State.queueOz (s : State) (t : TxOz) : State := { s with crw := { s.crw with tx := s.crw.tx ++ [t] } }

/-! ## Receive buffers: pause and XOFF (R130, R387, R405) -/

/-- Bytes that the port's class, or the link's VL, holds. -/
def State.classHeld (s : State) (port cls : Nat) : Nat :=
  let n := fun (x : Option (Nat × Nat × Nat)) => match x with | some (p, c, k) => if p = port && c = cls then k else 0 | none => 0
  ((s.ydt.rx.map (fun x => n x.port)) ++ (s.qpm.rx.map (fun x => n x.port))).sum

def OzPkt.bytes (p : OzPkt) : Nat := 20 + bitsOf (p.words.getD 0 0) 0 13

def State.vlHeld (s : State) (link vl : Nat) : Nat :=
  let n := fun (x : Option (Nat × Nat × Nat)) => match x with | some (l, v, k) => if l = link && v = vl then k else 0 | none => 0
  let t := fun (x : TxOz) => if x.input = link && x.vl = vl then OzPkt.bytes x.pkt else 0
  ((s.ydt.rx.map (fun x => n x.link)) ++ (s.qpm.rx.map (fun x => n x.link)) ++ s.crw.tx.map t).sum

def State.classShare (s : State) (port cls : Nat) : Nat :=
  let k := if cls < 4 then R.NET_PORT_SHARE0 port else R.NET_PORT_SHARE1 port
  2 ^ 20 / portCount s * s.getF k (8 * (cls % 4)) 8 / 256

def State.pfcHeadroom (s : State) (port : Nat) : Nat := 1024 * s.getF (R.NET_PORT_PFC port) 16 8

/-- R130: from the start of a Z2 exit to the end of the self-refresh exit every VL holds XOFF and every enabled class a pause. -/
def State.z2Holds (s : State) : Bool := s.idle.selfRefresh && s.exiting

/-- R387: a class's occupancy has risen. -/
def State.pauseRise (s : State) (port cls : Nat) : State :=
  let share := s.classShare port cls
  let room := s.pfcHeadroom port
  let held := s.classHeld port cls
  if s.getB (R.NET_PORT_PFC port) cls && 8 * port + cls ∉ s.net.pausing && 0 < held && share ≤ held + room then
    { s with net := { s.net with pausing := s.net.pausing ++ [8 * port + cls] } }.sendPause port (2 ^ cls) 0xFFFF
  else s

/-- R387: a class's occupancy has fallen. A level of zero or less counts as one byte. -/
def State.pauseFall (s : State) (port cls : Nat) : State :=
  if 8 * port + cls ∈ s.net.pausing && !s.z2Holds && s.classHeld port cls < max 1 (s.classShare port cls - 2 * s.pfcHeadroom port) then
    { s with net := { s.net with pausing := s.net.pausing.erase (8 * port + cls) } }.sendPause port (2 ^ cls) 0
  else s

/-- R405: the XOFF and XON thresholds. -/
def State.xoffAt (s : State) : Nat := s.getF R.CRW_FC_THRESH 0 15
def State.xonAt (s : State) : Nat := let n := s.getF R.CRW_FC_THRESH 16 15; if s.xoffAt ≤ n then s.xoffAt / 2 else n

def State.xoffRise (s : State) (link vl : Nat) : State :=
  if 8 * link + vl ∉ s.crw.xoffSent && s.xoffAt ≤ s.vlHeld link vl then
    ({ s with crw := { s.crw with xoffSent := s.crw.xoffSent ++ [8 * link + vl] } }.emit (.control link vl true)).count 10 link 4 0 none 1
  else s

def State.xoffFall (s : State) (link vl : Nat) : State :=
  if 8 * link + vl ∈ s.crw.xoffSent && !s.z2Holds && s.vlHeld link vl ≤ s.xonAt then
    { s with crw := { s.crw with xoffSent := s.crw.xoffSent.erase (8 * link + vl) } }.emit (.control link vl false)
  else s

/-- A packet has left its buffer. -/
def State.bufferFall (s : State) (port link : Option (Nat × Nat × Nat)) : State :=
  let s := match port with | some (p, c, _) => s.pauseFall p c | none => s
  match link with | some (l, v, _) => s.xoffFall l v | none => s

/-- R401: the header of an Ozmen packet this device sends. -/
def ozWords (kind vl epoch hops len part route dst src : Nat) : List Nat :=
  [2 ^ 28 + 2 ^ 24 * kind + 2 ^ 21 * vl + 2 ^ 20 * epoch + 2 ^ 13 * hops + len, 65536 * part, 2 ^ 14 * route + dst, 2 ^ 20 * src]

/-- Function 0's address in the function address table (R384): IPv6 where it is valid, else IPv4. -/
def State.fnIp (s : State) (fn : Nat) (v6 : Bool) : Nat :=
  let w := fun i => (s.net.fnAddr.look (8 * fn + i)).getD 0
  if v6 then beNat ([4, 5, 6, 7].flatMap (fun i => leBytes 4 (w i))) else w 0

/-- DEST_IP of a route entry, and whether it is IPv6: an IPv4-mapped address stands for IPv4. -/
def State.destIp (s : State) (dev : Nat) : Bool × Nat :=
  let a := s.routeWord s.sendEpoch dev 1
  let b := s.routeWord s.sendEpoch dev 2
  let n := beNat (leBytes 8 a ++ leBytes 8 b)
  if n / 2 ^ 32 = 0xFFFF then (false, n % 2 ^ 32) else (true, n)

/-- R353, R409: place a packet on a path: on an Ozmen link with the header of R401, or as a frame of a port. The UDP source port is a hash that the
manual does not give: a free value above 0xC000. -/
def State.onPath (s : State) (fn dev n cls : Nat) (p : Pkt) : State :=
  let w := s.pathOf dev n
  if w.1 = 1 then
    let pk : OzPkt := ⟨ozWords 0 cls s.sendEpoch w.2.1 p.length (s.pkey fn) w.2.2.1 dev s.devId, true, .ydt p, .good⟩
    s.queueOz ⟨bitsOf w.2.2.1 15 3, cls, 4, pk⟩
  else
    let d := s.destIp dev
    let r := s.free
    let s := r.2
    let marked := p.typ = tyWrite || p.typ = tyReadResp || p.typ = tySend || p.typ = tyHeat
    let i : Ip :=
      { v6 := d.1, src := s.fnIp 0 d.1, dst := d.2, dscp := s.classDscp cls, ecn := if marked then 2 else 0, sumOk := true, fragment := false,
        extension := false, udpSrc := 0xC000 + r.1 % 16384, udpPort := some (s.getF R.YDT_UDP_PORT 0 16), body := .ydt p }
    let tags := s.txTags fn cls
    let f : Frame :=
      { len := p.length + 8 + (if d.1 then 40 else 20) + 14 + 4 * tags.length + 4, fcsOk := true, dst := w.2.2.2, src := s.macBase, tags := tags,
        body := .ip i }
    s.queueFrame ⟨w.2.1, cls, 0, f⟩

/-- R339: a packet for this device itself takes the local placement path. -/
def State.sendOn (s : State) (h : Hdr) (ext : List Nat) (payload : List Byte) : State :=
  let c := s.sealPacket h.fn
  let s := c.1
  let p : Pkt := ⟨h.words s.devId (s.pkey h.fn) s.devTime c.2.isSome, ext, payload, true, false, c.2⟩
  if h.dev = s.devId then { s with ydt := { s.ydt with rx := s.ydt.rx ++ [⟨p, none, none⟩] } }
  else s.onPath h.fn h.dev h.path h.tclass p

/-! ## Answers -/

/-- The path an answer takes: a read response goes over the healthy paths in turn by its index (R360); another answer over that of the packet answered while it is healthy, else the first healthy one. A PROBE is answered on its own path, healthy or
not: otherwise two ends that lost every path could never find one healthy again (R360). -/
def State.answerPath (s : State) (p : Pkt) (typ idx : Nat) : Option Nat :=
  let l := s.healthyPaths p.srcDev
  if p.srcDev = s.devId then some 0 else if typ = tyReadResp then l[idx % max 1 l.length]? else if p.path ∈ l || (p.typ = tyProbe && p.path ∈ s.pathsTo p.srcDev) then some p.path else l.head?

def State.answer (s : State) (p : Pkt) (typ : Nat) (ext : List Nat) (payload : List Byte) (idx msgLen : Nat) (last : Bool) : State :=
  match s.answerPath p typ idx, s.sealBlock p.dstFn with
  | none, _ => s
  | _, some _ => s
  | some n, none =>
    s.sendOn { typ := typ, last := last, ordered := false, tclass := p.tclass, path := n, attempt := 0, fn := p.dstFn, dev := p.srcDev, dfn := p.srcFn,
               opid := p.opid, msgLen := msgLen, idx := idx, gen := 0, window := 0 } ext payload

/-- R355: an ACK. FLAGS: COMPLETE 1, DUP 2, STALE 4. -/
def State.ack (s : State) (p : Pkt) (base ce flags bitmap : Nat) : State :=
  s.answer p tyAck [2 ^ 32 * p.sendTime + 2 ^ 20 * base + 2 ^ 12 * (min ce 255) + flags, bitmap] [] 0 0 true

/-- R355, R357: a NAK. -/
def State.nak (s : State) (p : Pkt) (reason : Nat) (idx : Nat) : State :=
  (s.bump R.YDT_NAK_SENT_COUNT).answer p tyNak [2 ^ 32 * p.sendTime + reason] [] idx 0 true

def nakNotReady : Nat := 1
def nakTarget : Nat := 2
def nakAccess : Nat := 3
def nakTooLong : Nat := 4
def nakCheck : Nat := 5
def nakMalformed : Nat := 6

/-! ## Arrival -/

/-- R359: older than the lifetime of its scope. -/
def State.expired (s : State) (p : Pkt) : Bool :=
  s.timeLocked && p.typ ≠ tyProbe && decide ((s.lifetime p.srcDev : Int) < sx 32 ((s.devTime + 2 ^ 32 - p.sendTime) % 2 ^ 32))

/-- R356, R359, R368, R575: a packet reaches YDT from a port, a link or this device. -/
def State.ydtArrive (s : State) (x : Rx) : State :=
  let p := x.pkt
  if !p.crcOk then s.logErr pYDT 0x04 clsPort 0 noTags 0 p.origin
  else if !p.formed || p.dstDev ≠ s.devId then s.logErr pYDT 0x01 clsPort 0 noTags 0 p.origin
  else if s.expired p then s.bump R.YDT_EXPIRED_COUNT
  else
    let s := if p.ce then (s.bump R.YDT_CE_COUNT).count 11 0 0x04 0 none 1 else s
    { s with ydt := { s.ydt with rx := s.ydt.rx ++ [x] } }

/-- The oldest packet of a TYPE that waits, taken from its buffer. -/
def takeRx (t : Nat) : List Rx → Option (Rx × List Rx)
  | [] => none
  | x :: r => if x.pkt.typ = t then some (x, r) else (takeRx t r).map (fun y => (y.1, x :: y.2))

/-- R344, R529, R532: what every arriving packet passes first: the endpoint and the partition key, then the cipher engine. -/
def State.admitPacket (s : State) (p : Pkt) : State × Bool :=
  if s.endpointOn p.dstFn && s.pkey p.dstFn = p.partition then s.openPacket p
  else (((s.bump R.YDT_PARTITION_DROP_COUNT).raiseInt pYDT 4).logErr pYDT 0x02 clsSecurity p.dstFn noTags 0 p.origin, false)

/-! ## Fractions -/

def frac (n d : Nat) : Nat × Nat := let g := Nat.gcd n d; if g = 0 then (0, 1) else (n / g, d / g)
def fadd (a b : Nat × Nat) : Nat × Nat := frac (a.1 * b.2 + b.1 * a.2) (a.2 * b.2)
def fmul (a b : Nat × Nat) : Nat × Nat := frac (a.1 * b.1) (a.2 * b.2)
def flt (a b : Nat × Nat) : Bool := a.1 * b.2 < b.1 * a.2
def fmin (a b : Nat × Nat) : Nat × Nat := if flt b a then b else a
def fmax (a b : Nat × Nat) : Nat × Nat := if flt a b then b else a
def fsub (a b : Nat × Nat) : Nat × Nat := frac (a.1 * b.2 - b.1 * a.2) (a.2 * b.2)

/-! ## Rate entries (R368) -/

/-- R567: the rate in Gb/s of a link's lane: 100, or 50 where the link trained with an end in reduced service. -/
def State.laneRate (s : State) (link : Nat) : Nat := if link ∈ s.crw.halfRate then 50 else 100

/-- The rate in Gb/s of a path's first hop: the port's of the mode, or that of the link's good lanes. -/
def State.pathRate (s : State) (dev n : Nat) : Nat :=
  let w := s.pathOf dev n
  let link := bitsOf w.2.2.1 15 3
  if w.1 = 1 then s.laneRate link * s.getF (R.CRW_LINK_STATUS link) 4 3 else 1600 / portCount s

/-- LINE: the rates of the destination's healthy paths, capped at 1.6 Tb/s. -/
def State.lineRate (s : State) (dev : Nat) : Nat := min 1600 ((s.healthyPaths dev).map (s.pathRate dev)).sum

def State.ccOnYdt (s : State) : Bool := s.getB R.YDT_CC_CTRL 0

/-- The entry of a destination. With rate control off every rate stays at LINE. -/
def State.rateEntry (s : State) (dev : Nat) : Rate :=
  let line := (s.lineRate dev, 1)
  let r := (s.ydt.rates.look dev).getD
    { rate := line, target := line, alpha := (1, 1), marked := 0, acked := 0, clean := 0, lastCut := none, lastSend := 0, sentInPeriod := false,
      floorSince := none }
  if s.ccOnYdt then r else { r with rate := line, target := line }

/-- YDT_RATE shows a rate entry in units of 100 Mb/s. -/
def rateView (r : Rate) : Word := word (min 65535 (r.rate.1 * 10 / r.rate.2) + 65536 * min 65535 (r.target.1 * 10 / r.target.2))

/-- When an entry reaches FLOOR, since when it has stayed there. -/
def State.putRate (s : State) (dev : Nat) (r : Rate) : State :=
  let atFloor := r.rate == (1, 1)
  let r := { r with floorSince := if atFloor then some (r.floorSince.getD s.uptime) else none }
  { s with ydt := { s.ydt with rates := s.ydt.rates.put dev r } }.wr (R.YDT_RATE dev) (rateView r)

/-- R368: what an ACK with n newly acknowledged packets, c of them marked, does to an entry. -/
def Rate.onAck (r : Rate) (on : Bool) (n c now gap : Nat) : Rate :=
  let r := { r with acked := r.acked + n, marked := r.marked + c }
  if on && 0 < c && (match r.lastCut with | none => true | some t => gap ≤ now - t) then
    { r with target := r.rate, rate := fmax (1, 1) (fmul r.rate (fsub (1, 1) (fmul r.alpha (1, 2)))), lastCut := some now, clean := 0 }
  else r

def Rate.onExpiry (r : Rate) (on : Bool) : Rate :=
  if on then
    let x := fmax (1, 1) (fmul r.rate (1, 2))
    { r with rate := x, target := x, clean := 0 }
  else r

/-- R368: the end of a PERIOD. -/
def Rate.onPeriod (r : Rate) (on : Bool) (g ai hai line : Nat) : Rate :=
  let f := if r.acked = 0 then (0, 1) else frac r.marked r.acked
  let k := frac 1 (2 ^ g)
  let r' := { r with alpha := fadd (fmul r.alpha (fsub (1, 1) k)) (fmul f k) }
  let r' := if r.marked = 0 && 0 < r.acked then
      let clean := r.clean + 1
      let t := if 10 < clean then fadd r.target (hai, 1) else if 5 < clean then fadd r.target (ai, 1) else r.target
      let t := fmin t (line, 1)
      if on then { r' with clean := clean, target := t, rate := fmul (fadd r.rate t) (1, 2) } else { r' with clean := clean }
    else r'
  { r' with marked := 0, acked := 0, sentInPeriod := false }

/-- A packet goes to a destination: its entry has sent. -/
def State.noteSend (s : State) (dev : Nat) : State :=
  let r := s.rateEntry dev
  s.putRate dev { r with lastSend := s.uptime, sentInPeriod := true }

end Sys2Proof.Machine
end

