-- ==== Sys2Proof/Machine/Xfer.lean ====
section
/-! DEFINITION. Sys2Proof/Machine/Xfer.lean: initiator slots and the sending of their packets (R358, R360, R365). -/

namespace Sys2Proof.Machine
open Sys2Proof

/-! ## CRC-32C (R435, R436) -/

/-- One bit of the reflected CRC-32C, polynomial 0x82F63B78. -/
def crcBit (c : Nat) : Nat := if c % 2 = 1 then Nat.xor (c / 2) 0x82F63B78 else c / 2

def crcByte (c : Nat) (b : Byte) : Nat :=
  crcBit (crcBit (crcBit (crcBit (crcBit (crcBit (crcBit (crcBit (Nat.xor c b.toNat))))))))

def crc32c (bs : List Byte) : Nat := Nat.xor (bs.foldl crcByte 0xFFFFFFFF) 0xFFFFFFFF

/-! ## Slots -/

/-- Packets of a message: max(1, ⌈length ÷ 4,096⌉). -/
def packetsOf (len : Nat) : Nat := max 1 (ceilDiv len 4096)

/-- R358: a slot taken: which free one is not stated; its incarnation advances. With all 32,768 in use none is taken. -/
def State.takeSlot (s : State) : State × Option (Nat × Nat) :=
  if 32768 ≤ s.ydt.xfers.length then (s, none)
  else
    let c := Config.choice s.freeCtr % 32768
    let s := { s with freeCtr := s.freeCtr + 1 }
    match (if s.ydt.xfers.has c then s.ydt.xfers.freshBelow 32768 else some c) with
    | none => (s, none)
    | some i =>
      let n := (((s.ydt.inc.look i).getD 0) + 1) % 2 ^ 17
      ({ s with ydt := { s.ydt with inc := s.ydt.inc.put i n } }, some (i, n))

def State.putXfer (s : State) (i : Nat) (x : Xfer) : State := { s with ydt := { s.ydt with xfers := s.ydt.xfers.put i x } }

/-- A slot's first state (R358, R365). -/
def newXfer (owner : XOwner) (kind fn dev dfn window gen off va len tclass : Nat) (data : Option (List Byte)) : Xfer :=
  { owner := owner, inc := 0, kind := kind, fn := fn, dev := dev, dfn := dfn, window := window, gen := gen, off := off, va := va, len := len,
    tclass := tclass, ordered := false, started := true, data := data, heat := 0, hash := 0, sent := [], acked := [], nakked := [], timeout := 0,
    attempts := 0, answered := false, stale := false, hi := 0, lastRetrans := none, got := [], holding := none }

/-- Take a slot for a transfer. -/
def State.startXfer (s : State) (x : Xfer) : State × Option Nat :=
  match s.takeSlot with
  | (s, none) => (s, none)
  | (s, some (i, n)) => ((s.putXfer i { x with inc := n, timeout := s.baseTimeout x.dev }).noteSlots, some i)

def Xfer.packets (x : Xfer) : Nat := packetsOf x.len

/-- OPID: slot in [14:0], incarnation in [31:15] (R354). -/
def Xfer.opid (x : Xfer) (i : Nat) : Nat := i + 2 ^ 15 * x.inc

def Xfer.unanswered (x : Xfer) : List Nat := (List.range x.packets).filter (fun k => k ∉ x.acked)

/-- The slot an OPID names, if its incarnation is the current one. -/
def State.xferOf (s : State) (opid : Nat) : Option (Nat × Xfer) :=
  (s.ydt.xfers.look (opid % 2 ^ 15)).bind (fun x => if x.inc = opid / 2 ^ 15 then some (opid % 2 ^ 15, x) else none)

/-! ## Sending -/

/-- How sending a packet ends: sent, a local access that fails, or a status. -/
inductive SendEnd where
  | sent | fail (f : AccFail) | status (st : Nat)
deriving DecidableEq, Repr

/-- R545: the tags of the descriptor that a transfer works for. -/
def State.ownerTags (s : State) (o : XOwner) : Option Tags :=
  match o with
  | .op i | .part i _ | .repair i _ _ _ => s.opTags i
  | .chunk g _ _ => (s.groups.look g).bind (fun x => x.running.bind (fun h => s.opTags h.op))
  | .note | .gather _ _ => none

/-- The payload of packet k: from the local address, or the bytes the slot holds. -/
def State.xferData (s : State) (env : HostView) (x : Xfer) (k : Nat) : State × Except AccFail (List Byte) :=
  if x.kind = tyReadReq then (s, .ok [])
  else match x.data with
    | some d => (s, .ok ((d.drop (4096 * k)).take 4096))
    | none => s.vread env 3 x.fn (x.va + 4096 * k) (min 4096 (x.len - 4096 * k)) ((s.ownerTags x.owner).getD noTags)

/-- The extension of packet k (R355, R434). `count`: response packets asked for. -/
def Xfer.ext (x : Xfer) (k count : Nat) (payload : List Byte) : List Nat :=
  if x.kind = tyWrite then [(x.off + 4096 * k) % 2 ^ 64]
  else if x.kind = tyReadReq then [(x.off + 4096 * k) % 2 ^ 64, 2 ^ 32 * count]
  else if x.kind = tyHeat then
    let v := if k = 0 then x.hash else if k + 1 = x.packets then crc32c ((x.data.getD payload)) else 0
    [2 ^ 32 * x.heat + v]
  else []

/-- The path of a packet: the healthy paths in turn by index at first; a retransmission takes one other than its last where there is one (R360). -/
def State.choosePath (s : State) (x : Xfer) (k : Nat) : Option Nat × State :=
  if x.dev = s.devId then (some 0, s)
  else
    let h := s.healthyPaths x.dev
    match x.sent.look k with
    | none => (if h.isEmpty then none else h[k % h.length]?, s)
    | some t =>
      if t.path = 15 then (if h.isEmpty then none else h[k % h.length]?, s)
      else
      let o := h.filter (· ≠ t.path)
      s.pick (if o.isEmpty then h else o)

/-- Path 15 marks a packet held for want of a healthy path (R360). -/
def heldPath : Nat := 15

/-- When an attempt of packet k began: a packet that was held for want of a path keeps the time since when it was held, so that the operation ends within its
retry span (R360, R365). -/
def heldSince (x : Xfer) (k attempt now : Nat) : Nat :=
  match x.sent.look k with
  | some t => if t.path = heldPath && t.attempt = attempt then t.time else now
  | none => now

/-- R544, R554: a packet sent as initiator, or sent again. -/
def State.notePacket (s : State) (fn : Nat) (t : Option Tags) (attempt opid : Nat) : State :=
  let s := s.count 11 0 0x01 fn t 1
  if attempt = 0 then s else (s.count 11 0 0x02 fn t 1).trace 11 0 0x06 fn t attempt opid

/-- Send packet k of slot i, or a request for `count` packets from it. -/
def State.sendPkt (s : State) (env : HostView) (i k count attempt : Nat) : State × SendEnd :=
  match s.ydt.xfers.look i with
  | none => (s, .sent)
  | some x =>
    match s.sealBlock x.fn with
    | some st => (s, .status st)
    | none =>
      match s.xferData env x k with
      | (s, .error f) => (s, .fail f)
      | (s, .ok bs) =>
        let c := s.choosePath x k
        let s := c.2
        let mark := fun (p : Nat) (x : Xfer) =>
          { x with sent := (List.range count).foldl (fun (m : Tab Sent) j => m.put (k + j) ⟨heldSince x (k + j) attempt s.uptime, p, attempt⟩) x.sent,
                   hi := max x.hi attempt }
        match c.1 with
        | none => (s.putXfer i (mark heldPath x), .sent)
        | some p =>
          let lastP := k + 1 = x.packets
          let h : Hdr :=
            { typ := x.kind, last := lastP || x.kind = tyReadReq, ordered := x.ordered, tclass := x.tclass, path := p, attempt := attempt, fn := x.fn,
              dev := x.dev, dfn := x.dfn, opid := x.opid i, msgLen := if (lastP && x.kind ≠ tyHeat) || x.kind = tyReadReq then x.len else 0, idx := k,
              gen := if x.kind = tyWrite || x.kind = tyReadReq then x.gen else 0, window := x.window }
          let s := ((s.putXfer i (mark p x)).noteSend x.dev).notePacket x.fn (s.ownerTags x.owner) attempt h.opid
          (s.sendOn h (x.ext k count bs) bs, .sent)

/-- Send packets of a slot one by one. -/
def State.sendPkts (s : State) (env : HostView) (i attempt : Nat) : List Nat → State × SendEnd
  | [] => (s, .sent)
  | k :: r =>
    match s.sendPkt env i k 1 attempt with
    | (s, .sent) => s.sendPkts env i attempt r
    | e => e

/-- Runs of consecutive indexes, as (first, length). -/
def runsOf : List Nat → List (Nat × Nat)
  | [] => []
  | k :: r =>
    match runsOf r with
    | (a, n) :: t => if a = k + 1 then (k, n + 1) :: t else (k, 1) :: (a, n) :: t
    | [] => [(k, 1)]

def State.sendRuns (s : State) (env : HostView) (i attempt : Nat) : List (Nat × Nat) → State × SendEnd
  | [] => (s, .sent)
  | (k, n) :: r =>
    match s.sendPkt env i k n attempt with
    | (s, .sent) => s.sendRuns env i attempt r
    | e => e

/-- Send, or send again, packets of a slot; a READ's packets are requested in runs (R365). -/
def State.sendList (s : State) (env : HostView) (i attempt : Nat) (ks : List Nat) : State × SendEnd :=
  match s.ydt.xfers.look i with
  | none => (s, .sent)
  | some x => if x.kind = tyReadReq then s.sendRuns env i attempt (runsOf ks) else s.sendPkts env i attempt ks

/-- Why a transfer to a device cannot start at all (R367): no route, or the endpoint disabled here. A transfer to this device needs no route. -/
def State.unreachable (s : State) (fn dev : Nat) : Bool := !s.endpointOn fn || (dev ≠ s.devId && !s.routed dev)

/-- R379: PEER_UNREACHABLE, at most one per destination per 1 ms. -/
def State.notePeer (s : State) (fn dev dfn : Nat) : State :=
  match s.ydt.unreachable.look dev with
  | some t => if s.uptime - t < 1000000 then s
    else { s with ydt := { s.ydt with unreachable := s.ydt.unreachable.put dev s.uptime } }.event fn pYDT 0x0012 0 clsPort 0 fn (dev + 4096 * dfn) 0
  | none => { s with ydt := { s.ydt with unreachable := s.ydt.unreachable.put dev s.uptime } }.event fn pYDT 0x0012 0 clsPort 0 fn (dev + 4096 * dfn) 0

/-- Start a transfer that the device itself sends from bytes it holds. It answers the slot, or the status with which it ends at once. -/
def State.sendOwn (s : State) (x : Xfer) : State × Except Nat Nat :=
  if s.unreachable x.fn x.dev then (s, .error stUnreachable)
  else match s.sealBlock x.fn with
    | some st => (s, .error st)
    | none =>
      match s.startXfer x with
      | (s, none) => (s, .error stRetry)
      | (s, some i) =>
        match s.sendList ⟨[], [], [], []⟩ i 0 (List.range x.packets) with
        | (s, .sent) => (s, .ok i)
        | (s, _) => (s.dropXfer i, .error stInternal)

end Sys2Proof.Machine
end

