-- ==== Sys2Proof/Machine/Track.lean ====
section
/-! DEFINITION. Sys2Proof/Machine/Track.lean: receive trackers, SEND records and acknowledgement (R361 to R363). -/

namespace Sys2Proof.Machine
open Sys2Proof

/-! ## SEND records -/

/-- A SEND record of a packet's message exists (R363). -/
def State.recorded (s : State) (p : Pkt) : Bool := s.ydt.records.any (fun r => r.1 = p.srcDev && r.2.1 = p.srcFn && r.2.2.1 = p.opid)

def State.recordsFull (s : State) : Bool := 65536 ≤ s.ydt.records.length

/-- R363, R376, R379: no record is free for a packet's message: code 0x06 and RECORDS_FULL, at most one event per 1 ms. -/
def State.noteRecordsFull (s : State) (p : Pkt) : State :=
  let due := match s.ydt.recordsFullAt with | none => true | some t => 1000000 ≤ s.uptime - t
  let s := s.raiseInt pYDT 2
  if due then { s with ydt := { s.ydt with recordsFullAt := some s.uptime } }.logEvent 0 pYDT 0x06 clsDevice 0 0 noTags 0 p.origin 0x0015
  else s.logErr pYDT 0x06 clsDevice 0 noTags 0 p.origin

def State.addRecord (s : State) (p : Pkt) : State :=
  { s with ydt := { s.ydt with records := s.ydt.records ++ [(p.srcDev, p.srcFn, p.opid, s.uptime)] } }.noteSlots

/-! ## Trackers -/

def Tracker.of (t : Tracker) (dev fn opid : Nat) : Bool := t.dev = dev && t.fn = fn && t.opid = opid

def State.tracker? (s : State) (p : Pkt) : Option Tracker := s.ydt.trackers.find? (fun t => t.of p.srcDev p.srcFn p.opid)

def State.setTracker (s : State) (t : Tracker) : State :=
  { s with ydt := { s.ydt with trackers := s.ydt.trackers.filter (fun (x : Tracker) => !x.of t.dev t.fn t.opid) ++ [t] } }.noteSlots

def State.freeTracker (s : State) (t : Tracker) : State :=
  { s with ydt := { s.ydt with trackers := s.ydt.trackers.filter (fun (x : Tracker) => !x.of t.dev t.fn t.opid) } }.noteSlots

/-- A message of one packet needs no tracker (R361). -/
def single (p : Pkt) : Bool := p.last && p.idx = 0

/-- The tracker a packet's message uses, a new one if need be; none when 32,768 are in use. -/
def State.trackerFor (s : State) (p : Pkt) : Option Tracker :=
  match s.tracker? p with
  | some t => some t
  | none =>
    if 32768 ≤ s.ydt.trackers.length then none
    else some { dev := p.srcDev, fn := p.srcFn, opid := p.opid, typ := p.typ, placed := [], expected := none, fresh := [], marked := 0, data := [], hash := 0, crc := 0,
                pkt := p, last := s.uptime }

/-- R361, R434: the packet is entered; the LAST packet gives the expected count, by MSG_LENGTH or, for a HEAT, by its index. -/
def Tracker.enter (t : Tracker) (p : Pkt) (keep : Bool) (now : Nat) : Tracker :=
  { t with
    placed := t.placed ++ [p.idx], fresh := t.fresh ++ [p.idx], marked := t.marked + b2n p.ce,
    expected := if p.last then some (if p.typ = tyHeat then p.idx + 1 else packetsOf p.msgLen) else t.expected,
    data := if keep then t.data.put p.idx p.payload else t.data, hash := if p.idx = 0 then p.extWord 0 % 2 ^ 32 else t.hash,
    crc := if p.last then p.extWord 0 % 2 ^ 32 else t.crc, pkt := p, last := now }

def Tracker.complete (t : Tracker) : Bool := t.expected = some t.placed.length

/-- The bytes of a gathered message, in packet order. -/
def Tracker.message (t : Tracker) : List Byte := t.data.vals.flatten

/-! ## Acknowledgement -/

/-- The bitmap of the indexes that lie in the 64 from base on (R355). -/
def bitmapOf (base : Nat) (l : List Nat) : Nat := ((l.filter (fun k => base ≤ k && k < base + 64)).map (fun k => 2 ^ (k - base))).sum

/-- An ACK of one packet. -/
def State.ackOne (s : State) (p : Pkt) (flags : Nat) : State :=
  let base := p.idx / 64 * 64
  s.ack p base (b2n p.ce) flags (2 ^ (p.idx - base))

/-- The ACKs that cover what a tracker has placed since the last: one for each group of 64 indexes, the marks in the first. -/
def State.ackGroups (s : State) (t : Tracker) (flags : Nat) : List Nat → Nat → State
  | [], _ => s
  | b :: r, ce => (s.ack t.pkt (64 * b) ce flags (bitmapOf (64 * b) t.placed)).ackGroups t flags r 0

def State.ackFresh (s : State) (t : Tracker) (flags : Nat) : State := s.ackGroups t flags ((t.fresh.map (· / 64)).eraseDups) t.marked

/-- R362: when a placed packet is acknowledged: at completion, at LAST, and at 16 since the last ACK. A completed tracker is freed. -/
def State.settle (s : State) (t : Tracker) (p : Pkt) : State :=
  if t.complete then (s.freeTracker t).ackFresh t 1
  else if p.last || 16 ≤ t.fresh.length then (s.setTracker { t with fresh := [], marked := 0 }).ackFresh t 0
  else s.setTracker t

/-- A duplicate is acknowledged at once and counted (R361, R363). -/
def State.ackDup (s : State) (p : Pkt) (complete : Bool) : State := (s.bump R.YDT_DUP_COUNT).ackOne p (2 + b2n complete)

/-- ACK_DELAY_TIMER, R362: 1 µs after the earliest arrival not yet acknowledged. -/
def execAckDelayTimer (dev fn opid : Nat) (s : State) : Res :=
  .next (match s.ydt.trackers.find? (fun t => t.of dev fn opid) with
    | none => s
    | some t => if t.fresh.isEmpty then s else (s.setTracker { t with fresh := [], marked := 0 }).ackFresh t 0)

/-- TRACKER_EXPIRY, R363, R379: no packet for 16 ms. What a WRITE placed stays; a partial SEND is discarded. The event goes to the owner of the window or
queue, which is the destination function. -/
def execTrackerExpiry (dev fn opid : Nat) (s : State) : Res :=
  .next (match s.ydt.trackers.find? (fun t => t.of dev fn opid) with
    | none => s
    | some t =>
      (((s.freeTracker t).bump R.YDT_TRACKER_EXPIRE_COUNT).raiseInt pYDT 1).logEvent t.pkt.dstFn pYDT 0x05 clsPort 0 t.pkt.dstFn noTags 0 t.pkt.origin 0x0014)

/-- SEND_RECORD_EXPIRY, R363: 100 ms after delivery. -/
def execSendRecordExpiry (dev fn opid : Nat) (s : State) : Res :=
  .next { s with ydt := { s.ydt with records := s.ydt.records.filter (fun r => !(r.1 = dev && r.2.1 = fn && r.2.2.1 = opid)) } }.noteSlots

end Sys2Proof.Machine
end

