-- ==== Sys2Proof/Machine/Heats.lean ====
section
/-! DEFINITION. Sys2Proof/Machine/Heats.lean: groups, schedules, merges and heats (chapter 13). -/

namespace Sys2Proof.Machine
open Sys2Proof

/-! ## Schedules (R428 to R430) -/

/-- What a rank does with one chunk, in order: send it, merge what a rank sent, or copy it. -/
inductive Act where
  | send (rank : Nat) (gather : Bool) | merge (rank : Nat) | copy (rank : Nat) (gather : Bool)
deriving DecidableEq, Repr

/-- P: the largest power of two not above N. -/
def floorPow (n : Nat) : Nat := 2 ^ Nat.log2 n

/-- R428: rank r's actions on a chunk under EXCHANGE over n members. -/
def exchangeActs (n r : Nat) : List Act :=
  let p := floorPow n
  if p ≤ r then [.send (r - p) false, .copy (r - p) false]
  else
    (if r + p < n then [Act.merge (r + p)] else []) ++
    (List.range (Nat.log2 n)).flatMap (fun i => [Act.send (Nat.xor r (2 ^ i)) false, .merge (Nat.xor r (2 ^ i))]) ++
    (if r + p < n then [Act.send (r + p) false] else [])

/-- R429: rank r's actions on chunk c under RING over n members. Segment c mod n is sent by rank r in reduce step (r − c) mod n, and merged in the one
before; the rank that merges it last starts the gather. -/
def ringActs (n r c : Nat) : List Act :=
  if n ≤ 1 then []
  else
    let k := c % n
    let send := (r + n - k) % n
    let next := (r + 1) % n
    let prev := (r + n - 1) % n
    (if send = 0 then [] else [Act.merge prev]) ++ (if send + 1 = n then [] else [Act.send next false]) ++
    (if send + 1 = n then [Act.send next true]
     else [Act.copy prev true] ++ (if send + 2 = n then [] else [Act.send next true]))

def schedule (ring : Bool) (n r c : Nat) : List Act := if ring then ringActs n r c else exchangeActs n r

/-- The ranks that send to rank r in either schedule (R421): STANDING counts them, and each holds a standing credit. -/
def sendersTo (n r : Nat) : List Nat :=
  (((exchangeActs n r).filterMap (fun a => match a with | .merge q => some q | .copy q _ => some q | _ => none)) ++
    (if n ≤ 1 then [] else [(r + n - 1) % n])).eraseDups

/-- The ranks that rank r sends to in either schedule. -/
def receiversOf (n r : Nat) : List Nat :=
  (((exchangeActs n r).filterMap (fun a => match a with | .send q _ => some q | _ => none)) ++ (if n ≤ 1 then [] else [(r + 1) % n])).eraseDups

/-! ## Merge formulas (R431) -/

/-- One LSE_MERGE row: two (outputs, LSE) pairs. -/
def mergeRow (oa : List Nat) (la : Nat) (ob : List Nat) (lb : Nat) : List Nat × Nat :=
  if isNan32 la || isNan32 lb then (oa.map (fun _ => nan32), nan32)
  else
    let swap := ltFp (dec32 la) (dec32 lb)
    let ox := if swap then ob else oa
    let oy := if swap then oa else ob
    let lx := if swap then lb else la
    let ly := if swap then la else lb
    if lx = inf32 true then (ox.map (fun _ => 0), inf32 true)
    else
      let w := exp32 (sub32 ly lx)
      let sm := add32 one32 w
      let r := rcp32 sm
      (List.zipWith (fun y x => mul32 (fma32 y w x) r) oy ox, add32 lx (log32 sm))

/-- The rows of a chunk of LSE_MERGE data: d outputs each, rows in order, then the LSEs. -/
def rowsOf (d : Nat) (xs : List Nat) : List (List Nat × Nat) :=
  let q := xs.length / (d + 1)
  (List.range q).map (fun i => ((xs.drop (i * d)).take d, xs.getD (q * d + i) 0))

def unrows (rs : List (List Nat × Nat)) : List Nat := rs.flatMap Prod.fst ++ rs.map Prod.snd

def mergeChunk (lse : Bool) (d : Nat) (a b : List Nat) : List Nat :=
  if lse then unrows (List.zipWith (fun x y => mergeRow x.1 x.2 y.1 y.2) (rowsOf d a) (rowsOf d b))
  else List.zipWith add32 a b

/-- R431: a merge yields a value that HEA_NONFINITE_COUNT counts. -/
def badChunk (lse : Bool) (d : Nat) (xs : List Nat) : Bool :=
  if lse then (rowsOf d xs).any (fun r => r.1.any (fun x => isNan32 x || isInf32 x) || isNan32 r.2 || r.2 == inf32 false)
  else xs.any (fun x => isNan32 x || isInf32 x)

/-! ## Chunks (R433) -/

/-- Elements of one chunk: 16,384, or Q whole rows. -/
def chunkElems (lse : Bool) (d : Nat) : Nat := if lse then 16384 / (d + 1) * (d + 1) else 16384

def chunkCount (lse : Bool) (d elements : Nat) : Nat := ceilDiv elements (chunkElems lse d)

/-- The vector of a heat cut into chunks. For LSE_MERGE `xs` holds all outputs, then all LSEs. -/
def cutChunks (lse : Bool) (d elements : Nat) (xs : List Nat) : Tab (List Nat) :=
  if elements = 0 then [(0, [])]
  else
    let n := chunkCount lse d elements
    if lse then
      let rows := rowsOf d xs
      let q := 16384 / (d + 1)
      (List.range n).map (fun c => (c, unrows ((rows.drop (c * q)).take q)))
    else (List.range n).map (fun c => (c, (xs.drop (c * 16384)).take 16384))

/-- The vector put together again. -/
def joinChunks (lse : Bool) (d : Nat) (t : Tab (List Nat)) : List Nat :=
  if lse then unrows (t.vals.flatMap (rowsOf d)) else t.vals.flatten

/-! ## Groups -/

def State.group? (s : State) (g : Nat) : Option Group := s.groups.look g

def grpDetail (g rank seq : Nat) : Nat := g + 256 * rank + 2 ^ 20 * (seq % 4096)

def slabsUsed (s : State) : Nat := (s.groups.map (fun e => e.2.reserve)).sum

/-- R445: what the HEA_GRP_ registers show. -/
def State.noteGroup (s : State) (g : Nat) : State :=
  let s := s.wr R.HEA_SLABS_FREE (word (256 - slabsUsed s))
  match s.group? g with
  | none => (((s.wr (R.HEA_GRP_STATUS g) 0).wr (R.HEA_GRP_MEMBERS g) 0).wr (R.HEA_GRP_SEQ g) 0).wr (R.HEA_GRP_LIST_CRC g) 0
  | some x =>
    let st := if x.running.isSome then 2 else 1
    let s := s.wr (R.HEA_GRP_STATUS g) (word (st + 4 * b2n (!x.waiting.isEmpty) + 256 * x.owner + 65536 * x.reserve + 2 ^ 24 * x.standing))
    let s := s.wr (R.HEA_GRP_MEMBERS g) (word (x.list.length + 65536 * x.rank))
    (s.wr (R.HEA_GRP_SEQ g) (word x.seq)).wr (R.HEA_GRP_LIST_CRC g) (word x.crc)

/-- R490: p_g of a group, and what PWR_PACE_STATUS shows: p_g in 1/256, 0 standing for 256, and the last W in µs. -/
def State.setPace (s : State) (g : Nat) (p : Nat × Nat) (w : Nat) : State :=
  { s with pwr := { s.pwr with pace := s.pwr.pace.setD (fun _ => (1, 1)) g p } }.wr (R.PWR_PACE_STATUS g)
    (word (p.1 * 256 / p.2 % 256 + 65536 * min 0xFFFF (w / 1000)))

def State.paceOf (s : State) (g : Nat) : Nat × Nat := (s.pwr.pace.look g).getD (1, 1)

/-- R490: p_g returns to 1. -/
def State.dropPace (s : State) (g : Nat) : State :=
  { s with pwr := { s.pwr with pace := s.pwr.pace.del g } }.setF (R.PWR_PACE_STATUS g) 0 8 0

def State.putGroup (s : State) (g : Nat) (x : Group) : State := { s with groups := s.groups.put g x }.noteGroup g

def State.delGroup (s : State) (g : Nat) : State := ({ s with groups := s.groups.del g }.noteGroup g).dropPace g

/-- A heat of the group runs or waits on this member. -/
def Group.busy (x : Group) : Bool := x.running.isSome || !x.waiting.isEmpty

/-! ## Sending in a group -/

/-- The first word of the HEAT extension (R434). -/
def heatWord (g kind : Nat) (gather : Bool) (seq chunk : Nat) : Nat :=
  2 ^ 24 * g + 2 ^ 22 * kind + 2 ^ 21 * b2n gather + 2 ^ 17 * (seq % 16) + 8 * chunk

/-- A packet of a group to one rank. -/
def State.heatSend (s : State) (x : Group) (rank : Nat) (owner : XOwner) (w hash : Nat) (data : List Byte) : State × Except Nat Nat :=
  let d := x.list.getD rank (0, 0)
  s.sendOwn { newXfer owner tyHeat x.owner d.1 d.2 0 0 0 0 data.length x.tclass (some data) with heat := w, hash := hash }

/-- R439: ABORT to every other member of the group, with a status. -/
def State.sendAborts (s : State) (g : Nat) (x : Group) (seq status : Nat) : State :=
  (List.range x.list.length).foldl (fun s r =>
    if r = x.rank then s else (s.heatSend x r .note (heatWord g 2 false seq 0) status []).1) s

/-- R437: grant credits to a rank. -/
def State.sendCredit (s : State) (g : Nat) (x : Group) (rank n : Nat) : State := (s.heatSend x rank .note (heatWord g 1 false x.seq 0) n []).1

/-! ## The end of a heat -/

/-- R490: what a completed heat makes of its group's p: with W above 1 µs it moves a quarter of the way to T_own ÷ (T_own + PACE_SHARE × W). -/
def State.paceUpdate (s : State) (g : Nat) (h : Heat) : State :=
  if !s.getB R.PWR_POLICY 1 then s
  else
    let start := ((s.op? h.op).bind (fun o => s.chains.look o.chain)).map Chain.start |>.getD h.begun
    let own := h.begun - start
    let w := h.firstIn - h.begun
    let p := s.paceOf g
    if w ≤ 1000 then s.setPace g p w
    else
      let share := min 100 (s.getF R.PWR_POLICY 16 8)
      let goal := frac (100 * own) (100 * own + share * w)
      s.setPace g (fadd (fmul (3, 4) p) (fmul (1, 4) goal)) w

/-- The running heat ends with a status; RESULT is its sequence number (R425). Its chunks leave the pool. -/
def State.endHeat (s : State) (g status : Nat) : State :=
  match s.group? g with
  | none => s
  | some x =>
    match x.running with
    | none => s
    | some h =>
      let s := if isOk status then s.paceUpdate g h else s
      let s := ((s.bump R.HEA_HEATS_DONE).count 13 0 0x02 x.owner (s.opTags h.op) 1).finishOp h.op status x.seq
      s.putGroup g { x with running := none, seq := (x.seq + 1) % 2 ^ 32, pool := x.pool.filter (fun a => a.seqLo ≠ x.seq % 16) }

/-- The counters, interrupt bits and codes of an early end (R431, R438, R439, R445, R446). -/
def State.noteHeatEnd (s : State) (g status code cls : Nat) (x : Group) : State :=
  let s := if status = stMismatch then (s.bump R.HEA_MISMATCH_COUNT).raiseInt pHEA 0
    else if status = stFlushed then s else s.bump R.HEA_ABORT_COUNT
  let s := if status = stAborted then s.raiseInt pHEA 1 else s
  let s := if status = stCheck then s.raiseInt pHEA 3 else s
  let s := if status = stArith then (s.bump R.HEA_UNRECOVERED_COUNT).raiseInt pHEA 4 else s
  if code = 0 then s else s.logErr pHEA code cls x.owner noTags 0 (grpDetail g x.rank x.seq)

/-- A heat that waits for its turn ends before it starts (R425, R435, R438, R439): it is counted and uses its sequence number as a heat that ran does. -/
def State.dropHeat (s : State) (g i status code cls : Nat) (x : Group) : State :=
  let tags := s.opTags i
  let s := s.putGroup g { x with waiting := x.waiting.erase i, partials := x.partials.del i, seq := (x.seq + 1) % 2 ^ 32 }
  (((s.noteHeatEnd g status code cls x).bump R.HEA_HEATS_DONE).count 13 0 0x02 x.owner tags 1).finishOp i status x.seq

/-- R438, R439: the running heat ends early on this member, which tells the others with HEAT_MISMATCH or HEAT_ABORTED. -/
def State.stopHeat (s : State) (g status code cls : Nat) (tell : Bool) : State :=
  match s.group? g with
  | none => s
  | some x =>
    if x.running.isNone then s
    else
      let s := (s.noteHeatEnd g status code cls x).endHeat g status
      if tell then s.sendAborts g x x.seq (if status = stMismatch then stMismatch else stAborted) else s

/-- R441, R439: a chunk message of this member ended with a status that is not OK: NAK ACCESS gives HEAT_ABORTED. After the heat's completion the member
only tells the others. -/
def State.heatSendEnded (s : State) (g w status : Nat) : State :=
  match s.group? g with
  | none => s
  | some x =>
    if x.running.isSome && bitsOf w 17 4 = x.seq % 16 then s.stopHeat g (if status = stDenied then stAborted else status) 0 0 true
    else (s.raiseInt pHEA 1).sendAborts g x (x.seq - 1) stAborted

/-! ## GROUP_SET, GROUP_DELETE -/

structure GroupArgs where
  list : Nat
  members : Nat
  group : Nat
  rank : Nat
  reserve : Nat
  replace : Bool
  tclass : Nat
  timeout : Nat
deriving DecidableEq, Repr

def groupArgs (d : Desc) : GroupArgs :=
  ⟨dQuad d 0x10, dfld d 0x18 0 13, dfld d 0x18 16 8, dfld d 0x1C 0 12, dfld d 0x1C 16 7, dfld d 0x1C 23 1 = 1, dfld d 0x1C 24 3, dfld d 0x20 0 16⟩

def wordsOf (bs : List Byte) : Nat → List Nat
  | 0 => []
  | n + 1 => leNat (bs.take 4) :: wordsOf (bs.drop 4) n

/-- R421: the first check of GROUP_SET that fails: (status, RESULT). -/
def State.groupCheck (s : State) (fn : Nat) (a : GroupArgs) (es : List (Nat × Nat)) : Option (Nat × Nat) :=
  let standing := (sendersTo a.members a.rank).length
  let old := s.group? a.group
  if a.members = 0 || 4096 < a.members then some (stInvalid, invalidAt 0x18)
  else if a.members ≤ a.rank then some (stInvalid, invalidAt 0x1C)
  else if es[a.rank]? ≠ some (s.devId, fn) then some (stInvalid, invalidAt 0x1C)
  else if es.eraseDups.length ≠ es.length then some (stInvalid, invalidAt 0x10)
  else if a.reserve < standing + 2 || 64 < a.reserve then some (stInvalid, invalidAt 0x1C)
  else match old with
    | some x =>
      if x.owner ≠ fn then some (stDenied, 0)
      else if !a.replace then some (stInvalid, invalidAt 0x1C)
      else if x.busy then some (stInvalid, invalidAt 0x18)
      else if 256 - slabsUsed s + x.reserve < a.reserve then some (stDenied, 0) else none
    | none =>
      if s.getF (R.TRN_FN_HEAT fn) 8 8 ≤ (s.groups.filter (fun e => e.2.owner = fn)).length then some (stDenied, 0)
      else if 256 - slabsUsed s < a.reserve then some (stDenied, 0) else none

/-- GROUP_SET, R420 to R422. The collectives core does it. A refusal logs code 0x05. -/
def State.groupSet (s : State) (hv : HostView) (i : Nat) (o : Op) : State :=
  let a := groupArgs o.desc
  if a.list % 4 ≠ 0 || 2 ^ 57 ≤ a.list then s.finishOp i stInvalid (invalidAt 0x10)
  else
    let s := s.traceStart o 0
    match s.vread hv 4 o.fn a.list (4 * min a.members 4096) (descTags o.desc) with
    | (s, .error f) => s.opFail i f
    | (s, .ok bs) =>
      let ws := (wordsOf bs (min a.members 4096)).map (· % 2 ^ 18)
      let es := ws.map (fun w => (w % 4096, w / 4096))
      match s.groupCheck o.fn a es with
      | some (st, r) => (s.logErr pHEA 0x05 clsDevice o.fn (descTags o.desc) 0 (grpDetail a.group a.rank 0)).finishOp i st r
      | none =>
        let crc := crc32c (ws.flatMap (leBytes 4))
        let standing := sendersTo a.members a.rank
        let x : Group :=
          { owner := o.fn, list := es, rank := a.rank, reserve := a.reserve, standing := standing.length, tclass := a.tclass, timeoutMs := a.timeout,
            seq := 0, crc := crc, running := none, waiting := [],
            credits := (receiversOf a.members a.rank).foldl (fun (t : Tab Nat) r => t.put r 1) [],
            granted := standing.foldl (fun (t : Tab Nat) r => t.put r 1) [], further := [], pool := [], partials := [], abortNext := none }
        ((s.putGroup a.group x).dropPace a.group).finishOp i stOK crc

/-- The collectives core (R496). -/
def coreHea : Nat := 3

def execGroupSet (op : Nat) (hv : HostView) (s : State) : Res :=
  .next (match s.runnable op [0x40] with | none => s | some o => if s.coreUp coreHea then s.groupSet hv op o else s)

/-- GROUP_DELETE, R423. -/
def execGroupDelete (op : Nat) (s : State) : Res :=
  .next (match s.runnable op [0x41] with
    | none => s
    | some o =>
      if !s.coreUp coreHea then s
      else
        let g := dfld o.desc 0x10 0 8
        let s := s.traceStart o 0
        match s.group? g with
        | none => s.finishOp op stOK 0
        | some x =>
          if x.owner ≠ o.fn then s.finishOp op stDenied 0
          else if x.busy then s.finishOp op stInvalid (invalidAt 0x10)
          else (s.delGroup g).finishOp op stOK 0)

/-! ## HEAT -/

structure HeatArgs where
  src : Nat
  output : Nat
  elements : Nat
  contrib : Nat
  group : Nat
  op : Nat
  dtype : Nat
  algo : Nat
  rowLen : Nat
  fromStore : Bool
deriving DecidableEq, Repr

def heatArgs (d : Desc) : HeatArgs :=
  ⟨dQuad d 0x10, dQuad d 0x18, dfld d 0x20 0 29, dfld d 0x24 0 29, dfld d 0x28 0 8, dfld d 0x28 8 2, dfld d 0x28 10 4, dfld d 0x28 14 2,
    dfld d 0x28 16 9, dfld d 0x28 25 1 = 1⟩

def HeatArgs.lse (a : HeatArgs) : Bool := a.op = 1

/-- Elements the member supplies, before it is cut at the capacity: a row of LSE_MERGE is D + 1 elements. -/
def HeatArgs.supplied (a : HeatArgs) : Nat := if a.lse then a.contrib * (a.rowLen + 1) else a.contrib

def HeatArgs.bytes (a : HeatArgs) : Nat := a.elements * elemBytes a.dtype

/-- The descriptor before this one in its chain. -/
def State.prevOp (s : State) (o : Op) : Option (Nat × Op) := s.ops.find? (fun e => e.2.chain = o.chain && e.2.pos + 1 = o.pos)

/-- R424, R425: the field that makes a HEAT INVALID, by its offset. -/
def State.heatBad (s : State) (o : Op) (a : HeatArgs) : Option Nat :=
  let used := !a.fromStore && a.contrib ≠ 0
  if 2 ^ 57 ≤ a.src || (used && a.src % 64 ≠ 0) then some 0x10
  else if 2 ^ 57 ≤ a.output || (a.elements ≠ 0 && a.output % 64 ≠ 0) then some 0x18
  else if used && a.elements ≠ 0 && a.src ≠ a.output && a.src < a.output + a.bytes && a.output < a.src + min a.supplied a.elements * elemBytes a.dtype
    then some 0x18
  else if 2 ^ 28 < a.elements || (a.lse && a.elements % (a.rowLen + 1) ≠ 0) || 16384 < chunkCount a.lse a.rowLen a.elements then some 0x20
  else if 2 ≤ a.op || a.algo = 3 then some 0x28
  else if a.lse && (a.dtype ≠ 9 || a.rowLen = 0 || 256 < a.rowLen) then some 0x28
  else if !a.lse && !(a.dtype = 7 || a.dtype = 8 || a.dtype = 9) then some 0x28
  else if a.fromStore && !o.store then some 0x28
  else if (s.group? a.group).isNone then some 0x28
  else none

/-- R430: AUTO. -/
def HeatArgs.ring (a : HeatArgs) (n : Nat) : Bool :=
  if a.elements = 0 then false
  else if a.algo = 1 then false
  else if a.algo = 2 then true
  else !(n ≤ 2 || chunkCount a.lse a.rowLen a.elements ≤ 4)

/-- R436: the descriptor hash. -/
def heatHash (elements op dtype : Nat) (ring : Bool) (rowLen members crc seq : Nat) : Nat :=
  crc32c ([elements, op + 16 * dtype + 256 * (if ring then 2 else 1) + 65536 * rowLen, members, crc, seq].flatMap (leBytes 4))

def Heat.hash (h : Heat) (x : Group) : Nat :=
  heatHash h.elements (b2n h.lse) h.dtype h.ring (if h.lse then h.rowLen else 0) x.list.length x.crc x.seq

/-- R426: a contribution cut or padded with the identity to the heat's capacity. `have`: rows or elements supplied, as FP32. -/
def padContribution (a : HeatArgs) (xs : List Nat) : List Nat :=
  if a.lse then
    let rows := a.elements / (a.rowLen + 1)
    let rs := (rowsOf a.rowLen xs).take rows
    unrows (rs ++ List.replicate (rows - rs.length) (List.replicate a.rowLen 0, inf32 true))
  else
    let ys := xs.take a.elements
    ys ++ List.replicate (a.elements - ys.length) 0

/-- Read this member's contribution from SRC (R424, R426): the bytes beyond the capacity, and padding, are not read. -/
def State.heatSource (s : State) (fn : Nat) (tags : Tags) (hv : HostView) (a : HeatArgs) : State × Except AccFail (List Nat) :=
  let eb := elemBytes a.dtype
  if a.contrib = 0 || a.elements = 0 then (s, .ok [])
  else if a.lse then
    let rows := min a.contrib (a.elements / (a.rowLen + 1))
    match s.vread hv 2 fn a.src (rows * a.rowLen * eb) tags with
    | (s, .error f) => (s, .error f)
    | (s, .ok os) =>
      match s.vread hv 2 fn (a.src + a.contrib * a.rowLen * eb) (rows * eb) tags with
      | (s, .error f) => (s, .error f)
      | (s, .ok ls) => (s, .ok ((elemsOf 9 (rows * a.rowLen) os) ++ elemsOf 9 rows ls))
  else
    let n := min a.contrib a.elements
    match s.vread hv 2 fn a.src (n * eb) tags with
    | (s, .error f) => (s, .error f)
    | (s, .ok bs) => (s, .ok ((elemsOf a.dtype n bs).map (toF32 a.dtype)))

/-- Elements or rows beyond the capacity (R426). -/
def HeatArgs.dropped (a : HeatArgs) (rows : Option Nat) : Nat :=
  let n := rows.getD a.contrib
  if a.lse then n - a.elements / (a.rowLen + 1) else n - a.elements

/-- The next action of a chunk. -/
def Heat.next (h : Heat) (x : Group) (c : Nat) : Option Act := (schedule h.ring x.list.length x.rank c)[(h.done.look c).getD 0]?

/-- Every chunk has its actions behind it. -/
def Heat.isOver (h : Heat) (x : Group) : Bool :=
  h.chunks.all (fun e => (h.done.look e.1).getD 0 = (schedule h.ring x.list.length x.rank e.1).length)

/-- R431, R441: the whole result is there: it is written to OUTPUT and the heat completes. -/
def State.heatOutput (s : State) (hv : HostView) (g : Nat) : State :=
  match s.group? g with
  | none => s
  | some x =>
    match x.running with
    | none => s
    | some h =>
      if !h.isOver x then s
      else if h.elements = 0 then s.endHeat g stOK
      else
        let es := (joinChunks h.lse h.rowLen h.chunks).map (fromF32 h.dtype)
        let sat := (es.filter Prod.snd).length
        match s.vwrite hv 2 x.owner h.output (bytesOf h.dtype (es.map Prod.fst)) ((s.opTags h.op).getD noTags) with
        | (s, none) => (s.bump R.HEA_SAT_COUNT sat).endHeat g (if h.truncated then stTruncated else stOK)
        | (s, some (.fault va p)) =>
          match s.raiseFault x.owner va true p (.op h.op) with
          | (s, .ended) => s.stopHeat g stTransFault 0 0 true
          | (s, _) => s
        | (s, some (.held _)) => s
        | (s, some (.denied va)) | (s, some (.lost va)) => (s.logDenied x.owner va noTags).stopHeat g stDenied 0 0 true
        | (s, some (.poison _)) => s.stopHeat g stCheck 0 0 true

/-- R443: the slabs that partials of TO_REDUCTION hold; ROW_LEN is that of the HEAT each waits for. -/
def State.partialSlabs (s : State) (x : Group) : Nat :=
  (x.partials.map (fun e => match s.op? e.1 with | some o => chunkCount true (heatArgs o.desc).rowLen e.2.length | none => 0)).sum

/-- R437: further credits to the sender of the current step, one for each pool slab free beyond those of R422. -/
def State.grantFurther (s : State) (g : Nat) : State :=
  match s.group? g with
  | none => s
  | some x =>
    match x.running with
    | none => s
    | some h =>
      let out := (x.further.map Prod.snd).sum
      let held := (x.pool.filter (fun a => !a.standing)).length
      let part := s.partialSlabs x
      let free := x.reserve - x.standing - 2 - out - held - part
      let want := h.chunks.filterMap (fun e => match h.next x e.1 with | some (.merge q) => some q | some (.copy q _) => some q | _ => none)
      match want.head? with
      | none => s
      | some q =>
        if free = 0 || want.length ≤ 1 then s
        else (s.putGroup g { x with further := x.further.put q ((x.further.look q).getD 0 + free) }).sendCredit g x q free

/-- A heat starts on this member with its contribution (R438, R443). Chunks that came before it are compared with its hash now. -/
def State.beginHeat (s : State) (hv : HostView) (i g : Nat) (x : Group) (a : HeatArgs) (xs : List Nat) (dropped : Nat) : State :=
  let h : Heat :=
    { op := i, lse := a.lse, dtype := a.dtype, ring := a.ring x.list.length, rowLen := a.rowLen, elements := a.elements, output := a.output,
      chunks := cutChunks a.lse a.rowLen a.elements (padContribution a xs), done := [], truncated := 0 < dropped, progressAt := s.uptime,
      begun := s.uptime, firstIn := s.uptime, waits := [] }
  let s := (s.bump R.HEA_DROPPED_COUNT dropped).putGroup g { x with running := some h, waiting := x.waiting.erase i, partials := x.partials.del i }
  let s := (s.grantFurther g).trace 13 0 0x08 x.owner none g x.seq
  if x.pool.any (fun a => a.seqLo = x.seq % 16 && a.hash ≠ h.hash x) then s.stopHeat g stMismatch 0x01 clsDevice true else s.heatOutput hv g

/-- The heat's turn has come: it takes its contribution and starts. -/
def State.tryHeat (s : State) (hv : HostView) (i : Nat) (o : Op) (a : HeatArgs) : State :=
  match s.group? a.group with
  | none => s
  | some x =>
    if x.running.isSome || x.waiting.head? ≠ some i then s
    else match x.abortNext with
      | some st => s.dropHeat a.group i st 0 0 { x with abortNext := none }
      | none =>
        if a.fromStore then
          match x.partials.look i with
          | some xs => s.beginHeat hv i a.group x a xs (a.dropped (some (xs.length / (a.rowLen + 1))))
          | none =>
            if (s.prevOp o).all (fun p => p.2.st == .done) then
              (s.dropHeat a.group i stFlushed 0 0 x).sendAborts a.group x x.seq stAborted
            else s
        else match s.heatSource o.fn (descTags o.desc) hv a with
          | (s, .ok xs) => s.beginHeat hv i a.group x a xs (a.dropped none)
          | (s, .error (.poison _)) =>
            (s.dropHeat a.group i stCheck 0x02 clsMemory x).sendAborts a.group x x.seq stAborted
          | (s, .error (.fault va p)) =>
            match s.raiseFault o.fn va false p (.op i) with
            | (s, .ended) =>
              (s.dropHeat a.group i stTransFault 0 0 x).sendAborts a.group x x.seq stAborted
            | (s, _) => { s with ops := s.ops.upd i (fun o => { o with waitFault := true }) }
          | (s, .error (.held _)) => s
          | (s, .error (.denied va)) | (s, .error (.lost va)) =>
            ((s.logDenied o.fn va (descTags o.desc)).dropHeat a.group i stDenied 0 0 x).sendAborts a.group x x.seq stAborted

/-- HEAT, R425: it is checked and joins its group's heats in the order HEA receives them; it starts when its turn comes. -/
def State.heat (s : State) (hv : HostView) (i : Nat) (o : Op) : State :=
  let a := heatArgs o.desc
  if o.progress ≠ 0 then s.tryHeat hv i o a
  else match s.heatBad o a with
    | some off => s.finishOp i stInvalid (invalidAt off)
    | none =>
      match s.group? a.group with
      | none => s
      | some x =>
        if x.owner ≠ o.fn || s.getF (R.TRN_FN_HEAT o.fn) 0 8 = 0 then s.finishOp i stDenied 0
        else if (a.elements ≠ 0 && !s.allDevice o.fn a.output a.bytes && s.touchesHost o.fn a.output a.bytes false) ||
            (!a.fromStore && a.elements ≠ 0 && s.touchesHost o.fn a.src (min a.supplied a.elements * elemBytes a.dtype) false) then
          s.finishOp i stDenied 0
        else
          let s := (s.traceStart o 0).putOp i { o with st := .running, progress := 1 }
          (s.putGroup a.group { x with waiting := x.waiting ++ [i] }).tryHeat hv i { o with st := .running, progress := 1 } a

def execHeat (op : Nat) (hv : HostView) (s : State) : Res :=
  .next (match s.runnable op [0x42] with | none => s | some o => s.heat hv op o)

/-- HEAT_ABORT, R439. -/
def execHeatAbort (op : Nat) (s : State) : Res :=
  .next (match s.runnable op [0x43] with
    | none => s
    | some o =>
      let g := dfld o.desc 0x10 0 8
      let s := s.traceStart o 0
      match s.group? g with
      | none => s.finishOp op stOK 0
      | some x =>
        if x.owner ≠ o.fn then s.finishOp op stDenied 0
        else if x.running.isSome then (s.stopHeat g stAborted 0 0 true).finishOp op stOK 1
        else s.finishOp op stOK 0)

/-! ## Chunks under way -/

/-- A chunk has made a step: its action is done and the heat has made progress. -/
def Heat.advance (h : Heat) (c : Nat) (now : Nat) : Heat := { h with done := h.done.put c ((h.done.look c).getD 0 + 1), progressAt := now }

/-- R445, R544: how long a chunk's send has waited for a credit. -/
def State.creditWaited (s : State) (x : Group) (h : Heat) (c : Nat) : State :=
  match h.waits.look c with
  | some t => (s.addUnits R.HEA_CREDIT_WAIT_TIME (s.uptime - t) 1000).count 13 0 0x03 x.owner (s.opTags h.op) ((s.uptime - t) / 1000)
  | none => s

/-- CHUNK_SEND, R433, R437: the chunk's next action is a send and a credit of its receiver is held. -/
def execChunkSend (group chunk : Nat) (hv : HostView) (s : State) : Res :=
  .next (match s.group? group with
    | none => s
    | some x =>
      match x.running with
      | none => s
      | some h =>
        match h.next x chunk, h.chunks.look chunk with
        | some (.send q gather), some xs =>
          let n := (x.credits.look q).getD 0
          if n = 0 then
            if h.waits.has chunk then s else s.putGroup group { x with running := some { h with waits := h.waits.put chunk s.uptime } }
          else
            let s := s.creditWaited x h chunk
            let h := { h with waits := h.waits.del chunk }
            let s := s.putGroup group { x with credits := x.credits.put q (n - 1), running := some (h.advance chunk s.uptime) }
            match s.heatSend x q (.chunk group q chunk) (heatWord group 0 gather x.seq chunk) (h.hash x) (bytesOf 9 xs) with
            | (s, .ok _) => s.heatOutput hv group
            | (s, .error st) => s.stopHeat group st 0 0 true
        | _, _ => s)

/-- R437: a chunk has been merged or copied: a standing credit is restored. -/
def State.restoreCredit (s : State) (g : Nat) (a : Arrived) : State :=
  match s.group? g with
  | none => s
  | some x => if a.standing then (s.putGroup g { x with granted := x.granted.put a.rank 1 }).sendCredit g x a.rank 1 else s.grantFurther g

/-- CHUNK_MERGE, R431, R435, R231: the chunk its next action waits for has been delivered. `crcOk`: the chunk's CRC checked again as the merge reads it;
`first`, `again`: whether the merge, and its repeat, meet a residue or exponent mismatch. -/
def execChunkMerge (group chunk : Nat) (crcOk first again : Bool) (hv : HostView) (s : State) : Res :=
  .next (match s.group? group with
    | none => s
    | some x =>
      match x.running with
      | none => s
      | some h =>
        let wants := match h.next x chunk with | some (.merge q) => some (q, false, false) | some (.copy q ga) => some (q, ga, true) | _ => none
        match wants, h.chunks.look chunk with
        | some (q, ga, isCopy), some xs =>
          match x.pool.find? (fun a => a.rank = q && a.chunk = chunk && a.gather = ga && a.seqLo = x.seq % 16) with
          | none => s
          | some a =>
            if !crcOk then (s.bump R.HEA_CRC_ERR_COUNT).stopHeat group stCheck 0x02 clsMemory true
            else
              let s := s.bump R.HEA_CHECK_COUNT (if isCopy then 0 else b2n first + b2n (first && again))
              if !isCopy && first && again then s.stopHeat group stArith 0x04 clsDevice true
              else
                let r := if isCopy then a.data else mergeChunk h.lse h.rowLen xs a.data
                let s := if !isCopy && badChunk h.lse h.rowLen r then s.bump R.HEA_NONFINITE_COUNT else s
                let early := ((schedule h.ring x.list.length x.rank chunk).take ((h.done.look chunk).getD 0)).any (fun e => match e with | .send _ _ => false | _ => true)
                let h := { h.advance chunk s.uptime with
                  chunks := h.chunks.put chunk r, firstIn := if early then h.firstIn else max h.firstIn a.time }
                (((s.putGroup group { x with running := some h, pool := x.pool.erase a }).restoreCredit group a).count 13 0 0x01 x.owner
                  (s.opTags h.op) 1).heatOutput
                  hv group
        | _, _ => s)

/-- HEAT_TIMEOUT, R439: no chunk merged, copied, sent or credited for TIMEOUT_MS. -/
def execHeatTimeout (group : Nat) (s : State) : Res :=
  .next (match s.group? group with
    | none => s
    | some x => if x.running.isSome then (s.raiseInt pHEA 2).stopHeat group stAborted 0x03 clsDevice true else s)

end Sys2Proof.Machine
end

