-- ==== Sys2Proof/Machine/Stretch.lean ====
section
/-! DEFINITION. Sys2Proof/Machine/Stretch.lean: stretches: headers and layer entries (R242 to R245, R284, R455), layout (R246 to R250), their granules
(R454, R455, R463), reads and writes of a context operation (R242, R276, R460), landmarks and tail records (R247, R248, R254, R264). -/

namespace Sys2Proof
open Machine

/-! ## Layout -/

namespace Machine
namespace Stretch

/-- ek and ev of R246. -/
def ek (x : Stretch) : Nat := elemBytes x.keyFmt
def ev (x : Stretch) : Nat := elemBytes x.valueFmt

/-- S of R246. -/
def blockSize (x : Stretch) : Nat := 64 * x.dim * (x.ek + x.ev)

/-- Bytes of a landmark (R247). -/
def markSize (x : Stretch) : Nat := x.dim * x.ek

def blockOff (x : Stretch) (l b h : Nat) : Nat := ((l * x.cap + b) * x.kvHeads + h) * x.blockSize
def markOff (x : Stretch) (l b h : Nat) : Nat := ((l * x.kvHeads + h) * x.cap + b) * x.markSize
def blockVa (x : Stretch) (l b h : Nat) : Nat := x.blockBase + x.blockOff l b h
def markVa (x : Stretch) (l b h : Nat) : Nat := x.landmarkBase + x.markOff l b h
def entryVa (x : Stretch) (l : Nat) : Nat := x.layerTable + 64 * l

/-- R251: the sizes of the regions. -/
def blockBytes (x : Stretch) : Nat := x.layers * x.cap * x.kvHeads * x.blockSize
def markBytes (x : Stretch) : Nat := if x.landmarks then x.layers * x.kvHeads * x.cap * x.markSize else 0

/-- The bytes of token t of block b: its key row, then its D value elements (R246), as (offset in the block region, length). -/
def tokenSpans (x : Stretch) (l b h t : Nat) : List (Nat × Nat) :=
  let o := x.blockOff l b h
  (o + t * x.dim * x.ek, x.dim * x.ek) :: (List.range x.dim).map (fun d => (o + 64 * x.dim * x.ek + (d * 64 + t) * x.ev, x.ev))

/-! ## Granules -/

def blockGranules (x : Stretch) : Nat := ceilDiv x.blockBytes 131072
def markGranules (x : Stretch) : Nat := ceilDiv x.markBytes 131072

/-- R455: the granule of an offset of a region. -/
def granuleOf (x : Stretch) (mark : Bool) (o : Nat) : Nat := (if mark then x.landmarkGranule else x.blockGranule) + o / 131072

/-- The region, offset and length of what a stretch holds in one of its granules. -/
def granuleRange (x : Stretch) (g : Nat) : Option (Bool × Nat × Nat) :=
  if x.blockGranule ≤ g && g < x.blockGranule + x.blockGranules then
    let o := (g - x.blockGranule) * 131072
    some (false, o, min 131072 (x.blockBytes - o))
  else if x.landmarks && x.landmarkGranule ≤ g && g < x.landmarkGranule + x.markGranules then
    let o := (g - x.landmarkGranule) * 131072
    some (true, o, min 131072 (x.markBytes - o))
  else none

def regionBase (x : Stretch) (mark : Bool) : Nat := if mark then x.landmarkBase else x.blockBase

/-- R463: the lost region's offset of a piece's offset. -/
def lostOff (x : Stretch) (mark : Bool) (o : Nat) : Nat :=
  if mark then
    let i := o / x.markSize
    ((i / x.cap) * x.srcCap + x.srcFirst + i % x.cap) * x.markSize + o % x.markSize
  else
    let i := o / x.blockSize
    let lb := i / x.kvHeads
    ((lb / x.cap * x.srcCap + x.srcFirst + lb % x.cap) * x.kvHeads + i % x.kvHeads) * x.blockSize + o % x.blockSize

/-- The lost granule of a piece's offset. -/
def lostGranule (x : Stretch) (mark : Bool) (o : Nat) : Nat :=
  (if mark then x.srcLandmarkGranule else x.srcBlockGranule) + x.lostOff mark o / 131072

/-- The piece's offset of a lost region's offset, where the piece covers it. -/
def pieceOff (x : Stretch) (mark : Bool) (o : Nat) : Option Nat :=
  if x.srcCap = 0 then none
  else if mark then
    let i := o / x.markSize
    let b := i % x.srcCap
    if x.srcFirst ≤ b && b < x.srcFirst + x.cap && i / x.srcCap < x.layers * x.kvHeads then
      some ((i / x.srcCap * x.cap + (b - x.srcFirst)) * x.markSize + o % x.markSize)
    else none
  else
    let i := o / x.blockSize
    let lb := i / x.kvHeads
    let b := lb % x.srcCap
    if x.srcFirst ≤ b && b < x.srcFirst + x.cap && lb / x.srcCap < x.layers then
      some (((lb / x.srcCap * x.cap + (b - x.srcFirst)) * x.kvHeads + i % x.kvHeads) * x.blockSize + o % x.blockSize)
    else none

/-- The lost granules that n equal contiguous units of a region lie in. -/
def lostUnits (x : Stretch) (mark : Bool) (n size : Nat) : List Nat :=
  (List.range n).flatMap (fun i =>
    let a := x.lostGranule mark (i * size)
    (List.range (x.lostGranule mark (i * size + size - 1) - a + 1)).map (a + ·))

/-- The lost granules that the piece covers (R463). -/
def covered (x : Stretch) : List Nat :=
  (x.lostUnits false (x.layers * x.cap * x.kvHeads) x.blockSize ++
    (if x.landmarks then x.lostUnits true (x.layers * x.kvHeads * x.cap) x.markSize else [])).eraseDups

/-- Whether a lost granule is one of the lost landmark region. -/
def lostMark (x : Stretch) (g : Nat) : Bool :=
  let n := ceilDiv (x.layers * x.kvHeads * x.srcCap * x.markSize) 131072
  x.landmarks && x.srcLandmarkGranule ≤ g && g < x.srcLandmarkGranule + n

end Stretch
end Machine
end Sys2Proof

namespace Sys2Proof.Machine
open Sys2Proof

/-! ## Headers -/

/-- Field of a little-endian image. -/
def imgF (bs : List Byte) (o lo w : Nat) : Nat := bitsOf (leNat ((bs.drop o).take 8)) lo w

/-- R243, R455. -/
def stretchOf (va pa : Nat) (b : List Byte) : Stretch :=
  { va := va, pa := pa, landmarks := imgF b 0x04 16 1 = 1, parity := imgF b 0x04 17 1 = 1, layers := imgF b 0x08 0 16, kvHeads := imgF b 0x08 16 8,
    groupHeads := imgF b 0x08 24 8, dim := imgF b 0x0C 0 16, keyFmt := imgF b 0x0C 16 4, valueFmt := imgF b 0x0C 20 4, cap := imgF b 0x10 0 32,
    width := imgF b 0x14 0 16, firstPos := imgF b 0x18 0 64, blockBase := imgF b 0x20 0 64, landmarkBase := imgF b 0x28 0 64,
    layerTable := imgF b 0x30 0 64, scale := imgF b 0x38 0 32, blockGranule := imgF b 0x40 0 32, landmarkGranule := imgF b 0x44 0 32,
    srcMember := imgF b 0x48 0 3, recovery := imgF b 0x48 3 1 = 1, srcBlockGranule := imgF b 0x4C 0 32, srcLandmarkGranule := imgF b 0x50 0 32,
    srcCap := imgF b 0x54 0 32, srcFirst := imgF b 0x58 0 32 }

def kvFmt (c : Nat) : Bool := c = 1 || c = 2 || c = 7

/-- R242 to R244: the offset of the first header field outside its valid values. -/
def headerBad (b : List Byte) (x : Stretch) : Option Nat :=
  if imgF b 0 0 32 ≠ 0x53544843 then some 0x00
  else if imgF b 4 0 16 ≠ 1 then some 0x04
  else if x.layers = 0 || 1024 < x.layers || x.kvHeads = 0 || 16 < x.kvHeads || x.groupHeads = 0 || 32 < x.groupHeads then some 0x08
  else if !(x.dim = 64 || x.dim = 128 || x.dim = 256) || !kvFmt x.keyFmt || !kvFmt x.valueFmt then some 0x0C
  else if x.cap = 0 || 2 ^ 24 < x.cap then some 0x10
  else if x.width % 512 ≠ 0 || x.width < 512 || 32768 < x.width then some 0x14
  else if 2 ^ 30 < x.firstPos + 64 * x.cap then some 0x18
  else if x.blockBase % 4096 ≠ 0 then some 0x20
  else if x.landmarks && x.landmarkBase % 4096 ≠ 0 then some 0x28
  else if x.layerTable % 4096 ≠ 0 then some 0x30
  else if 0x7F800000 ≤ x.scale || x.scale = 0 then some 0x38
  else none

/-- A layer entry (R245). -/
structure Layer where
  tokens : Nat
  marks : Nat
  wk : Nat
  wv : Nat
  wkScale : Nat
  wvScale : Nat
  norm : Nat
  eps : Nat
  rotary : Nat
  tail : Nat
deriving DecidableEq, Repr

def layerOf (b : List Byte) : Layer :=
  ⟨imgF b 0 0 32, imgF b 4 0 32, imgF b 8 0 64, imgF b 0x10 0 64, imgF b 0x18 0 32, imgF b 0x1C 0 32, imgF b 0x20 0 64, imgF b 0x28 0 32, imgF b 0x30 0 64,
    imgF b 0x38 0 64⟩

/-- The check of a layer entry (R284, R242): the offset of the first field that fails, or the address of a range in a page that is being migrated, which is judged when
the migration has ended. -/
inductive LayerCheck where
  | bad (off : Nat) | waits (va : Nat)
deriving DecidableEq, Repr

/-- R284: an address field of a layer entry: its offset, the address, its alignment and the length of its range. -/
def State.rangeCheck (s : State) (fn off va align len : Nat) : Option LayerCheck :=
  if va % align ≠ 0 then some (.bad off)
  else if s.rangeBusy fn va len then some (.waits va)
  else if s.allDevice fn va len then none
  else some (.bad off)

/-- R284: the first check of a layer entry that fails. `clear`: TOKEN_COUNT and LANDMARK_VALID are about to be cleared. -/
def State.layerBad (s : State) (fn : Nat) (x : Stretch) (e : Layer) (clear : Bool) : Option LayerCheck :=
  let n := x.kvHeads * x.dim
  if !clear && 64 * x.cap < e.tokens then some (.bad 0x00)
  else if !clear && e.tokens / 64 < e.marks then some (.bad 0x04)
  else
    [(0x08, e.wk, 4096, n * x.width), (0x10, e.wv, 4096, n * x.width), (0x20, e.norm, 64, 2 * x.width), (0x30, e.rotary, 64, 3 * 4 * x.dim * 1024),
      (0x38, e.tail, 64, 4 * n)].findSome? (fun c => s.rangeCheck fn c.1 c.2.1 c.2.2.1 c.2.2.2)

/-- DETAIL of code 0x01 for a field of a layer entry (R244). -/
def layerDetail (l o : Nat) : Nat := 65536 * l + 32768 + o

/-! ## What a context operation does, until it fails -/

/-- Why a context operation stops: an access fails at an address, by a DMA engine of a cluster or by Cox; a page is HOST; the operation ends with a
status and RESULT; a CTX error code; a granule of a binding must be reconstructed first, its own by poison or a lost one. -/
inductive CtxFail where
  | acc (f : AccFail) (wr dma : Bool)
  | hostPage (va : Nat) (dma : Bool)
  | ends (status result : Nat)
  | bad (code detail result : Nat)
  | rebuild (binding granule : Nat) (lost : Bool)
deriving DecidableEq, Repr

abbrev CtxM (α : Type) := ExceptT CtxFail (StateM State) α

/-- Apply a state change. -/
def act (f : State → State) : CtxM Unit := modify f

/-- What an access of a context operation brings: the host's view, and the tags of its descriptor (R111). -/
structure Env where
  hv : HostView
  tags : Tags
deriving DecidableEq, Repr

/-- R242: one access of a context operation to a DEVICE page, by a cluster's engine or by Cox. -/
def devSeg (dma : Bool) (env : Env) (fn : Nat) (g : Nat × Nat) : CtxM (List Byte) := do
  let s ← get
  match s.access env.hv fn g.1 false with
  | .host _ | .fail (.lost _) => throw (.hostPage g.1 dma)
  | _ =>
    let r := s.readSeg env.hv 0 fn g env.tags
    set r.1
    match r.2 with
    | .ok bs => pure bs
    | .error f => throw (.acc f false dma)

/-- Read bytes of DEVICE pages. -/
def devRead (dma : Bool) (env : Env) (fn va n : Nat) : CtxM (List Byte) := do
  let l ← (segs va n).mapM (devSeg dma env fn)
  pure l.flatten

/-- Read bytes of DEVICE or HOST pages (R286, R288). -/
def anyRead (env : Env) (fn va n : Nat) : CtxM (List Byte) := do
  let s ← get
  let r := s.vread env.hv 0 fn va n env.tags
  set r.1
  match r.2 with
  | .ok bs => pure bs
  | .error f => throw (.acc f false true)

/-- The binding of a stretch (R456). -/
def State.bindingOf (s : State) (fn : Nat) (x : Stretch) : Option (Nat × Binding) := s.par.bindings.find? (fun e => e.2.fn = fn && e.2.st.pa = x.pa)

/-- A read of a burst would find it bad (R316, R317, R325). -/
def State.readsBad (s : State) (hv : HostView) (burst : Nat) : Bool := s.badBurst burst || burst ∈ hv.ue

/-- R460, R463: read one piece of a region of a stretch: a lost granule not yet rebuilt is reconstructed first, as is a poisoned one. -/
def regionSeg (env : Env) (fn : Nat) (x : Stretch) (mark : Bool) (g : Nat × Nat) : CtxM (List Byte) := do
  let s ← get
  let o := g.1 - x.regionBase mark
  let b := if x.parity then s.bindingOf fn x else none
  match b with
  | none => devSeg true env fn g
  | some (k, b) =>
    if x.recovery && x.lostGranule mark o ∉ b.rebuilt then
      throw (.rebuild k (x.lostGranule mark o) true)
    else
      match s.access env.hv fn g.1 false with
      | .dev p =>
        if s.readsBad env.hv (p / 64) then
          set (s.checkBurst env.hv (p / 64) fn env.tags)
          throw (.rebuild k (x.granuleOf mark o) false)
        else devSeg true env fn g
      | _ => devSeg true env fn g

/-- Read bytes of the block or the landmark region. -/
def regionRead (env : Env) (fn : Nat) (x : Stretch) (mark : Bool) (o n : Nat) : CtxM (List Byte) := do
  let l ← (segs (x.regionBase mark + o) n).mapM (regionSeg env fn x mark)
  pure l.flatten

/-- Bytes of DEVICE pages that tile SRAM or Cox holds already: no access is made. -/
def State.peekBytes (s : State) (fn va n : Nat) : List Byte :=
  (segs va n).flatMap (fun g => match s.walk fn g.1 with
    | some (b, l) => if l.host then List.replicate g.2 0 else s.drams (l.addr + g.1 % pageBytes b) g.2
    | none => List.replicate g.2 0)

/-- Bytes of the block or the landmark region; `held`: the pack has read them already (R269). -/
def regionGet (env : Env) (fn : Nat) (x : Stretch) (mark held : Bool) (o n : Nat) : CtxM (List Byte) := do
  if held then
    let s ← get
    pure (s.peekBytes fn (x.regionBase mark + o) n)
  else regionRead env fn x mark o n

/-- What a context operation will write: function virtual addresses and bytes. -/
abbrev Writes := List (Nat × List Byte)

/-- Check that one write can be made: a DEVICE page, and no part of a burst that its read would find bad (R242, R317). -/
def checkSeg (env : Env) (fn : Nat) (g : Nat × Nat) : CtxM Unit := do
  let s ← get
  match s.access env.hv fn g.1 true with
  | .host _ | .fail (.lost _) => throw (.hostPage g.1 true)
  | .fail f => throw (.acc f true true)
  | .dev p =>
    if s.chanState (chanOf p) = 5 then throw (.acc (.poison (p / 64)) true true)
    else if g.2 ≠ 64 && s.readsBad env.hv (p / 64) then
      set ((s.checkBurst env.hv (p / 64) fn env.tags true).memErr 0x07 (p / 64) fn env.tags)
      throw (.acc (.poison (p / 64)) true true)
    else pure ()

/-- Make the writes of a context operation, once all of them can be made. -/
def commitWrites (env : Env) (fn : Nat) (ws : Writes) : CtxM Unit := do
  ws.forM (fun w => (segs w.1 w.2.length).forM (checkSeg env fn))
  act (fun s => ws.foldl (fun s w => (s.vwrite env.hv 0 fn w.1 w.2 env.tags).1) s)

/-! ## The start of a context operation -/

/-- R244: read and check a header. -/
def header (env : Env) (fn va : Nat) : CtxM Stretch := do
  let bs ← devRead false env fn va 256
  let s ← get
  let pa := match s.walk fn va with | some (g, l) => l.addr + va % pageBytes g | none => 0
  let x := stretchOf va pa bs
  match headerBad bs x with
  | some o => throw (.bad 0x01 o 0)
  | none => pure x

/-- R244: read and check a layer entry. -/
def layerEntry (env : Env) (fn : Nat) (x : Stretch) (l : Nat) (clear : Bool) : CtxM Layer := do
  if x.layers ≤ l then throw (.bad 0x01 0x08 0)
  let bs ← devRead false env fn (x.entryVa l) 64
  let e := layerOf bs
  let s ← get
  match s.layerBad fn x e clear with
  | some (.bad o) => throw (.bad 0x01 (layerDetail l o) 0)
  | some (.waits va) => throw (.acc (.held va) false false)
  | none => pure e

/-! ## Order (R266) -/

/-- The header's device physical address of a context operation or PARITY_CTL, by its descriptor. -/
def State.headerPa (s : State) (o : Op) : Option Nat :=
  match s.walk o.fn (dQuad o.desc 0x10) with
  | some (g, l) => if l.host then none else some (l.addr + dQuad o.desc 0x10 % pageBytes g)
  | none => none

/-- R266: PARITY_CTL SYNC, UNBIND and RECOVER_LANDMARKS, and STRETCH_INIT, count for every layer. -/
def isOrdered (d : Desc) : Bool := isContext d || (dOpcode d = 0x75 && (let a := dfld d 0x18 0 3; a = 0 || a = 1 || a = 3))

/-- The layers an operation works on, as (first, count); none stands for every layer. -/
def layersOf (d : Desc) : Option (Nat × Nat) :=
  match dOpcode d with
  | 0x21 => some (dfld d 0x24 16 16, 1)
  | 0x22 => some (dfld d 0x2C 16 16, 1)
  | 0x23 => some (dfld d 0x2C 16 16, 1)
  | 0x24 => some (dfld d 0x20 0 16, dfld d 0x20 16 16)
  | 0x25 => some (dfld d 0x1C 0 16, dfld d 0x1C 16 16)
  | _ => none

def layersMeet (a b : Option (Nat × Nat)) : Bool :=
  match a, b with
  | some (p, m), some (q, n) => p < q + n && q < p + m
  | _, _ => true

/-- R30, R266: an operation admitted before, on the same header and a common layer, has not yet done its local writes. `but`: operations that are no matter. -/
def State.orderWaitBut (s : State) (but : Nat → Op → Bool) (i : Nat) (o : Op) : Bool :=
  match s.headerPa o with
  | none => false
  | some p => s.ops.any (fun e => e.1 < i && isOrdered e.2.desc && e.2.st != .done && e.2.progress = 0 && s.headerPa e.2 == some p &&
      layersMeet (layersOf e.2.desc) (layersOf o.desc) && !but e.1 e.2)

def State.orderWait (s : State) (i : Nat) (o : Op) : Bool := s.orderWaitBut (fun _ _ => false) i o

/-- R287, R290: an ordering point waits until every earlier one has ended. -/
def State.orderPoint (s : State) (i : Nat) (o : Op) : Bool :=
  match s.headerPa o with
  | none => false
  | some p => s.ops.any (fun e => e.1 < i && isOrdered e.2.desc && e.2.st != .done && s.headerPa e.2 == some p &&
      layersMeet (layersOf e.2.desc) (layersOf o.desc))

/-! ## The end of a context operation -/

/-- A descriptor that ends leaves the tiles' queues. -/
def State.dropUnits (s : State) (i : Nat) : State :=
  let s := { s with tiles := { s.tiles with dispatched := s.tiles.dispatched.del i } }
  allTiles.foldl (fun s t =>
    let x := s.tileAt t.1 t.2
    if x.units.any (fun u => u.1 = i) then
      s.setUnits t.1 t.2 (x.units.filter (fun u => u.1 ≠ i)) (x.busy && x.units.head?.any (fun u => u.1 ≠ i))
    else s) s

/-- R275, R544: what a context operation used of a cluster that the manual gives no formula for: the cycles its tiles waited for operands, and its vector lane
operations. The cluster and both amounts are free values. -/
def State.noteLanes (s : State) (fn : Nat) (t : Tags) : State :=
  let c := s.free
  let w := c.2.free
  let l := w.2.free
  let nn := c.1 % 16
  ((l.2.addUnits (R.CLS_MEM_WAIT nn) w.1 128).count 7 nn 0x04 fn (some t) w.1).count 7 nn 0x06 fn (some t) l.1

/-- The end of a context operation. -/
def State.endCtx (s : State) (i st result : Nat) : State :=
  let s := s.dropUnits i
  let s := match s.op? i with
    | some o => if isOk st then s.noteLanes o.fn (descTags o.desc) else s
    | none => s
  s.finishOp i st result

/-- R274: a CTX error of an operation on a stretch; ADDRESS is the header's address. -/
def State.ctxErr (s : State) (o : Op) (code detail : Nat) : State :=
  let s := if code = 1 then s.raiseInt pCTX 0 else if code = 4 then s.raiseInt pCTX 1 else s
  s.logErr pCTX code clsDevice o.fn (descTags o.desc) (dQuad o.desc 0x10) detail

/-! ## Landmarks and tail records -/

/-- The FP32 values of stored elements (R212). -/
def valuesOf (c : Nat) (bs : List Byte) : List Nat := (elemsOf c (bs.length / elemBytes c) bs).map (toF32 c)

/-- The sums of stored keys, dimension by dimension, in ascending token order (R247, R248). -/
def keySums (x : Stretch) (bs : List Byte) : List Nat :=
  let v := valuesOf x.keyFmt bs
  (List.range x.dim).map (fun d => sumSeq ((List.range (v.length / x.dim)).map (fun t => v.getD (t * x.dim + d) 0)))

/-- FP32 values in a format, and how many were saturated (R213). -/
def encodeAll (c : Nat) (xs : List Nat) : List Byte × Nat :=
  let r := xs.map (fromF32 c)
  (bytesOf c (r.map Prod.fst), (r.filter Prod.snd).length)

/-- The landmark of sums (R247): × 2^−6 and converted by R213. -/
def markOfSums (x : Stretch) (sums : List Nat) : List Byte × Nat := encodeAll x.keyFmt (sums.map (fun v => mul32 v 0x3C800000))

/-- R213, R235: saturations count in the cluster that made them; which one is a free choice. -/
def State.noteSat (s : State) (n : Nat) : State :=
  if n = 0 then s
  else
    let c := s.someCluster
    c.2.bump (R.CLS_SAT_COUNT c.1) n

/-- R219, R235: tile blocks committed with a NaN or an infinity count in the cluster that ran them; which one is a free choice. -/
def State.noteNonfinite (s : State) (n : Nat) : State :=
  if n = 0 then s
  else
    let c := s.someCluster
    c.2.bump (R.CLS_NONFINITE_COUNT c.1) n

/-- R219: a value that counts in CLSnn_NONFINITE_COUNT. -/
def oddFp (v : Nat) : Bool := isNan32 v || isInf32 v

/-- Lists of at most k. -/
def chop {α : Type} (k : Nat) : Nat → List α → List (List α)
  | 0, _ => []
  | n + 1, l => if l.isEmpty then [] else l.take k :: chop k n (l.drop k)

/-- The sums of the first n stored keys of a block. -/
def blockSums (env : Env) (fn : Nat) (x : Stretch) (l b h n : Nat) : CtxM (List Nat) := do
  let bs ← regionRead env fn x false (x.blockOff l b h) (n * x.dim * x.ek)
  pure (keySums x bs)

/-- The bytes of a tail record of FP32 sums by head (R248). -/
def tailBytes (sums : List (List Nat)) : List Byte := sums.flatMap (fun h => h.flatMap (leBytes 4))

/-- Zero sums for every head. -/
def zeroTails (x : Stretch) : List (List Nat) := List.replicate x.kvHeads (List.replicate x.dim 0)

/-- R248, R264: the tail record rebuilt from the stored keys of the open block. -/
def rebuildTail (env : Env) (fn : Nat) (x : Stretch) (l tokens : Nat) : CtxM (List Byte) := do
  if tokens % 64 = 0 then pure (tailBytes (zeroTails x))
  else
    let t ← (List.range x.kvHeads).mapM (fun h => blockSums env fn x l (tokens / 64) h (tokens % 64))
    pure (tailBytes t)

/-- The writes of TOKEN_COUNT and LANDMARK_VALID of a layer. -/
def countWrites (x : Stretch) (l tokens marks : Nat) : Writes := [(x.entryVa l, leBytes 4 tokens ++ leBytes 4 marks)]

end Sys2Proof.Machine
end

