-- ==== Sys2Proof/Machine/ParityCore.lean ====
section
/-! DEFINITION. Sys2Proof/Machine/ParityCore.lean: the parity stretch: granules and lines (R454), parity updates (R255, R458), committed images (R457),
reconstruction as requester and as holder (R459, R460, R463), the state registers (R467). -/

namespace Sys2Proof.Machine
open Sys2Proof

/-! ## The parity set (R454, R467, R468) -/

def noHost : HostView := ⟨[], [], [], []⟩

/-- N of R454: 2 to 8, other values act as 8. -/
def State.parN (s : State) : Nat :=
  let m := s.getF R.CTX_PAR_CTRL 8 4
  if 2 ≤ m && m ≤ 8 then m else 8

def State.parOn (s : State) : Bool := s.getB R.CTX_PAR_CTRL 0
def State.parKey (s : State) : Nat := s.getF R.CTX_PAR_CTRL 16 16
def State.parLines (s : State) : Nat := s.getF R.CTX_PAR_LINES 0 23
def State.parBase (s : State) : Nat := s.pair R.CTX_PAR_BASE_LO R.CTX_PAR_BASE_HI
def State.member (s : State) : Nat := s.getF R.GLB_MEMBER 0 3
def State.memberDev (s : State) (m : Nat) : Nat := s.devId / 8 * 8 + m
def State.memberLost (s : State) (m : Nat) : Bool := s.getB R.CTX_PAR_LOST m
def State.rescanned (s : State) (m : Nat) : Bool := s.getB R.CTX_PAR_STATE (8 + m)

/-- R454: the holder of granule g of member m, the line, and the granule of member m in line k of holder h. -/
def holderOf (n m g : Nat) : Nat := (m + 1 + g % (n - 1)) % n
def lineOf (n g : Nat) : Nat := g / (n - 1)
def granuleAt (n h m k : Nat) : Nat := (n - 1) * k + (h + n - m - 1) % n

/-- WINDOW of a parity window: index and key (R342, R457). -/
def State.parWindow (s : State) (w : Nat) : Nat := w + 65536 * s.parKey

/-- R467: STATE, the bindings in use, and the piece granules not yet rebuilt. -/
def State.noteParity (s : State) : State :=
  let st := if s.par.rescan.isSome then 3 else if s.getF R.CTX_PAR_LOST 0 8 ≠ 0 then 2 else if s.parOn then 1 else 0
  let s := (s.setF R.CTX_PAR_STATE 0 2 st).setF R.CTX_PAR_STATE 16 11 s.par.bindings.length
  let left := (s.par.bindings.map (fun e => if e.2.st.recovery then (e.2.st.covered.filter (fun g => g ∉ e.2.rebuilt)).length else 0)).sum
  s.setF R.CTX_PAR_RECON_PENDING 0 23 left

/-- R464: member m is declared lost, with the cause of MEMBER_LOST (R94). -/
def State.declareLost (s : State) (m cause : Nat) : State :=
  if s.memberLost m then s
  else ((s.setB R.CTX_PAR_LOST m true).noteParity).event 0 pCTX 0x0020 0 clsDevice 0 0 (m + 256 * cause) 0

/-! ## Exclusive-or of bytes -/

def xorBytes (a b : List Byte) : List Byte := List.zipWith (fun x y => x ^^^ y) a b

/-- Exclusive-or a run of bytes, which starts at offset p, into a run that starts at offset o. -/
def xorInto (o : Nat) (bs : List Byte) (p : Nat) (d : List Byte) : List Byte :=
  let d := d.drop (o - p)
  let i := p - o
  bs.take i ++ xorBytes (bs.drop i) d ++ (bs.drop i).drop d.length

/-! ## A descriptor's parity update (R255, R281, R458) -/

/-- What a descriptor with a parity update keeps: parts not committed, the worst status, since when it waits, and the status, RESULT and ending of
success (1: the binding is removed). -/
structure Wait where
  left : Nat
  worst : Nat
  since : Nat
  status : Nat
  result : Nat
  ending : Nat
deriving DecidableEq, Repr

def waitOf (o : Op) : Wait := let f := fun i => o.aux.getD i 0; ⟨f 0, f 1, f 2, f 3, f 4, f 5⟩
def Wait.aux (w : Wait) : List Nat := [w.left, w.worst, w.since, w.status, w.result, w.ending]

/-- R462: an UNBIND ends: the binding goes and the header's PARITY becomes 0. -/
def State.unbind (s : State) (o : Op) : State :=
  match s.headerPa o with
  | none => s
  | some p =>
    let s := { s with par := { s.par with bindings := s.par.bindings.keep (fun _ b => !(b.fn = o.fn && b.st.pa = p)) } }
    let va := dQuad o.desc 0x10 + 4
    match s.vread noHost 0 o.fn va 4 (descTags o.desc) with
    | (s, .ok bs) => (s.vwrite noHost 0 o.fn va (leBytes 4 (putBits (leNat bs) 17 1 0)) (descTags o.desc)).1.noteParity
    | (s, .error _) => s.noteParity

/-- A descriptor whose local effects are done ends once no part is left (R252 step 11, R255). -/
def State.settleParts (s : State) (i : Nat) : State :=
  match s.op? i with
  | none => s
  | some o =>
    let w := waitOf o
    if o.st == .done || o.progress ≠ 1 || w.left ≠ 0 then s
    else
      let s := if dOpcode o.desc = 0x21 then s.addUnits R.CTX_PARITY_WAIT_TIME (s.uptime - w.since) 1000 else s
      let s := s.count 6 0 0x06 o.fn (some (descTags o.desc)) ((s.uptime - w.since) / 1000)
      if w.worst ≠ 0 then (s.ctxErr o 0x04 0).endCtx i w.worst 0
      else (if w.ending = 1 then s.unbind o else s).endCtx i w.status w.result

/-- A part of a descriptor's update has ended. -/
def State.partEnd (s : State) (i status : Nat) : State :=
  match s.op? i with
  | none => s
  | some o =>
    let w := waitOf o
    (s.putOp i { o with aux := { w with left := w.left - 1, worst := if w.worst = 0 then status else w.worst }.aux }).settleParts i

/-- R458: send one part, or skip it where its holder is marked LOST. It waits while no initiator slot is free. -/
def State.sendPart (s : State) (p : Part) : State :=
  let n := s.parN
  let h := holderOf n s.member p.granule
  if s.memberLost h then (s.bump R.CTX_PAR_SKIP_COUNT).partEnd p.op stOK
  else if 32768 ≤ s.ydt.xfers.length then { s with par := { s.par with unsent := s.par.unsent ++ [p] } }
  else
    let x := newXfer (.part p.op p.fn) tyWrite 0 (s.memberDev h) 0 (s.parWindow 1022) 0 (lineOf n p.granule * 131072 + p.off) 0 p.data.length
      (s.getF R.CTX_PAR_CTRL 12 3) (some p.data)
    match s.sendOwn x with
    | (s, .ok _) => s
    | (s, .error st) => s.partEnd p.op st

/-- Parts that waited for a slot are sent. -/
def State.sendUnsent (s : State) : State :=
  if s.par.unsent.isEmpty || 32768 ≤ s.ydt.xfers.length then s
  else
    let l := s.par.unsent
    l.foldl (fun s p => s.sendPart p) { s with par := { s.par with unsent := [] } }

/-- R255, R458: cut changes of a region, as (offset, exclusive-or), at granule boundaries. -/
def cutParts (x : Stretch) (i : Nat) (mark : Bool) (o : Nat) (d : List Byte) : List Part :=
  if d.isEmpty then []
  else (List.range ((o + d.length - 1) / 131072 - o / 131072 + 1)).map (fun j =>
    let a := max o ((o / 131072 + j) * 131072)
    let e := min (o + d.length) ((o / 131072 + j + 1) * 131072)
    ⟨i, 0, x.granuleOf mark a, a % 131072, (d.drop (a - o)).take (e - a)⟩)

/-- Join changes of bytes that lie in one granule into one part: the least range that covers them, with zeros between. -/
def joinParts (i g : Nat) (ps : List Part) : Part :=
  let lo := (ps.map Part.off).foldl min 131072
  let hi := (ps.map (fun p => p.off + p.data.length)).foldl max 0
  ⟨i, 0, g, lo, ps.foldl (fun bs p => xorInto lo bs p.off p.data) (List.replicate (hi - lo) 0)⟩

/-- R458: the parts of changes of the block region: one for each granule they touch. -/
def partsOf (x : Stretch) (i : Nat) (changes : List (Nat × List Byte)) : List Part :=
  let ps := changes.flatMap (fun c => cutParts x i false c.1 c.2)
  ((ps.map Part.granule).eraseDups).map (fun g => joinParts i g (ps.filter (fun p => p.granule = g)))

/-- Start a descriptor's parity update: it waits for its parts (R281). -/
def State.startParts (s : State) (i status result ending : Nat) (ps : List Part) : State :=
  match s.op? i with
  | none => s
  | some o =>
    let w : Wait := ⟨ps.length + (waitOf o).left, (waitOf o).worst, s.uptime, status, result, ending⟩
    let s := s.putOp i { o with st := .running, progress := 1, aux := w.aux }
    (ps.foldl (fun s p => s.sendPart { p with fn := o.fn }) s).settleParts i

/-- Parts sent on the way, which the descriptor waits for at its end only where it says so. -/
def State.addParts (s : State) (i : Nat) (ps : List Part) : State :=
  match s.op? i with
  | none => ps.foldl (fun s p => s.sendPart p) s
  | some o =>
    let w := waitOf o
    ps.foldl (fun s p => s.sendPart { p with fn := o.fn }) (s.putOp i { o with aux := { w with left := w.left + ps.length }.aux })

/-! ## Committed images (R457) -/

/-- The binding that covers a granule. -/
def State.granuleOwner (s : State) (g : Nat) : Option (Nat × Binding) := s.par.bindings.find? (fun e => (e.2.st.granuleRange g).isSome)

/-- The updates not yet committed of a granule, as (offset, bytes). -/
def State.pendingOf (s : State) (g : Nat) : List (Nat × List Byte) :=
  let n := s.parN
  (s.ydt.xfers.filterMap (fun e => match e.2.owner, e.2.data with
    | .part _ _, some d => if granuleAt n (e.2.dev % 8) s.member (e.2.off / 131072) = g then some (e.2.off % 131072, d) else none
    | _, _ => none)) ++ (s.par.unsent.filter (fun p => p.granule = g)).map (fun p => (p.off, p.data))

/-- The committed image of bytes [off, off + n) of a granule. A granule, or a part of one, that no binding covers is zero. -/
def State.image (s : State) (env : HostView) (g off n : Nat) : State × Except AccFail (List Byte) :=
  match s.granuleOwner g with
  | none => (s, .ok (List.replicate n 0))
  | some (_, b) =>
    match b.st.granuleRange g with
    | none => (s, .ok (List.replicate n 0))
    | some (mark, o, len) =>
      let m := min n (len - off)
      match s.vread env 3 b.fn (b.st.regionBase mark + o + off) m with
      | (s, .error f) => (s, .error f)
      | (s, .ok bs) => (s, .ok ((s.pendingOf g).foldl (fun bs d => xorInto off bs d.1 d.2) (bs ++ List.replicate (n - m) 0)))

/-! ## Reconstruction as requester (R459, R460, R463) -/

/-- RECONSTRUCT_FAILED, and the operation that needed the granule ends with CHECK_FAILED. -/
def State.rebuildFail (s : State) (i : Nat) (b : Binding) (g : Nat) (lost : Bool) : State :=
  let m := if lost then b.st.srcMember else s.member
  (s.event b.fn pCTX 0x0024 0 clsMemory 0 b.fn (g % 2 ^ 23 + 2 ^ 24 * m) b.st.va).endCtx i stCheck 0

/-- Ask the holder for a granule, unless the same granule is asked for already. -/
def State.startRebuild (s : State) (i k g : Nat) (lost : Bool) : State :=
  match s.par.bindings.look k with
  | none => s
  | some b =>
    if s.ydt.xfers.any (fun e => match e.2.owner with | .repair _ k' g' l' => k' = k && g' = g && l' == lost | _ => false) then s
    else
      let m := if lost then b.st.srcMember else s.member
      let h := holderOf s.parN m g
      if h ≠ s.member && s.memberLost h then s.rebuildFail i b g lost
      else
        let x := newXfer (.repair i k g lost) tyReadReq 0 (s.memberDev h) 0 (s.parWindow 1021) 0 (m * 2 ^ 40 + g * 131072) 0 131072
          (s.getF R.CTX_PAR_CTRL 12 3) none
        (s.sendOwn x).1

/-- R463: the bytes of a lost granule that a piece covers, as (region offset, bytes) by 64-byte line. -/
def pieceWrites (x : Stretch) (g : Nat) (bs : List Byte) : Bool × List (Nat × List Byte) :=
  let mark := x.lostMark g
  let o := (g - (if mark then x.srcLandmarkGranule else x.srcBlockGranule)) * 131072
  (mark, (List.range 2048).filterMap (fun j => (x.pieceOff mark (o + 64 * j)).map (fun p => (p, (bs.drop (64 * j)).take 64))))

/-- R313, R463: the bytes of one burst that a write replaces, as they stand in DRAM; the read is checked as every other. -/
def State.replaced (s : State) (fn va n : Nat) : State × List Byte :=
  match s.walk fn va with
  | some (g, l) =>
    if l.host then (s, List.replicate n 0)
    else
      let p := l.addr + va % pageBytes g
      ((s.checkBurst noHost (p / 64) fn).served 0 n, s.drams p n)
  | none => (s, List.replicate n 0)

/-- R463: what the writes of a region change, as (region offset, exclusive-or of old and new). -/
def State.changesOf (s : State) (fn base : Nat) : List (Nat × List Byte) → State × List (Nat × List Byte)
  | [] => (s, [])
  | e :: r =>
    let o := s.replaced fn (base + e.1) e.2.length
    let t := o.1.changesOf fn base r
    (t.1, (e.1, xorBytes o.2 e.2) :: t.2)

/-- A granule has come: the poisoned bursts are rewritten whole (R460), or the piece's bytes are written, their updates sent and the bit set (R463). -/
def State.rebuilt (s : State) (i k g : Nat) (lost : Bool) (bs : List Byte) : State :=
  match s.par.bindings.look k with
  | none => s
  | some b =>
    let s := s.bump R.CTX_PAR_RECON_COUNT
    let x := b.st
    if lost then
      let w := pieceWrites x g bs
      let c := s.changesOf b.fn (x.regionBase w.1) w.2
      let ds := c.2
      let s := w.2.foldl (fun s e => (s.vwrite noHost 0 b.fn (x.regionBase w.1 + e.1) e.2).1) c.1
      let s := { s with par := { s.par with bindings := s.par.bindings.put k { b with rebuilt := b.rebuilt ++ [g] } } }
      let ps := ds.flatMap (fun c => cutParts x i w.1 c.1 c.2)
      (s.addParts i (((ps.map Part.granule).eraseDups).map (fun q => joinParts i q (ps.filter (fun p => p.granule = q))))).noteParity
    else
      match x.granuleRange g with
      | none => s
      | some (mark, o, n) =>
        let s := (s.vwrite noHost 0 b.fn (x.regionBase mark + o) (bs.take n)).1
        (s.bump R.CTX_PAR_REPAIR_COUNT).event 0 pCTX 0x0023 0 clsMemory 0 b.fn (g % 2 ^ 23) x.va

/-- The read for a reconstruction has ended without its granule: a refusal (NAK ACCESS) ends the operation; otherwise it asks again. -/
def State.repairEnded (s : State) (i k g : Nat) (lost : Bool) (status : Nat) : State :=
  match s.par.bindings.look k with
  | none => s
  | some b => if status = stDenied then s.rebuildFail i b g lost else s

/-! ## Reconstruction as holder, and RESCAN (R459, R462) -/

/-- A line is locked while its images are gathered. -/
def State.lineLocked (s : State) (k : Nat) : Bool := s.par.stages.any (fun e => e.2.line = k && e.2.staged.isNone)

def State.putStage (s : State) (j : Nat) (x : Stage) : State := { s with par := { s.par with stages := s.par.stages.put j x } }

/-- Lock a line and read the committed image of its granule from each of the members. Without a slot for every read nothing is locked yet. -/
def State.lockLine (s : State) (key : Option (Nat × Nat)) (k : Nat) (from' : List Nat) : State :=
  match s.par.stages.freshBelow 4096 with
  | none => s
  | some j =>
    if 32768 < s.ydt.xfers.length + from'.length then s
    else
      let s := s.putStage j ⟨key, k, from', List.replicate 131072 0, false, none, []⟩
      from'.foldl (fun s m =>
        let x := newXfer (.gather j m) tyReadReq 0 (s.memberDev m) 0 (s.parWindow 1023) 0 (granuleAt s.parN s.member m k * 131072) 0 131072
          (s.getF R.CTX_PAR_CTRL 12 3) none
        match s.sendOwn x with
        | (s, .ok _) => s
        | (s, .error _) => { s with par := { s.par with stages := s.par.stages.upd j (fun y => { y with bad := true, waits := y.waits.erase m }) } }) s

/-- An image has come, or its read has ended without it. -/
def State.gathered (s : State) (j m : Nat) (bs : Option (List Byte)) : State :=
  { s with par := { s.par with stages := s.par.stages.upd j (fun y =>
      { y with waits := y.waits.erase m, acc := match bs with | some b => xorBytes y.acc b | none => y.acc, bad := y.bad || bs.isNone }) } }

/-- What the holder answers to a READ of the reconstruct window (R459): a staged result, NOT_READY, or ACCESS. -/
inductive Served where
  | data (stage : Nat) | notReady | refuse
deriving DecidableEq, Repr

def State.reconstruct (s : State) (x g : Nat) : State × Served :=
  let n := s.parN
  let k := lineOf n g
  let others := (List.range n).filter (fun m => m ≠ x && m ≠ s.member)
  if n ≤ x || x = s.member || holderOf n x g ≠ s.member || s.parLines ≤ k then (s, .refuse)
  else if others.any (fun m => s.memberLost m && !s.rescanned m) || s.rescanned x then (s, .refuse)
  else match s.par.stages.find? (fun e => e.2.key = some (x, g)) with
    | some (j, y) => (s, if y.staged.isSome then .data j else .notReady)
    | none =>
      if 64 ≤ (s.par.stages.filter (fun e => e.2.staged.isSome)).length || s.lineLocked k then (s, .notReady)
      else (s.lockLine (some (x, g)) k (others.filter (fun m => !s.memberLost m)), .notReady)

/-- R457: apply an update to a line. -/
def State.applyUpdate (s : State) (env : HostView) (off : Nat) (d : List Byte) : State × Option AccFail :=
  match s.vread env 3 0 (s.parBase + off) d.length with
  | (s, .error f) => (s, some f)
  | (s, .ok bs) =>
    match s.vwrite env 3 0 (s.parBase + off) (xorBytes bs d) with
    | (s, some f) => (s, some f)
    | (s, none) => (s.bump R.CTX_PAR_UPDATES, none)

end Sys2Proof.Machine
end

