-- ==== Sys2Proof/Machine/Context.lean ====
section
/-! DEFINITION. Sys2Proof/Machine/Context.lean: the context operations (chapters 8 and 9): STRETCH_INIT, APPEND, the attends, SUMMARISE, TRUNCATE; work
units on tiles (R267, R268), packing (R269), and the share registers (R272, R273). -/

namespace Sys2Proof.Machine
open Sys2Proof

/-! ## How a context operation ends -/

/-- What the failure of a context operation makes of it. -/
def State.ctxFail (s : State) (i : Nat) (o : Op) : CtxFail → State
  | .acc f wr dma => let s := s.opFail i f wr dma; if s.opDone i then s.dropUnits i else s
  | .hostPage va dma => (if dma then s.dmaFault o va else s).endCtx i stDenied 0
  | .ends st r => s.endCtx i st r
  | .bad code detail r => (s.ctxErr o code detail).endCtx i stInvalid r
  | .rebuild k g lost => s.startRebuild i k g lost

/-- Run a context operation: what it answers is done to the state it leaves. -/
def State.runCtx (s : State) (i : Nat) (o : Op) (m : CtxM (State → State)) : State :=
  match m.run s with
  | (.ok f, s) => f s
  | (.error e, s) => s.ctxFail i o e

/-- The first of the checks of a body that fails, as RESULT of R279. -/
def firstBad : List (Bool × Nat) → Option Nat
  | [] => none
  | (b, o) :: r => if b then some (invalidAt o) else firstBad r

/-- R167: an address outside the 57-bit space. -/
def farAddr (a : Nat) : Bool := 2 ^ 57 ≤ a

/-- The operation starts once: its trace record (R554). -/
def State.startCtx (s : State) (i : Nat) (o : Op) : State × Op :=
  if o.st == .running then (s, o)
  else
    let o' := { o with st := .running }
    ((s.traceStart o (dQuad o.desc 0x10)).putOp i o', o')

/-! ## STRETCH_INIT -/

/-- R456: where a new binding is refused, as a header offset. -/
def State.bindRefusal (s : State) (fn : Nat) (x : Stretch) : Option Nat :=
  let space := (s.parN - 1) * s.parLines
  let meets := fun (a n b m : Nat) => a < b + m && b < a + n && n ≠ 0 && m ≠ 0
  let others := s.par.bindings.filter (fun e => !(e.2.fn = fn && e.2.st.pa = x.pa))
  let overlaps := fun a n => others.any (fun e => meets a n e.2.st.blockGranule e.2.st.blockGranules ||
    (e.2.st.landmarks && meets a n e.2.st.landmarkGranule e.2.st.markGranules))
  let same := fun (y : Stretch) => y.blockGranule = x.blockGranule && y.blockGranules = x.blockGranules && y.landmarks == x.landmarks &&
    (!x.landmarks || (y.landmarkGranule = x.landmarkGranule && y.markGranules = x.markGranules))
  if s.getF R.CTX_PAR_STATE 0 2 = 0 then some 0x40
  else if space < x.blockGranule + x.blockGranules || overlaps x.blockGranule x.blockGranules then some 0x40
  else if x.landmarks && (space < x.landmarkGranule + x.markGranules || overlaps x.landmarkGranule x.markGranules ||
      meets x.blockGranule x.blockGranules x.landmarkGranule x.markGranules) then some 0x44
  else match s.bindingOf fn x with
    | some (_, b) => if same b.st then none else some 0x40
    | none => if 1024 ≤ s.par.bindings.length then some 0x40 else none

/-- Register a binding; one of the same ranges stays. -/
def State.bind (s : State) (fn : Nat) (x : Stretch) : State :=
  match s.bindingOf fn x with
  | some (k, b) => { s with par := { s.par with bindings := s.par.bindings.put k { b with st := x } } }.noteParity
  | none =>
    match s.par.bindings.freshBelow 1024 with
    | none => s
    | some k => { s with par := { s.par with bindings := s.par.bindings.put k ⟨fn, x, []⟩ } }.noteParity

def stretchInit (hv : HostView) (i : Nat) (o : Op) : CtxM (State → State) := do
  let env : Env := ⟨hv, descTags o.desc⟩
  let va := dQuad o.desc 0x10
  let clear := dfld o.desc 0x20 0 1 = 1
  (segs va 256).forM (checkSeg env o.fn)
  let img ← anyRead env o.fn (dQuad o.desc 0x18) 256
  let s ← get
  let pa := match s.walk o.fn va with | some (g, l) => l.addr + va % pageBytes g | none => 0
  let x := stretchOf va pa img
  if let some off := headerBad img x then throw (.bad 0x01 off 0)
  let es ← (List.range x.layers).mapM (fun l => layerEntry env o.fn x l clear)
  let s ← get
  if x.parity then
    if let some off := s.bindRefusal o.fn x then throw (.bad 0x01 off 0)
  let cleared : Writes := if clear then
      (List.range x.layers).flatMap (fun l => countWrites x l 0 0) ++ es.map (fun e => (e.tail, tailBytes (zeroTails x)))
    else []
  commitWrites env o.fn ((va, img) :: cleared)
  pure (fun s => (if x.parity then s.bind o.fn x else s).endCtx i stOK x.layers)

/-- STRETCH_INIT, R283 to R285, R456. -/
def execStretchInit (op : Nat) (hv : HostView) (s : State) : Res :=
  .next (match s.runnable op [0x20] with
    | none => s
    | some o =>
      let a := dQuad o.desc 0x10
      let b := dQuad o.desc 0x18
      match firstBad [(farAddr a || a % 256 ≠ 0, 0x10), (farAddr b || b % 64 ≠ 0, 0x18)] with
      | some r => s.endCtx op stInvalid r
      | none =>
        if s.orderWait op o then s
        else let t := s.startCtx op o; t.1.runCtx op t.2 (stretchInit hv op t.2))

/-! ## APPEND -/

/-- R250: one output row of the projection weights. -/
def weightRow (w : Nat) (bs : List Byte) (n : Nat) : List Fp :=
  (List.range w).map (fun k => decodeElem 1 (bs.getD (n / 32 * 32 * w + k / 32 * 1024 + n % 32 * 32 + k % 32) 0).toNat)

/-- The FP32 quotient 1 ÷ MODEL_WIDTH, rounded once. -/
def invWidth (w : Nat) : Nat := round32 false (2 ^ 64 / w) (-64) (2 ^ 64 % w ≠ 0)

/-- R252, step 2: RSQRT of the mean square plus epsilon, by 128 elements at a time. -/
def rmsFactor (w eps : Nat) (xs : List Nat) : Nat :=
  let parts := (List.range (w / 128)).map (fun t => sumSeq ((xs.drop (128 * t)).take 128 |>.map (fun v => mul32 v v)))
  rsqrt32 (add32 (mul32 (sumSeq parts) (invWidth w)) eps)

/-- R249: the product of two rotations, each component one MUL and one FMA. -/
def rotMul (a b : Nat × Nat) : Nat × Nat := (fma32 a.1 b.1 (neg32 (mul32 a.2 b.2)), fma32 a.1 b.2 (mul32 a.2 b.1))

/-- R249: the pairs of entry j of a level. -/
def rotEntry (env : Env) (fn : Nat) (x : Stretch) (e : Layer) (level j : Nat) : CtxM (List (Nat × Nat)) := do
  let bs ← devRead true env fn (e.rotary + level * 4 * x.dim * 1024 + j * 4 * x.dim) (4 * x.dim)
  let v := elemsOf 9 x.dim bs
  pure ((List.range (x.dim / 2)).map (fun f => (v.getD (2 * f) 0, v.getD (2 * f + 1) 0)))

/-- R249: the rotations of a position. -/
def rotation (env : Env) (fn : Nat) (x : Stretch) (e : Layer) (pos : Nat) : CtxM (List (Nat × Nat)) := do
  let a ← rotEntry env fn x e 2 (pos / 2 ^ 20)
  let b ← rotEntry env fn x e 1 (pos / 2 ^ 10 % 1024)
  let c ← rotEntry env fn x e 0 (pos % 1024)
  pure (List.zipWith rotMul (List.zipWith rotMul a b) c)

/-- R249: the rotated vector of one head. -/
def rotate (dim : Nat) (r : List (Nat × Nat)) (v : List Nat) : List Nat :=
  let h := dim / 2
  let at' := fun f => (v.getD f 0, v.getD (f + h) 0, r.getD f (one32, 0))
  (List.range h).map (fun f => let p := at' f; fma32 p.1 p.2.2.1 (neg32 (mul32 p.2.1 p.2.2.2))) ++
  (List.range h).map (fun f => let p := at' f; fma32 p.1 p.2.2.2 (mul32 p.2.1 p.2.2.1))

/-- What a token streams to the arrays and what they make of it: its array row, and its projections through WK and WV (R252, step 3). -/
structure Projected where
  row : List Fp
  keys : List Nat
  values : List Nat
deriving DecidableEq, Repr

/-- A token's new stored bytes, head by head (keys, values), its projections, and how many values were saturated (R252, steps 2 to 6). -/
def projectToken (x : Stretch) (e : Layer) (fmt : Nat) (norm hid : List Nat) (wk wv : List (List Fp)) (rot : List (Nat × Nat)) :
    List (List Byte × List Byte) × Projected × Nat :=
  let r := rmsFactor x.width e.eps hid
  let xn := (List.zipWith mul32 hid norm).map (fromF32 fmt)
  let row := xn.map (fun q => decodeElem fmt q.1)
  let p : Projected := ⟨row, wk.map (fun w => dot row w 0), wv.map (fun w => dot row w 0)⟩
  let kf := mul32 r e.wkScale
  let vf := mul32 r e.wvScale
  let ks := p.keys.map (fun v => mul32 v kf)
  let vs := p.values.map (fun v => mul32 v vf)
  let heads := (List.range x.kvHeads).map (fun h =>
    (encodeAll x.keyFmt (rotate x.dim rot ((ks.drop (h * x.dim)).take x.dim)), encodeAll x.valueFmt ((vs.drop (h * x.dim)).take x.dim)))
  (heads.map (fun h => (h.1.1, h.2.1)), p, (xn.filter Prod.snd).length + (heads.map (fun h => h.1.2 + h.2.2)).sum)

/-- R219, R263, R267: the tile blocks of 32-row group g of a projection that commit a NaN or an infinity. A tile block takes up to 64 tokens and 512 of K; an
accumulator that is not finite stays so through the later ranges of K. -/
def badBlocks (width : Nat) (ws : List (List Fp)) (toks : List Projected) (g : Nat) : Nat :=
  ((chop 64 toks.length toks).map (fun ts =>
    let bad := ts.flatMap (fun t => ((((t.keys ++ t.values).zip ws).drop (32 * g)).take 32).filterMap (fun e =>
      if isNan32 e.1 || isInf32 e.1 then some (t.row, e.2) else none))
    if bad.isEmpty then 0
    else ((List.range (ceilDiv width 512)).filter (fun k => bad.any (fun e =>
      let v := dot (e.1.take (512 * (k + 1))) (e.2.take (512 * (k + 1))) 0
      isNan32 v || isInf32 v))).length)).sum

/-- What an APPEND gathers as it goes: the writes, the changes of the block region for the parity update, the tail sums by head, LANDMARK_VALID, the sealed
blocks rewritten, the blocks it seals, and saturations. -/
structure Appended where
  writes : Writes
  changes : List (Nat × List Byte)
  tails : List (List Nat)
  marks : Nat
  redo : List Nat
  seals : Nat
  sat : Nat

/-- The write of a block's landmark from its key sums, and its saturations. -/
def markWrite (x : Stretch) (l b h : Nat) (sums : List Nat) : (Nat × List Byte) × Nat :=
  let m := markOfSums x sums
  ((x.markVa l b h, m.1), m.2)

/-- R252 steps 7 to 9, R254: one head of one token. `old`: its stored bytes, zero for a new token. -/
def placeHead (x : Stretch) (l idx h : Nat) (new : List Byte × List Byte) (old : List Byte) (openBlock : Bool) (a : Appended) : Appended :=
  let spans := x.tokenSpans l (idx / 64) h (idx % 64)
  let bytes := new.1 ++ new.2
  let kb := x.dim * x.ek
  let parts := spans.zipIdx.map (fun e => (e.1.1, if e.2 = 0 then bytes.take kb else (bytes.drop (kb + (e.2 - 1) * x.ev)).take x.ev,
    if e.2 = 0 then old.take kb else (old.drop (kb + (e.2 - 1) * x.ev)).take x.ev))
  let tails := if x.landmarks && openBlock then
      let n := valuesOf x.keyFmt (bytes.take kb)
      let m := valuesOf x.keyFmt (old.take kb)
      a.tails.set h (List.zipWith add32 (a.tails.getD h []) (List.zipWith sub32 n m))
    else a.tails
  { a with writes := a.writes ++ parts.map (fun p => (x.blockBase + p.1, p.2.1)),
           changes := a.changes ++ parts.map (fun p => (p.1, xorBytes p.2.1 p.2.2)), tails := tails }

/-- R254: the token fills index 63 of the open block. -/
def sealBlockOf (x : Stretch) (l b : Nat) (a : Appended) : Appended :=
  let ms := (List.range x.kvHeads).map (fun h => markWrite x l b h (a.tails.getD h []))
  { a with writes := a.writes ++ ms.map Prod.fst, sat := a.sat + (ms.map Prod.snd).sum, tails := zeroTails x,
           marks := if a.marks = b then b + 1 else a.marks, seals := a.seals + 1 }

/-- One token of an APPEND. Of a new token of a stretch with PARITY the place is read too, so that poison and granules not yet rebuilt are met before
anything is written (R460, R463). -/
def placeToken (env : Env) (fn : Nat) (x : Stretch) (l tokens idx : Nat) (new : List (List Byte × List Byte)) (a : Appended) : CtxM Appended := do
  let b := idx / 64
  let sealed := b < tokens / 64
  let olds ← (List.range x.kvHeads).mapM (fun h =>
    if idx < tokens || x.parity then do
      let ps ← (x.tokenSpans l b h (idx % 64)).mapM (fun sp => regionRead env fn x false sp.1 sp.2)
      pure (if idx < tokens then ps.flatten else List.replicate (x.dim * (x.ek + x.ev)) (0 : Byte))
    else pure (List.replicate (x.dim * (x.ek + x.ev)) (0 : Byte)))
  let a := (List.range x.kvHeads).foldl (fun a h => placeHead x l idx h (new.getD h ([], [])) (olds.getD h []) (!sealed) a) a
  if !x.landmarks then pure a
  else if sealed then pure { a with redo := if b ∈ a.redo then a.redo else a.redo ++ [b] }
  else if idx % 64 = 63 then pure (sealBlockOf x l b a)
  else pure a

/-- The tokens of an APPEND in ascending order. -/
def placeTokens (env : Env) (fn : Nat) (x : Stretch) (l tokens : Nat) : Nat → List (List (List Byte × List Byte)) → Appended → CtxM Appended
  | _, [], a => pure a
  | idx, t :: r, a => do
    let a ← placeToken env fn x l tokens idx t a
    placeTokens env fn x l tokens (idx + 1) r a

/-- R254: the landmarks of sealed blocks whose tokens were rewritten, from their stored keys. -/
def redoMarks (env : Env) (fn : Nat) (x : Stretch) (l : Nat) (bs : List Nat) : CtxM Writes := do
  let r ← bs.mapM (fun b => (List.range x.kvHeads).mapM (fun h => do
    let sums ← blockSums env fn x l b h 64
    let m := markWrite x l b h sums
    act (fun s => s.noteSat m.2)
    pure m.1))
  pure r.flatten

/-- The operation of an APPEND. R263: the DMA engine of each cluster reads the hidden states. -/
def append (hv : HostView) (i : Nat) (o : Op) : CtxM (State → State) := do
  let env : Env := ⟨hv, descTags o.desc⟩
  let d := o.desc
  let pos := dfld d 0x20 0 30
  let t := dfld d 0x24 0 16
  let l := dfld d 0x24 16 16
  let fmt := dfld d 0x28 0 4
  let x ← header env o.fn (dQuad d 0x10)
  let e ← layerEntry env o.fn x l false
  if t = 0 then return (fun s => s.endCtx i stOK e.tokens)
  let p := (pos + 2 ^ 64 - x.firstPos) % 2 ^ 64
  if e.tokens < p then throw (.bad 0x02 0 (invalidAt 0x20))
  if 64 * x.cap < p + t then throw (.bad 0x03 0 (invalidAt 0x24))
  let n := x.kvHeads * x.dim
  let hid ← anyRead env o.fn (dQuad d 0x18) (t * x.width * elemBytes fmt)
  let s ← get
  (List.range ((s.activeTiles.map Prod.fst).eraseDups.length - 1)).forM (fun _ => do
    let _ ← anyRead env o.fn (dQuad d 0x18) (t * x.width * elemBytes fmt))
  let norm ← devRead true env o.fn e.norm (2 * x.width)
  let wkb ← devRead true env o.fn e.wk (n * x.width)
  let wvb ← devRead true env o.fn e.wv (n * x.width)
  let wk := (List.range n).map (weightRow x.width wkb)
  let wv := (List.range n).map (weightRow x.width wvb)
  let hs := valuesOf fmt hid
  let toks ← (List.range t).mapM (fun j => do
    let rot ← rotation env o.fn x e (pos + j)
    let r := projectToken x e fmt (valuesOf 7 norm) ((hs.drop (j * x.width)).take x.width) wk wv rot
    act (fun s => s.noteSat r.2.2)
    pure r)
  act (fun s => (List.range (ceilDiv (2 * n) 32)).foldl (fun s g => s.noteNonfinite (badBlocks x.width (wk ++ wv) (toks.map (fun r => r.2.1)) g)) s)
  let tailB ← if x.landmarks then devRead true env o.fn e.tail (4 * n) else pure []
  let tv := elemsOf 9 n tailB
  let tails := (List.range x.kvHeads).map (fun h => (tv.drop (h * x.dim)).take x.dim)
  let a ← placeTokens env o.fn x l e.tokens p (toks.map Prod.fst) ⟨[], [], tails, e.marks, [], 0, 0⟩
  let count := max e.tokens (p + t)
  a.redo.forM (fun b => (List.range x.kvHeads).forM (fun h => do let _ ← blockSums env o.fn x l b h 64))
  let tailW : Writes := if x.landmarks then [(e.tail, tailBytes a.tails)] else []
  commitWrites env o.fn (a.writes ++ tailW ++ countWrites x l count a.marks)
  let ms ← redoMarks env o.fn x l a.redo
  commitWrites env o.fn ms
  pure (fun s =>
    let s := ((s.noteSat a.sat).bump R.CTX_SEAL_COUNT a.seals).count 6 0 0x04 o.fn (some (descTags o.desc)) a.seals
    if x.parity then (s.dropUnits i).startParts i stOK count 0 (partsOf x i a.changes) else s.endCtx i stOK count)

/-- APPEND, R252 to R255, R286, R287. -/
def execAppend (op : Nat) (hv : HostView) (s : State) : Res :=
  .next (match s.runnable op [0x21] with
    | none => s
    | some o =>
      let a := dQuad o.desc 0x10
      let b := dQuad o.desc 0x18
      let f := dfld o.desc 0x28 0 4
      match firstBad [(farAddr a || a % 256 ≠ 0, 0x10), (farAddr b || b % 64 ≠ 0, 0x18), (!(f = 1 || f = 2 || f = 7 || f = 8), 0x28)] with
      | some r => s.endCtx op stInvalid r
      | none =>
        if o.progress ≠ 0 then s
        else if (if dfld o.desc 0x24 0 16 = 0 then s.orderPoint op o else s.orderWait op o) then s
        else let t := s.startCtx op o; t.1.runCtx op t.2 (append hv op t.2))

/-! ## Attends -/

/-- A partial of one query column: (m, l, O); none stands for l = 0 (R257, R258). -/
abbrev Partial := Option (Nat × Nat × List Nat)

/-- R258. -/
def mergePartials (a b : Partial) : Partial :=
  match a, b with
  | none, p => p
  | p, none => p
  | some (ma, la, oa), some (mb, lb, ob) =>
    let m := max32 ma mb
    let fa := exp2_32 (sub32 ma m)
    let fb := exp2_32 (sub32 mb m)
    some (m, add32 (mul32 la fa) (mul32 lb fb), List.zipWith (fun x y => add32 (mul32 x fa) (mul32 y fb)) oa ob)

/-- R258: the normalised output and LSE of a column. -/
def normalise (dim : Nat) : Partial → List Nat × Nat
  | none => (List.replicate dim 0, inf32 true)
  | some (m, l, o) =>
    let r := rcp32 l
    (o.map (fun v => mul32 v r), add32 (mul32 m 0x3F317218) (log32 l))

/-- R256: c = SCALE × log2 e, rounded once. -/
def scoreScale (scale : Nat) : Nat :=
  match dec32 scale with
  | .fin neg m e => round32 neg (m * (2 ^ (fxBits + fxBits) / ln2Fx)) (e - fxBits) true
  | _ => nan32

/-- The keys of a block, token by token, and its values, dimension by dimension. -/
structure BlockData where
  block : Nat
  keys : List (List Fp)
  vals : List (List Fp)

def blockData (env : Env) (fn : Nat) (x : Stretch) (held : Bool) (l h b : Nat) : CtxM BlockData := do
  let bs ← regionGet env fn x false held (x.blockOff l b h) x.blockSize
  let kb := 64 * x.dim * x.ek
  let ks := (elemsOf x.keyFmt (64 * x.dim) (bs.take kb)).map (decodeElem x.keyFmt)
  let vs := (elemsOf x.valueFmt (64 * x.dim) (bs.drop kb)).map (decodeElem x.valueFmt)
  pure ⟨b, (List.range 64).map (fun t => (ks.drop (t * x.dim)).take x.dim), (List.range x.dim).map (fun d => (vs.drop (d * 64)).take 64)⟩

/-- What one query column makes of a run: its partial, and for each tile block of the two passes whether it commits a NaN or an infinity in this column. The tile blocks
are one by block, of 64 keys, then by 64 dimensions those of the value pass, each over 512 of K (R216). -/
structure ColumnRun where
  part : Partial
  odd : List Bool
deriving DecidableEq, Repr

/-- R257: a run for one query column at a model position. `mine`: the blocks that its attend chose (R269). -/
def runColumn (x : Stretch) (tokens c qpos : Nat) (q : List Fp) (mine : List Nat) (run : List BlockData) : ColumnRun :=
  let scs := run.map (fun b => (b, (List.range 64).map (fun t => dot q (b.keys.getD t []) 0)))
  let us := scs.map (fun b => b.2.zipIdx.map (fun e =>
    let idx := 64 * b.1.block + e.2
    if tokens ≤ idx || qpos < x.firstPos + idx || b.1.block ∉ mine then inf32 true else mul32 e.1 c))
  let scoreOdd := scs.map (fun b => b.2.any oddFp)
  let flat := us.flatten
  if flat.all (· = inf32 true) then ⟨none, scoreOdd⟩
  else
    let m := (flat.drop 1).foldl max32 (flat.headD 0)
    let ps := us.map (fun r => r.map (fun u => exp2_32 (sub32 u m)))
    let l := sumSeq ps.flatten
    let pf := ps.map (fun r => r.map (fun p => decodeElem 7 (fromF32 7 p).1))
    let ks := chop 8 run.length (run.zip pf)
    let accs := (List.range x.dim).map (fun d => ks.foldl (fun (a : Nat × List Nat) k =>
      let v := k.foldl (fun acc e =>
        let row := ((e.1.vals.getD d []).zipIdx).map (fun v => if tokens ≤ 64 * e.1.block + v.2 then Fp.fin false 0 0 else v.1)
        dot row e.2 acc) a.1
      (v, a.2 ++ [v])) (0, []))
    let odd := (List.range (ceilDiv x.dim 64)).flatMap (fun g => (List.range ks.length).map (fun j =>
      ((accs.drop (64 * g)).take 64).any (fun a => oddFp (a.2.getD j 0))))
    ⟨some (m, l, accs.map Prod.fst), scoreOdd ++ odd⟩

/-- What an attend has read and checked before its passes. -/
structure Attend where
  id : Nat
  op : Op
  x : Stretch
  layer : Nat
  entry : Layer
  groups : List Nat
  tokens : Nat
  qpos : Nat
  queries : List (List Fp)
  chosen : List (Nat × List Nat)

/-- Query columns of a head group, as (query token, head). -/
def Attend.columns (a : Attend) (h : Nat) : List (Nat × Nat) :=
  (List.range a.tokens).flatMap (fun i => (List.range a.x.groupHeads).map (fun j => (i, h * a.x.groupHeads + j)))

/-- R256: some key of a block is not masked for a query token. -/
def Attend.sees (a : Attend) (i b : Nat) : Bool := a.x.firstPos + 64 * b ≤ a.qpos + i

def Attend.query (a : Attend) (i j : Nat) : List Fp := a.queries.getD (i * (a.x.kvHeads * a.x.groupHeads) + j) []

/-- R260: the order of landmark scores: the higher first, NaN last, ties to the lower block. -/
def rankBefore (a b : Nat × Nat) : Bool :=
  if isNan32 a.2 then isNan32 b.2 && a.1 < b.1
  else if isNan32 b.2 then true
  else ltFp (dec32 b.2) (dec32 a.2) || (!ltFp (dec32 a.2) (dec32 b.2) && a.1 < b.1)

def rankInsert (a : Nat × Nat) : List (Nat × Nat) → List (Nat × Nat)
  | [] => [a]
  | b :: r => if rankBefore a b then a :: b :: r else b :: rankInsert a r

/-- R260, steps 1 and 2: the blocks that a head group reads. `held`: the pack has read its landmarks already. A tile block of the landmark pass takes 64 landmarks (R216,
R219). -/
def selectBlocks (env : Env) (fn : Nat) (a : Attend) (held : Bool) (h k : Nat) : CtxM (List Nat) := do
  let sealed := a.entry.tokens / 64
  let blocks := ceilDiv a.entry.tokens 64
  let c := scoreScale a.x.scale
  let scores ← (List.range sealed).mapM (fun b => do
    let bs ← regionGet env fn a.x true held (a.x.markOff a.layer b h) a.x.markSize
    let m := (elemsOf a.x.keyFmt a.x.dim bs).map (decodeElem a.x.keyFmt)
    let sc := (a.columns h).map (fun q => dot (a.query q.1 q.2) m 0)
    let u := sc.map (fun v => mul32 v c)
    pure (b, (u.drop 1).foldl max32 (u.headD 0), sc.any oddFp))
  act (fun s => s.noteNonfinite ((chop 64 sealed scores).filter (fun l => l.any (fun e => e.2.2))).length)
  if blocks ≤ k then pure (List.range blocks)
  else
    let isOpen := sealed < blocks
    let top := ((scores.foldl (fun l e => rankInsert (e.1, e.2.1) l) []).take (if isOpen then k - 1 else k)).map Prod.fst
    pure ((List.range blocks).filter (fun b => b ∈ top || (isOpen && b = sealed)))

/-- The HEAT that follows in the chain, or none while it is not yet admitted; the chain's end answers `some none`. -/
def State.nextOf (s : State) (o : Op) : Option (Option (Nat × Op)) :=
  match s.ops.find? (fun e => e.2.chain = o.chain && e.2.pos = o.pos + 1) with
  | some e => some (some e)
  | none => if (match s.chains.look o.chain with | some c => c.lastSeen | none => true) then some none else none

/-- R282, R443: whether a partial of n elements may go to the reduction store. -/
def State.storeOk (s : State) (o : Op) (dim n : Nat) : Bool :=
  match s.nextOf o with
  | some (some h) =>
    let a := heatArgs h.2.desc
    dOpcode h.2.desc = 0x42 && a.fromStore && a.lse && a.dtype = 9 && a.rowLen = dim &&
      (match s.group? a.group with | some g => chunkCount true dim n + g.standing + 2 ≤ g.reserve | none => false)
  | _ => false

/-- R443: the slabs that the partial needs are free. -/
def State.storeFree (s : State) (o : Op) (dim n : Nat) : Bool :=
  match s.nextOf o with
  | some (some h) =>
    match s.group? (heatArgs h.2.desc).group with
    | some g =>
        s.partialSlabs g + chunkCount true dim n + (g.further.map Prod.snd).sum + (g.pool.filter (fun a => !a.standing)).length + g.standing + 2 ≤ g.reserve
    | none => false
  | _ => false

def isSelected (d : Desc) : Bool := dOpcode d = 0x23

/-- What the checks of an attend find: its stretch, its layer's entry, the head groups it selects. -/
structure AttendCheck where
  x : Stretch
  e : Layer
  groups : List Nat

/-- The checks of an attend (R244, R260, R262, R279, R282, R288 to R290). Reduced service takes only the pairs of R566. -/
def attendChecks (env : Env) (o : Op) : CtxM AttendCheck := do
  let d := o.desc
  let x ← header env o.fn (dQuad d 0x10)
  let qt := dfld d 0x2C 0 16
  let f := dfld d 0x30 0 4
  let mask := dfld d 0x34 0 16
  if isSelected d && 32 < qt * x.groupHeads then throw (.ends stInvalid (invalidAt 0x2C))
  if !(if x.keyFmt = 7 then f = 7 else f = 1 || f = 2 || f = 7 || f = 8) then throw (.ends stInvalid (invalidAt 0x30))
  let s ← get
  if s.reduced && !pairReduced x.keyFmt f then throw (.ends stInvalid (invalidAt 0x30))
  if s.reduced && !pairReduced x.valueFmt 7 then throw (.ends stInvalid (invalidAt 0x10))
  if 2 ^ x.kvHeads ≤ mask then throw (.ends stInvalid (invalidAt 0x34))
  let e ← layerEntry env o.fn x (dfld d 0x2C 16 16) false
  if isSelected d && (!x.landmarks || e.marks < e.tokens / 64) then throw (.bad 0x06 0 0)
  let groups := (List.range x.kvHeads).filter (fun h => mask = 0 || bitOf mask h)
  let s ← get
  if toReduction d && !s.storeOk o x.dim (qt * groups.length * x.groupHeads * (x.dim + 1)) then throw (.ends stInvalid (invalidAt 0))
  pure ⟨x, e, groups⟩

/-- Check an attend, read its queries, and choose its blocks, but for those that R256 masks wholly for every column, which it skips (R263). `held`: the head groups
whose landmarks its pack has read already. -/
def attendPrep (hv : HostView) (i : Nat) (o : Op) (held : List Nat) : CtxM Attend := do
  let env : Env := ⟨hv, descTags o.desc⟩
  let d := o.desc
  let k ← attendChecks env o
  let x := k.x
  let qt := dfld d 0x2C 0 16
  let f := dfld d 0x30 0 4
  let heads := x.kvHeads * x.groupHeads
  let qb ← anyRead env o.fn (dQuad d 0x18) (qt * heads * x.dim * elemBytes f)
  let qs := (elemsOf f (qt * heads * x.dim) qb).map (decodeElem f)
  let a : Attend :=
    { id := i, op := o, x := x, layer := dfld d 0x2C 16 16, entry := k.e, groups := k.groups, tokens := qt, qpos := dfld d 0x28 0 30,
      queries := (List.range (qt * heads)).map (fun j => (qs.drop (j * x.dim)).take x.dim), chosen := [] }
  let ch ← k.groups.mapM (fun h => do
    let bs ← if isSelected d then selectBlocks env o.fn a (h ∈ held) h (dfld d 0x30 16 13) else pure (List.range (ceilDiv k.e.tokens 64))
    pure (h, bs.filter (fun b => a.sees (qt - 1) b)))
  pure { a with chosen := ch }

/-- R126: a cluster store holds data of a function. -/
def State.holdStore (s : State) (nn fn : Nat) : State :=
  let l := (s.tiles.store.look nn).getD []
  if fn ∈ l then s else { s with tiles := { s.tiles with store := s.tiles.store.put nn (l ++ [fn]) } }

/-- R257, R263: a run for one group of at most 32 columns: a block that is wholly masked for all of them is skipped. The second part: the tile blocks that commit a NaN
or an infinity. -/
def groupRun (a : Attend) (c : Nat) (mine : List Nat) (cols : List (Nat × Nat)) (data : List BlockData) : List ((Nat × Nat) × Partial) × Nat :=
  let run := data.filter (fun b => cols.any (fun q => a.sees q.1 b.block))
  let rs := cols.map (fun q => (q, runColumn a.x a.entry.tokens c (a.qpos + q.1) (a.query q.1 q.2) mine run))
  let n := (rs.map (fun r => r.2.odd.length)).foldl max 0
  (rs.map (fun r => (r.1, r.2.part)), ((List.range n).filter (fun k => rs.any (fun r => r.2.odd.getD k false))).length)

/-- R257, R258: the partials of an attend. `union`: the blocks that its pack reads by head group; `held`: the head groups whose blocks the pack has read already; `pack`:
more than one attend is packed. R262, R263: the columns of a head group run in passes of 32, by sets of 32 such groups, and each set reads the blocks from DRAM
(DEDUCED, log entry 107). -/
def attendRun (hv : HostView) (a : Attend) (union : List (Nat × List Nat)) (held : List Nat) (pack : Bool) (j : Join) : CtxM (List Nat × List Nat) := do
  let env : Env := ⟨hv, descTags a.op.desc⟩
  let c := scoreScale a.x.scale
  let runs := union.flatMap (fun u => (chop 64 u.2.length u.2).map (fun r => (u.1, r)))
  let s ← get
  let act' := s.activeTiles
  let tileOf := fun (r : Nat) => match j.tiles[r]? with
    | some t => (t / 4 % 16, t % 4)
    | none => act'.getD (r % act'.length) (0, 0)
  let parts ← (runs.zipIdx).mapM (fun r => do
    let h := r.1.1
    let mine := ((a.chosen.find? (fun g => g.1 = h)).map Prod.snd).getD []
    let cols := a.columns h
    act (fun s => s.holdStore (tileOf r.2).1 a.op.fn)
    let sets ← (chop 1024 cols.length cols).mapM (fun set => do
      let blocks := if pack then r.1.2 else r.1.2.filter (fun b => set.any (fun q => a.sees q.1 b))
      let data ← blocks.mapM (blockData env a.op.fn a.x (h ∈ held) a.layer h)
      let gs := (chop 32 set.length set).map (fun g => groupRun a c mine g data)
      act (fun s => s.bump (R.CLS_NONFINITE_COUNT (tileOf r.2).1) (gs.map Prod.snd).sum)
      pure (gs.flatMap Prod.fst))
    pure (tileOf r.2, sets.flatten))
  let arrive := j.arrive.map (fun t => (t / 4 % 16, t % 4)) ++ allTiles.filter (fun t => (4 * t.1 + t.2) ∉ j.arrive)
  let order := j.clusters.filter (· < 16) ++ (List.range 16).filter (fun n => n ∉ j.clusters)
  let column := fun (q : Nat × Nat) =>
    let tile := fun (t : Nat × Nat) => (parts.filter (fun p => p.1 = t)).foldl (fun acc p =>
      mergePartials acc (((p.2.find? (fun e => e.1 = q)).map Prod.snd).getD none)) none
    let cluster := fun n => (arrive.filter (fun t => t.1 = n)).foldl (fun acc t => mergePartials acc (tile t)) none
    normalise a.x.dim (order.foldl (fun acc n => mergePartials acc (cluster n)) none)
  let heads := a.groups.flatMap (fun h => (List.range a.x.groupHeads).map (fun g => h * a.x.groupHeads + g))
  let cols := (List.range a.tokens).flatMap (fun i => heads.map (fun h => column (i, h)))
  pure (cols.flatMap Prod.fst, cols.map Prod.snd)

/-- R289: deliver a partial: to OUTPUT, or to the reduction store (R282, R443). -/
def attendDeliver (hv : HostView) (a : Attend) (r : List Nat × List Nat) : CtxM (State → State) := do
  let i := a.id
  let pairs := (a.chosen.map (fun g => g.2.length)).sum
  let rows := r.1 ++ r.2
  let s ← get
  if toReduction a.op.desc then
    match s.nextOf a.op with
    | some (some h) =>
      let g := (heatArgs h.2.desc).group
      pure (fun s => match s.group? g with
        | some x => (s.putGroup g { x with partials := x.partials.put h.1 rows }).endCtx i stOK pairs
        | none => s.endCtx i stInvalid (invalidAt 0))
    | _ => throw (.ends stInvalid (invalidAt 0))
  else
    let w := s.vwrite hv 0 a.op.fn (dQuad a.op.desc 0x20) (rows.flatMap (leBytes 4)) (descTags a.op.desc)
    set (w.1.noteData i a.op.fn (dQuad a.op.desc 0x20) (4 * rows.length))
    match w.2 with
    | some f => throw (.acc f true true)
    | none => pure (fun s => s.endCtx i stOK pairs)

/-- The checks of an attend's body that need no header (R167, R288, R290). -/
def attendBad (d : Desc) : Option Nat :=
  let h := dQuad d 0x10
  let q := dQuad d 0x18
  let o := dQuad d 0x20
  let k := dfld d 0x30 16 13
  firstBad [(farAddr h || h % 256 ≠ 0, 0x10), (farAddr q || q % 64 ≠ 0, 0x18), (!toReduction d && (farAddr o || o % 64 ≠ 0), 0x20),
    (isSelected d && (k = 0 || 4096 < k), 0x30)]

/-- The size of an attend's OUTPUT (R289). -/
def State.outputBytes (s : State) (o : Op) : Nat :=
  match s.headerPa o with
  | none => 0
  | some p =>
    let x := stretchOf 0 p (s.drams p 256)
    let mask := dfld o.desc 0x34 0 16
    let hs := ((List.range x.kvHeads).filter (fun h => mask = 0 || bitOf mask h)).length * x.groupHeads
    dfld o.desc 0x2C 0 16 * hs * (x.dim + 1) * 4

/-- The HEAT of a TO_REDUCTION attend is in the chain and its slabs are free. -/
def State.storeReady (s : State) (o : Op) : Bool :=
  !toReduction o.desc ||
  (match s.nextOf o with
    | none => false
    | some none => true
    | some (some h) =>
      let a := heatArgs h.2.desc
      let n := s.outputBytes o / 4
      !s.storeOk o a.rowLen n || s.storeFree o a.rowLen n)

/-- The operations of a pack may not have an append or a summarise of the stretch and layer between them (R269). -/
def State.packClear (s : State) (a b : Nat) (o : Op) : Bool :=
  !(s.ops.any (fun e => a < e.1 && e.1 < b && (dOpcode e.2.desc = 0x21 || dOpcode e.2.desc = 0x24) && s.headerPa e.2 == s.headerPa o &&
    layersMeet (layersOf e.2.desc) (layersOf o.desc)))

/-- The header's GROUP_HEADS of an attend, for the columns of R269. -/
def State.groupHeadsAt (s : State) (o : Op) : Nat := match s.headerPa o with | some p => (s.dram (p + 0x0B)).toNat | none => 0

/-- R269: two attends of one function, on one stretch and layer and in one mode. -/
def State.packs (s : State) (o p : Op) : Bool :=
  p.fn = o.fn && dOpcode p.desc = dOpcode o.desc && s.headerPa p == s.headerPa o && layersOf p.desc == layersOf o.desc

/-- R269: the attends that run in one set of array columns with attend i, in admission order, and whether one more would not fit. -/
def State.packOf (s : State) (i : Nat) (o : Op) : List (Nat × Op) × Bool :=
  if !s.getB R.CTX_PACK_CTRL 0 then ([(i, o)], false)
  else
    let gh := s.groupHeadsAt o
    let cols := fun (o : Op) => dfld o.desc 0x2C 0 16 * gh
    let cands := s.ops.filter (fun e => e.1 ≠ i && s.packs o e.2 && (s.runnable e.1 [dOpcode o.desc]).isSome && s.packClear (min i e.1) (max i e.1) o &&
      (attendBad e.2.desc).isNone && cols e.2 ≠ 0 && s.storeReady e.2 && !s.orderWaitBut (fun _ x => s.packs o x) e.1 e.2)
    let r := cands.foldl (fun (acc : List (Nat × Op) × Nat × Bool) e =>
      if acc.2.1 + cols e.2 ≤ 32 then (acc.1 ++ [e], acc.2.1 + cols e.2, acc.2.2) else (acc.1, acc.2.1, true)) ([(i, o)], cols o, false)
    (r.1, r.2.2 || r.2.1 = 32)

/-- Prepare each attend of a pack; one that fails ends with its own status (R277). They share one landmark pass. -/
def State.prepAll (s : State) (hv : HostView) (held : List Nat) : List (Nat × Op) → State × List Attend
  | [] => (s, [])
  | (i, o) :: r =>
    let t := s.startCtx i o
    match (attendPrep hv i t.2 held).run t.1 with
    | (.ok a, s) => let q := s.prepAll hv (held ++ a.groups) r; (q.1, a :: q.2)
    | (.error e, s) => (s.ctxFail i t.2 e).prepAll hv held r

/-- R269: the union of the blocks that the attends of a pack chose, by head group. -/
def packUnion (l : List Attend) : List (Nat × List Nat) :=
  let groups := (List.range 16).filter (fun h => l.any (fun a => h ∈ a.groups))
  groups.map (fun h =>
    let sets := l.filterMap (fun a => (a.chosen.find? (fun g => g.1 = h)).map Prod.snd)
    (h, (List.range (sets.foldl (fun m x => x.foldl (fun m b => max m (b + 1)) m) 0)).filter (fun b => sets.any (fun x => b ∈ x))))

/-- The two passes of one attend of a pack that has read the blocks of some head groups. The second part: the head groups whose blocks are read now. -/
def State.attendOne (s : State) (hv : HostView) (a : Attend) (u : List (Nat × List Nat)) (held : List Nat) (pack : Bool) (j : Join) : State × List Nat :=
  let own := u.filter (fun g => g.1 ∈ a.groups)
  let t := some (descTags a.op.desc)
  let s := if pack then s.count 6 0 0x03 a.op.fn t 1 else s
  let s := s.count 6 0 0x05 a.op.fn t (own.map (fun g => g.2.length)).sum
  match (attendRun hv a own held pack j).run s with
  | (.ok r, s) => (s.runCtx a.id a.op (attendDeliver hv a r), held ++ a.groups)
  | (.error e, s) => (s.ctxFail a.id a.op e, held)

/-- The two passes of every attend of a pack, and their partials: the pack reads the union of the chosen blocks once. -/
def State.attendAll (s : State) (hv : HostView) (i : Nat) (o : Op) (j : Join) : State :=
  let p := s.prepAll hv [] (s.packOf i o).1
  let u := packUnion p.2
  let pack := decide (1 < p.2.length)
  let s := if pack then p.1.bump R.CTX_PACK_COUNT p.2.length else p.1
  (p.2.foldl (fun (q : State × List Nat) a => q.1.attendOne hv a u q.2 pack j) (s, [])).1

/-- R269: a DECODE attend waits for partners, unless the columns fill first or the wait has run out. -/
def State.packWaits (s : State) (i : Nat) (o : Op) : Bool :=
  s.getB R.CTX_PACK_CTRL 0 && s.getF R.CTX_PACK_CTRL 16 16 ≠ 0 && dPhase o.desc = 3 && o.probe ≠ 2 && !(s.packOf i o).2

/-- An attend of an empty query: an ordering point, and with TO_REDUCTION an empty partial (R290); its fields are checked as another's (R279). -/
def attendNothing (hv : HostView) (i : Nat) (o : Op) : CtxM (State → State) := do
  let _ ← attendChecks ⟨hv, descTags o.desc⟩ o
  let s ← get
  match toReduction o.desc, s.nextOf o with
  | true, some (some h) =>
    let g := (heatArgs h.2.desc).group
    pure (fun s => match s.group? g with
      | some x => (s.putGroup g { x with partials := x.partials.put h.1 [] }).endCtx i stOK 0
      | none => s.endCtx i stInvalid (invalidAt 0))
  | true, _ => throw (.ends stInvalid (invalidAt 0))
  | false, _ => pure (fun s => s.endCtx i stOK 0)

/-- R279: QTOKENS, at 0x2C, comes before K, at 0x30. -/
def State.attendField (s : State) (o : Op) (r : Nat) : Nat :=
  if r = invalidAt 0x30 && isSelected o.desc && 32 < dfld o.desc 0x2C 0 16 * s.groupHeadsAt o then invalidAt 0x2C else r

/-- An attend, dense or selected. -/
def State.attend (s : State) (hv : HostView) (i : Nat) (o : Op) (j : Join) : State :=
  match attendBad o.desc with
  | some r => s.endCtx i stInvalid (s.attendField o r)
  | none =>
    if dfld o.desc 0x2C 0 16 = 0 then
      if s.orderPoint i o || !s.storeReady o then s else let t := s.startCtx i o; t.1.runCtx i t.2 (attendNothing hv i t.2)
    else if s.orderWait i o || !s.storeReady o || s.packWaits i o then s
    else s.attendAll hv i o j

/-- ATTEND_DENSE, R259, R288 to R290. -/
def execAttendDense (op : Nat) (hv : HostView) (join : Join) (s : State) : Res :=
  .next (match s.runnable op [0x22] with | none => s | some o => s.attend hv op o join)

/-- ATTEND_SELECTED, R260 to R262, R288 to R290. -/
def execAttendSelected (op : Nat) (hv : HostView) (join : Join) (s : State) : Res :=
  .next (match s.runnable op [0x23] with | none => s | some o => s.attend hv op o join)

/-- PACK_WAIT_EXPIRY, R269: the attend proceeds without further partners. -/
def execPackWaitExpiry (op : Nat) (hv : HostView) (join : Join) (s : State) : Res :=
  .next (match s.runnable op [0x22, 0x23] with
    | none => s
    | some o => let o := { o with probe := 2 }; (s.putOp op o).attend hv op o join)

/-! ## SUMMARISE -/

/-- R264, one layer of a block range: the landmarks written, and the writes. -/
def summariseLayer (env : Env) (fn : Nat) (x : Stretch) (a n l : Nat) : CtxM Nat := do
  let e ← layerEntry env fn x l false
  let sealed := e.tokens / 64
  let blocks := (List.range n).filterMap (fun k => if a + k < sealed then some (a + k) else none)
  let ms ← redoMarks env fn x l blocks
  let tailW : Writes ← if e.tokens % 64 ≠ 0 && a ≤ sealed && sealed < a + n then do
      let t ← rebuildTail env fn x l e.tokens
      pure [(e.tail, t)]
    else pure []
  let marks := if a ≤ e.marks then max e.marks (min (a + n) sealed) else e.marks
  commitWrites env fn (ms ++ tailW ++ countWrites x l e.tokens marks)
  pure ms.length

def summarise (hv : HostView) (i : Nat) (o : Op) : CtxM (State → State) := do
  let env : Env := ⟨hv, descTags o.desc⟩
  let d := o.desc
  let a := dWord d 0x18
  let n := dWord d 0x1C
  let l := dfld d 0x20 0 16
  let ln := dfld d 0x20 16 16
  let x ← header env o.fn (dQuad d 0x10)
  if n = 0 || ln = 0 then return (fun s => s.endCtx i stOK 0)
  if x.cap < a + n then throw (.ends stInvalid (invalidAt 0x1C))
  if x.layers < l + ln then throw (.bad 0x01 0x08 0)
  if !x.landmarks then return (fun s => s.endCtx i stOK 0)
  let cs ← (List.range ln).mapM (fun k => summariseLayer env o.fn x a n (l + k))
  pure (fun s => s.endCtx i stOK (min 0xFFFFFFFF cs.sum))

/-- SUMMARISE, R264, R291. -/
def execSummarise (op : Nat) (hv : HostView) (s : State) : Res :=
  .next (match s.runnable op [0x24] with
    | none => s
    | some o =>
      let a := dQuad o.desc 0x10
      match firstBad [(farAddr a || a % 256 ≠ 0, 0x10)] with
      | some r => s.endCtx op stInvalid r
      | none =>
        if s.orderWait op o then s
        else let t := s.startCtx op o; t.1.runCtx op t.2 (summarise hv op t.2))

/-! ## TRUNCATE -/

/-- R293, one layer: the tokens removed, the changes of the block region, and the writes. -/
def truncateLayer (env : Env) (fn : Nat) (x : Stretch) (new l : Nat) : CtxM (Nat × List (Nat × List Byte) × Writes) := do
  let e ← layerEntry env fn x l false
  if e.tokens ≤ new then return (0, [], [])
  let cs ← (List.range (e.tokens - new)).mapM (fun k => do
    let idx := new + k
    let per ← (List.range x.kvHeads).mapM (fun h => (x.tokenSpans l (idx / 64) h (idx % 64)).mapM (fun sp => do
      let old ← regionRead env fn x false sp.1 sp.2
      pure (sp.1, old)))
    pure per.flatten)
  let changes := cs.flatten
  let tail ← rebuildTail env fn x l new
  pure (e.tokens - new, changes, changes.map (fun c => (x.blockBase + c.1, List.replicate c.2.length 0)) ++
    countWrites x l new (min e.marks (new / 64)) ++ [(e.tail, tail)])

def truncate (hv : HostView) (i : Nat) (o : Op) : CtxM (State → State) := do
  let env : Env := ⟨hv, descTags o.desc⟩
  let d := o.desc
  let new := dWord d 0x18
  let l := dfld d 0x1C 0 16
  let ln := dfld d 0x1C 16 16
  let x ← header env o.fn (dQuad d 0x10)
  if ln = 0 then return (fun s => s.endCtx i stOK 0)
  if x.layers < l + ln then throw (.ends stInvalid (invalidAt 0x1C))
  let rs ← (List.range ln).mapM (fun k => truncateLayer env o.fn x new (l + k))
  commitWrites env o.fn (rs.flatMap (fun r => r.2.2))
  let removed := min 0xFFFFFFFF (rs.map Prod.fst).sum
  pure (fun s =>
    if x.parity then (s.dropUnits i).startParts i stOK removed 0 (partsOf x i (rs.flatMap (fun r => r.2.1))) else s.endCtx i stOK removed)

/-- TRUNCATE, R292, R293. -/
def execTruncate (op : Nat) (hv : HostView) (s : State) : Res :=
  .next (match s.runnable op [0x25] with
    | none => s
    | some o =>
      let a := dQuad o.desc 0x10
      match firstBad [(farAddr a || a % 256 ≠ 0, 0x10)] with
      | some r => s.endCtx op stInvalid r
      | none =>
        if o.progress ≠ 0 || s.orderWait op o then s
        else let t := s.startCtx op o; t.1.runCtx op t.2 (truncate hv op t.2))

/-! ## Work units and tile blocks -/

/-- Bytes of a range become free values. -/
def State.havoc (s : State) (fn va : Nat) : Nat → State
  | 0 => s
  | n + 1 =>
    let f := s.free
    (f.2.vwrite noHost 0 fn va [BitVec.ofNat 8 f.1]).1.havoc fn (va + 1) n

/-- The outputs of an operation that runs on arrays, as (address, length): an attend's OUTPUT (R289); of an APPEND the tokens it writes, the landmarks and the tail
record that follow them, TOKEN_COUNT and LANDMARK_VALID (R252 to R254). -/
def State.opOutputs (s : State) (o : Op) : List (Nat × Nat) :=
  let d := o.desc
  if dOpcode d = 0x21 then
    match s.headerPa o with
    | none => []
    | some p =>
      let x := stretchOf (dQuad d 0x10) p (s.drams p 256)
      let l := dfld d 0x24 16 16
      let e := layerOf (s.peekBytes o.fn (x.entryVa l) 64)
      let p0 := (dfld d 0x20 0 30 + 2 ^ 64 - x.firstPos) % 2 ^ 64
      let idxs := ((List.range (dfld d 0x24 0 16)).map (p0 + ·)).filter (· < 64 * x.cap)
      let blocks := (idxs.map (· / 64)).eraseDups
      idxs.flatMap (fun i => (List.range x.kvHeads).flatMap (fun h => (x.tokenSpans l (i / 64) h (i % 64)).map (fun sp => (x.blockBase + sp.1, sp.2)))) ++
        (if x.landmarks then
          blocks.flatMap (fun b => (List.range x.kvHeads).map (fun h => (x.markVa l b h, x.markSize))) ++ [(e.tail, 4 * x.kvHeads * x.dim)] else []) ++
        [(x.entryVa l, 8)]
  else if (dOpcode d = 0x22 || dOpcode d = 0x23) && !toReduction d then [(dQuad d 0x20, s.outputBytes o)]
  else []

/-- R267: the work units of an operation: 32-row groups of an append's projections, runs of 64 (block, head group) pairs of an attend, parts of 64 blocks of a summarise,
as its header and its layer's TOKEN_COUNT give them now. -/
def State.unitCount (s : State) (o : Op) : Nat :=
  let d := o.desc
  match s.headerPa o with
  | none => 0
  | some p =>
    let x := stretchOf (dQuad d 0x10) p (s.drams p 256)
    let mask := dfld d 0x34 0 16
    let groups := ((List.range x.kvHeads).filter (fun h => mask = 0 || bitOf mask h)).length
    let blocks := fun l => ceilDiv (s.peek o.fn (x.entryVa l) 4) 64
    match dOpcode d with
    | 0x21 => if dfld d 0x24 0 16 = 0 then 0 else ceilDiv (2 * x.kvHeads * x.dim) 32
    | 0x22 => if dfld d 0x2C 0 16 = 0 then 0 else groups * ceilDiv (blocks (dfld d 0x2C 16 16)) 64
    | 0x23 => if dfld d 0x2C 0 16 = 0 then 0 else groups * ceilDiv (min (dfld d 0x30 16 13) (blocks (dfld d 0x2C 16 16))) 64
    | 0x24 => if x.landmarks then dfld d 0x20 16 16 * ceilDiv (dWord d 0x1C) 64 else 0
    | _ => 0

/-- R267: the first of an operation's work units that is not dispatched; none while the operation waits or has none left. -/
def State.nextUnit (s : State) (i : Nat) : Option Nat :=
  match s.runnable i [0x21, 0x22, 0x23, 0x24] with
  | none => none
  | some o =>
    if o.progress ≠ 0 || s.orderWait i o then none
    else (List.range (s.unitCount o)).find? (fun k => k ∉ (s.tiles.dispatched.look i).getD [])

/-- R267, R268: Cox places the next unit on a tile that can take one. `offered`: W, the tile-cycles offered over the last 100 µs. The answer names the descriptor. -/
def State.dispatch (s : State) (nn t offered : Nat) : State × Option Nat :=
  let live := s.ops.filter (fun e => (s.nextUnit e.1).isSome)
  match s.chooseFn ((live.map (fun e => e.2.fn)).eraseDups) offered with
  | none => (s, none)
  | some f =>
    match unitOrder (live.filter (fun e => e.2.fn = f)) with
    | [] => (s, none)
    | e :: _ =>
      match s.nextUnit e.1 with
      | none => (s, none)
      | some k =>
        let s := s.addUnit nn t (e.1, k) false
        ({ s with tiles := { s.tiles with dispatched := s.tiles.dispatched.put e.1 (((s.tiles.dispatched.look e.1).getD []) ++ [k]) } }, some e.1)

/-- The body offset of the field that names the number format of an operation's operands. -/
def formatField (d : Desc) : Nat := if dOpcode d = 0x21 then 0x28 else 0x30

/-- TILE_BLOCK, R211, R215 to R220, R228 to R232, R239, R566. A pair of formats that R215 does not give, or that reduced service does not take, completes INVALID, as does a
block-scaled pair whose K is not a multiple of 32; RESULT of that names a field that the manual does not give: a free value (log entry 108). -/
def execTileBlock (nn t fa fb : Nat) (load : TilePass) (scale : Option Nat) (a b : List Row) (own : List TileRun) (s : State) : Res :=
  let k := (a.headD ⟨0, [], []⟩).k
  .next (
    match (s.tileAt nn t).units with
    | [] => s
    | u :: _ =>
      match s.op? u.1 with
      | none => s
      | some o =>
        if 16 ≤ nn || 4 ≤ t || s.tileRetired nn t || s.clusterStalled nn || dOpcode o.desc = 0x24 then s
        else if !pairOk fa fb || (s.reduced && !pairReduced fa fb) then s.endCtx u.1 stInvalid (invalidAt (formatField o.desc))
        else if isBlockFmt fa && k % 32 ≠ 0 then let f := s.free; f.2.endCtx u.1 stInvalid (invalidAt (f.1 % 64))
        else if !blockShapeOk fa fb a b k then s
        else
          match s.tileBlock nn t fa fb load.load load.ends scale a b own with
          | (s, none) => s
          | (s, some i) => ((s.opOutputs o).foldl (fun s r => s.havoc o.fn r.1 r.2) s).endCtx i stArith 0)

/-! ## Shares -/

/-- R273: a write of CTX_FN_SHARE (off 0x044) or CTX_FN_ADMIT_MAX (0x048) of a function. -/
def State.shareWrite (s : State) (off fn : Nat) (v : Word) : State :=
  let lim := fun (w : Word) => let m := fld w 0 13; if m = 0 then 64 else min m 4096
  let others := (List.range 64).filter (· ≠ fn)
  let beyond := if off = 0x044 then 256 < (others.map s.guarantee).sum + fld v 0 8
    else 4096 < (others.map (fun f => lim (s.rd (R.CTX_FN_ADMIT_MAX f)))).sum + lim v
  if beyond then ((s.bump R.CTX_REFUSE_COUNT).raiseInt pCTX 2).logErr pCTX 0x05 clsDevice 0 noTags 0 0
  else s.writePlain pCTX off fn v

/-- CTX_SHARE_WRITE, R272, R273: `share`: the register is CTX_FN_SHARE, else CTX_FN_ADMIT_MAX. -/
def execCtxShareWrite (share : Bool) (fn : Nat) (v : Word) (s : State) : Res :=
  .next (if fn < 64 then s.shareWrite (if share then 0x044 else 0x048) fn v else s)

/-- R270, R272: the value that CTX_PHASE_STATUS shows. -/
def State.phaseStatus (s : State) : Word :=
  let live := s.ops.filter (fun e => e.2.st != .done && dPhase e.2.desc ≠ 0)
  let est := fun n => ((live.filter (fun e => dPhase e.2.desc = n)).map (fun e => e.2.est.1)).sum
  let present := (List.range 6).map (fun n => if live.any (fun e => dPhase e.2.desc = n) then 2 ^ n else 0)
  let lead := if live.isEmpty then (if s.lastTag = 5 then 5 else 0)
    else (List.range 6).foldl (fun b n => if live.any (fun e => dPhase e.2.desc = n) && (b = 0 || est b < est n) then n else b) 0
  word (present.sum + 256 * lead)

/-- R271: the value that CTX_ADMITTED shows. -/
def State.ctxAdmitted (s : State) : Word := word (s.ops.filter (fun e => isContext e.2.desc && e.2.st != .done)).length

end Sys2Proof.Machine
end

