-- ==== Sys2Proof/Machine/Control.lean ====
section
/-! DEFINITION. Sys2Proof/Machine/Control.lean: COPY, NOP, TIMESTAMP (R294, R297), opcodes that no chapter gives (R14), and trigger queues (R298 to
R305). -/

namespace Sys2Proof.Machine
open Sys2Proof

/-! ## COPY, NOP, TIMESTAMP -/

/-- R294: a COPY of length 0 waits for every earlier COPY of its queue. -/
def State.copyWaits (s : State) (i : Nat) (o : Op) : Bool :=
  s.ops.any (fun e => e.1 < i && e.2.src = o.src && dOpcode e.2.desc = 1 && e.2.st != .done)

/-- Write bytes that nothing constrains. -/
def State.writeFree (s : State) (env : HostView) (fn : Nat) (tags : Tags) (va : Nat) : Nat → State × Option AccFail
  | 0 => (s, none)
  | n + 1 =>
    let f := s.free
    match f.2.vwrite env 0 fn va [BitVec.ofNat 8 f.1] tags with
    | (s, some e) => (s, some e)
    | (s, none) => s.writeFree env fn tags (va + 1) n

/-- R294: the copy. Where the ranges overlap the content of DST is undefined. -/
def State.copy (s : State) (env : HostView) (i : Nat) (o : Op) (src dst n : Nat) : State :=
  match s.vread env 0 o.fn src n (descTags o.desc) with
  | (s, .error f) => s.opFail i f
  | (s, .ok bs) =>
    let tags := descTags o.desc
    let r := if src < dst + n && dst < src + n then s.writeFree env o.fn tags dst n else s.vwrite env 0 o.fn dst bs tags
    match r with
    | (s, some f) => s.opFail i f true
    | (s, none) => (s.noteData i o.fn dst n).finishOp i stOK 0

/-- COPY, R294. -/
def execCopy (op : Nat) (hv : HostView) (s : State) : Res :=
  .next (match s.runnable op [0x01] with
    | none => s
    | some o =>
      let a := dQuad o.desc 0x10
      let b := dQuad o.desc 0x18
      let n := dWord o.desc 0x20
      match firstBad [(farAddr a, 0x10), (farAddr b, 0x18)] with
      | some r => s.finishOp op stInvalid r
      | none =>
        if n = 0 then (if s.copyWaits op o then s else (s.traceStart o a).finishOp op stOK 0)
        else (s.traceStart o a).copy hv op o a b n)

/-- NOP, R297. -/
def execNop (op : Nat) (s : State) : Res :=
  .next (match s.runnable op [0x70] with | none => s | some o => (s.traceStart o 0).finishOp op stOK 0)

/-- TIMESTAMP, R297. -/
def execTimestamp (op : Nat) (hv : HostView) (s : State) : Res :=
  .next (match s.runnable op [0x73] with
    | none => s
    | some o =>
      let a := dQuad o.desc 0x10
      match firstBad [(farAddr a || a % 8 ≠ 0, 0x10)] with
      | some r => s.finishOp op stInvalid r
      | none =>
        match (s.traceStart o a).vwrite hv 0 o.fn a (leBytes 8 s.devTime) (descTags o.desc) with
        | (s, some f) => s.opFail op f true
        | (s, none) => (s.noteData op o.fn a 8).finishOp op stOK 0)

/-- INVALID_OPCODE, R14, R278: RESULT is 0, for the opcode defines none (R145). -/
def execInvalidOpcode (op : Nat) (s : State) : Res :=
  .next (match s.op? op with
    | none => s
    | some o => if o.st == .admitted && dOpcode o.desc ∉ knownOpcodes && s.chainReady o && s.fenceReady op o then s.finishOp op stInvalid 0 else s)

/-! ## Trigger queues -/

/-- STATE of R305. -/
def State.tqState (s : State) (q : Nat) : Nat := s.getF (R.CTX_TQ_STATUS q) 0 2

/-- R302: the queue is owned by the function. -/
def State.tqOwned (s : State) (q fn : Nat) : Bool := s.getB (R.CTX_TQ_OWNER q) 31 && s.getF (R.CTX_TQ_OWNER q) 0 6 = fn

/-- R305: pending triggers allowed. -/
def State.tqDepth (s : State) (q : Nat) : Nat := let d := s.getF (R.CTX_TQ_DEPTH q) 0 5; if d = 0 then 1 else min d 16

/-- R300: a patch entry. -/
def patchOf (w : Nat) : Patch := ⟨bitsOf w 0 10, bitsOf w 10 4, bitOf w 14, bitsOf w 15 3⟩

def Patch.formed (p : Patch) (count : Nat) : Bool := p.index < count && 4 ≤ p.word && (!p.wide || (p.word % 2 = 0 && p.word ≤ 14))

/-- R299: the first check of a chain that fails, as RESULT of R279. -/
def chainBad (ds : List Desc) : Option Nat :=
  (ds.zipIdx).findSome? (fun e =>
    let bad := dFirst e.1 != (e.2 == 0) || dLast e.1 != (e.2 + 1 == ds.length) || dOpcode e.1 = 0x71 || dOpcode e.1 = 0x72 ||
      dOpcode e.1 ∉ knownOpcodes
    if bad then some (2 ^ 31 + 256 * e.2) else none)

def descsOf : Nat → List Byte → List Desc
  | 0, _ => []
  | n + 1, bs => BitVec.ofNat 512 (leNat (bs.take 64)) :: descsOf n (bs.drop 64)

/-- R299: the arm, once its body is well formed. -/
def State.arm (s : State) (hv : HostView) (i : Nat) (o : Op) (q count cq : Nat) (ps : List Nat) : State :=
  let va := dQuad o.desc 0x10
  match s.rangeFail hv o.fn va (64 * count) false with
  | some f => s.opFail i f
  | none =>
    if !s.allDevice o.fn va (64 * count) then s.finishOp i stDenied 0
    else match s.vread hv 4 o.fn va (64 * count) (descTags o.desc) with
      | (s, .error f) => s.opFail i f
      | (s, .ok bs) =>
        let ds := descsOf count bs
        let valid := (ps.filter (fun p => bitOf p 31)).map patchOf
        let badPatch := (ps.zipIdx).findSome? (fun p => if bitOf p.1 31 && !(patchOf p.1).formed count then some (invalidAt (0x20 + 4 * p.2)) else none)
        match chainBad ds, badPatch with
        | some r, _ => s.finishOp i stInvalid r
        | none, some r => s.finishOp i stInvalid r
        | none, none =>
          if cq = 0 || 15 < cq || !s.getB (R.RNG_CQ_CTRL o.fn cq) 0 then s.finishOp i stInvalid (invalidAt 0x1C)
          else if 1048576 < s.storeUsed + count then s.finishOp i stDenied 0
          else
            let x := s.tq q
            let s := s.putOp i { o with st := .running, progress := 1 }
            s.putTq q { x with armed := ds, patches := valid, armCq := cq, armOp := some i }

/-- TRIGGER_ARM, R298, R299: the queue is ARMING from the moment the arm starts. -/
def execTriggerArm (op : Nat) (hv : HostView) (s : State) : Res :=
  .next (match s.runnable op [0x71] with
    | none => s
    | some o =>
      let a := dQuad o.desc 0x10
      let n := dfld o.desc 0x18 0 11
      let q := dfld o.desc 0x18 16 12
      let c := dfld o.desc 0x1C 0 4
      match firstBad [(farAddr a || a % 64 ≠ 0, 0x10), (n = 0 || 1024 < n, 0x18)] with
      | some r => s.finishOp op stInvalid r
      | none =>
        let cq := if c = 0 then s.srcCq o.src else c
        let ps := [dWord o.desc 0x20, dWord o.desc 0x24, dWord o.desc 0x28, dWord o.desc 0x2C]
        if o.progress ≠ 0 then s
        else if (s.tq q).armOp = some op then s.arm hv op o q n cq ps
        else if !s.tqOwned q o.fn then s.finishOp op stDenied 0
        else if s.tqState q ≠ 0 then s.finishOp op stInvalid (invalidAt 0x18)
        else (((s.traceStart o a).setF (R.CTX_TQ_STATUS q) 0 2 3).putTq q { s.tq q with armOp := some op }).arm hv op o q n cq ps)

/-- TRIGGER_ARM_DONE, R299: the copy is complete and the queue is ARMED. -/
def execTriggerArmDone (q : Nat) (s : State) : Res :=
  .next (match (s.tq q).armOp with
    | none => s
    | some i =>
      let x := s.tq q
      let rep := match s.op? i with | some o => dfld o.desc 0x18 31 1 = 1 | none => false
      let s := (s.setF (R.CTX_TQ_STATUS q) 0 2 1).setB (R.CTX_TQ_STATUS q) 2 rep
      (s.putTq q { x with armOp := none }).finishOp i stOK x.armed.length)

/-- TRIGGER_DISARM, R301. -/
def execTriggerDisarm (op : Nat) (s : State) : Res :=
  .next (match s.runnable op [0x72] with
    | none => s
    | some o =>
      let q := dfld o.desc 0x18 16 12
      let x := s.tq q
      if o.progress ≠ 0 then s
      else if !s.tqOwned q o.fn then s.finishOp op stDenied 0
      else
        let s := s.traceStart o 0
        let o := { o with st := .running, progress := 1 }
        match s.tqState q with
        | 0 => s.finishOp op stOK 0
        | 3 => s
        | 2 => (s.putOp op o).putTq q { x with disarms := x.disarms ++ [(op, 0)] }
        | _ =>
          ((s.putOp op o).setF (R.CTX_TQ_STATUS q) 0 2 2).putTq q { x with pending := [], disarms := [(op, x.pending.length)] })

/-- Runs of a queue that are not ended: descriptors not admitted, or entries not issued. -/
def State.runsLeft (s : State) (q : Nat) : Bool := !(s.queue (.tq q)).cache.isEmpty || s.ops.any (fun e => e.2.src = .tq q && !e.2.issued)

/-- TRIGGER_DISARM_DONE, R301: every admitted run has had its entry issued. -/
def execTriggerDisarmDone (q : Nat) (s : State) : Res :=
  .next (
    if s.tqState q ≠ 2 || s.runsLeft q then s
    else
      let x := s.tq q
      let s := (s.setF (R.CTX_TQ_STATUS q) 0 3 0).putTq q { x with armed := [], patches := [], disarms := [] }
      x.disarms.foldl (fun s d => s.finishOp d.1 stOK d.2) s)

/-- R300: a descriptor with the patches of its index applied. -/
def patchDesc (ps : List Patch) (args : List Nat) (i : Nat) (d : Desc) : Desc :=
  ps.foldl (fun d p =>
    if p.index = i then BitVec.ofNat 512 (putBits d.toNat (32 * p.word) (if p.wide then 64 else 32) (args.getD p.arg 0)) else d) d

/-- Admit as many descriptors of a queue as Cox takes. -/
def State.admitMany (s : State) (src : Source) : Nat → State
  | 0 => s
  | n + 1 => (s.admitNext src).admitMany src n

/-- TRIGGER_RUN_ADMIT, R304: the run of the next pending trigger, once the LAST of the run before has been admitted and Cox has room for its first
descriptor (R265). While entries of earlier runs go to another completion queue, it waits for them. -/
def execTriggerRunAdmit (q : Nat) (s : State) : Res :=
  .next (
    let x := s.tq q
    match x.pending with
    | [] => s
    | t :: rest =>
      let busy := s.ops.any (fun e => e.2.src = .tq q && !e.2.issued)
      let ws := (t.chain.zipIdx).map (fun d => (⟨word t.seq, q, patchDesc t.patches t.args d.2 d.1, false⟩ : Waiting))
      if !(s.queue (.tq q)).cache.isEmpty || ((t.cq ≠ x.cq || t.fn ≠ x.fn) && busy) || s.fnCtrl t.fn 0 || !(s.idleState = 0 || s.exiting) ||
          !(ws.take 1).all (fun w => s.admitRoom t.fn w.desc) then s
      else
        let s := s.putTq q { x with fn := t.fn, cq := t.cq, pending := rest }
        let qu := s.queue (.tq q)
        (s.putQueue (.tq q) { qu with cache := ws }).admitMany (.tq q) ws.length)

/-- R305: a write of CTX_TQ_OWNER. -/
def State.tqOwnerWrite (s : State) (q : Nat) (v : Word) : State :=
  if s.tqState q ≠ 0 then s
  else
    let was := s.getB (R.CTX_TQ_OWNER q) 31
    let s := s.writePlain pCTX 0x104 q v
    if !was && bit v 31 then s.wr (R.CTX_TQ_SENDS q) 0 else s

/-- TQ_OWNER_WRITE, R305. -/
def execTqOwnerWrite (q : Nat) (v : Word) (s : State) : Res := .next (if q < 4096 then s.tqOwnerWrite q v else s)

/-- What the receiver answers to a SEND to a trigger queue (R303). -/
inductive TqAnswer where
  | refused | tooLong | notReady | accepted
deriving DecidableEq, Repr

/-- The eight arguments of a payload (R304). -/
def argsOf (bs : List Byte) : List Nat := (List.range 8).map (fun i => leNat ((bs.drop (8 * i)).take 8))

/-- R303, R304: a SEND arrives at trigger queue q through an endpoint of a function. -/
def State.tqSend (s : State) (fn q : Nat) (payload : List Byte) : State × TqAnswer :=
  if 4096 ≤ q then (s, .refused)
  else if !s.tqOwned q fn then (s.bump (R.CTX_TQ_REFUSED q), .refused)
  else if 64 < payload.length then (s.bump (R.CTX_TQ_REFUSED q), .tooLong)
  else
    let x := s.tq q
    if s.tqState q ≠ 1 || s.tqDepth q ≤ x.pending.length || s.fnCtrl fn 0 then (s.bump (R.CTX_TQ_REFUSED q), .notReady)
    else
      let n := s.rd (R.CTX_TQ_SENDS q)
      let once := !s.getB (R.CTX_TQ_STATUS q) 2
      let t : Trigger := ⟨fn, n.toNat, argsOf payload, x.armed, x.patches, x.armCq, once⟩
      let s := s.wr (R.CTX_TQ_SENDS q) (n + 1)
      if once then
        ((s.setF (R.CTX_TQ_STATUS q) 0 3 0).putTq q { x with pending := x.pending ++ [t], armed := [], patches := [] }, .accepted)
      else (s.putTq q { x with pending := x.pending ++ [t] }, .accepted)

end Sys2Proof.Machine
end

