-- ==== Sys2Proof/Machine/Ydt.lean ====
section
/-! DEFINITION. Sys2Proof/Machine/Ydt.lean: Yukan Datagram Transport (R338 to R368, R374 to R380, R575): windows, arriving packets, acknowledgement,
retransmission, paths and rate control, and the packets of heats (R433 to R439). -/

namespace Sys2Proof
open Machine

/-- R355, R361: the payload a packet of a message must carry. -/
def Pkt.shaped (p : Pkt) : Bool :=
  if p.last then packetsOf p.msgLen = p.idx + 1 && p.payload.length = p.msgLen - 4096 * p.idx else p.payload.length = 4096

def Pkt.count (p : Pkt) : Nat := bitsOf (p.extWord 1) 32 13

/-- Bytes that a READ_REQUEST asks for. -/
def Pkt.asked (p : Pkt) : Nat := min (4096 * p.count) (p.msgLen - 4096 * p.idx)

def Pkt.heatWord (p : Pkt) : Nat := p.extWord 0 / 2 ^ 32
def Pkt.heatValue (p : Pkt) : Nat := p.extWord 0 % 2 ^ 32
def Pkt.heatGroup (p : Pkt) : Nat := bitsOf p.heatWord 24 8
def Pkt.heatKind (p : Pkt) : Nat := bitsOf p.heatWord 22 2

end Sys2Proof

namespace Sys2Proof.Machine
open Sys2Proof

/-! ## The end of a transfer -/

/-- A slot ends with a status: it is freed and its owner told (R351, R433, R458 to R460). -/
def State.endXfer (s : State) (i : Nat) (x : Xfer) (st : Nat) : State :=
  let s := s.dropXfer i
  let s := if st = stUnreachable then s.notePeer x.fn x.dev x.dfn else s
  let s := match x.owner with
    | .op j => s.finishOp j st x.result
    | .part j _ => s.partEnd j st
    | .chunk g _ _ => if st = stOK then s else s.heatSendEnded g x.heat st
    | .note => s
    | .repair j k g lost => if st = stOK then s.rebuilt j k g lost x.got.vals.flatten else s.repairEnded j k g lost st
    | .gather j m => s.gathered j m (if st = stOK then some x.got.vals.flatten else none)
  s.sendUnsent

/-- R366: a slot that retransmitted anything holds for the packet lifetime first. A part of a parity update commits at its ACK all the same (R458). -/
def State.finishXfer (s : State) (i st : Nat) : State :=
  match s.ydt.xfers.look i with
  | none => s
  | some x =>
    if x.lastRetrans.isSome && x.holding.isNone then
      match x.owner with
      | .part j _ => (s.putXfer i { x with holding := some st, owner := .note }).partEnd j st
      | .op j => s.endOp j st
      | _ => s.putXfer i { x with holding := some st }
    else s.endXfer i x st

/-- What sending leaves of a slot: a local access that fails stops the descriptor by R183; a status ends the operation (R367). -/
def State.afterSend (s : State) (i : Nat) (e : SendEnd) : State :=
  match e, s.ydt.xfers.look i with
  | .sent, _ => s
  | .fail f, some x => (match x.owner with | .op j => s.opFail j f false false | _ => s.finishXfer i stCheck)
  | .status st, _ => s.finishXfer i st
  | .fail _, none => s

def State.sendAll (s : State) (env : HostView) (i attempt : Nat) (ks : List Nat) : State :=
  let r := s.sendList env i attempt ks
  r.1.afterSend i r.2

/-- HOLDING_END, R366: the packet lifetime has passed. -/
def execHoldingEnd (slot : Nat) (s : State) : Res :=
  .next (match s.ydt.xfers.look slot with
    | some x => (match x.holding with | some st => s.endXfer slot x st | none => s)
    | none => s)

/-! ## The start of a transfer (R341, R347 to R352, R367) -/

/-- What a transfer descriptor asks for. -/
structure Move where
  kind : Nat
  va : Nat
  len : Nat
  off : Nat
  window : Nat
  gen : Nat
  tclass : Nat
  peer : Nat
  ordered : Bool
deriving DecidableEq, Repr

def moveOf (d : Desc) : Move :=
  if dOpcode d = 3 then
    { kind := tySend, va := dQuad d 0x10, len := dWord d 0x18, off := 0, window := dfld d 0x20 0 17, gen := 0, tclass := dfld d 0x20 18 3,
      peer := dfld d 0x1C 0 18, ordered := dfld d 0x20 17 1 = 1 }
  else
    { kind := if dOpcode d = 4 then tyReadReq else tyWrite, va := dQuad d 0x10, len := dWord d 0x20, off := dQuad d 0x18, window := dWord d 0x24,
      gen := dfld d 0x28 0 16, tclass := dfld d 0x28 16 3, peer := dfld d 0x2C 0 18, ordered := false }

/-- R295, R296, R348: the field that makes a transfer INVALID. -/
def Move.bad (m : Move) : Option Nat :=
  let o := if m.kind = tySend then 0x18 else 0x20
  firstBad [(farAddr m.va, 0x10), (16777216 < m.len, o), (m.kind = tySend && bitOf m.window 16 && 64 < m.len, o),
    (m.kind = tySend && 4095 < m.window % 65536, 0x20)]

/-- Every packet of a descriptor's WRITE has been acknowledged: its slot holds, or it has ended. -/
def State.writeAcked (s : State) (i : Nat) (o : Op) : Bool := o.st == .done || (match s.slotOf i with | some (_, x) => x.holding.isSome | none => false)

/-- R350: a transfer of length 0 waits for earlier transfers of its queue to its peer. -/
def State.zeroWaits (s : State) (i : Nat) (o : Op) (m : Move) : Bool :=
  s.ops.any (fun e => e.1 < i && e.2.src = o.src && ydtTransfer e.2.desc && (moveOf e.2.desc).peer = m.peer &&
    (if m.kind = tyWrite then (moveOf e.2.desc).kind = tyWrite && !s.writeAcked e.1 e.2
     else (moveOf e.2.desc).kind ≠ tySend && e.2.st != .done))

/-- R352: an ORDERED SEND waits for earlier WRITEs of its function to its device. -/
def State.orderedWaits (s : State) (i : Nat) (o : Op) (m : Move) : Bool :=
  m.ordered && s.ops.any (fun e => e.1 < i && e.2.fn = o.fn && ydtTransfer e.2.desc && (moveOf e.2.desc).kind = tyWrite &&
    (moveOf e.2.desc).peer / 64 = m.peer / 64 && !s.writeAcked e.1 e.2)

/-- Place what a READ has received and not placed, for want of its page. -/
def State.placeGot (s : State) (env : HostView) (j i : Nat) : Tab (List Byte) → State
  | [] => s
  | (k, bs) :: r =>
    match s.ydt.xfers.look i with
    | none => s
    | some x =>
      match s.vwrite env 3 x.fn (x.va + 4096 * k) bs ((s.opTags j).getD noTags) with
      | (s, some f) => s.opFail j f true false
      | (s, none) =>
        ((s.putXfer i { x with got := x.got.del k, acked := x.acked ++ [k] }).noteData j x.fn (x.va + 4096 * k) bs.length).placeGot env j i r

/-- A transfer that waited on a fault goes on: responses received are placed, packets not sent are sent. -/
def State.resumeXfer (s : State) (env : HostView) (j i : Nat) (x : Xfer) : State :=
  if x.holding.isSome || !x.started then s
  else
    let s := s.placeGot env j i x.got
    match s.ydt.xfers.look i with
    | none => s
    | some x =>
      if x.unanswered.isEmpty then s.finishXfer i (if x.stale then stStale else stOK)
      else s.sendAll env i 0 (x.unanswered.filter (fun k => !x.sent.has k))

/-- WRITE, SEND and READ over YDT. -/
def State.ydtMove (s : State) (env : HostView) (i : Nat) (o : Op) : State :=
  let m := moveOf o.desc
  match s.slotOf i, m.bad with
  | some (k, x), _ => s.resumeXfer env i k x
  | none, some r => s.finishOp i stInvalid r
  | none, none =>
    let dev := m.peer / 64
    let dfn := m.peer % 64
    if s.getF (R.TRN_FN_YDT_OPS o.fn) 0 16 = 0 then s.finishOp i stDenied 0
    else if m.len = 0 && m.kind ≠ tySend then
      if s.zeroWaits i o m then s else (s.traceStart o m.va).finishOp i stOK 0
    else if s.unreachable o.fn dev then (s.notePeer o.fn dev dfn).finishOp i stUnreachable 0
    else match s.sealBlock o.fn with
      | some st => s.finishOp i st 0
      | none =>
        let wait := s.orderedWaits i o m
        match s.startXfer { newXfer (.op i) m.kind o.fn dev dfn m.window m.gen m.off m.va m.len m.tclass none with ordered := m.ordered, started := !wait } with
        | (s, none) => s
        | (s, some k) =>
          let s := (s.traceStart o m.va).putOp i { o with st := .running, progress := 1 }
          if wait then s else s.sendAll env k 0 (List.range (packetsOf m.len))

/-- ORDERED_SEND_RELEASE, R352: the earlier WRITEs have been acknowledged. -/
def execOrderedSendRelease (slot : Nat) (hv : HostView) (s : State) : Res :=
  .next (match s.ydt.xfers.look slot with
    | none => s
    | some x =>
      match x.owner with
      | .op i =>
        match s.op? i with
        | none => s
        | some o =>
          if x.started || s.orderedWaits i o (moveOf o.desc) then s
          else (s.putXfer slot { x with started := true }).sendAll hv slot 0 (List.range x.packets)
      | _ => s)

/-! ## Windows (R342, R343, R457) -/

def State.parityWindow (s : State) (fn i : Nat) : Bool := s.parOn && fn = 0 && 1021 ≤ i && i ≤ 1023

/-- WINDOW_SET, R342. -/
def execWindowSet (op : Nat) (s : State) : Res :=
  .next (match s.runnable op [0x05] with
    | none => s
    | some o =>
      let d := o.desc
      let base := dQuad d 0x10
      let len := dQuad d 0x18
      let i := dfld d 0x20 0 16
      match firstBad [(farAddr base, 0x10), (2 ^ 48 < len || 2 ^ 57 < base + len, 0x18)] with
      | some r => s.finishOp op stInvalid r
      | none =>
        if i / 1024 ≠ o.fn || s.parityWindow o.fn i then s.finishOp op stDenied 0
        else if s.ydt.windows.has i && dfld d 0x24 18 1 = 0 then s.finishOp op stInvalid (invalidAt 0x24)
        else
          let w : Window := ⟨base, len, dfld d 0x20 16 16, dfld d 0x24 0 16, dfld d 0x24 16 1 = 1, dfld d 0x24 17 1 = 1⟩
          let s := s.traceStart o base
          { s with ydt := { s.ydt with windows := s.ydt.windows.put i w } }.finishOp op stOK 0)

/-- WINDOW_CLOSE, R343: a packet that has been checked has been placed. -/
def execWindowClose (op : Nat) (s : State) : Res :=
  .next (match s.runnable op [0x06] with
    | none => s
    | some o =>
      let i := dfld o.desc 0x10 0 16
      if i / 1024 ≠ o.fn || s.parityWindow o.fn i then s.finishOp op stDenied 0
      else
        let s := s.traceStart o 0
        { s with ydt := { s.ydt with windows := s.ydt.windows.del i } }.finishOp op stOK 0)

/-- RECV_POST on a YDT receive queue, R349: it completes when its buffer is filled. -/
def State.recvPost (s : State) (i : Nat) (o : Op) : State :=
  let d := o.desc
  let q := dfld d 0x1C 0 16
  match firstBad [(farAddr (dQuad d 0x10), 0x10), (16777216 < dfld d 0x18 0 25, 0x18), (4095 < q, 0x1C)] with
  | some r => s.finishOp i stInvalid r
  | none =>
    let l := (s.ydt.posts.look q).getD []
    if o.progress ≠ 0 then s
    else if !s.getB (R.YDT_RQ_OWNER q) 31 || s.getF (R.YDT_RQ_OWNER q) 0 6 ≠ o.fn || 1024 ≤ l.length then s.finishOp i stDenied 0
    else
      let s := (s.traceStart o (dQuad d 0x10)).putOp i { o with progress := 1 }
      { s with ydt := { s.ydt with posts := s.ydt.posts.put q (l ++ [i]) } }

/-- The first posted buffer leaves its queue. -/
def State.dropPost (s : State) (q : Nat) : State :=
  let l := ((s.ydt.posts.look q).getD []).drop 1
  { s with ydt := { s.ydt with posts := if l.isEmpty then s.ydt.posts.del q else s.ydt.posts.put q l } }

/-! ## Arriving packets -/

/-- R127, R129, R130: an arrival meets an entry to Z1 or Z2, or a move to Z2, that would gate a unit it needs: the device returns to active, and the arrival is
served meanwhile by what still runs. -/
def State.meetsEntry (s : State) (n : Nat) (w : WakeSource) : State :=
  if s.entering && (n = 2 || (1 ≤ n && s.idle.goal = 2)) then s.wake w else s

/-- R129, R130: what an arrival needs does not run. -/
def State.gated (s : State) (n : Nat) : Bool := (s.idle.selfRefresh && 1 ≤ n) || (s.idleState ≠ 0 && n = 2)

/-- R129, R130: take the oldest packet of a TYPE, if the units it needs run. `need`: 0 nothing gated, 1 device memory, 2 Cox, HEA or host memory.
Otherwise it stays held and wakes the device. `free`: the packet needs no check of its endpoint. -/
def State.serve (s : State) (typ : Nat) (sel : Pkt → Bool) (need : Pkt → Nat) (free : Pkt → Bool) (f : State → Pkt → State) : State :=
  let mine := fun (x : Rx) => x.pkt.typ = typ && sel x.pkt
  match s.ydt.rx.find? mine with
  | none => s
  | some x =>
    let n := need x.pkt
    let w : WakeSource := if x.link.isSome then .crew else .network
    if s.gated n then s.wake w
    else
      let s := s.meetsEntry n w
      let s := { s with ydt := { s.ydt with rx := s.ydt.rx.erase x } }.bufferFall x.port x.link
      let a := if free x.pkt then s.openPacket x.pkt else s.admitPacket x.pkt
      if a.2 then f a.1 x.pkt else a.1

def anyPkt (_ : Pkt) : Bool := true
def noPkt (_ : Pkt) : Bool := false

/-- R181, R344, R357: what an access of a remote packet that fails answers. A fault queues an entry where one is free. -/
def State.remoteFail (s : State) (fn : Nat) (f : AccFail) (wr : Bool) (w : Waiter := .remote) : State × Nat :=
  match f with
  | .fault va p =>
    let pg := s.faultPage fn va
    if s.trn.faults.any (fun e => e.fn = fn && e.gib = pg.1 && e.page = pg.2) || s.faultRoom fn || (s.priFailed fn && !p) then
      match s.raiseFault fn va wr p w with
      | (s, .ended) => (s, nakAccess)
      | (s, _) => (s, nakNotReady)
    else ((s.bump (R.TRN_FN_FAULT_COUNT fn)).bump R.TRN_REMOTE_FAULT_COUNT, nakNotReady)
  | .denied va => (s.logDenied fn va noTags, nakAccess)
  | .held _ => (s, nakNotReady)
  | .lost _ => (s, nakTarget)
  | .poison _ => (s, nakCheck)

/-- Write the bursts of a remote packet; one that is poisoned is left, and the others are placed (R357). -/
def State.placeSegs (s : State) (env : HostView) (fn : Nat) (data : List Byte) : List (Nat × Nat) → State × Option AccFail
  | [] => (s, none)
  | g :: r =>
    match s.writeSeg env 3 fn g.1 (data.take g.2) with
    | (s, some (.poison b)) => ((s.placeSegs env fn (data.drop g.2) r).1, some (.poison b))
    | (s, some f) => (s, some f)
    | (s, none) => s.placeSegs env fn (data.drop g.2) r

/-- Place bytes of a remote packet: nothing where any page of the range fails its check (R344). -/
def State.placeBytes (s : State) (env : HostView) (fn va : Nat) (bs : List Byte) : State × Option AccFail :=
  match s.rangeFail env fn va bs.length true with
  | some f => (s, some f)
  | none => s.placeSegs env fn bs (segs va bs.length)

/-- The window checks of R344, in their order. -/
inductive WinEnd where
  | ok (va : Nat) | nak (reason : Nat) (key : Bool) | stale
deriving DecidableEq, Repr

def State.windowCheck (s : State) (p : Pkt) (wr : Bool) (n : Nat) : WinEnd :=
  let i := p.window % 65536
  let off := p.extWord 0
  match s.ydt.windows.look i with
  | none => .nak nakAccess true
  | some w =>
    if i / 1024 ≠ p.dstFn || w.key ≠ p.window / 65536 then .nak nakAccess true
    else if (wr && !w.write) || (!wr && !w.read) then .nak nakAccess false
    else if 2 ^ 64 < off + n then .nak nakMalformed false
    else if w.len = 0 || w.len < off + n then .nak nakAccess false
    else if w.gen ≠ p.gen then .stale
    else .ok (w.base + off)

/-- The same checks of a parity window (R457): it serves the members of the set; a withdrawn member refuses every access (R465). -/
def State.parityCheck (s : State) (p : Pkt) (wr : Bool) (n : Nat) : WinEnd :=
  let i := p.window % 65536
  let off := p.extWord 0
  if s.parKey ≠ p.window / 65536 then .nak nakAccess true
  else if s.par.withdrawn || p.srcDev / 8 ≠ s.devId / 8 || s.parN ≤ p.srcDev % 8 || wr != (i == 1022) then .nak nakAccess false
  else if 2 ^ 64 < off + n then .nak nakMalformed false
  else if i = 1022 && s.parLines * 131072 < off + n then .nak nakAccess false
  else if p.gen ≠ 0 then .stale
  else .ok off

def State.winCheck (s : State) (p : Pkt) (wr : Bool) (n : Nat) : WinEnd :=
  if s.parityWindow p.dstFn (p.window % 65536) then s.parityCheck p wr n else s.windowCheck p wr n

/-- The answer of a check that fails (R344, R376). -/
def State.winRefuse (s : State) (p : Pkt) : WinEnd → State
  | .ok _ => s
  | .nak r key => (if key then s.logErr pYDT 0x03 clsSecurity p.dstFn noTags 0 p.origin else s).nak p r p.idx
  | .stale => ((s.bump R.YDT_STALE_COUNT).raiseInt pYDT 3).ackOne p 4

/-- A message as it is delivered: its bytes, and a chunk's hash and CRC (R434). -/
structure Msg where
  bytes : List Byte
  hash : Nat
  crc : Nat
deriving DecidableEq, Repr

/-- A message that is gathered whole and delivered once, with a SEND record (R361, R363, R433, R457). `fin` answers a NAK reason where it cannot deliver
it. -/
def State.gatherMsg (s : State) (p : Pkt) (fin : State → Msg → State × Option Nat) : State :=
  let deliver := fun (s : State) (m : Msg) => if s.recordsFull then (s.noteRecordsFull p, some nakNotReady) else fin s m
  if s.recorded p then s.ackDup p true
  else if single p then
    match deliver s ⟨p.payload, p.extWord 0 % 2 ^ 32, crc32c p.payload⟩ with
    | (s, none) => (s.addRecord p).ackOne p 1
    | (s, some r) => s.nak p r p.idx
  else match s.trackerFor p with
    | none => s.nak p nakNotReady p.idx
    | some t =>
      if p.idx ∈ t.placed then s.ackDup p false
      else
        let s := s.count 11 0 0x03 0 none 1
        let t' := t.enter p true s.uptime
        if !t'.complete then s.settle t' p
        else match deliver s ⟨t'.message, t'.hash, t'.crc⟩ with
          | (s, none) => ((s.addRecord p).freeTracker t').ackFresh t' 1
          | (s, some r) => (if r = nakNotReady || r = nakTarget then s else s.freeTracker t').nak p r p.idx

/-! ## WRITE -/

/-- R344, R361: one WRITE packet to a window. -/
def State.placePacket (s : State) (env : HostView) (p : Pkt) (va : Nat) (t : Option Tracker) : State :=
  match s.placeBytes env p.dstFn va p.payload with
  | (s, some f) => let r := s.remoteFail p.dstFn f true; r.1.nak p r.2 p.idx
  | (s, none) =>
    match t with
    | none => s.ackOne p 1
    | some t => (s.count 11 0 0x03 0 none 1).settle (t.enter p false s.uptime) p

/-- R457: an update of a parity line. A locked line takes none. -/
def State.parityUpdate (s : State) (env : HostView) (p : Pkt) : State :=
  s.gatherMsg p (fun s m =>
    let off := p.extWord 0 - 4096 * p.idx
    if s.lineLocked (off / 131072) then (s.bump R.CTX_PAR_LOCK_NAK, some nakNotReady)
    else match s.applyUpdate env off m.bytes with
      | (s, none) => (s, none)
      | (s, some f) => let r := s.remoteFail 0 f true; (r.1, some r.2))

def State.writePacket (s : State) (env : HostView) (p : Pkt) : State :=
  if !p.shaped then s.nak p nakMalformed p.idx
  else match s.winCheck p true p.payload.length with
    | .ok va =>
      if s.parityWindow p.dstFn (p.window % 65536) then s.parityUpdate env p
      else if single p then s.placePacket env p va none
      else match s.trackerFor p with
        | none => s.nak p nakNotReady p.idx
        | some t => if p.idx ∈ t.placed then s.ackDup p false else s.placePacket env p va (some t)
    | e => s.winRefuse p e

/-- Whether a packet's window lies in host memory (R129). -/
def State.winNeed (s : State) (n : Nat) (p : Pkt) : Nat :=
  match s.winCheck p (p.typ = tyWrite) n with
  | .ok va => if !s.parityWindow p.dstFn (p.window % 65536) && s.touchesHost p.dstFn va n false then 2 else 1
  | _ => 0

/-- WRITE_PACKET_RECEIVE, R344. -/
def execWritePacketReceive (hv : HostView) (s : State) : Res :=
  .next (s.serve tyWrite anyPkt (fun p => s.winNeed p.payload.length p) noPkt (fun s p => s.writePacket hv p))

/-! ## READ -/

/-- R364: take a responder for a request. -/
def State.takeResponder (s : State) (p : Pkt) (src : RespSrc) : State :=
  if 1024 ≤ s.ydt.responders.length then s.nak p nakNotReady p.idx
  else
    let n := s.ydt.nextResponder
    { s with ydt := { s.ydt with responders := s.ydt.responders.put n ⟨p, src, p.idx, p.count⟩, nextResponder := n + 1 } }

/-- R364, R457, R459: one READ_REQUEST. -/
def State.readRequest (s : State) (env : HostView) (p : Pkt) : State :=
  if p.count = 0 || 4096 < p.count || 16777216 < p.msgLen || packetsOf p.msgLen < p.idx + p.count then s.nak p nakMalformed p.idx
  else match s.winCheck p false p.asked with
    | .ok va =>
      let i := p.window % 65536
      if s.parityWindow p.dstFn i then
        if i = 1023 then s.takeResponder p .image
        else
          let start := va - 4096 * p.idx
          match s.reconstruct (start / 2 ^ 40) (start % 2 ^ 40 / 131072) with
          | (s, .data j) => s.takeResponder p (.staged j)
          | (s, .notReady) => s.nak p nakNotReady p.idx
          | (s, .refuse) => s.nak p nakAccess p.idx
      else match s.rangeFail env p.dstFn va p.asked false with
        | some f => let r := s.remoteFail p.dstFn f false; r.1.nak p r.2 p.idx
        | none => s.takeResponder p (.mem va)
    | e => s.winRefuse p e

/-- READ_REQUEST_RECEIVE, R364. -/
def execReadRequestReceive (hv : HostView) (s : State) : Res :=
  .next (s.serve tyReadReq anyPkt (fun p => s.winNeed p.asked p) noPkt (fun s p => s.readRequest hv p))

/-- The committed image of a range that may pass a granule's end (R457). -/
def State.imageRange (s : State) (env : HostView) (off n : Nat) : State × Except AccFail (List Byte) :=
  let g := off / 131072
  let o := off % 131072
  let a := min n (131072 - o)
  match s.image env g o a with
  | (s, .error f) => (s, .error f)
  | (s, .ok x) =>
    if a = n then (s, .ok x)
    else match s.image env (g + 1) 0 (n - a) with
      | (s, .error f) => (s, .error f)
      | (s, .ok y) => (s, .ok (x ++ y))

/-- What a responder reads for its next packet; none where a staged result has gone. -/
def State.responderRead (s : State) (env : HostView) (r : Responder) (n : Nat) : State × Option (Except AccFail (List Byte)) :=
  let rel := 4096 * (r.idx - r.req.idx)
  match r.src with
  | .mem va => let x := s.vread env 3 r.req.dstFn (va + rel) n; (x.1, some x.2)
  | .image => let x := s.imageRange env (r.req.extWord 0 + rel) n; (x.1, some x.2)
  | .staged j =>
    match s.par.stages.look j with
    | none => (s, none)
    | some y => (s, some (.ok ((y.acc.drop ((r.req.extWord 0 + rel) % 131072)).take n)))

/-- R459: a staged result returned in full is freed. -/
def State.noteReturned (s : State) (src : RespSrc) (k : Nat) : State :=
  match src with
  | .staged j =>
    match s.par.stages.look j with
    | none => s
    | some y =>
      let l := if k ∈ y.returned then y.returned else y.returned ++ [k]
      if 32 ≤ l.length then { s with par := { s.par with stages := s.par.stages.del j } } else s.putStage j { y with returned := l }
  | _ => s

def State.dropResponder (s : State) (i : Nat) : State := { s with ydt := { s.ydt with responders := s.ydt.responders.del i } }

/-- READ_RESPONDER_SEND, R364, R130: a responder sends its next packet, unless the channels are in self-refresh; at poison it stops with NAK CHECK_FAILED. -/
def execReadResponderSend (i : Nat) (hv : HostView) (s : State) : Res :=
  .next (match s.ydt.responders.look i with
    | none => s
    | some r =>
      let p := r.req
      let n := min 4096 (p.msgLen - 4096 * r.idx)
      if s.idle.selfRefresh then s else
      match s.responderRead hv r n with
      | (s, none) => (s.nak p nakNotReady r.idx).dropResponder i
      | (s, some (.error f)) => let e := s.remoteFail p.dstFn f false; (e.1.nak p e.2 r.idx).dropResponder i
      | (s, some (.ok bs)) =>
        let last := r.idx + 1 = packetsOf p.msgLen
        let s := (s.answer p tyReadResp [] bs r.idx (if last then p.msgLen else 0) last).noteReturned r.src r.idx
        if r.left ≤ 1 then s.dropResponder i
        else { s with ydt := { s.ydt with responders := s.ydt.responders.put i { r with idx := r.idx + 1, left := r.left - 1 } } })

/-- R365: progress returns the timer to its base, and an answer over a path clears its timeouts (R360). -/
def State.progress (s : State) (p : Pkt) (x : Xfer) : Xfer := { x with timeout := s.baseTimeout p.srcDev, attempts := 0, answered := true }

def State.pathHeard (s : State) (p : Pkt) : State :=
  let y := s.pathSt p.srcDev p.path
  if y.timeouts = 0 then s else s.putPath p.srcDev p.path { y with timeouts := 0 }

/-- R368: n packets towards a device newly acknowledged, c of them marked. -/
def State.rateAck (s : State) (dev n c : Nat) : State :=
  s.putRate dev ((s.rateEntry dev).onAck s.ccOnYdt n c s.uptime (s.getF R.YDT_CC_CUT_GAP 0 16))

/-- A slot whose packets are all answered ends (R345, R367). -/
def State.checkDone (s : State) (i : Nat) : State :=
  match s.ydt.xfers.look i with
  | none => s
  | some x => if x.holding.isNone && x.unanswered.isEmpty then s.finishXfer i (if x.stale then stStale else stOK) else s

/-- R364: place one response. A packet whose page must first be made present is kept until its descriptor goes on. -/
def State.placeResponse (s : State) (env : HostView) (p : Pkt) (i : Nat) (x : Xfer) : State :=
  let s := (s.rateAck p.srcDev 1 (b2n p.ce)).pathHeard p
  let x := s.progress p x
  match x.owner with
  | .op j =>
    match s.vwrite env 3 x.fn (x.va + 4096 * p.idx) p.payload ((s.opTags j).getD noTags) with
    | (s, some f) => (s.putXfer i { x with got := x.got.put p.idx p.payload }).opFail j f true false
    | (s, none) =>
      ((s.putXfer i { x with acked := x.acked ++ [p.idx] }).noteData j x.fn (x.va + 4096 * p.idx) p.payload.length).checkDone i
  | _ => (s.putXfer i { x with acked := x.acked ++ [p.idx], got := x.got.put p.idx p.payload }).checkDone i

/-- READ_RESPONSE_RECEIVE, R364. -/
def execReadResponseReceive (hv : HostView) (s : State) : Res :=
  .next (s.serve tyReadResp anyPkt (fun _ => 1) noPkt (fun s p =>
    match s.xferOf p.opid with
    | some (i, x) =>
      if x.kind = tyReadReq && x.dev = p.srcDev && x.fn = p.dstFn && x.holding.isNone && p.idx < x.packets && p.idx ∉ x.acked && !x.got.has p.idx then
        if p.payload.length = min 4096 (x.len - 4096 * p.idx) then s.placeResponse hv p i x
        else s.logErr pYDT 0x01 clsPort 0 noTags 0 p.origin
      else s.bump R.YDT_DUP_COUNT
    | none => s.bump R.YDT_DUP_COUNT))

/-- RECONSTRUCT_STAGED, R459: the images have come; the result is staged and the line unlocked. Where an image could not be read nothing is staged. -/
def execReconstructStaged (stage : Nat) (hv : HostView) (s : State) : Res :=
  .next (match s.par.stages.look stage with
    | none => s
    | some y =>
      if y.key.isNone || y.staged.isSome || !y.waits.isEmpty then s
      else if y.bad then { s with par := { s.par with stages := s.par.stages.del stage } }
      else match s.vread hv 3 0 (s.parBase + 131072 * y.line) 131072 with
        | (s, .ok bs) => s.putStage stage { y with acc := xorBytes y.acc bs, staged := some s.uptime }
        | (s, .error (.held _)) => s
        | (s, .error f) =>
          let s := (s.remoteFail 0 f false).1
          { s with par := { s.par with stages := s.par.stages.del stage } })

/-- STAGE_EXPIRY, R459: 1 ms after it was staged. -/
def execStageExpiry (stage : Nat) (s : State) : Res :=
  .next (match s.par.stages.look stage with
    | some y => if y.staged.isSome then { s with par := { s.par with stages := s.par.stages.del stage } } else s
    | none => s)

/-! ## SEND -/

/-- R349, R373: the write into the buffer of a posted receive has ended with TRANSLATION_FAULT. -/
def State.recvFailed (s : State) (i : Nat) : Bool := (s.op? i).any (fun o => o.progress = 2)

/-- R349: a message for receive queue q. -/
def State.rqDeliver (s : State) (env : HostView) (q : Nat) (bs : List Byte) : State × Option Nat :=
  match (s.ydt.posts.look q).getD [] with
  | [] => (s, some nakNotReady)
  | i :: _ =>
    match s.op? i with
    | none => (s.dropPost q, some nakNotReady)
    | some o =>
      let va := dQuad o.desc 0x10
      if dfld o.desc 0x18 0 25 < bs.length then (s, some nakTooLong)
      else if s.recvFailed i then ((s.dropPost q).finishOp i stTransFault 0, some nakAccess)
      else match s.placeBytes env o.fn va bs with
        | (s, none) => (((s.dropPost q).noteData i o.fn va bs.length).finishOp i stOK bs.length, none)
        | (s, some f) =>
          let r := s.remoteFail o.fn f true (.recv i)
          let st := match f with | .denied _ => stDenied | _ => stTransFault
          if r.2 = nakAccess then ((r.1.dropPost q).finishOp i st 0, some nakAccess) else (r.1, some r.2)

def TqAnswer.reason : TqAnswer → Option Nat
  | .refused => some nakAccess
  | .tooLong => some nakTooLong
  | .notReady => some nakNotReady
  | .accepted => none

/-- R303, R349, R361: one SEND packet. -/
def State.sendPacket (s : State) (env : HostView) (p : Pkt) : State :=
  let t := p.window % 65536
  if !p.shaped then s.nak p nakMalformed p.idx
  else if bitOf p.window 16 then
    if s.recorded p then s.ackDup p true
    else if single p then s.gatherMsg p (fun s m => let a := s.tqSend p.dstFn t m.bytes; (a.1, a.2.reason))
    else
      let a := s.tqSend p.dstFn t (List.replicate 65 0)
      a.1.nak p (a.2.reason.getD nakTooLong) p.idx
  else if s.recorded p then s.ackDup p true
  else if 4096 ≤ t || !s.getB (R.YDT_RQ_OWNER t) 31 || s.getF (R.YDT_RQ_OWNER t) 0 6 ≠ p.dstFn then s.nak p nakAccess p.idx
  else s.gatherMsg p (fun s m => s.rqDeliver env t m.bytes)

/-- SEND_PACKET_RECEIVE, R361. A SEND to a trigger queue needs Cox (R129). -/
def execSendPacketReceive (hv : HostView) (s : State) : Res :=
  .next (s.serve tySend anyPkt (fun p => if bitOf p.window 16 then 2 else 1) noPkt (fun s p => s.sendPacket hv p))

/-! ## Acknowledgement and refusal at the initiator -/

/-- Packets that waited for a path to a device are sent (R360). -/
def State.sendHeld (s : State) (env : HostView) (dev : Nat) : State :=
  s.ydt.xfers.foldl (fun s e =>
    if e.2.dev = dev && e.2.started && e.2.holding.isNone then
      let ks := e.2.unanswered.filter (fun k => (e.2.sent.look k).any (fun t => t.path = heldPath))
      if ks.isEmpty then s else s.sendAll env e.1 e.2.attempts ks
    else s) s

/-- The path that an answer to a PROBE makes healthy. -/
def State.probedPath (s : State) (p : Pkt) : Option Nat := (List.range 4).find? (fun n => (s.pathSt p.srcDev n).down && (s.pathSt p.srcDev n).probe = some p.opid)

/-- The packets an ACK covers: all with COMPLETE; of a READ that is answered STALE all that are asked for; else those of BITMAP (R355). -/
def Xfer.covered (x : Xfer) (p : Pkt) : List Nat :=
  let flags := p.extWord 0
  let base := bitsOf flags 20 12
  x.unanswered.filter (fun k => bitOf flags 0 || x.kind = tyReadReq || (base ≤ k && k < base + 64 && bitOf (p.extWord 1) (k - base)))

/-- R345, R365, R368: one ACK. -/
def State.ackIn (s : State) (env : HostView) (p : Pkt) : State :=
  match s.probedPath p with
  | some n => (s.pathUp p.srcDev n).sendHeld env p.srcDev
  | none =>
    let s := s.pathHeard p
    match s.xferOf p.opid with
    | none => s
    | some (i, x) =>
      if x.dev ≠ p.srcDev || x.fn ≠ p.dstFn || x.holding.isSome then s
      else
        let flags := p.extWord 0
        let new := if x.kind = tyReadReq && !bitOf flags 2 then [] else x.covered p
        let s := s.rateAck p.srcDev new.length (bitsOf flags 12 8)
        let x := if new.isEmpty then { x with answered := true } else s.progress p x
        (s.putXfer i { x with acked := x.acked ++ new, nakked := x.nakked.filter (· ∉ new), stale := x.stale || bitOf flags 2 }).checkDone i

/-- ACK_RECEIVE, R365. -/
def execAckReceive (hv : HostView) (s : State) : Res :=
  .next (s.serve tyAck anyPkt (fun _ => 0) (fun p => (s.probedPath p).isSome) (fun s p => s.ackIn hv p))

/-- The status a NAK ends an operation with (R357). -/
def nakStatus (r : Nat) : Nat := if r = nakAccess then stDenied else if r = nakCheck then stCheck else stInvalid

/-- Whether a slot accesses a parity window (R464). -/
def XOwner.parity : XOwner → Bool
  | .part _ _ => true
  | .repair _ _ _ _ => true
  | .gather _ _ => true
  | _ => false

/-- NAK_RECEIVE, R357, R464. `withdrawn`: the peer's CTX_PAR_DECLARE.WITHDRAW is set. -/
def execNakReceive (withdrawn : Bool) (s : State) : Res :=
  .next (s.serve tyNak anyPkt (fun _ => 0) noPkt (fun s p =>
    let s := s.pathHeard p
    match s.xferOf p.opid with
    | none => s
    | some (i, x) =>
      if x.dev ≠ p.srcDev || x.fn ≠ p.dstFn || x.holding.isSome then s
      else
        let r := bitsOf (p.extWord 0) 0 8
        let x := { x with answered := true }
        if r = nakNotReady || r = nakTarget then
          s.putXfer i { x with nakked := if p.idx ∈ x.nakked then x.nakked else x.nakked ++ [p.idx] }
        else
          let s := if r = nakAccess && withdrawn && x.owner.parity then s.declareLost (p.srcDev % 8) 2 else s
          (s.putXfer i x).finishXfer i (nakStatus r)))

/-- PROBE_RECEIVE, R360: a probe is answered with an ACK. -/
def execProbeReceive (s : State) : Res := .next (s.serve tyProbe anyPkt (fun _ => 0) anyPkt (fun s p => s.ackOne p 0))

/-! ## Retransmission and paths -/

/-- R360: a timeout on packets that paths carried: the second in a row without an answer makes a path unhealthy. -/
def State.pathTimeout (s : State) (dev n : Nat) : State :=
  let y := s.pathSt dev n
  let s := s.putPath dev n { y with timeouts := y.timeouts + 1 }
  if 2 ≤ y.timeouts + 1 then s.pathDown dev n else s

/-- The packets an expiry sends again: those older than the timeout, the oldest, those refused as not ready, those held. -/
def Xfer.overdue (x : Xfer) (now : Nat) : List Nat :=
  let time := fun k => ((x.sent.look k).map Sent.time).getD 0
  let oldest := (x.unanswered.map time).foldl min now
  x.unanswered.filter (fun k => k ∈ x.nakked || x.timeout ≤ now - time k || time k = oldest || (x.sent.look k).any (fun t => t.path = heldPath))

/-- R365, R368: the timer of a slot expires. A packet that a NAK answered is no timeout of the path that carried it (R360). -/
def State.retransmit (s : State) (slot : Nat) (hv : HostView) : State :=
  match s.ydt.xfers.look slot with
    | none => s
    | some x =>
      if x.holding.isSome || !x.started || x.unanswered.isEmpty || x.sent.isEmpty then s
      else
        let s := (s.bump R.YDT_TIMEOUT_COUNT).count 11 0 0x05 x.fn (s.ownerTags x.owner) 1
        let s := s.putRate x.dev ((s.rateEntry x.dev).onExpiry s.ccOnYdt)
        let ks := x.overdue s.uptime
        let paths := (((ks.filter (· ∉ x.nakked)).filterMap (fun k => (x.sent.look k).map Sent.path)).filter (· ≠ heldPath)).eraseDups
        let s := if x.dev = s.devId then s else paths.foldl (fun s n => s.pathTimeout x.dev n) s
        let n := x.attempts + 1
        if s.getF R.YDT_TIMER 0 4 < n then s.finishXfer slot (if x.answered then stRetry else stUnreachable)
        else
          let x := { x with attempts := n, timeout := min 8000000 (2 * x.timeout), lastRetrans := some s.uptime, nakked := x.nakked.filter (· ∉ ks) }
          ((s.putXfer slot x).bump R.YDT_RETRANS_COUNT ks.length).sendAll hv slot n ks

/-- PATH_PROBE, R360: a PROBE over an unhealthy path. Its OPID names no slot's current incarnation. -/
def execPathProbe (dev path : Nat) (s : State) : Res :=
  .next (
    let y := s.pathSt dev path
    if path < 4 && y.down && path ∈ s.pathsTo dev then
      let f := s.free
      let i := f.1 % 32768
      let opid := i + 2 ^ 15 * ((((f.2.ydt.inc.look i).getD 0) + 2 ^ 16) % 2 ^ 17)
      (f.2.putPath dev path { y with probe := some opid }).sendOn
        { typ := tyProbe, last := true, ordered := false, tclass := 0, path := path, attempt := 0, fn := 0, dev := dev, dfn := 0, opid := opid,
          msgLen := 0, idx := 0, gen := 0, window := 0 } [] []
    else s)

/-! ## Rate control -/

/-- The end of a PERIOD for one entry. -/
def State.ratePeriod (s : State) (r : Rate) (line : Nat) : Rate :=
  let g := s.getF R.YDT_CC_CTRL 4 4
  r.onPeriod s.ccOnYdt (if g = 0 then 4 else g) (s.getF R.YDT_CC_CTRL 8 8) (s.getF R.YDT_CC_CTRL 16 8) line

/-- RATE_FLOOR, R379: an entry has stayed at FLOOR for 1 ms. -/
def execRateFloor (dev : Nat) (s : State) : Res :=
  .next (if (s.ydt.rates.look dev).any (fun r => r.floorSince.isSome) then s.event 0 pYDT 0x0016 0 clsPort 0 0 dev 0 else s)

/-! ## YDT_DEVICE_ID (R575) -/

/-- A write of YDT_DEVICE_ID: CREW changes only while the device holds no YDT state. -/
def State.crewIdWrite (s : State) (v : Word) : State :=
  let new := fld v 3 9
  if new = s.getF R.YDT_DEVICE_ID 3 9 then s
  else if (List.range 64).any (fun f => s.endpointOn f) || !s.ydt.xfers.isEmpty || !s.ydt.trackers.isEmpty || !s.ydt.records.isEmpty then
    s.logErr pYDT 0x08 clsDevice 0 noTags 0 0
  else s.setF R.YDT_DEVICE_ID 3 9 new

/-- CREW_ID_WRITE, R575. -/
def execCrewIdWrite (v : Word) (s : State) : Res := .next (s.crewIdWrite v)

/-! ## Packets of heats (R433 to R439) -/

/-- The group a HEAT packet names, and the sender's rank: the group's owner must be the destination function and its list name the sender. -/
def State.heatFrom (s : State) (p : Pkt) : Option (Group × Nat) :=
  (s.group? p.heatGroup).bind (fun x =>
    if x.owner = p.dstFn then (x.list.findIdx? (fun e => e = (p.srcDev, p.srcFn))).map (fun r => (x, r)) else none)

/-- R435, R437, R438: a chunk is handed to HEA, or refused with a NAK reason. -/
def State.chunkArrive (s : State) (p : Pkt) (m : Msg) : State × Option Nat :=
  match s.heatFrom p with
  | none => (s, some nakNotReady)
  | some (x, r) =>
    let g := p.heatGroup
    let lo := bitsOf p.heatWord 17 4
    let std := 0 < (x.granted.look r).getD 0
    let more := (x.further.look r).getD 0
    if lo ≠ x.seq % 16 && !(x.running.isSome && lo = (x.seq + 1) % 16) then (s.bump R.HEA_STALE_CHUNK_COUNT, some nakAccess)
    else if !std && more = 0 then (s, some nakNotReady)
    else
      let a : Arrived := ⟨r, bitsOf p.heatWord 3 14, bitOf p.heatWord 21, lo, std, m.hash, elemsOf 9 (m.bytes.length / 4) m.bytes, s.uptime⟩
      let x' := { x with
        pool := x.pool ++ [a], granted := if std then x.granted.put r 0 else x.granted, further := if std then x.further else x.further.put r (more - 1) }
      let s := s.putGroup g x'
      match x.running with
      | none => (s, none)
      | some h =>
        if lo ≠ x.seq % 16 then (s, none)
        else if m.hash ≠ h.hash x then (s.stopHeat g stMismatch 0x01 clsDevice true, none)
        else if m.crc ≠ crc32c m.bytes then ((s.bump R.HEA_CRC_ERR_COUNT).stopHeat g stCheck 0x02 clsMemory true, none)
        else (s, none)

/-- HEAT_DATA_RECEIVE, R433, R437: a DATA packet. -/
def execHeatDataReceive (s : State) : Res :=
  .next (s.serve tyHeat (fun p => p.heatKind = 0) (fun _ => 2) noPkt (fun s p => s.gatherMsg p (fun s m => s.chunkArrive p m)))

/-- CREDIT_RECEIVE, R437. -/
def execCreditReceive (s : State) : Res :=
  .next (s.serve tyHeat (fun p => p.heatKind = 1) (fun _ => 2) noPkt (fun s p =>
    let s := s.ackOne p 1
    match s.heatFrom p with
    | none => s
    | some (x, r) =>
      s.putGroup p.heatGroup { x with
        credits := x.credits.put r ((x.credits.look r).getD 0 + p.heatValue % 256), running := x.running.map (fun h => { h with progressAt := s.uptime }) }))

/-- ABORT_RECEIVE, R438, R439, R447: the current heat ends, or the next one will. Another heat's ABORT is discarded; HEAT_MISMATCH stands. -/
def execAbortReceive (s : State) : Res :=
  .next (s.serve tyHeat (fun p => p.heatKind = 2) (fun _ => 2) noPkt (fun s p =>
    let s := s.ackOne p 1
    match s.heatFrom p with
    | none => s
    | some (x, r) =>
      let g := p.heatGroup
      let lo := bitsOf p.heatWord 17 4
      let st := if p.heatValue % 256 = stMismatch then stMismatch else stAborted
      let s := s.logErr pHEA 0x06 clsDevice x.owner noTags 0 (grpDetail g r x.seq)
      if x.running.isSome && lo = x.seq % 16 then s.stopHeat g st 0 0 false
      else if lo = (x.seq + b2n x.running.isSome) % 16 then
        s.putGroup g { x with abortNext := some (if x.abortNext = some stMismatch then stMismatch else st) }
      else s))

end Sys2Proof.Machine
end

