-- ==== Sys2Proof/Machine/Qp.lean ====
section
/-! DEFINITION. Sys2Proof/Machine/Qp.lean: QP mode (R369 to R373, R377, R378), and the transfer opcodes of both transports. -/

namespace Sys2Proof.Machine
open Sys2Proof

/-! ## Queue pairs -/

def emptyQp : Qp :=
  { destIp := 0, port := 0, tclass := 0, remote := 0, mtu := 1024, retryCnt := 0, rnrRetry := 0, mac := 0, pkey := 0, maxReads := 0, maxDest := 0, una := 0,
    sq := [], recvs := [], inMsg := none, nakSent := false, attempts := 0, rnrTries := 0, rnrWait := false, timeout := 40000, answered := false,
    lastCnp := none, rate := none }

def State.qp (s : State) (q : Nat) : Qp := (s.qpm.qps.look q).getD emptyQp

/-- STATE of R371: 0 RESET, 1 INIT, 2 RTR, 3 RTS, 4 ERROR. -/
def State.qpState (s : State) (q : Nat) : Nat := s.getF (R.QPM_QP_STATUS q) 0 3
def State.qpFn (s : State) (q : Nat) : Nat := s.getF (R.QPM_QP_OWNER q) 0 6
def State.qpOwned (s : State) (q fn : Nat) : Bool := s.getB (R.QPM_QP_OWNER q) 31 && s.qpFn q = fn
def State.rqPsn (s : State) (q : Nat) : Nat := s.getF (R.QPM_QP_RQ_PSN q) 0 24
def State.sqPsn (s : State) (q : Nat) : Nat := s.getF (R.QPM_QP_SQ_PSN q) 0 24

/-- Replace a queue pair, with its outstanding descriptors in QPM_QP_STATUS. -/
def State.putQp (s : State) (q : Nat) (x : Qp) : State :=
  { s with qpm := { s.qpm with qps := s.qpm.qps.put q x } }.setF (R.QPM_QP_STATUS q) 16 16 (x.sq.length + x.recvs.length)

def psnAdd (a n : Nat) : Nat := (a + n) % 2 ^ 24

/-- The serial difference of two PSNs. -/
def psnDiff (a b : Nat) : Int := sx 24 ((a + 2 ^ 24 - b) % 2 ^ 24)

/-! ## Rates (R368 for each queue pair) -/

def State.qpLine (s : State) : Nat := 1600 / portCount s

def State.qpRate (s : State) (x : Qp) : Rate :=
  let r := x.rate.getD
    { rate := (s.qpLine, 1), target := (s.qpLine, 1), alpha := (1, 1), marked := 0, acked := 0, clean := 0, lastCut := none, lastSend := 0,
      sentInPeriod := false, floorSince := none }
  if s.ccOnYdt then r else { r with rate := (s.qpLine, 1), target := (s.qpLine, 1) }

def State.setQpRate (s : State) (q : Nat) (r : Rate) : State := (s.putQp q { s.qp q with rate := some r }).wr (R.QPM_QP_RATE q) (rateView r)

/-! ## The end of descriptors (R371, R373) -/

/-- Every outstanding descriptor and posted receive of a queue pair completes FLUSHED. -/
def State.qpFlush (s : State) (q : Nat) : State :=
  let x := s.qp q
  let s := s.putQp q { x with sq := [], recvs := [], inMsg := none, rnrWait := false }
  (x.sq.map QpReq.op ++ x.recvs).foldl (fun s i => if s.opDone i then s else s.finishOp i stFlushed 0) s

/-- STATE of a queue pair, traced (R554). -/
def State.setQp (s : State) (q st : Nat) : State :=
  let old := s.qpState q
  if old = st then s else (s.setF (R.QPM_QP_STATUS q) 0 3 st).trace 12 0 0x07 (s.qpFn q) none st old

/-- R373: a queue pair enters ERROR with a status, and raises QP_ERROR. -/
def State.qpError (s : State) (q st : Nat) : State :=
  if s.qpState q = 4 then s
  else
    let s := (s.setQp q 4).setF (R.QPM_QP_STATUS q) 8 8 st
    let s := ((s.bump R.QPM_ERROR_QP_COUNT).raiseInt pQPM 0).logEvent (s.qpFn q) pQPM 0x01 clsPort 0 (s.qpFn q) noTags 0 (q + 65536 * st) 0x0013
    s.qpFlush q

/-- A descriptor ends with a status, and its queue pair enters ERROR. -/
def State.qpFail (s : State) (q i st : Nat) : State := (if s.opDone i then s else s.finishOp i st 0).qpError q st

/-! ## Sending -/

/-- Where a queue pair's packets go: over an Ozmen path to a crew member, over its Ethernet port, or nowhere (R369, R373). -/
inductive QpRoute where
  | link (dev path : Nat) | port | nowhere
deriving DecidableEq, Repr

/-- An address of 16 bytes as (IPv6, address): an IPv4-mapped one stands for IPv4. -/
def ipOf (n : Nat) : Bool × Nat := if n / 2 ^ 32 = 0xFFFF then (false, n % 2 ^ 32) else (true, n)

def State.qpRoute (s : State) (x : Qp) : QpRoute :=
  let ip := ipOf x.destIp
  match (List.range 8).find? (fun m => m ≠ s.member && s.routed (s.memberDev m) && s.destIp (s.memberDev m) = ip) with
  | some m =>
    let d := s.memberDev m
    match (s.healthyPaths d).find? (fun n => (s.pathOf d n).1 = 1) with
    | some n => .link d n
    | none => .nowhere
  | none => if s.getF (R.NET_PORT_STATUS x.port) 0 2 = 2 then .port else .nowhere

def roceHasRdma : RoceOp → Bool
  | .writeFirst | .writeOnly | .readRequest => true
  | _ => false

/-- Bytes of a RoCEv2 packet after UDP: BTH, RDMA or acknowledge header, payload, invariant CRC, cipher fields where it is sealed. -/
def roceBytes (p : Roce) : Nat :=
  12 + (if roceHasRdma p.op then 16 else 0) + 4 + p.payload.length + 4 + (if p.cipher.isSome then 28 else 0)

/-- Send one packet of a queue pair. A sealed packet goes to UDP port 19,002 (R533). -/
def State.qpSend (s : State) (q : Nat) (x : Qp) (p : Roce) : State :=
  let fn := s.qpFn q
  let c := s.sealPacket fn
  let p := { p with cipher := c.2 }
  let d := ipOf x.destIp
  let r := c.1.free
  let s := r.2
  let data := match p.op with | .ack | .nakSequence | .nakInvalid | .nakAccess | .nakOperational | .rnrNak | .cnp => false | _ => true
  let i : Ip :=
    { v6 := d.1, src := s.fnIp fn d.1, dst := d.2, dscp := s.classDscp x.tclass, ecn := if data then 2 else 0, sumOk := true, fragment := false,
      extension := false, udpSrc := 0xC000 + r.1 % 16384, udpPort := some (if p.cipher.isSome then 19002 else 4791), body := .roce p }
  let n := roceBytes p + 8 + (if d.1 then 40 else 20)
  match s.qpRoute x with
  | .nowhere => s
  | .link dev n' =>
    let w := s.pathOf dev n'
    s.queueOz ⟨bitsOf w.2.2.1 15 3, x.tclass, 4, ⟨ozWords 1 x.tclass s.sendEpoch w.2.1 n (s.pkey fn) w.2.2.1 dev s.devId, true, .ip i, .good⟩⟩
  | .port =>
    let tags := s.txTags fn x.tclass
    s.queueFrame ⟨x.port, x.tclass, 1,
      { len := n + 14 + 4 * tags.length + 4, fcsOk := true, dst := x.mac, src := s.macBase + fn, tags := tags, body := .ip i }⟩

/-- A packet of a queue pair with no RDMA header. -/
def plainRoce (x : Qp) (op : RoceOp) (psn : Nat) (payload : List Byte) : Roce :=
  ⟨op, x.remote, psn, x.pkey, 0, 0, 0, none, payload, true, false, none⟩

/-- R370: which of First, Middle, Last, Only a packet is. -/
def segOp (a b c d : RoceOp) (k n : Nat) : RoceOp := if n = 1 then d else if k = 0 then a else if k + 1 = n then c else b

def qpPackets (x : Qp) (len : Nat) : Nat := max 1 (ceilDiv len x.mtu)

/-- Send packet k of a request; a READ is asked for from packet k on. -/
def State.qpXmit (s : State) (env : HostView) (q : Nat) (x : Qp) (r : QpReq) (k : Nat) : State × SendEnd :=
  let fn := s.qpFn q
  let psn := psnAdd r.psn k
  match s.sealBlock fn, s.qpRoute x with
  | some st, _ => (s, .status st)
  | none, .nowhere => (s, .status stUnreachable)
  | none, _ =>
    if r.kind = tyReadReq then
      (s.qpSend q x { plainRoce x .readRequest psn [] with va := r.remote + x.mtu * k, rkey := r.rkey, len := r.len - x.mtu * k }, .sent)
    else match s.vread env 3 fn (r.va + x.mtu * k) (min x.mtu (r.len - x.mtu * k)) ((s.opTags r.op).getD noTags) with
      | (s, .error f) => (s, .fail f)
      | (s, .ok bs) =>
        let op := if r.kind = tySend then segOp .sendFirst .sendMiddle .sendLast .sendOnly k r.packets
          else segOp .writeFirst .writeMiddle .writeLast .writeOnly k r.packets
        let p := plainRoce x op psn bs
        (s.qpSend q x (if r.kind = tySend then { p with target := r.target } else if k = 0 then { p with va := r.remote, rkey := r.rkey, len := r.len } else p),
          .sent)

def State.qpXmits (s : State) (env : HostView) (q : Nat) (x : Qp) (r : QpReq) : List Nat → State × SendEnd
  | [] => (s, .sent)
  | k :: t => match s.qpXmit env q x r k with | (s, .sent) => (s.count 12 0 0x01 (s.qpFn q) (s.opTags r.op) 1).qpXmits env q x r t | e => e

/-- What sending leaves: a local access that fails, or a status, ends the descriptor and the queue pair (R373). A fault being resolved only delays. -/
def State.afterXmit (s : State) (q : Nat) (r : QpReq) (e : SendEnd) : State :=
  match e with
  | .sent => s
  | .status st => s.qpFail q r.op st
  | .fail f =>
    let s := s.opFail r.op f false false
    match s.op? r.op with
    | some o => if o.st == .done then s.qpError q o.status else s
    | none => s

/-- The packets of a request not acknowledged, a READ as one request. -/
def Qp.left (x : Qp) (r : QpReq) : List Nat :=
  let k := (psnDiff x.una r.psn).toNat
  if r.packets ≤ k then [] else if r.kind = tyReadReq then [k] else (List.range r.packets).filter (fun j => k ≤ j)

/-- R372: go back to the first unacknowledged PSN and send again from there. -/
def State.qpResend (s : State) (env : HostView) (q : Nat) : State :=
  let x := s.qp q
  let s := s.putQp q { x with sq := x.sq.map (fun r => { r with hi := max r.hi x.attempts }) }
  x.sq.foldl (fun s r =>
    if s.qpState q = 4 || (s.op? r.op).any (fun o => o.waitFault) then s
    else
      let ks := x.left r
      let s := ks.foldl (fun s k => s.trace 12 0 0x06 (s.qpFn q) (s.opTags r.op) x.attempts (psnAdd r.psn k)) (s.bump R.QPM_RETRANS_COUNT ks.length)
      let e := (s.count 12 0 0x02 (s.qpFn q) (s.opTags r.op) ks.length).qpXmits env q x r ks
      e.1.afterXmit q r e.2) s

/-! ## Descriptors -/

/-- The queue pair of a transfer descriptor, and the offset of its PEER. -/
def qpPeer (d : Desc) : Nat × Nat := if dOpcode d = 3 then (dfld d 0x1C 0 31, 0x1C) else (dfld d 0x2C 0 31, 0x2C)

/-- R350 in QP mode. -/
def State.qpZeroWaits (s : State) (i : Nat) (o : Op) : Bool :=
  s.ops.any (fun e => e.1 < i && e.2.src = o.src && e.2.st != .done && (dOpcode e.2.desc = 2 || (dOpcode e.2.desc = 4 && dOpcode o.desc = 4)) &&
    !ydtTransfer e.2.desc && (qpPeer e.2.desc).1 = (qpPeer o.desc).1)

/-- A request takes its PSNs, is entered and sent. -/
def State.qpStart (s : State) (env : HostView) (q i : Nat) (o : Op) (m : Move) : State :=
  let x := s.qp q
  let n := qpPackets x m.len
  let psn := s.sqPsn q
  let r : QpReq := ⟨i, m.kind, psn, n, m.va, m.len, m.off, m.window, if bitOf m.window 16 && m.kind = tySend then some (m.window % 65536) else none, 0⟩
  let s := ((s.traceStart o m.va).putOp i { o with st := .running, progress := 1 }).setF (R.QPM_QP_SQ_PSN q) 0 24 (psnAdd psn n)
  let rate := s.qpRate x
  let x := { x with sq := x.sq ++ [r], una := if x.sq.isEmpty then psn else x.una }
  let s := (s.putQp q x).setQpRate q { rate with lastSend := s.uptime, sentInPeriod := true }
  let e := s.qpXmits env q x r (if m.kind = tyReadReq then [0] else List.range n)
  e.1.afterXmit q r e.2

/-- WRITE, SEND and READ in QP mode (R339, R369, R373). -/
def State.qpMove (s : State) (env : HostView) (i : Nat) (o : Op) : State :=
  let m := moveOf o.desc
  let pe := qpPeer o.desc
  let q := pe.1
  match m.bad, firstBad [(4095 < q, pe.2)] with
  | some r, some r' => s.finishOp i stInvalid (min r r')
  | some r, none | none, some r => s.finishOp i stInvalid r
  | none, none =>
    if o.progress ≠ 0 then s
    else if !s.qpOwned q o.fn then s.finishOp i stDenied 0
    else if s.qpState q = 4 then s.finishOp i stFlushed 0
    else if s.qpState q ≠ 3 then s.finishOp i stInvalid (invalidAt pe.2)
    else if m.len = 0 && m.kind ≠ tySend then
      if s.qpZeroWaits i o then s else (s.traceStart o m.va).finishOp i stOK 0
    else if m.kind = tyReadReq && (s.qp q).maxReads ≤ ((s.qp q).sq.filter (fun r => r.kind = tyReadReq)).length then s
    else if m.kind = tyReadReq then s.qpStart env q i o m
    else match s.vread env 3 o.fn m.va m.len (descTags o.desc) with
      | (s, .ok _) => s.qpStart env q i o m
      | (s, .error f) => s.afterXmit q ⟨i, m.kind, 0, 0, 0, 0, 0, 0, none, 0⟩ (.fail f)

/-- WRITE, R295. -/
def execWrite (op : Nat) (hv : HostView) (s : State) : Res :=
  .next (match s.runnable op [0x02] with | none => s | some o => if ydtTransfer o.desc then s.ydtMove hv op o else s.qpMove hv op o)

/-- SEND, R296. -/
def execSend (op : Nat) (hv : HostView) (s : State) : Res :=
  .next (match s.runnable op [0x03] with | none => s | some o => if ydtTransfer o.desc then s.ydtMove hv op o else s.qpMove hv op o)

/-- READ, R348. -/
def execRead (op : Nat) (hv : HostView) (s : State) : Res :=
  .next (match s.runnable op [0x04] with | none => s | some o => if ydtTransfer o.desc then s.ydtMove hv op o else s.qpMove hv op o)

/-- RECV_POST on a queue pair (R349, R373). -/
def State.qpRecvPost (s : State) (i : Nat) (o : Op) : State :=
  let d := o.desc
  let q := dfld d 0x1C 0 16
  match firstBad [(farAddr (dQuad d 0x10), 0x10), (16777216 < dfld d 0x18 0 25, 0x18), (4095 < q, 0x1C)] with
  | some r => s.finishOp i stInvalid r
  | none =>
    let x := s.qp q
    if o.progress ≠ 0 then s
    else if !s.qpOwned q o.fn || 1024 ≤ x.recvs.length then s.finishOp i stDenied 0
    else if s.qpState q = 4 then s.finishOp i stFlushed 0
    else ((s.traceStart o (dQuad d 0x10)).putOp i { o with progress := 1 }).putQp q { x with recvs := x.recvs ++ [i] }

/-- RECV_POST, R349. -/
def execRecvPost (op : Nat) (s : State) : Res :=
  .next (match s.runnable op [0x07] with | none => s | some o => if dfld o.desc 0x1C 31 1 = 1 then s.qpRecvPost op o else s.recvPost op o)

/-- The context image of R371: the queue pair, SQ_PSN and RQ_PSN; none where a field is out of its range. -/
def qpImage (ports : Nat) (bs : List Byte) : Option (Qp × Nat × Nat) :=
  let w := fun o n => leNat ((bs.drop o).take n)
  let port := bitsOf (w 0x10 4) 0 3
  let mtu := bitsOf (w 0x20 4) 0 3
  let mr := bitsOf (w 0x30 4) 0 5
  let md := bitsOf (w 0x30 4) 8 5
  if ports ≤ port || mtu < 3 || 5 < mtu || mr = 0 || 16 < mr || md = 0 || 16 < md then none
  else some
    ({ emptyQp with
       destIp := beNat (bs.take 16), port := port, tclass := bitsOf (w 0x10 4) 4 3, remote := bitsOf (w 0x14 4) 0 24, mtu := 128 * 2 ^ mtu,
       retryCnt := bitsOf (w 0x20 4) 4 3, rnrRetry := bitsOf (w 0x20 4) 8 3, mac := beNat ((bs.drop 0x24).take 6), pkey := bitsOf (w 0x2C 4) 0 16,
       maxReads := mr, maxDest := md }, bitsOf (w 0x18 4) 0 24, bitsOf (w 0x1C 4) 0 24)

/-- R371: the move to a state, once allowed. RESET and ERROR end the outstanding work FLUSHED. -/
def State.qpGo (s : State) (hv : HostView) (i : Nat) (o : Op) (q st : Nat) : State :=
  if st = 0 || st = 4 then
    let s := if st = 4 && s.qpState q ≠ 4 then s.bump R.QPM_ERROR_QP_COUNT else s
    let s := (s.setQp q st).setF (R.QPM_QP_STATUS q) 8 8 0
    let s := s.qpFlush q
    let s := if st = 0 then { s with qpm := { s.qpm with qps := s.qpm.qps.del q } } else s
    s.finishOp i stOK 0
  else if st = 3 then (s.setQp q 3).finishOp i stOK 0
  else match s.vread hv 3 o.fn (dQuad o.desc 0x10) 64 (descTags o.desc) with
    | (s, .error f) => s.opFail i f false false
    | (s, .ok bs) =>
      match qpImage (portCount s) bs with
      | none => s.finishOp i stInvalid (invalidAt 0x10)
      | some (x, sq, rq) =>
        let s := (s.putQp q { x with recvs := (s.qp q).recvs }).setQp q st
        ((s.setF (R.QPM_QP_SQ_PSN q) 0 24 sq).setF (R.QPM_QP_RQ_PSN q) 0 24 rq).finishOp i stOK 0

/-- QP_MODIFY, R371, R341. -/
def execQpModify (op : Nat) (hv : HostView) (s : State) : Res :=
  .next (match s.runnable op [0x08] with
    | none => s
    | some o =>
      let q := dfld o.desc 0x18 0 12
      let st := dfld o.desc 0x18 12 3
      let cur := s.qpState q
      let used := ((List.range 4096).filter (fun k => k ≠ q && s.qpFn k = o.fn && s.qpState k ≠ 0)).length
      if !s.qpOwned q o.fn then s.finishOp op stDenied 0
      else if !(st = 0 || st = 4 || (st ≤ 3 && st = cur + 1)) then s.finishOp op stInvalid (invalidAt 0x18)
      else if st ≠ 0 && s.getF (R.TRN_FN_QPS o.fn) 0 13 ≤ used then s.finishOp op stDenied 0
      else if (st = 1 || st = 2) && farAddr (dQuad o.desc 0x10) then s.finishOp op stInvalid (invalidAt 0x10)
      else (s.traceStart o 0).qpGo hv op o q st)

/-! ## Receiving: the requester's side -/

/-- Everything before a PSN has been acknowledged: requests that end before it complete, up to the first READ whose data has not come. -/
def State.qpAckTo (s : State) (q upto : Nat) : Nat → State
  | 0 => s
  | n + 1 =>
    let x := s.qp q
    match x.sq with
    | [] => s
    | r :: rest =>
      if r.kind ≠ tyReadReq && 0 ≤ psnDiff upto (psnAdd r.psn r.packets) then
        ((s.putQp q { x with sq := rest }).finishOp r.op stOK (r.len % 2 ^ 25 + 2 ^ 25 * min 15 r.hi)).qpAckTo q upto n
      else s

/-- An acknowledgement of every PSN before `upto`: progress resets the timer (R365, R372). -/
def State.qpAck (s : State) (q upto : Nat) : State :=
  let x := { s.qp q with answered := true }
  if 0 < psnDiff upto x.una then
    let stop := match x.sq.find? (fun r => r.kind = tyReadReq) with
      | some r => if 0 < psnDiff upto r.psn then (if 0 < psnDiff x.una r.psn then x.una else r.psn) else upto
      | none => upto
    (s.putQp q { x with una := stop, attempts := 0, rnrTries := 0, rnrWait := false, timeout := 40000 }).qpAckTo q stop x.sq.length
  else s.putQp q x

/-- R372: one read response: in PSN order it is placed; a gap waits for the retransmission. -/
def State.qpResponse (s : State) (env : HostView) (q : Nat) (p : Roce) : State :=
  let s := s.qpAck q p.psn
  let x := s.qp q
  match x.sq with
  | [] => s
  | r :: rest =>
    let k := (psnDiff p.psn r.psn).toNat
    if r.kind ≠ tyReadReq || p.psn ≠ x.una || r.packets ≤ k || (s.op? r.op).any (fun o => o.waitFault) then s
    else
      let fn := s.qpFn q
      match s.vwrite env 3 fn (r.va + x.mtu * k) p.payload ((s.opTags r.op).getD noTags) with
      | (s, some f) => s.afterXmit q r (.fail f)
      | (s, none) =>
        let s := s.noteData r.op fn (r.va + x.mtu * k) p.payload.length
        let x := { x with una := psnAdd p.psn 1, attempts := 0, rnrTries := 0, rnrWait := false, timeout := 40000 }
        if k + 1 = r.packets then (s.putQp q { x with sq := rest }).finishOp r.op stOK (r.len % 2 ^ 25 + 2 ^ 25 * min 15 r.hi) else s.putQp q x

/-- R373: a NAK ends the request that its PSN names, and the queue pair. -/
def State.qpNak (s : State) (q : Nat) (p : Roce) (st : Nat) : State :=
  let s := s.qpAck q p.psn
  match (s.qp q).sq with
  | [] => s.qpError q st
  | r :: _ => s.qpFail q r.op st

/-- R372: an RNR NAK is tried again after the current timeout, up to RNR_RETRY. -/
def State.qpRnr (s : State) (q : Nat) (p : Roce) : State :=
  let s := s.qpAck q p.psn
  let x := s.qp q
  let n := x.rnrTries + 1
  if x.rnrRetry ≠ 7 && x.rnrRetry < n then
    match x.sq with
    | [] => s.qpError q stRetry
    | r :: _ => s.qpFail q r.op stRetry
  else s.putQp q { x with rnrTries := n, rnrWait := true }

/-! ## Receiving: the responder's side -/

def State.qpReply (s : State) (q : Nat) (op : RoceOp) (psn : Nat) (payload : List Byte) : State :=
  let x := s.qp q
  match s.sealBlock (s.qpFn q) with
  | some _ => s
  | none => s.qpSend q x (plainRoce x op psn payload)

/-- R370: the window checks of an RDMA operation: the window's KEY, its permission, its range. The generation is not used. -/
def State.qpWindow (s : State) (fn rkey va n : Nat) (wr : Bool) : Option Nat :=
  (s.ydt.windows.look (rkey % 65536)).bind (fun w =>
    if rkey % 65536 / 1024 = fn && w.key = rkey / 65536 && (if wr then w.write else w.read) && w.len ≠ 0 && va + n ≤ w.len then some (w.base + va) else none)

/-- A request is refused: an RNR NAK while a page or a buffer is not ready; otherwise a NAK, and the queue pair enters ERROR. -/
def State.qpRefuse (s : State) (q psn reason : Nat) : State :=
  if reason = nakNotReady || reason = nakTarget then s.qpReply q .rnrNak psn []
  else if reason = nakAccess then (s.qpReply q .nakAccess psn []).qpError q stDenied
  else if reason = nakCheck then (s.qpReply q .nakOperational psn []).qpError q stCheck
  else (s.qpReply q .nakInvalid psn []).qpError q stInvalid

/-- A request packet has been taken: the expected PSN advances, and the last of a message is acknowledged. -/
def State.qpTaken (s : State) (q psn n : Nat) (last : Bool) : State :=
  let s := (s.setF (R.QPM_QP_RQ_PSN q) 0 24 (psnAdd psn n)).putQp q { s.qp q with nakSent := false }
  if last then s.qpReply q .ack psn [] else s

/-- Place one packet of a WRITE or SEND at the message's next address. -/
def State.qpPlace (s : State) (env : HostView) (q : Nat) (p : Roce) (m : QpIn) (fn : Nat) (last : Bool) : State :=
  if m.left < p.payload.length then
    let s := match m.recv with | some i => s.finishOp i stInvalid 0 | none => s
    s.qpRefuse q p.psn nakTooLong
  else if m.recv.any s.recvFailed then
    let s := match m.recv with | some i => s.finishOp i stTransFault 0 | none => s
    s.qpRefuse q p.psn nakCheck
  else match s.placeBytes env fn (m.va + m.got) p.payload with
    | (s, some f) =>
      let r := s.remoteFail fn f true (match m.recv with | some i => .recv i | none => .remote)
      let st := match f with | .denied _ => stDenied | .poison _ => stCheck | _ => stTransFault
      if r.2 = nakNotReady || r.2 = nakTarget then r.1.qpRefuse q p.psn r.2
      else match m.recv with
        | some i => (r.1.finishOp i st 0).qpRefuse q p.psn nakCheck
        | none => r.1.qpRefuse q p.psn r.2
    | (s, none) =>
      let got := m.got + p.payload.length
      let x := s.qp q
      match last, m.recv with
      | true, some i =>
        let s := (s.noteData i fn m.va got).putQp q { x with inMsg := none, recvs := x.recvs.erase i }
        (s.finishOp i stOK got).qpTaken q p.psn 1 true
      | true, none => (s.putQp q { x with inMsg := none }).qpTaken q p.psn 1 true
      | false, _ => (s.putQp q { x with inMsg := some { m with got := got, left := m.left - p.payload.length } }).qpTaken q p.psn 1 false

/-- The first packet of a WRITE: the whole of it is checked against its window. -/
def State.qpWriteFirst (s : State) (env : HostView) (q : Nat) (p : Roce) (last : Bool) : State :=
  let fn := s.qpFn q
  match s.qpWindow fn p.rkey p.va p.len true with
  | none => s.qpRefuse q p.psn nakAccess
  | some va => s.qpPlace env q p ⟨va, p.len, 0, none, []⟩ fn last

/-- A packet of a SEND to a trigger queue (R303): its payload is gathered. -/
def State.qpTrigger (s : State) (q : Nat) (p : Roce) (t : Nat) (before : List Byte) (last : Bool) : State :=
  let bs := before ++ p.payload
  let x := s.qp q
  if !last && bs.length ≤ 64 then (s.putQp q { x with inMsg := some ⟨0, 0, 0, none, bs⟩ }).qpTaken q p.psn 1 false
  else
    let a := s.tqSend (s.qpFn q) t bs
    match a.2.reason with
    | none => (a.1.putQp q { a.1.qp q with inMsg := none }).qpTaken q p.psn 1 true
    | some r => a.1.qpRefuse q p.psn r

/-- A packet of a SEND, first or not (R349, R373). -/
def State.qpSendIn (s : State) (env : HostView) (q : Nat) (p : Roce) (first last : Bool) : State :=
  let x := s.qp q
  match p.target, first, x.inMsg with
  | some t, true, _ => s.qpTrigger q p t [] last
  | some t, false, some m => s.qpTrigger q p t m.data last
  | none, false, some m => s.qpPlace env q p m (s.qpFn q) last
  | none, true, _ =>
    match x.recvs with
    | [] => s.qpRefuse q p.psn nakNotReady
    | i :: _ =>
      match s.op? i with
      | none => s.qpRefuse q p.psn nakNotReady
      | some o => s.qpPlace env q p ⟨dQuad o.desc 0x10, dfld o.desc 0x18 0 25, 0, some i, []⟩ (s.qpFn q) last
  | _, false, none => s.qpRefuse q p.psn nakMalformed

/-- The responses of a READ, in order; poison stops them with NAK Remote Operational Error (R373). -/
def State.qpRespond (s : State) (env : HostView) (q fn va len psn n : Nat) : List Nat → State
  | [] => s
  | k :: r =>
    let x := s.qp q
    match s.vread env 3 fn (va + x.mtu * k) (min x.mtu (len - x.mtu * k)) with
    | (s, .error f) => let e := s.remoteFail fn f false; e.1.qpRefuse q (psnAdd psn k) e.2
    | (s, .ok bs) => (s.qpReply q (segOp .readFirst .readMiddle .readLast .readOnly k n) (psnAdd psn k) bs).qpRespond env q fn va len psn n r

/-- A READ request; a duplicate is served again. -/
def State.qpReadIn (s : State) (env : HostView) (q : Nat) (p : Roce) (again : Bool) : State :=
  let fn := s.qpFn q
  match s.qpWindow fn p.rkey p.va p.len false with
  | none => s.qpRefuse q p.psn nakAccess
  | some va =>
    match s.rangeFail env fn va p.len false with
    | some f => let e := s.remoteFail fn f false; e.1.qpRefuse q p.psn e.2
    | none =>
      let n := qpPackets (s.qp q) p.len
      let s := if again then s else s.qpTaken q p.psn n false
      s.qpRespond env q fn va p.len p.psn n (List.range n)

/-- R368, R372: a packet that arrived marked: at most one CNP in QPM_CNP_GAP µs. -/
def State.qpCnp (s : State) (q : Nat) (p : Roce) : State :=
  let x := s.qp q
  let gap := 1000 * max 1 (s.getF R.QPM_CNP_GAP 0 16)
  if p.ce && (match x.lastCnp with | none => true | some t => gap ≤ s.uptime - t) then
    (((s.putQp q { x with lastCnp := some s.uptime }).bump R.QPM_CNP_SENT_COUNT).count 12 0 0x03 0 none 1).qpReply q .cnp 0 []
  else s

/-- A request, in PSN order, past its gap, or again (R372). -/
def State.qpRequest (s : State) (env : HostView) (q : Nat) (p : Roce) : State :=
  let e := s.rqPsn q
  let x := s.qp q
  let d := psnDiff p.psn e
  if 0 < d then
    if x.nakSent then s else ((s.putQp q { x with nakSent := true }).bump R.QPM_SEQ_ERR_COUNT).qpReply q .nakSequence e []
  else if d < 0 then
    (match p.op with | .readRequest => s.qpReadIn env q p true | _ => s.qpReply q .ack (psnAdd e (2 ^ 24 - 1)) [])
  else match p.op with
    | .writeFirst => s.qpWriteFirst env q p false
    | .writeOnly => s.qpWriteFirst env q p true
    | .writeMiddle => (match x.inMsg with | some m => s.qpPlace env q p m (s.qpFn q) false | none => s.qpRefuse q p.psn nakMalformed)
    | .writeLast => (match x.inMsg with | some m => s.qpPlace env q p m (s.qpFn q) true | none => s.qpRefuse q p.psn nakMalformed)
    | .sendFirst => s.qpSendIn env q p true false
    | .sendMiddle => s.qpSendIn env q p false false
    | .sendLast => s.qpSendIn env q p false true
    | .sendOnly => s.qpSendIn env q p true true
    | .readRequest => s.qpReadIn env q p false
    | _ => s

/-- One packet that has passed its checks. -/
def State.qpIn (s : State) (env : HostView) (q : Nat) (p : Roce) : State :=
  let s := s.qpCnp q p
  let st := s.qpState q
  match p.op with
  | .unsupported _ => ((s.logErr pQPM 0x02 clsPort (s.qpFn q) noTags 0 q).qpReply q .nakInvalid p.psn []).qpError q stInvalid
  | .cnp =>
    let s := s.bump R.QPM_CNP_RCVD_COUNT
    s.setQpRate q ((s.qpRate (s.qp q)).onAck s.ccOnYdt 0 1 s.uptime (s.getF R.YDT_CC_CUT_GAP 0 16))
  | .ack =>
    let x := s.qp q
    let n := (psnDiff (psnAdd p.psn 1) x.una).toNat
    (s.setQpRate q ((s.qpRate x).onAck s.ccOnYdt n 0 s.uptime (s.getF R.YDT_CC_CUT_GAP 0 16))).qpAck q (psnAdd p.psn 1)
  | .nakSequence => (s.qpAck q p.psn).qpResend env q
  | .nakInvalid => s.qpNak q p stInvalid
  | .nakAccess => s.qpNak q p stDenied
  | .nakOperational => s.qpNak q p stCheck
  | .rnrNak => s.qpRnr q p
  | .readFirst | .readMiddle | .readLast | .readOnly => s.qpResponse env q p
  | _ => if st = 2 || st = 3 then s.qpRequest env q p else s

/-- What a packet needs of an idle device (R129). -/
def State.qpNeed (s : State) (p : Roce) : Nat :=
  match p.op with
  | .sendFirst | .sendMiddle | .sendLast | .sendOnly => if p.target.isSome then 2 else 1
  | .writeFirst | .writeOnly | .readRequest =>
    match s.qpWindow (s.qpFn p.qp) p.rkey p.va p.len (match p.op with | .readRequest => false | _ => true) with
    | some va => if s.touchesHost (s.qpFn p.qp) va p.len false then 2 else 1
    | none => 0
  | .writeMiddle | .writeLast => 1
  | _ => 0

/-- QP_PACKET_RECEIVE, R370 to R373, R378: the oldest packet that QPM holds. -/
def execQpPacketReceive (hv : HostView) (s : State) : Res :=
  .next (match s.qpm.rx with
    | [] => s
    | y :: rest =>
      let p := y.pkt
      let n := s.qpNeed p
      let w : WakeSource := if y.link.isSome then .crew else .network
      if s.gated n then s.wake w
      else
        let s := s.meetsEntry n w
        let s := { s with qpm := { s.qpm with rx := rest } }.bufferFall y.port y.link
        let q := p.qp
        let st := s.qpState q
        if !p.icrcOk then ((s.bump R.QPM_ICRC_ERR_COUNT).raiseInt pQPM 1).logErr pQPM 0x03 clsPort 0 noTags 0 q
        else if 4096 ≤ q || st < 2 || st = 4 then s
        else if p.pkey ≠ (s.qp q).pkey then s.logErr pQPM 0x04 clsSecurity (s.qpFn q) noTags 0 q
        else
          let a := s.openCipher (s.qpFn q) (s.pkey (s.qpFn q)) p.cipher.isSome p.cipher
          if a.2 then a.1.qpIn hv q p else a.1)

/-! ## Timers of both transports -/

/-- R365, R372: the timer of a queue pair expires. -/
def State.qpTimeout (s : State) (q : Nat) (hv : HostView) : State :=
  let x := s.qp q
  match x.sq with
  | [] => s
  | r :: _ =>
    if s.qpState q ≠ 3 then s
    else if x.rnrWait then (s.putQp q { x with rnrWait := false }).qpResend hv q
    else
      let s := s.setQpRate q ((s.qpRate x).onExpiry s.ccOnYdt)
      let n := x.attempts + 1
      if x.retryCnt < n then s.qpFail q r.op (if x.answered then stRetry else stUnreachable)
      else (s.putQp q { s.qp q with attempts := n, timeout := min 8000000 (2 * x.timeout) }).qpResend hv q

/-- RETRANSMIT_TIMEOUT, R365: the timer of an initiator slot, or of a queue pair. -/
def execRetransmitTimeout (queuePair : Bool) (slot : Nat) (hv : HostView) (s : State) : Res :=
  .next (if queuePair then s.qpTimeout slot hv else s.retransmit slot hv)

/-- CC_PERIOD, R368: every entry that sent in the period, of YDT and of the queue pairs. -/
def execCcPeriod (s : State) : Res :=
  let s := s.ydt.rates.foldl (fun s e => if e.2.sentInPeriod then s.putRate e.1 (s.ratePeriod (s.rateEntry e.1) (s.lineRate e.1)) else s) s
  .next (s.qpm.qps.foldl (fun s e =>
    if e.2.rate.any (fun r => r.sentInPeriod) then s.setQpRate e.1 (s.ratePeriod (s.qpRate e.2) s.qpLine) else s) s)

/-- RATE_IDLE_RESET, R368: an entry that has sent nothing for 1 ms. -/
def execRateIdleReset (queuePair : Bool) (i : Nat) (s : State) : Res :=
  .next (
    if queuePair then
      match s.qpm.qps.look i with
      | none => s
      | some x => (s.putQp i { x with rate := none }).wr (R.QPM_QP_RATE i) 0
    else if s.ydt.rates.has i then { s with ydt := { s.ydt with rates := s.ydt.rates.del i } }.wr (R.YDT_RATE i) 0
    else s)

end Sys2Proof.Machine
end

