-- ==== Sys2Proof/Machine/Faults.lean ====
section
/-! DEFINITION. Sys2Proof/Machine/Faults.lean: how the accesses that wait on a fault end, and the host's answers to PRI requests (R182). -/

namespace Sys2Proof.Machine
open Sys2Proof

/-- A HEAT whose contribution or result cannot be reached: the heat ends for the group too (R439). -/
def State.heatFaultEnd (s : State) (i : Nat) (o : Op) : State :=
  let g := (heatArgs o.desc).group
  match s.group? g with
  | none => s.finishOp i stTransFault 0
  | some x =>
    if x.running.any (fun h => h.op = i) then s.stopHeat g stTransFault 0 0 true
    else if i ∈ x.waiting then (s.dropHeat g i stTransFault 0 0 x).sendAborts g x x.seq stAborted
    else s.finishOp i stTransFault 0

/-- R183: a descriptor ends with TRANSLATION_FAULT. -/
def State.faultEnd (s : State) (i : Nat) (o : Op) : State :=
  if dOpcode o.desc = 0x42 then s.heatFaultEnd i o
  else if isContext o.desc then s.endCtx i stTransFault 0
  else if 2 ≤ dOpcode o.desc && dOpcode o.desc ≤ 4 && !ydtTransfer o.desc then s.qpFail (qpPeer o.desc).1 i stTransFault
  else s.endOp i stTransFault

/-- R165: the fetch that waited on a fault fails, if the ring still waits for it: one that a disable, an invalidation or an event H has dropped does nothing. -/
def State.failFetch (s : State) (f r va : Nat) : State :=
  let q := s.queue (.ring f r)
  let st := s.ringState f r
  if q.fetch.isSome && 1 ≤ st && st ≤ 3 then s.fetchFault f r va ((s.rd (R.RNG_CONSUMED_SEQ f r)).toNat + q.cache.length) else s

/-- R574: the event record write that waited on a fault fails, at the record's own address. -/
def State.failEvent (s : State) (f : Nat) : State :=
  let n := (s.rd (R.MBX_EVQ_WRITTEN f)).toNat
  if s.getB (R.MBX_EVQ_CTRL f) 0 then s.evqFail f (s.evqBase f + 32 * (n % s.evqDepth f)) n else s

/-- R165: the completion entry write that waited on a fault fails, at the entry's own address. -/
def State.failEntry (s : State) (src : Source) : State :=
  let f := s.srcFn src
  let r := s.srcCq src
  let n := (s.rd (R.RNG_CQ_WRITTEN_SEQ f r)).toNat
  if s.cqState f r = 1 then s.cqFault f r (s.cqBase f r + 32 * (n % s.cqDepth f r)) n else s

/-- The waiting access ends with TRANSLATION_FAULT (R182, R183, R165, R574). A posted receive buffer whose write ended so is marked by `progress` 2: its RECV_POST
ends when the SEND comes again, which is then refused (R349, R373). -/
def State.failWaiter (s : State) (va : Nat) : Waiter → State
  | .op i =>
    match s.op? i with
    | none => s
    | some o => (s.dmaFault o va).faultEnd i o
  | .cox i => match s.op? i with | none => s | some o => s.faultEnd i o
  | .fetch f r => s.failFetch f r va
  | .entry src => s.failEntry src
  | .event f => s.failEvent f
  | .recv i =>
    match s.op? i with
    | none => s
    | some o => if o.progress = 1 then s.putOp i { o with progress := 2 } else s
  | .remote => s

/-- R182, steps 4 and 5: end every waiting access. -/
def State.failFault (s : State) (e : FaultQ) (code : Nat) : State :=
  let t := s.faultTags e
  let s := e.waiters.foldl (fun s w => s.failWaiter e.va w) (s.dropFault e)
  (s.raiseInt pTRN 1).logErr pTRN code clsMemory e.fn t e.va 0

/-- R182: the core takes the host's response to a page request. A late one is discarded (R200). -/
def State.priResponse (s : State) (fn va : Nat) (code : PriCode) : State :=
  match s.faultAt fn va with
  | none => s
  | some e =>
    if e.st ≠ .requested then s
    else match code with
      | .success => s.releaseFault e
      | .invalid => s.failFault e 0x01
      | .failure => (s.setB (R.TRN_FN_STATUS fn) 2 true).failFault e 0x04

/-- PRI_RESPONSE, R182; it waits while the core restarts (R205, R506). -/
def execPriResponse (fn va : Nat) (code : PriCode) (s : State) : Res :=
  .next (if s.coreUp coreTrn then s.priResponse fn va code else s.toInbox coreTrn (.pri fn va code))

/-- PRI_TIMEOUT, R182: no response within TRN_PRI_TIMEOUT. The core that watches for it is up (R205). -/
def execPriTimeout (fn va : Nat) (s : State) : Res :=
  .next (match s.faultAt fn va with
    | none => s
    | some e => if e.st ≠ .requested || !s.coreUp coreTrn then s else (s.setB (R.TRN_FN_STATUS fn) 2 true).failFault e 0x03)


end Sys2Proof.Machine
end

