-- ==== Sys2Proof/Machine/Net.lean ====
section
/-! DEFINITION. Sys2Proof/Machine/Net.lean: the Ethernet ports (R381 to R396, R414, R415, R418): port states, receive steps, pause, transmission under the
slot plan, and device time. -/

namespace Sys2Proof
open Machine

/-- R389: what a frame's destination and contents make of it. -/
def Frame.isGptp (f : Frame) : Bool := match f.body with | .gptp _ => true | _ => false

def Frame.ip? (f : Frame) : Option Ip := match f.body with | .ip p => some p | _ => none

end Sys2Proof

namespace Sys2Proof.Machine
open Sys2Proof

/-! ## Port states (R382, R383, R40, R42) -/

/-- STATE of a port: 0 DOWN, 1 TRAINING, 2 UP. -/
def State.portState (s : State) (p : Nat) : Nat := s.getF (R.NET_PORT_STATUS p) 0 2

def State.portUp (s : State) (p : Nat) : Bool := s.portState p == 2

def State.portEnabled (s : State) (p : Nat) : Bool := s.getB (ctrlK pNET) (8 + p) && decide (p < portCount s)

/-- The cage of a port (R40). -/
def State.portCage (s : State) (p : Nat) : Nat := p * 8 / portCount s

/-- R42: CAGE_LED of a cage is switched. -/
def State.cageLed (s : State) (c : Nat) (on : Bool) : State :=
  { s.emit (.cagePin c "CAGE_LED" on) with hw := { s.hw with ledOn := if on then c :: s.hw.ledOn.erase c else s.hw.ledOn.erase c } }

/-- R42: CAGE_LED blinks on traffic: it goes off, and on again. Its 8 Hz is time. -/
def State.ledBlink (s : State) (p : Nat) : State :=
  if s.portCage p ∈ s.hw.ledOn then (s.emit (.cagePin (s.portCage p) "CAGE_LED" false)).emit (.cagePin (s.portCage p) "CAGE_LED" true) else s

/-- Every lit CAGE_LED goes off: no port's link is up. -/
def State.ledsOff (s : State) : State := s.hw.ledOn.foldl (fun s c => s.cageLed c false) s

/-- A new STATE of a port, with STATUS and the cage's LED (R42, R415, R554). -/
def State.setPort (s : State) (p x : Nat) : State :=
  let old := s.portState p
  if old = x then s
  else
    let s := (s.setF (R.NET_PORT_STATUS p) 0 2 x).setB (statusK pNET) p (x = 2)
    let s := if (old = 2) = (x = 2) then s else (s.cageLed (s.portCage p) (x = 2)).raiseInt pNET 0
    s.trace 9 p 0x07 0 none x old

/-- A port starts training, unless its cage's management is suspended (R63). -/
def State.portTrain (s : State) (p : Nat) : State :=
  if s.portCage p ∈ s.hw.cageSuspended then s.setPort p 0 else (s.setPort p 1).emit (.train true p)

/-- R42, R383: a port is enabled. -/
def State.portStart (s : State) (p : Nat) : State :=
  (((s.emit (.cagePin (s.portCage p) "CAGE_RESET#" true)).emit (.cagePin (s.portCage p) "CAGE_LPMODE" false))).portTrain p

/-- A write of NET CTRL (R382, R383, R415). -/
def State.netCtrlWrite (s : State) (v : Word) : State :=
  let old := s.rd (ctrlK pNET)
  let refused := fld v 0 2 ≠ fld old 0 2 && fld old 8 8 ≠ 0
  let mode := if refused then fld old 0 2 else fld v 0 2
  let s := if refused then s.logErr pNET 0x02 clsDevice 0 noTags 0 0 else s
  let s := s.wr (ctrlK pNET) (setFld (setFld (v &&& word (ctrlMask 6)) 0 2 mode) 8 8 0)
  let on := fld v 8 8 % 2 ^ portCount s
  let s := s.setF (ctrlK pNET) 8 8 on
  (List.range 8).foldl (fun s p =>
    if bitOf on p && !bit old (8 + p) then s.portStart p
    else if !bitOf on p && bit old (8 + p) then s.setPort p 0
    else s) s

/-- NET_MODE_WRITE, R382. -/
def execNetModeWrite (v : Word) (s : State) : Res := .next (s.netCtrlWrite v)

/-- PORT_ENABLE, R383. -/
def execPortEnable (v : Word) (s : State) : Res := .next (s.netCtrlWrite v)

/-- LANE_FAULT bits of a port's lanes (R414). -/
def State.setLaneFaults (s : State) (p failed : Nat) : State := s.setF (R.NET_PORT_STATUS p) 8 8 (failed % 2 ^ (16 / portCount s))

/-- PORT_TRAIN_DONE, R383. `failed`: the lanes, by index in the port, that failed. -/
def execPortTrainDone (port failed : Nat) (s : State) : Res :=
  .next (
    if s.portState port ≠ 1 then s
    else
      let s := s.setLaneFaults port failed
      if failed % 2 ^ (16 / portCount s) = 0 then s.setPort port 2
      else (s.setPort port 0).logErr pNET 0x01 clsPort 0 noTags 0 port)

/-- R414: the port's FEC counts. -/
def State.noteFec (s : State) (p : Nat) (x : Fec) : State :=
  (s.bump (R.NET_PORT_FEC_CORR p) x.corrected).bump (R.NET_PORT_FEC_UNCORR p) x.uncorrectable

/-- PORT_DOWN, R383: PCS lock lost, or more than 32 uncorrectable codewords in 1 ms. The port trains again at once. -/
def execPortDown (port : Nat) (fec : Fec) (s : State) : Res :=
  .next (if s.portUp port then (((s.noteFec port fec).setPort port 0).event 0 pNET 0x0007 0 clsPort port 0 0 0).portTrain port else s)

/-- LANE_FAULT_RETRY, R383: 1 s after a lane failed training. -/
def execLaneFaultRetry (port : Nat) (s : State) : Res :=
  .next (if s.portEnabled port && s.portState port = 0 && s.getF (R.NET_PORT_STATUS port) 8 8 ≠ 0 then s.portTrain port else s)

/-- CAGE_I2C_TIMEOUT, R63: the cage's management is suspended and its port stays down. R63 gives the suspension no end: here it lasts until the module powers down
(DESIGN CHOICE, log entry 112). -/
def execCageI2cTimeout (cage : Nat) (s : State) : Res :=
  .next (
    let ports := (List.range (portCount s)).filter (fun p => s.portCage p = cage)
    let s := { s with hw := { s.hw with cageSuspended := if cage ∈ s.hw.cageSuspended then s.hw.cageSuspended else s.hw.cageSuspended ++ [cage] } }
    let s := ports.foldl (fun s p => s.setPort p 0) s
    s.logEvent 0 pNET 0x05 clsPort (ports.headD 0) 0 noTags 0 (ports.headD 0))

/-- CAGE_PRESENT_CHANGE, R42: CAGE_PRESENT# of a cage changes. -/
def execCagePresentChange (cage : Nat) (present : Bool) (s : State) : Res :=
  .next ((List.range (portCount s)).foldl (fun s p => if s.portCage p = cage then s.setB (R.NET_PORT_STATUS p) 16 present else s) s)

/-! ## Device time (R391 to R393, R418) -/

def State.locked (s : State) : Bool := s.getB (statusK pNET) 8

/-- YDT STATUS.TIME_LOCKED and NET STATUS.TIME_LOCKED are one bit (R392). -/
def State.setLocked (s : State) (b : Bool) : State :=
  if s.locked = b then s
  else
    let s := ((s.setB (statusK pNET) 8 b).setB (statusK pYDT) 0 b).raiseInt pNET 1
    let s := if b then { s with net := { s.net with firstLock := true } } else { s with net := { s.net with inBand := 0 } }
    s.event 0 pNET 0x0008 (if b then 1 else 2) clsPort 0 0 0 0

def clampInt (lo hi x : Int) : Int := max lo (min hi x)

/-- A new rate correction within ±500 ppm: the manual gives no control law, so it is a free value. -/
def State.newRate (s : State) : State :=
  let f := s.free
  f.2.wr R.NET_TIME_RATE (BitVec.ofInt 32 ((f.1 % 1000001 : Nat) - 500000))

/-- R392: device time lies `off` nanoseconds after the source. -/
def State.timeOffset (s : State) (off : Int) (source hops : Nat) : State :=
  let s := (s.wr R.NET_TIME_OFFSET (BitVec.ofInt 32 (clampInt (-2147483648) 2147483647 off))).wr R.NET_TIME_SOURCE (word (source + 256 * (hops % 8)))
  let s := if s.net.firstLock then s.newRate else { s with devTime := (((s.devTime : Int) - off) % 2 ^ 64).toNat }
  let n := if off.natAbs ≤ 100 then s.net.inBand + 1 else 0
  let s := { s with net := { s.net with inBand := n } }
  let s := if s.net.firstLock && 10000000 < off.natAbs then
      let p := s.getF R.NET_TIME_CTRL 0 3
      (s.raiseInt pNET 3).logEvent 0 pNET 0x04 clsPort p 0 noTags 0 p
    else s
  if 8 ≤ n then s.setLocked true else if 500 < off.natAbs then s.setLocked false else s

/-- TIME_SOURCE_TIMEOUT, R392: no source for 3 s. -/
def execTimeSourceTimeout (s : State) : Res := .next ((s.setLocked false).wr R.NET_TIME_SOURCE 0)

def State.crewMaster (s : State) : Bool := s.getB R.NET_TIME_CTRL 9

/-- The links that are UP (R417). -/
def State.linksUp (s : State) : List Nat := (List.range 4).filter (fun l => s.getB (statusK pCRW) l)

/-- CREW_TIME_DRIVE, R44, R45, R393: the crew's time master drives its pulse and sends a time block on each UP link. -/
def execCrewTimeDrive (s : State) : Res :=
  .next (
    if s.crewMaster then
      let t := s.devTime / 1000000 * 1000000
      s.linksUp.foldl (fun s l => s.emit (.timeBlock l ⟨t, 0⟩)) (s.emit (.pin "CREW_TIME" true))
    else s)

/-- CREW_TIME_PULSE, R393: the time capture point records the pulse. -/
def execCrewTimePulse (s : State) : Res :=
  .next (if s.crewMaster then s else { s with net := { s.net with pulseAt := some s.devTime } })

/-- TIME_BLOCK_RECEIVE, R63, R393, R418: the block of the round with the lowest hop count is used, and every block is relayed. -/
def execTimeBlockReceive (link : Nat) (b : TimeBlock) (s : State) : Res :=
  .next (
    let here := b.time + s.getF (R.CRW_LINK_DELAY link) 0 16
    let round := b.time / 1000000
    let better := match s.net.block with | some (r, h) => r ≠ round || b.hops < h | none => true
    let off := fun (t at_ : Nat) => ((at_ : Int) - (t : Int))
    let s := if s.crewMaster || !better then s
      else
        let s := { s with net := { s.net with block := some (round, b.hops) } }
        match s.hw.crewTimeLost, s.net.pulseAt with
        | false, some t =>
          if (off b.time t).natAbs ≤ 200 then s.timeOffset (off b.time t) 2 b.hops else s.timeOffset (off here s.devTime) 3 b.hops
        | _, _ => s.timeOffset (off here s.devTime) 3 b.hops
    s.linksUp.foldl (fun s l => if l = link then s else s.emit (.timeBlock l ⟨here, b.hops + 1⟩)) s)

/-! ## Pause (R387) -/

/-- PAUSE_REPEAT, R387: every 40 µs while the occupancy stays above the lower level. -/
def execPauseRepeat (port cls : Nat) (s : State) : Res :=
  .next (
    if 8 * port + cls ∈ s.net.pausing && (s.z2Holds || s.classShare port cls - 2 * s.pfcHeadroom port < s.classHeld port cls) then
      s.sendPause port (2 ^ cls) 0xFFFF
    else s)

/-- PAUSE_QUANTA_EXPIRY, R387: a pause received for a class has run out. -/
def execPauseQuantaExpiry (port cls : Nat) (s : State) : Res :=
  .next { s with net := { s.net with pausedBy := s.net.pausedBy.filter (· ≠ 8 * port + cls) } }

/-- A pause received: quanta 0 ends the pause of its classes. -/
def State.pauseIn (s : State) (port classes quanta : Nat) : State :=
  let cs := ((List.range 8).filter (fun c => bitOf classes c)).map (fun c => 8 * port + c)
  let rest := s.net.pausedBy.filter (· ∉ cs)
  { s with net := { s.net with pausedBy := if quanta = 0 then rest else rest ++ cs } }.bump (R.NET_PORT_PFC_RX port)

/-- SHARE_WRITE, R387: shares that would sum above 256 are refused. `high`: NET_PORT_SHARE1. -/
def State.netShareWrite (s : State) (port : Nat) (high : Bool) (v : Word) : State :=
  let sum := fun (w : Word) => fld w 0 8 + fld w 8 8 + fld w 16 8 + fld w 24 8
  let other := s.rd (if high then R.NET_PORT_SHARE0 port else R.NET_PORT_SHARE1 port)
  if 256 < sum v + sum other then s.logErr pNET 0x06 clsDevice 0 noTags 0 port
  else s.wr (if high then R.NET_PORT_SHARE1 port else R.NET_PORT_SHARE0 port) v

def execShareWrite (port : Nat) (high : Bool) (v : Word) (s : State) : Res := .next (s.netShareWrite port high v)

/-! ## Received frames (R384 to R389) -/

def State.fnOfMac (s : State) (m : Nat) : Option Nat := if s.macBase ≤ m && m < s.macBase + 64 then some (m - s.macBase) else none

def State.fnV4 (s : State) (f : Nat) : Bool := bitOf ((s.net.fnAddr.look (8 * f + 1)).getD 0) 0
def State.fnV6 (s : State) (f : Nat) : Bool := bitOf ((s.net.fnAddr.look (8 * f + 1)).getD 0) 1

/-- An address is function f's, and its valid bit is set. -/
def State.ownsIp (s : State) (f : Nat) (v6 : Bool) (a : Nat) : Bool := (if v6 then s.fnV6 f else s.fnV4 f) && s.fnIp f v6 = a

def State.fnOfIp (s : State) (v6 : Bool) (a : Nat) : Option Nat := (List.range 64).find? (fun f => s.ownsIp f v6 a)

def gptpMac : Nat := 0x0180C200000E
def broadcastMac : Nat := 0xFFFFFFFFFFFF

/-- A YDT packet to the manager's addresses on the YDT port (R389). -/
def State.ydtFrame (s : State) (f : Frame) : Option Pkt :=
  match f.ip? with
  | some i =>
    (match i.body with
     | .ydt p => if f.dst = s.macBase && s.ownsIp 0 i.v6 i.dst && i.udpPort = some (s.getF R.YDT_UDP_PORT 0 16) then some p else none
     | _ => none)
  | none => none

/-- The function a frame belongs to (R389). -/
def State.frameFn (s : State) (f : Frame) : Option Nat :=
  match s.ydtFrame f, f.body with
  | some p, _ => some p.dstFn
  | none, .arp t => if f.dst = broadcastMac then s.fnOfIp false t else s.fnOfMac f.dst
  | none, _ => s.fnOfMac f.dst

/-- R385: a frame's tags under a function's rules. A gPTP frame is accepted untagged. -/
def State.tagsOk (s : State) (f : Frame) : Bool :=
  if f.isGptp then f.tags.isEmpty
  else match s.frameFn f, f.tags with
    | _, _ :: _ :: _ => false
    | none, [] => true
    | none, [t] => t.1 = 0x8100 && t.2.2 = 0
    | some fn, [] => !s.getB (R.NET_FN_VLAN fn) 12
    | some fn, [t] => t.1 = 0x8100 && t.2.2 = (if s.getB (R.NET_FN_VLAN fn) 12 then s.getF (R.NET_FN_VLAN fn) 0 12 else 0)

/-- R385: the class of a received frame. -/
def State.frameClass (s : State) (f : Frame) : Nat :=
  let hit := match f.tags, f.ip? with
    | t :: _, _ => (List.range 8).find? (fun c => s.getF R.NET_CLASS_PCP (4 * c) 3 = t.2.1)
    | [], some i => (List.range 8).find? (fun c => s.classDscp c = i.dscp)
    | [], none => none
  hit.getD 0

/-- Step 3 of R389: the destination address. -/
def State.macOk (s : State) (m : Nat) : Bool :=
  (s.macBase ≤ m && m < s.macBase + 72) || m = broadcastMac || m = gptpMac

/-- Step 6 of R389. -/
def State.bodyOk (s : State) (f : Frame) : Bool :=
  match f.body with
  | .gptp _ | .arp _ => true
  | .ip i =>
    let own := match s.ydtFrame f, s.fnOfMac f.dst with
      | some _, _ => true
      | none, some fn => s.ownsIp fn i.v6 i.dst
      | none, none => false
    own && (i.v6 || i.sumOk) && !i.fragment && !i.extension
  | _ => false

/-- Step 7 of R389, R533. -/
def State.portOk (s : State) (f : Frame) : Bool :=
  match f.body with
  | .gptp _ | .arp _ => true
  | .ip i =>
    (match i.body with
     | .ydt _ => (s.ydtFrame f).isSome
     | .roce p => i.udpPort = some (if p.cipher.isSome then 19002 else 4791)
     | .solicit _ => i.v6
     | .other => false)
  | _ => false

/-- R386: an answer of the responder, from function f's address in class 7. -/
def State.respond (s : State) (port fn dst : Nat) (b : FrameBody) : State :=
  let tags := s.txTags fn 7
  s.queueFrame ⟨port, 7, 2, { len := (match b with | .advert _ => 90 | _ => 64) + 4 * tags.length, fcsOk := true, dst := dst, src := s.macBase + fn, tags := tags, body := b }⟩

/-- A frame that passed every step goes to its consumer (R389). -/
def State.consume (s : State) (port cls : Nat) (f : Frame) : State :=
  match f.body with
  | .gptp off =>
    (match off with
     | some o => if s.getB R.NET_TIME_CTRL 8 && s.getF R.NET_TIME_CTRL 0 3 = port then s.timeOffset o 1 0 else s
     | none => s)
  | .arp t => (match s.fnOfIp false t with | some fn => s.respond port fn f.src (.arpReply t) | none => s)
  | .ip i =>
    let held := some (port, cls, f.len)
    (match i.body with
     | .ydt p => (s.ydtArrive ⟨{ p with ce := i.ecn = 3 }, held, none⟩).pauseRise port cls
     | .roce p => { s with qpm := { s.qpm with rx := s.qpm.rx ++ [(⟨{ p with ce := i.ecn = 3 }, held, none⟩ : RxQ)] } }.pauseRise port cls
     | .solicit t => (match s.fnOfIp true t with | some fn => s.respond port fn f.src (.advert t) | none => s)
     | .other => s)
  | _ => s

/-- A frame is dropped and counted (R389). -/
def State.dropFrame (s : State) (port key : Nat) : State := (s.bump key).count 9 port 0x03 0 none 1

/-- FRAME_RECEIVE, R389: the steps in order. A pause frame ends at its port (R387). -/
def execFrameReceive (port : Nat) (f : Frame) (fec : Fec) (s : State) : Res :=
  .next (
    if !s.portUp port then s
    else
      let s := ((s.ledBlink port).noteFec port fec).count 9 port 0x02 0 none 1
      if f.len < 64 then s.dropFrame port (R.NET_PORT_RUNT port)
      else if !f.fcsOk || 9216 < f.len then s.dropFrame port (R.NET_PORT_FCS_ERR port)
      else match f.body with
        | .pause cs q => s.pauseIn port cs q
        | _ =>
          let cls := s.frameClass f
          if !s.macOk f.dst then s.dropFrame port (R.NET_PORT_FILTERED port)
          else if !s.tagsOk f then s.dropFrame port (R.NET_PORT_TAG_DROP port)
          else if s.classShare port cls < s.classHeld port cls + f.len then s.dropFrame port (R.NET_PORT_OVERFLOW port)
          else if !s.bodyOk f || !s.portOk f then s.dropFrame port (R.NET_PORT_FILTERED port)
          else (s.bump (R.NET_PORT_RX_FRAMES port)).consume port cls f)

/-! ## The slot plan (R394 to R396) -/

def Plan.slotNs (p : Plan) : Nat := 256 * 2 ^ p.gran

def Plan.cycle (p : Plan) : Nat := p.slotNs * (p.entries.map Prod.snd).sum

/-- The entry in force at a place in the cycle, and the nanoseconds it still lasts. -/
def entryAt (slot : Nat) : List (Nat × Nat) → Nat → Nat → Nat × Nat
  | [], i, _ => (i, 0)
  | (_, d) :: r, i, t => if t < slot * d then (i, slot * d - t) else entryAt slot r (i + 1) (t - slot * d)

/-- R394: cycles start at BASE_TIME + k × cycle, before and after it. -/
def Plan.at_ (p : Plan) (time : Nat) : Nat × Nat :=
  if p.cycle = 0 then (0, 0) else entryAt p.slotNs p.entries 0 (((time : Int) - (p.base : Int)) % (p.cycle : Int)).toNat

/-- How long a class's gate stays open along a list of entries. -/
def openAlong (slot cls : Nat) : List (Nat × Nat) → Nat
  | [] => 0
  | (g, d) :: r => if bitOf g cls then slot * d + openAlong slot cls r else 0

/-- How long from a time the gate of a class stays open: none without end. -/
def Plan.openFor (p : Plan) (cls time : Nat) : Option Nat :=
  if p.entries.isEmpty || p.entries.all (fun e => bitOf e.1 cls) then none
  else
    let e := p.at_ time
    if bitOf ((p.entries.getD e.1 (0, 0)).1) cls then some (e.2 + openAlong p.slotNs cls (p.entries.drop (e.1 + 1) ++ p.entries)) else some 0

/-- ACTIVE of a port's plan, and its active version's plan: none where it has not been loaded. -/
def State.planVer (s : State) (port : Nat) : Nat := s.getF (R.NET_PORT_PLAN_STATUS port) 0 1

def State.plan? (s : State) (port : Nat) : Option Plan := s.net.plans.look (2 * port + s.planVer port)

/-- R395: the active plan keeps a class's gate open until a frame's last bit, with 20 bytes of preamble and gap. -/
def State.gateOpen (s : State) (port cls len : Nat) : Bool :=
  match s.plan? port with
  | none => true
  | some p => match p.openFor cls s.devTime with
    | none => true
    | some n => (len + 20) * 8 ≤ n * (1600 / portCount s)

/-- The current entry of a port's plan. -/
def State.setEntry (s : State) (port time : Nat) : State :=
  match s.plan? port with
  | none => s.setF (R.NET_PORT_PLAN_STATUS port) 16 13 0
  | some p => s.setF (R.NET_PORT_PLAN_STATUS port) 16 13 (p.at_ time).1

/-- GATE_CHANGE, R395: an entry of the plan begins. -/
def execGateChange (port : Nat) (s : State) : Res := .next (s.setEntry port s.devTime)

/-- R413: a table becomes due to be saved. -/
def State.dueSave (s : State) (table i : Nat) : State :=
  { s with net := { s.net with saveDue := if (table, i) ∈ s.net.saveDue then s.net.saveDue else s.net.saveDue ++ [(table, i)] } }

/-- R396: the other version becomes active. -/
def State.planSwitch (s : State) (port time : Nat) : State :=
  let k := R.NET_PORT_PLAN_STATUS port
  let s := ((s.setF k 0 1 (1 - s.planVer port)).setB k 1 false).setEntry port time
  (({ s with net := { s.net with switchAt := s.net.switchAt.del port } }).dueSave 2 port).raiseInt pNET 2

/-- R396: the write of NET_PORT_PLAN_TIME_HI. -/
def State.planArm (s : State) (port : Nat) (v : Word) : State :=
  let s := s.wr (R.NET_PORT_PLAN_TIME_HI port) v
  let t := (s.rd (R.NET_PORT_PLAN_TIME_LO port)).toNat + 2 ^ 32 * v.toNat
  let k := R.NET_PORT_PLAN_STATUS port
  if !s.getB k (3 - s.planVer port) then s.logErr pNET 0x03 clsDevice 0 noTags 0 port
  else if t ≤ s.devTime then s.planSwitch port s.devTime
  else { s.setB k 1 true with net := { s.net with switchAt := s.net.switchAt.put port t } }

/-- PLAN_SWITCH_ARM, R396. -/
def execPlanSwitchArm (port : Nat) (v : Word) (s : State) : Res := .next (s.planArm port v)

/-- PLAN_SWITCH, R396: device time reaches T. -/
def execPlanSwitch (port : Nat) (s : State) : Res :=
  .next (match s.net.switchAt.look port with | some t => s.planSwitch port t | none => s)

/-! ## Transmission (R390) -/

/-- The frame of a class that goes next: YDT, QPM and the responder in turn. -/
def State.nextFrame (s : State) (port cls : Nat) : Option TxFrame :=
  let last := (s.net.lastServed.look (8 * port + cls)).getD 2
  [last + 1, last + 2, last + 3].findSome? (fun w => s.net.tx.find? (fun t => t.port = port && t.cls = cls && t.who = w % 3))

/-- The frame a port may start now: class 7 first. -/
def State.startable (s : State) (port : Nat) : Option TxFrame :=
  [7, 6, 5, 4, 3, 2, 1, 0].findSome? (fun c =>
    if 8 * port + c ∈ s.net.pausedBy then none
    else (s.nextFrame port c).filter (fun t => s.gateOpen port c t.frame.len))

/-- FRAME_TRANSMIT, R390, R395. -/
def execFrameTransmit (port : Nat) (s : State) : Res :=
  .next (
    if !s.portUp port then s
    else match s.startable port with
      | none => s
      | some t =>
        let s := { s with net := { s.net with tx := s.net.tx.erase t, lastServed := s.net.lastServed.put (8 * port + t.cls) t.who } }
        let s := ((s.emit (.frame port t.frame.head t.frame)).ledBlink port).bump (R.NET_PORT_TX_FRAMES port)
        let s := s.count 9 port 0x01 0 none 1
        match t.frame.body with
        | .pause _ _ => (s.bump (R.NET_PORT_PFC_TX port)).count 9 port 0x04 0 none 1
        | _ => s)

end Sys2Proof.Machine
end

