-- ==== Sys2Proof/Machine/Crew.lean ====
section
/-! DEFINITION. Sys2Proof/Machine/Crew.lean: the Ozmen links (R397 to R411, R416, R417) and the tables that TABLE_XFER moves (R412, R413). -/

namespace Sys2Proof
open Machine

/-! ## Ozmen headers (R401) -/

def OzPkt.word (p : OzPkt) (i : Nat) : Nat := p.words.getD i 0
def OzPkt.kind (p : OzPkt) : Nat := bitsOf (p.word 0) 24 4
def OzPkt.vl (p : OzPkt) : Nat := bitsOf (p.word 0) 21 3
def OzPkt.epoch (p : OzPkt) : Nat := bitsOf (p.word 0) 20 1
def OzPkt.ce (p : OzPkt) : Bool := bitOf (p.word 0) 19
def OzPkt.hop (p : OzPkt) : Nat := bitsOf (p.word 0) 16 3
def OzPkt.hops (p : OzPkt) : Nat := bitsOf (p.word 0) 13 3
def OzPkt.len (p : OzPkt) : Nat := bitsOf (p.word 0) 0 13
def OzPkt.partition (p : OzPkt) : Nat := bitsOf (p.word 1) 16 16
def OzPkt.dst (p : OzPkt) : Nat := bitsOf (p.word 2) 0 12

/-- The output link of hop i: bits [31 − 3i : 29 − 3i] of word 2; hops past the field name no link. -/
def OzPkt.out (p : OzPkt) (i : Nat) : Nat := if i < 6 then bitsOf (p.word 2) (29 - 3 * i) 3 else 7

def OzPkt.bodyKind (p : OzPkt) : Nat := match p.body with | .ydt _ => 0 | .ip _ => 1

/-- Step 2 of R402: every field holds a value that R401 allows. -/
def OzPkt.formed (p : OzPkt) : Bool :=
  bitsOf (p.word 0) 28 4 = 1 && p.kind ≤ 1 && p.kind = p.bodyKind && p.hop ≤ 5 && 1 ≤ p.hops && p.hops ≤ 6 && 1 ≤ p.len && p.len ≤ 4224 &&
    (List.range p.hops).all (fun i => p.out i < 4)

/-- The packet with HOP and CE rewritten, as it is forwarded. -/
def OzPkt.forwarded (p : OzPkt) (h : Nat) (ce : Bool) (lcrc : Lcrc) : OzPkt :=
  { p with words := putBits (putBits (p.word 0) 16 3 h) 19 1 (b2n ce) :: p.words.drop 1, hcrcOk := true, lcrc := lcrc }

end Sys2Proof

namespace Sys2Proof.Machine
open Sys2Proof

/-! ## Link states (R398 to R400) -/

/-- STATE of a link: 0 DOWN, 1 TRAINING, 2 UP, 3 WIDTH_CHANGE, 4 MISWIRED. -/
def State.linkState (s : State) (l : Nat) : Nat := s.getF (R.CRW_LINK_STATUS l) 0 3

/-- A new STATE of a link, with STATUS, LINK_CHANGE and its trace record (R417, R554). -/
def State.setLink (s : State) (l x : Nat) : State :=
  let old := s.linkState l
  if old = x then s
  else
    let s := (s.setF (R.CRW_LINK_STATUS l) 0 3 x).setB (statusK pCRW) l (x = 2)
    let s := if (old = 2) = (x = 2) then s else s.raiseInt pCRW 0
    s.trace 10 l 0x07 0 none x old

def State.excludedLanes (s : State) (l : Nat) : Nat := s.getF (R.CRW_LINK_STATUS l) 8 4

/-- The good lanes of an excluded set. -/
def widthOf (excluded : Nat) : Nat := ((List.range 4).filter (fun k => !bitOf excluded k)).length

/-- A link starts training (R398). -/
def State.linkTrain (s : State) (l : Nat) : State := (s.setLink l 1).emit (.train false l)

/-- An exclusion sets the lane's bit, logs code 0x01 and raises a PORT event (R398). -/
def State.excludeLane (s : State) (l k : Nat) : State :=
  (((s.setB (R.CRW_LINK_STATUS l) (8 + k) true).raiseInt pCRW 1).logEvent 0 pCRW 0x01 clsPort l 0 noTags 0 (l + 16 * k))

/-- R400: a link goes DOWN, the paths whose first hop uses it become unhealthy, and it trains again. -/
def State.linkDown (s : State) (l : Nat) : State :=
  let s := (s.setLink l 0).setF (R.CRW_LINK_STATUS l) 4 3 0
  let s := s.logEvent 0 pCRW 0x02 clsPort l 0 noTags 0 l
  let devs := ((s.crw.route.map (fun e => e.1 / 8)).filterMap (fun k => if k / 4096 = s.sendEpoch then some (k % 4096) else none)).eraseDups
  let s := devs.foldl (fun s d => (List.range 4).foldl (fun s n =>
    if s.routed d && (s.pathOf d n).1 = 1 && bitsOf (s.pathOf d n).2.2.1 15 3 = l then s.pathDown d n else s) s) s
  s.linkTrain l

/-- A write of CRW CTRL (R398, R417). -/
def State.crwCtrlWrite (s : State) (v : Word) : State :=
  let old := s.rd (ctrlK pCRW)
  let s := s.wr (ctrlK pCRW) (v &&& word (ctrlMask 7))
  (List.range 4).foldl (fun s l =>
    if bit v l && !bit old l then s.linkTrain l
    else if !bit v l && bit old l then (s.setLink l 0).setF (R.CRW_LINK_STATUS l) 4 3 0
    else s) s

/-- LINK_ENABLE, R398. -/
def execLinkEnable (v : Word) (s : State) : Res := .next (s.crwCtrlWrite v)

/-- LINK_RETRAIN, R398: a write of 1 to CRW_LINK_RETRAIN trains the link fully. -/
def State.linkRetrain (s : State) (l : Nat) (v : Word) : State := if bit v 0 then s.linkTrain l else s

def execLinkRetrain (link : Nat) (v : Word) (s : State) : Res := .next (if link < 4 then s.linkRetrain link v else s)

/-- R398, R418: the link opens: XON on every VL, or XOFF where Z2 holds it. -/
def State.openLink (s : State) (l : Nat) : State :=
  let s := { s with crw := { s.crw with
    xoffSent := s.crw.xoffSent.filter (fun k => k / 8 ≠ l), xoffReceived := s.crw.xoffReceived.filter (fun k => k / 8 ≠ l) } }
  (List.range 8).foldl (fun s v =>
    if s.idle.selfRefresh then
      { s with crw := { s.crw with xoffSent := s.crw.xoffSent ++ [8 * l + v] } }.emit (.control l v true)
    else (s.emit (.control l v false)).xoffRise l v) s

/-- LINK_TRAIN_DONE, R63, R398: training ends, at the lower lane rate of the two ends (R567). -/
def execLinkTrainDone (link : Nat) (r : TrainResult) (s : State) : Res :=
  .next (
    if s.linkState link ≠ 1 then s
    else
      let s := s.bump R.CRW_WIDTH_CHANGES
      match r with
      | .miswired => (((s.setLink link 4).wr (R.CRW_LINK_PEER link) 0).raiseInt pCRW 2).logEvent 0 pCRW 0x03 clsPort link 0 noTags 0 link
      | .lanes good inv reord peerHalf dev pl delay =>
        let half := if peerHalf || s.reduced then link :: s.crw.halfRate.erase link else s.crw.halfRate.erase link
        let s := { s with crw := { s.crw with halfRate := half } }
        let k := R.CRW_LINK_STATUS link
        let s := s.setF k 8 4 0
        let s := (List.range 4).foldl (fun s i => if bitOf good i then s else s.excludeLane link i) s
        let w := widthOf (s.excludedLanes link)
        if w = 0 then ((s.setF k 4 3 0).wr (R.CRW_LINK_PEER link) 0).setLink link 0
        else
          let s := ((s.setF k 4 3 w).setF k 12 4 inv).setB k 16 reord
          let s := (s.wr (R.CRW_LINK_PEER link) (word (dev % 4096 + 4096 * (pl % 4) + 32768))).wr (R.CRW_LINK_DELAY link) (word (min 65535 delay))
          (s.setLink link 2).openLink link)

/-- LINK_TRAIN_RETRY, R398: a link without a partner tries again every 100 ms. -/
def execLinkTrainRetry (link : Nat) (s : State) : Res :=
  .next (if link < 4 && s.getB (ctrlK pCRW) link && (s.linkState link = 0 || s.linkState link = 4) then s.linkTrain link else s)

/-- LANE_EXCLUDE, R399: a lane fails in service; `lost`: the packets in transfer across the change. -/
def execLaneExclude (link lane lost : Nat) (fec : Fec) (s : State) : Res :=
  .next (
    let st := s.linkState link
    if (st ≠ 2 && st ≠ 3) || 4 ≤ lane || bitOf (s.excludedLanes link) lane then s
    else
      let s := (s.bump R.CRW_FEC_CORR fec.corrected).bump R.CRW_FEC_UNCORR fec.uncorrectable
      let s := (s.excludeLane link lane).bump R.CRW_LCRC_ERR lost
      let w := widthOf (s.excludedLanes link)
      if w = 0 then s.linkDown link
      else ((if st = 2 then s.bump R.CRW_WIDTH_CHANGES else s).setF (R.CRW_LINK_STATUS link) 4 3 w).setLink link 3)

/-- WIDTH_CHANGE_DONE, R399: both ends resume. -/
def execWidthChangeDone (link : Nat) (s : State) : Res := .next (if s.linkState link = 3 then s.setLink link 2 else s)

/-- LINK_TIMEOUT, R400: no block of any kind for 5 µs. -/
def execLinkTimeout (link : Nat) (s : State) : Res :=
  .next (if s.linkState link = 2 || s.linkState link = 3 then s.linkDown link else s)

/-- CONTROL_BLOCK_SEND, R397: at least one control block every 1 µs. -/
def execControlBlockSend (link : Nat) (s : State) : Res := .next (if s.linkState link = 2 then s.emit (.idleBlock link) else s)

/-! ## Flow control (R405) -/

/-- XOFF_REPEAT, R405: the current state is repeated every 1 µs while XOFF holds. -/
def execXoffRepeat (link vl : Nat) (s : State) : Res :=
  .next (if 8 * link + vl ∈ s.crw.xoffSent && s.linkState link = 2 then (s.emit (.control link vl true)).count 10 link 0x04 0 none 1 else s)

/-- XOFF_RECEIVE, R405: XOFF or XON for a VL of a link. -/
def execXoffReceive (link vl : Nat) (xoff : Bool) (s : State) : Res :=
  .next (
    let rest := s.crw.xoffReceived.filter (· ≠ 8 * link + vl)
    { s with crw := { s.crw with xoffReceived := if xoff then rest ++ [8 * link + vl] else rest } })

/-! ## Packets (R402 to R408, R410, R411) -/

/-- CRW_EPOCH_AGE counts from the last packet of another epoch (R416). -/
def State.noteEpoch (s : State) (p : OzPkt) : State :=
  if p.epoch = s.sendEpoch then s else { s with crw := { s.crw with otherEpochAt := some s.uptime } }

/-- VALID of a version (R411). -/
def State.epochValid (s : State) (v : Nat) : Bool := s.getB R.CRW_EPOCH (1 + v)

/-- R410: the partition check of a packet from link i: to this member, or to an output link. -/
def State.partitionOk (s : State) (ver key i : Nat) (out : Option Nat) : Bool :=
  (List.range 256).any (fun e =>
    let w := (s.crw.part.look (256 * ver + e)).getD 0
    bitOf w 31 && bitsOf w 0 16 = key && bitOf w (16 + i) && (match out with | none => bitOf w 20 | some o => bitOf w (16 + o)))

def State.dropOz (s : State) (link key : Nat) : State := (s.bump key).count 10 link 0x03 0 none 1

/-- R407: a delivered packet, with the marks it gathered. -/
def State.deliverOz (s : State) (link : Nat) (p : OzPkt) (ce : Bool) : State :=
  let held := some (link, p.vl, OzPkt.bytes p)
  let s := s.count 10 link 0x02 0 none 1
  let s := match p.body with
    | .ydt q => s.ydtArrive ⟨{ q with ce := ce }, none, held⟩
    | .ip i =>
      let ecn := if ce && (i.ecn = 1 || i.ecn = 2) then 3 else i.ecn
      match i.body with
      | .ydt q => s.ydtArrive ⟨{ q with ce := ecn = 3 }, none, held⟩
      | .roce q => { s with qpm := { s.qpm with rx := s.qpm.rx ++ [(⟨{ q with ce := ecn = 3 }, none, held⟩ : RxQ)] } }
      | _ => s
  s.xoffRise link p.vl

/-- R403, R408: forward a packet: cut-through where the output is idle on the VL and holds XON, else through its buffer. -/
def State.forwardOz (s : State) (link out h : Nat) (p : OzPkt) (ce : Bool) : State :=
  let idle := !s.crw.tx.any (fun t => t.link = out && t.vl = p.vl) && 8 * out + p.vl ∉ s.crw.xoffReceived && s.linkState out = 2
  match p.lcrc, idle with
  | .stomped, _ => s.dropOz link R.CRW_STOMPED
  | .bad, false => s.dropOz link R.CRW_LCRC_ERR
  | .bad, true => ((s.emitOz out (p.forwarded h ce .stomped)).bump R.CRW_LCRC_ERR).bump R.CRW_CUT_THROUGH |>.count 10 out 0x01 0 none 1
  | .good, true => ((s.emitOz out (p.forwarded h ce .good)).bump R.CRW_CUT_THROUGH).count 10 out 0x01 0 none 1
  | .good, false => (s.queueOz ⟨out, p.vl, link, p.forwarded h ce .good⟩).xoffRise link p.vl

/-- OZMEN_PACKET_RECEIVE, R402: the steps in order. -/
def execOzmenPacketReceive (link : Nat) (p : OzPkt) (fec : Fec) (s : State) : Res :=
  .next (
    if s.linkState link ≠ 2 || s.boot.breach ≠ 0 then s
    else
      let s := ((s.bump (R.CRW_RX_PACKETS link)).bump R.CRW_FEC_CORR fec.corrected).bump R.CRW_FEC_UNCORR fec.uncorrectable
      if !p.hcrcOk || !p.formed then s.dropOz link R.CRW_HDR_ERR
      else
        let s := s.noteEpoch p
        let held := s.vlHeld link p.vl
        if 20480 < held + OzPkt.bytes p then
          ((s.dropOz link R.CRW_VL_OVERFLOW).raiseInt pCRW 4).logErr pCRW 0x05 clsPort 0 noTags 0 (link + 256 * p.vl)
        else
          let h := p.hop + 1
          let here := h = p.hops
          let out := p.out h
          let live := out < 4 && (s.linkState out = 2 || s.linkState out = 3)
          if (here && p.dst ≠ s.devId) || (!here && (out = link || !live)) then s.dropOz link R.CRW_ROUTE_DROP
          else if !s.epochValid p.epoch then (s.dropOz link R.CRW_EPOCH_DROP).logErr pCRW 0x06 clsPort 0 noTags 0 (link + 256 * p.vl)
          else if !s.partitionOk p.epoch p.partition link (if here then none else some out) then s.dropOz link R.CRW_PARTITION_DROP
          else
            let ce := p.ce || s.getF R.CRW_CE_THRESH 0 15 ≤ held
            if here then
              match p.lcrc with
              | .good => s.deliverOz link p ce
              | .bad => s.dropOz link R.CRW_LCRC_ERR
              | .stomped => s.dropOz link R.CRW_STOMPED
            else s.forwardOz link out h p ce)

/-- The packet a VL of a link sends next: its inputs in turn. -/
def State.nextOz (s : State) (l v : Nat) : Option TxOz :=
  let last := (s.crw.lastInput.look (8 * l + v)).getD 4
  [last + 1, last + 2, last + 3, last + 4, last + 5].findSome? (fun i => s.crw.tx.find? (fun t => t.link = l && t.vl = v && t.input = i % 5))

/-- OZMEN_TRANSMIT, R408: the VLs that hold a packet and XON in turn, one packet each. -/
def execOzmenTransmit (link : Nat) (s : State) : Res :=
  .next (
    if s.linkState link ≠ 2 || s.boot.breach ≠ 0 then s
    else
      let last := (s.crw.lastVl.look link).getD 7
      match (List.range 8).findSome? (fun i =>
        let v := (last + 1 + i) % 8
        if 8 * link + v ∈ s.crw.xoffReceived then none else s.nextOz link v) with
      | none => s
      | some t =>
        let s := (s.emitOz link t.pkt).noteEpoch t.pkt
        let s := { s with crw := { s.crw with
          tx := s.crw.tx.erase t, lastVl := s.crw.lastVl.put link t.vl, lastInput := s.crw.lastInput.put (8 * link + t.vl) t.input } }
        if t.input = 4 then s else (s.count 10 link 0x01 0 none 1).xoffFall t.input t.vl)

/-- HEAD_DROP, R408: a forwarded packet has waited at the head of its VL for 3 µs. -/
def execHeadDrop (link vl input : Nat) (s : State) : Res :=
  .next (
    if 4 ≤ input then s
    else match s.crw.tx.find? (fun t => t.link = link && t.vl = vl && t.input = input) with
      | none => s
      | some t => ({ s with crw := { s.crw with tx := s.crw.tx.erase t } }.dropOz link R.CRW_HEAD_DROP).xoffFall input vl)

/-! ## Epochs (R411) -/

/-- R411: a write of CRW_EPOCH. -/
def State.epochWrite (s : State) (v : Word) : State :=
  let old := s.rd R.CRW_EPOCH
  let send := fld v 0 1
  let unloaded := fun (i : Nat) => bit v (1 + i) && !bit old (1 + i) && !(i ∈ s.crw.loaded && 2 + i ∈ s.crw.loaded)
  let refused := (send ≠ fld old 0 1 && !bit v (1 + send)) || (bit old (1 + send) && !bit v (1 + send)) || unloaded 0 || unloaded 1
  if refused then (s.raiseInt pCRW 3).logErr pCRW 0x04 clsDevice 0 noTags 0 0
  else
    let s := s.wr R.CRW_EPOCH (v &&& 7)
    if send = fld old 0 1 then s else s.dueSave 0 send

/-- EPOCH_WRITE, R411. -/
def execEpochWrite (v : Word) (s : State) : Res := .next (s.epochWrite v)

/-! ## Tables (R394, R409, R410, R412, R413) -/

def coreTransport : Nat := 2

def tableRoute : Nat := 0
def tablePart : Nat := 1
def tablePlan : Nat := 2
def tableFn : Nat := 3

/-- Entries and bytes an entry of a table. -/
def tableShape (t : Nat) : Nat × Nat := if t = tableRoute then (4096, 64) else if t = tablePart then (256, 4) else (64, 32)

/-- R394: the plan that an image spells, if it breaks nothing. -/
def planOf (bs : List Byte) (count : Nat) : Option Plan :=
  let n := fun (o k : Nat) => leNat ((bs.drop o).take k)
  let p : Plan := ⟨bitsOf (n 0 4) 0 4, n 8 8, (List.range count).map (fun i => (bitsOf (n (16 + 4 * i) 4) 0 8, bitsOf (n (16 + 4 * i) 4) 8 12))⟩
  if 8 < p.gran || 4096 < count || p.entries.any (fun e => e.2 = 0) || 1000000000 < p.cycle then none else some p

def Plan.image (p : Plan) : List Byte :=
  leBytes 4 (p.gran + 65536 * p.entries.length) ++ leBytes 4 0 ++ leBytes 8 p.base ++ p.entries.flatMap (fun e => leBytes 4 (e.1 + 256 * e.2))

/-- The words of consecutive entries, from a first key. -/
def putWords (t : Tab Nat) (k size : Nat) : Nat → List Byte → Tab Nat
  | 0, _ => t
  | n + 1, bs => putWords (t.put k (leNat (bs.take size))) (k + 1) size n (bs.drop size)

/-- Load entries of ROUTE, PARTITION or FUNCTION_ADDRESS. -/
def State.loadTable (s : State) (t ver first count : Nat) (bs : List Byte) : State :=
  if t = tableRoute then
    { s with crw := { s.crw with route := putWords s.crw.route (8 * (4096 * ver + first)) 8 (8 * count) bs,
                                 loaded := if ver ∈ s.crw.loaded then s.crw.loaded else s.crw.loaded ++ [ver] } }
  else if t = tablePart then
    { s with crw := { s.crw with part := putWords s.crw.part (256 * ver + first) 4 count bs,
                                 loaded := if 2 + ver ∈ s.crw.loaded then s.crw.loaded else s.crw.loaded ++ [2 + ver] } }
  else { s with net := { s.net with fnAddr := putWords s.net.fnAddr (8 * first) 4 (8 * count) bs } }.dueSave 3 0

/-- The image of entries of a table. -/
def State.tableImage (s : State) (t ver first count : Nat) : List Byte :=
  if t = tableRoute then (List.range (8 * count)).flatMap (fun i => leBytes 8 ((s.crw.route.look (8 * (4096 * ver + first) + i)).getD 0))
  else if t = tablePart then (List.range count).flatMap (fun i => leBytes 4 ((s.crw.part.look (256 * ver + first + i)).getD 0))
  else (List.range (8 * count)).flatMap (fun i => leBytes 4 ((s.net.fnAddr.look (8 * first + i)).getD 0))

/-- R412: what a TABLE_XFER asks for. -/
structure TableArgs where
  image : Nat
  table : Nat
  ver : Nat
  port : Nat
  store : Bool
  first : Nat
  count : Nat
deriving DecidableEq, Repr

def tableArgs (d : Desc) : TableArgs :=
  ⟨dQuad d 0x10, dfld d 0x18 0 4, dfld d 0x18 4 1, dfld d 0x18 5 3, dfld d 0x18 8 1 = 1, dfld d 0x1C 0 13, dfld d 0x1C 16 13⟩

/-- The field that makes a TABLE_XFER INVALID (R412). -/
def State.tableBad (s : State) (a : TableArgs) : Option Nat :=
  let k := R.NET_PORT_PLAN_STATUS a.port
  firstBad [(farAddr a.image || a.image % 64 ≠ 0, 0x10), (3 < a.table, 0x18), (a.table = tablePlan && portCount s ≤ a.port, 0x18),
    (!a.store && a.table ≤ 1 && s.epochValid a.ver && a.count ≠ 0, 0x18),
    (!a.store && a.table = tablePlan && (a.ver = s.planVer a.port || s.getB k 1), 0x18),
    (a.table ≠ tablePlan && (4096 < a.count || (tableShape a.table).1 < a.first + a.count), 0x1C)]

/-- Write a table out. -/
def State.tableStore (s : State) (env : HostView) (i : Nat) (o : Op) (va n : Nat) (bs : List Byte) : State :=
  match s.vwrite env 4 o.fn va bs (descTags o.desc) with
  | (s, some f) => s.opFail i f true false
  | (s, none) => (s.noteData i o.fn va bs.length).finishOp i stOK n

/-- Load a slot plan: its header, then the entries that the header counts. -/
def State.planLoad (s : State) (env : HostView) (i : Nat) (o : Op) (a : TableArgs) : State :=
  match s.vread env 4 o.fn a.image 16 (descTags o.desc) with
  | (s, .error f) => s.opFail i f false false
  | (s, .ok hd) =>
    let n := bitsOf (leNat (hd.take 4)) 16 13
    if 4096 < n then s.finishOp i stInvalid (invalidAt 0x10)
    else match s.vread env 4 o.fn a.image (16 + 4 * n) (descTags o.desc) with
      | (s, .error f) => s.opFail i f false false
      | (s, .ok bs) =>
        match planOf bs n with
        | none => s.finishOp i stInvalid (invalidAt 0x10)
        | some p =>
          ({ s with net := { s.net with plans := s.net.plans.put (2 * a.port + a.ver) p } }.setB (R.NET_PORT_PLAN_STATUS a.port) (2 + a.ver) true).finishOp
            i stOK n

/-- TABLE_XFER, R412. -/
def execTableXfer (op : Nat) (hv : HostView) (s : State) : Res :=
  .next (match s.runnable op [0x74] with
    | none => s
    | some o =>
      let a := tableArgs o.desc
      if !s.coreUp coreTransport then s
      else if o.fn ≠ 0 then s.finishOp op stDenied 0
      else match s.tableBad a with
        | some r => s.finishOp op stInvalid r
        | none =>
          let s := s.traceStart o a.image
          if a.table = tablePlan then
            if a.store then
              let p := (s.net.plans.look (2 * a.port + a.ver)).getD ⟨0, 0, []⟩
              s.tableStore hv op o a.image p.entries.length p.image
            else s.planLoad hv op o a
          else if a.count = 0 then s.finishOp op stOK 0
          else if a.store then s.tableStore hv op o a.image a.count (s.tableImage a.table a.ver a.first a.count)
          else match s.vread hv 4 o.fn a.image ((tableShape a.table).2 * a.count) (descTags o.desc) with
            | (s, .error f) => s.opFail op f false false
            | (s, .ok bs) => (s.loadTable a.table a.ver a.first a.count bs).finishOp op stOK a.count)

/-- The entries of a version, under keys from 0. -/
def versionOf (t : Tab Nat) (size ver : Nat) : Tab Nat :=
  t.filterMap (fun e => if e.1 / size = ver then some (e.1 % size, e.2) else none)

/-- R413: save one table as it stands. -/
def State.saveTable (s : State) (d : Nat × Nat) : State :=
  let fl := s.flash
  if d.1 = tablePlan then
    match s.plan? d.2 with
    | some p => { s with flash := { fl with plan := fl.plan.put d.2 p } }
    | none => s
  else if d.1 = tableFn then { s with flash := { fl with fnAddr := s.net.fnAddr } }
  else { s with flash := { fl with route := versionOf s.crw.route 32768 s.sendEpoch, part := versionOf s.crw.part 256 s.sendEpoch } }

/-- TABLE_SAVE, R413, R418: the saves that are due; they wait for the transport control core and for core 0, which writes flash. -/
def execTableSave (s : State) : Res :=
  .next (
    if s.coreUp coreTransport && s.coreUp 0 then
      { s.net.saveDue.foldl State.saveTable s with net := { s.net with saveDue := [] } }
    else s)

end Sys2Proof.Machine
end

