-- ==== Sys2Proof/Machine/Parity.lean ====
section
/-! DEFINITION. Sys2Proof/Machine/Parity.lean: PARITY_CTL (R461 to R463), the loss of a member (R464, R465), the parity registers (R467, R468), and the
handling of DRAM and SRAM errors (R451, R452). -/

namespace Sys2Proof.Machine
open Sys2Proof

/-! ## PARITY_CTL -/

def parAction (d : Desc) : Nat := dfld d 0x18 0 3

/-- The binding of the header that a PARITY_CTL names. -/
def State.opBinding (s : State) (o : Op) : Option (Nat × Binding) :=
  match s.headerPa o with
  | none => none
  | some p => s.par.bindings.find? (fun e => e.2.fn = o.fn && e.2.st.pa = p)

/-- A PARITY_CTL of an ACTION, with its binding, once its body is well formed and its header bound. -/
def State.parityCtl (s : State) (op act : Nat) (f : State → Op → Nat × Binding → State) : State :=
  match s.runnable op [0x75] with
  | none => s
  | some o =>
    let a := dQuad o.desc 0x10
    if parAction o.desc ≠ act then (if act = 0 && 4 < parAction o.desc then s.finishOp op stInvalid (invalidAt 0x18) else s)
    else match firstBad [(farAddr a || a % 256 ≠ 0, 0x10)] with
      | some r => s.finishOp op stInvalid r
      | none =>
        if isOrdered o.desc && s.orderWait op o then s
        else match s.opBinding o with
          | none => s.finishOp op stInvalid 0
          | some b => let t := s.startCtx op o; f t.1 t.2 b

/-- The current bytes of every bound granule, as parts. -/
def boundParts (env : Env) (fn i : Nat) (x : Stretch) : CtxM (List Part) := do
  let gs := (List.range x.blockGranules).map (x.blockGranule + ·) ++ (if x.landmarks then (List.range x.markGranules).map (x.landmarkGranule + ·) else [])
  gs.mapM (fun g => do
    match x.granuleRange g with
    | none => pure ⟨i, 0, g, 0, []⟩
    | some (mark, o, n) =>
      let bs ← regionRead env fn x mark o n
      pure ⟨i, 0, g, 0, bs⟩)

/-- SYNC and UNBIND: send the bound granules; RESULT counts those sent. -/
def State.syncRun (s : State) (env : HostView) (i ending : Nat) (o : Op) (b : Binding) : State :=
  s.runCtx i o (do
    let ps ← boundParts ⟨env, descTags o.desc⟩ o.fn i b.st
    pure (fun s =>
      let sent := (ps.filter (fun p => !s.memberLost (holderOf s.parN s.member p.granule))).length
      s.startParts i stOK sent ending ps))

/-- PARITY_SYNC, R462. It also ends a PARITY_CTL whose ACTION is none of R461. -/
def execParitySync (op : Nat) (hv : HostView) (s : State) : Res :=
  .next (s.parityCtl op 0 (fun s o b => if o.progress ≠ 0 then s else s.syncRun hv op 0 o b.2))

/-- PARITY_UNBIND, R462: as SYNC; then the binding goes and the header's PARITY is 0. -/
def execParityUnbind (op : Nat) (hv : HostView) (s : State) : Res :=
  .next (s.parityCtl op 3 (fun s o b => if o.progress ≠ 0 then s else s.syncRun hv op 1 o b.2))

/-- Ask for lost granules, until the operation has ended. -/
def State.askFor (s : State) (i k : Nat) (gs : List Nat) : State :=
  gs.foldl (fun s g => if s.opDone i then s else s.startRebuild i k g true) s

/-- The lost granules of the open block of each layer. -/
def openGranules (x : Stretch) (es : List Layer) : List Nat :=
  (es.zipIdx).flatMap (fun e =>
    if e.1.tokens % 64 = 0 then []
    else (List.range x.kvHeads).flatMap (fun h =>
      let o := x.blockOff e.2 (e.1.tokens / 64) h
      let a := x.lostGranule false o
      (List.range (x.lostGranule false (o + x.blockSize - 1) - a + 1)).map (a + ·)))

/-- R462: rebuild the tail records of every layer. -/
def tailWrites (env : Env) (fn : Nat) (x : Stretch) (es : List Layer) : CtxM Writes :=
  (es.zipIdx).mapM (fun e => do
    let t ← rebuildTail env fn x e.2 e.1.tokens
    pure (e.1.tail, t))

/-- RECOVER_LANDMARKS, R462, R463: the granules it needs are asked for; once all are there the tail records are rebuilt. -/
def execRecoverLandmarks (op : Nat) (hv : HostView) (s : State) : Res :=
  .next (s.parityCtl op 1 (fun s o b =>
    if o.progress ≠ 0 then s
    else s.runCtx op o (do
      let env : Env := ⟨hv, descTags o.desc⟩
      let x := b.2.st
      let es ← (List.range x.layers).mapM (fun l => layerEntry env o.fn x l false)
      let need := if x.recovery then
          (x.covered.filter (fun g => x.lostMark g) ++ openGranules x es).filter (fun g => g ∉ b.2.rebuilt)
        else []
      if need.isEmpty then do
        let ws ← tailWrites env o.fn x es
        commitWrites env o.fn ws
        pure (fun s => s.startParts op stOK 0 0 [])
      else pure (fun s => s.askFor op b.1 need.eraseDups))))

/-- The block granules of a piece not yet rebuilt. -/
def Binding.blocksLeft (b : Binding) : List Nat :=
  if b.st.recovery then b.st.covered.filter (fun g => !b.st.lostMark g && g ∉ b.rebuilt) else []

/-- RECOVER_BLOCKS, R462: one granule at a time in the background; CTX_PAR_REBUILD_RATE 0 pauses it. -/
def execRecoverBlocks (op : Nat) (s : State) : Res :=
  .next (s.parityCtl op 2 (fun s _ b =>
    if s.getF R.CTX_PAR_REBUILD_RATE 0 16 = 0 then s else s.askFor op b.1 (b.2.blocksLeft.take 1)))

/-- RECOVERY_DONE, R462, R469: no block granule is left: RECOVERY = 0 in the header, and the event to the piece's owner. -/
def execRecoveryDone (op : Nat) (hv : HostView) (s : State) : Res :=
  .next (s.parityCtl op 2 (fun s o b =>
    if !b.2.blocksLeft.isEmpty then s
    else
      let va := dQuad o.desc 0x10 + 0x48
      match s.vread hv 0 o.fn va 4 (descTags o.desc) with
      | (s, .error f) => s.opFail op f
      | (s, .ok bs) =>
        match s.vwrite hv 0 o.fn va (leBytes 4 (putBits (leNat bs) 3 1 0)) (descTags o.desc) with
        | (s, some f) => s.opFail op f true
        | (s, none) =>
          let s := { s with par := { s.par with bindings := s.par.bindings.put b.1 { b.2 with st := { b.2.st with recovery := false } } } }
          (s.noteParity.event o.fn pCTX 0x0021 0 clsDevice 0 o.fn 0 (dQuad o.desc 0x10)).endCtx op stOK 0))

/-! ## RESCAN -/

def State.setRescan (s : State) (x : Option Rescan) : State := { s with par := { s.par with rescan := x } }.noteParity

/-- The members whose images a RESCAN of this member gathers. -/
def State.rescanFrom (s : State) : List Nat := (List.range s.parN).filter (fun m => m ≠ s.member && !s.memberLost m)

/-- One step of a RESCAN: lock the next line, or write a line whose images have come. -/
def State.rescanStep (s : State) (hv : HostView) (i : Nat) (x : Rescan) : State :=
  if x.count ≤ x.done then s
  else match s.par.stages.find? (fun e => e.2.key.isNone) with
    | none =>
      if s.getF R.CTX_PAR_REBUILD_RATE 0 16 = 0 || s.lineLocked (x.first + x.done) then s else s.lockLine none (x.first + x.done) s.rescanFrom
    | some (j, y) =>
      if !y.waits.isEmpty then s
      else
        let s := { s with par := { s.par with stages := s.par.stages.del j } }
        if y.bad then s
        else match s.vwrite hv 3 0 (s.parBase + 131072 * y.line) y.acc ((s.opTags i).getD noTags) with
          | (s, some f) => let s := s.opFail i f true; if s.opDone i then s.setRescan none else s
          | (s, none) => (s.setRescan (some { x with done := x.done + 1 })).setF R.CTX_PAR_RESCAN_POS 0 23 (x.done + 1)

/-- RESCAN, R461, R462. One runs at a time. -/
def execRescan (op : Nat) (hv : HostView) (s : State) : Res :=
  .next (match s.runnable op [0x75] with
    | none => s
    | some o =>
      if parAction o.desc ≠ 4 then s
      else
        let first := dWord o.desc 0x1C
        let n := dWord o.desc 0x20
        match s.par.rescan with
        | some x => if x.op = op then s.rescanStep hv op x else s
        | none =>
          if o.fn ≠ 0 then s.finishOp op stDenied 0
          else if n = 0 then s.finishOp op stOK 0
          else if s.parLines < first + n then s.finishOp op stInvalid (invalidAt 0x20)
          else
            let t := s.startCtx op o
            let x : Rescan := ⟨op, first, n, 0, t.1.getF R.CTX_PAR_LOST 0 8⟩
            ((t.1.setRescan (some x)).setF R.CTX_PAR_RESCAN_POS 0 23 0).rescanStep hv op x)

/-- RESCAN_DONE, R462, R469: the last line is written. -/
def execRescanDone (s : State) : Res :=
  .next (match s.par.rescan with
    | none => s
    | some x =>
      if x.done < x.count then s
      else
        let s := if x.first = 0 && x.count = s.parLines then s.setF R.CTX_PAR_STATE 8 8 (s.getF R.CTX_PAR_STATE 8 8 ||| x.lost) else s
        ((s.setRescan none).event 0 pCTX 0x0022 0 clsDevice 0 0 x.count 0).finishOp x.op stOK 0)

/-! ## Loss of a member -/

/-- The device IDs behind the links that are UP (R416). -/
def State.peersUp (s : State) : List Nat :=
  s.linksUp.filterMap (fun l => if s.getB (R.CRW_LINK_PEER l) 15 then some (s.getF (R.CRW_LINK_PEER l) 0 12) else none)

/-- MEMBER_LOSS_DETECT, R464: for CTX_PAR_LOSS_MS no UP link to the member, no packet from it, and no healthy path to it. -/
def execMemberLossDetect (member : Nat) (s : State) : Res :=
  .next (
    let dev := s.memberDev member
    if member < s.parN && member ≠ s.member && dev ∉ s.peersUp && (s.healthyPaths dev).isEmpty then s.declareLost member 0 else s)

/-- A write of CTX_PAR_DECLARE (R464, R465). WITHDRAW stays until a reset. -/
def State.parDeclare (s : State) (v : Word) : State :=
  let s := (List.range 8).foldl (fun s m => if bit v m then s.declareLost m 1 else s) s
  if bit v 8 then { s with par := { s.par with withdrawn := true } } else s

/-- PAR_DECLARE, R464. -/
def execParDeclare (v : Word) (s : State) : Res := .next (s.parDeclare v)

/-- PAR_WITHDRAW, R465. -/
def execParWithdraw (v : Word) (s : State) : Res := .next (s.parDeclare v)

/-- A write of CTX_PAR_LOST (R467): W1C, and the same bits of RESCANNED are cleared. -/
def State.parLostClear (s : State) (v : Word) : State :=
  let m := v &&& 0xFF
  let s := s.wr R.CTX_PAR_LOST (s.rd R.CTX_PAR_LOST &&& ~~~m)
  (s.wr R.CTX_PAR_STATE (s.rd R.CTX_PAR_STATE &&& ~~~(m <<< 8))).noteParity

/-- PAR_LOST_CLEAR, R467. -/
def execParLostClear (v : Word) (s : State) : Res := .next (s.parLostClear v)

/-! ## Registers (R468) -/

/-- Every page of a range is a DEVICE page of a function. -/
def State.devicePages (s : State) (fn va n : Nat) : Bool :=
  n = 0 || (List.range ((va + n - 1) / mib32 - va / mib32 + 1)).all (fun i =>
    match s.walk fn ((va / mib32 + i) * mib32) with | some (_, l) => !l.host | none => false)

/-- A write of CTX_PAR_CTRL. -/
def State.parCtrlWrite (s : State) (v : Word) : State :=
  let on := s.parOn
  let en := if on then bit v 0 || !s.par.bindings.isEmpty else bit v 0 && s.devicePages 0 s.parBase (131072 * s.parLines)
  let w := (v &&& 0xFFFF7F00)
  let w := if on then setFld w 8 4 (s.getF R.CTX_PAR_CTRL 8 4) else w
  (s.wr R.CTX_PAR_CTRL (setBit w 0 en)).noteParity

/-- A write of one of CTX_PAR_CTRL, BASE_LO, BASE_HI and LINES, by number from 0. -/
def State.parRegWrite (s : State) (reg : Nat) (v : Word) : State :=
  match reg with
  | 0 => s.parCtrlWrite v
  | 1 => if s.parOn then s else s.wr R.CTX_PAR_BASE_LO (v &&& 0xFFFE0000)
  | 2 => if s.parOn then s else s.setPair R.CTX_PAR_BASE_LO R.CTX_PAR_BASE_HI v
  | 3 => if s.parOn then s else s.wr R.CTX_PAR_LINES (v &&& 0x7FFFFF)
  | _ => s

/-- PAR_CTRL_WRITE, R468. -/
def execParCtrlWrite (reg : Nat) (v : Word) (s : State) : Res := .next (s.parRegWrite reg v)

/-! ## DRAM and SRAM errors -/

/-- A burst that R319 has reported: three corrections within 24 hours. -/
def State.repeats (s : State) (burst : Nat) : Bool :=
  ((s.msys.ceTrack.look (chanOf (64 * burst))).getD []).any (fun e => e.1 = burst && 3 ≤ e.2.length)

/-- BURST_REWRITE, R452: the power and thermal core reads the burst and rewrites it with its corrected data, in the class FIRMWARE (R327). -/
def execBurstRewrite (burst : Nat) (s : State) : Res :=
  .next (
    if s.repeats burst && s.coreUp 4 && !s.badBurst burst && !s.idle.selfRefresh then
      let nn := chanOf (64 * burst) / 4
      let s := (((s.checkLookup burst true).served 5 128).count 8 nn 0x01 0 none 1).count 8 nn 0x02 0 none 1
      s.setDrams (64 * burst) (s.drams (64 * burst) 64)
    else s)

/-- The holder's code of R547, and its page. -/
def sramCode : SramWord → Nat
  | .tile _ _ => 0 | .cluster _ _ => 1 | .reduction _ => 2 | .tlb _ => 3 | .faultQueue _ => 4 | .table _ => 5 | .keySlot _ => 6 | .firmware => 7 | .other _ => 8

def sramPage : SramWord → Nat
  | .tile nn _ => clsPage nn | .cluster nn _ => clsPage nn | .reduction _ => pHEA | .tlb _ => pTRN | .faultQueue _ => pTRN
  | .table net => if net then pNET else pCRW | .keySlot _ => pSEC | .firmware => pFWC | .other p => p

/-- R451: what an uncorrectable word does. A table entry is reloaded from its copy, so nothing of it changes. -/
def State.sramBad (s : State) : SramWord → State
  | .tile _ i => s.endCtx i stCheck 0
  | .cluster _ i => s.endCtx i stCheck 0
  | .reduction g => s.stopHeat g stCheck 0 0 true
  | .tlb i => { s with trn := { s.trn with tlb := s.trn.tlb.eraseIdx i } }
  | .faultQueue i => (match s.trn.faults[i]? with | some e => s.releaseFault e | none => s)
  | .keySlot i => if s.slotState i = 1 then s.eraseSlot i 3 else s
  | _ => s

/-- SRAM_PATROL, R451, R547: an SRAM's check finds a word wrong, on the patrol or at its use. -/
def execSramPatrol (w : SramWord) (uncorrectable : Bool) (s : State) : Res :=
  .next (if uncorrectable then (s.uncodedErr (sramPage w) 0 0 clsMemory).sramBad w else s.bump (R.CNT_SRAM_CE_COUNT (sramCode w)))

end Sys2Proof.Machine
end

