-- ==== Sys2Proof/Machine/Mem.lean ====
section
/-! DEFINITION. Sys2Proof/Machine/Mem.lean: the memory controllers' own work: scrubbing (R321, R322), oscillators, retraining and refresh (R324 to R326),
arbitration (R328), the MEM registers with behaviour of their own (R333, R334). -/

namespace Sys2Proof.Machine
open Sys2Proof

/-! ## Scrubbing -/

/-- Bursts of the data region on one channel. -/
def scrubBursts : Nat := dramBytes / 80 / 64

/-- The bursts, one on each channel, at the n-th place of a pass. -/
def scrubAt (n : Nat) : List Nat := (List.range 80).map (fun r => (n / 64 * 80 + r) * 64 + n % 64)

/-- R321: the scrubber reads one burst: a single-bit error is corrected, an uncorrectable burst is marked, logged with code 0x03 and raised. -/
def State.scrubBurst (s : State) (env : HostView) (burst : Nat) : State :=
  let nn := chanOf (64 * burst) / 4
  if s.chanState (chanOf (64 * burst)) = 5 || s.poisoned burst then s
  else
    let s := (s.served 6 64).count 8 nn 0x01 0 none 1
    if burst ∈ env.ue then
      let d := s.memDetail (chanOf (64 * burst))
      (d.2.logEvent 0 (memPage nn) 0x03 clsMemory nn 0 noTags (64 * burst) d.1).markPoison burst
    else if burst ∈ env.ce then (s.ceRead burst).bump R.MEM00_SCRUB_CE_COUNT
    else s

/-- SCRUB_STEP, R321, R322, R335: the next burst of every channel. -/
def execScrubStep (hv : HostView) (s : State) : Res :=
  .next (
    if s.getF R.MEM00_SCRUB_CTRL 0 8 = 0 || s.idle.selfRefresh then s
    else
      let n := s.msys.scrubPos
      let s := (scrubAt n).foldl (fun s b => s.scrubBurst hv b) s
      if n + 1 < scrubBursts then
        { s with msys := { s.msys with scrubPos := n + 1 } }.setF R.MEM00_SCRUB_POS 0 10 ((n + 1) * 1000 / scrubBursts)
      else
        let s := { s with msys := { s.msys with scrubPos := 0 } }.setF R.MEM00_SCRUB_POS 0 10 0
        (s.setF R.MEM00_SCRUB_POS 16 16 (s.getF R.MEM00_SCRUB_POS 16 16 + 1)).raiseInt (memPage 0) 5)

/-- SCRUB_WAKE, R322: Z2 has lasted MAX_GAP_H hours. -/
def execScrubWake (s : State) : Res :=
  .next (if s.idleState = 2 && s.getF R.MEM00_SCRUB_CTRL 8 8 ≠ 0 && s.coreUp 4 then s.wake .firmware else s)

/-! ## Training and retraining -/

/-- OSCILLATOR_READ, R318, R324: the channel adjusts its delays; `linkErrors`: what its link ECC has corrected since the last read. -/
def execOscillatorRead (chan linkErrors : Nat) (s : State) : Res :=
  .next (if s.chanState chan = 2 then s.bump (R.MEM_LINK_ECC_COUNT (chan / 4)) linkErrors else s)

def insertNat (n : Nat) : List Nat → List Nat
  | [] => [n]
  | k :: r => if n < k then n :: k :: r else if n = k then k :: r else k :: insertNat n r

/-- A channel falls due for a full retrain: the lower device channel first (R337). -/
def State.retrainDue (s : State) (c : Nat) : State :=
  if s.chanState c = 5 || s.chanState c = 4 then s else { s with msys := { s.msys with retrainDue := insertNat c s.msys.retrainDue } }

/-- R324, R330: one channel retrains at a time, and none in self-refresh. -/
def State.retrainNext (s : State) : State :=
  match s.msys.retraining, s.msys.retrainDue.find? (fun c => s.chanState c = 2) with
  | none, some c => { s with msys := { s.msys with retrainDue := s.msys.retrainDue.erase c, retraining := some c } }.setChan c 4
  | _, _ => s

/-- CHANNEL_RETRAIN, R324: a channel has fallen due. -/
def execChannelRetrain (chan : Nat) (s : State) : Res := .next (if chan < 80 then (s.retrainDue chan).retrainNext else s)

/-- R333: a write of MEMnn_RETRAIN. -/
def State.retrainWrite (s : State) (nn : Nat) (v : Word) : State :=
  ((List.range 4).foldl (fun s c => if bit v c && s.chanState (4 * nn + c) ≠ 3 then s.retrainDue (4 * nn + c) else s) s).retrainNext

/-- MEM_RETRAIN_REQUEST, R333. -/
def execMemRetrainRequest (nn : Nat) (v : Word) (s : State) : Res := .next (if nn < 20 then s.retrainWrite nn v else s)

/-- R325: a channel whose training fails. -/
def State.channelFails (s : State) (c : Nat) : State :=
  let nn := c / 4
  let s := { s.setChan c 5 with msys := { s.msys with checks := s.msys.checks.del c, retrainDue := s.msys.retrainDue.erase c } }
  (s.raiseInt (memPage nn) 3).logEvent 0 (memPage nn) 0x05 clsMemory nn 0 noTags 0 (c % 4)

/-- RETRAIN_DONE, R324, R325: the retrain ends after `us` µs. -/
def execRetrainDone (ok : Bool) (us : Nat) (s : State) : Res :=
  .next (match s.msys.retraining with
    | none => s
    | some c =>
      let nn := c / 4
      let s := { s with msys := { s.msys with retraining := none, trainedAt := s.msys.trainedAt.put nn (s.getF (R.MEM_TEMP nn) 0 8) } }
      let s := (s.bump (R.MEM_RETRAIN_COUNT nn)).wr (R.MEM_TRAIN_TIME nn) (word us)
      let s := if ok then s.setChan c 2 else s.channelFails c
      (s.intEvent (memPage nn) 2 clsMemory nn (c % 4) 0).retrainNext)

/-! ## Temperature and refresh -/

/-- R326, R336: a package reports its temperature. Above 85 °C refresh runs at twice its base rate, and HOT is set as that begins. -/
def State.packageTemp (s : State) (nn temp : Nat) : State :=
  let was := s.getB (R.MEM_TEMP nn) 8
  let s := (s.setF (R.MEM_TEMP nn) 0 8 temp).setB (R.MEM_TEMP nn) 8 (85 < temp)
  if 85 < temp && !was then s.intEvent (memPage nn) 4 clsMemory nn 0 0 else s

/-- REFRESH, R326: refresh takes the package's channels; its interval follows the package's own report. Retraining falls due 20 °C from the last (R324). -/
def execRefresh (nn temp : Nat) (s : State) : Res :=
  .next (
    if 20 ≤ nn || s.idle.selfRefresh then s
    else
      let s := s.packageTemp nn temp
      let was := (s.msys.trainedAt.look nn).getD temp
      if was + 20 ≤ temp || temp + 20 ≤ was then
        ((List.range 4).foldl (fun s c => if s.chanState (4 * nn + c) = 2 then s.retrainDue (4 * nn + c) else s) s).retrainNext
      else s)

/-- MEM_TEMP_HOT, R336. In self-refresh the package adjusts itself (R337). -/
def execMemTempHot (nn temp : Nat) (s : State) : Res :=
  .next (if nn < 20 && 85 < temp && !s.idle.selfRefresh then s.packageTemp nn temp else s)

/-- MEM_TEMP_NORMAL, R326. -/
def execMemTempNormal (nn temp : Nat) (s : State) : Res := .next (if nn < 20 && temp ≤ 85 then s.packageTemp nn temp else s)

/-- SELF_REFRESH_EXIT, R130, R132, R330: the channels are active again, the arbiter serves requests, what the exit held is let go, and a retrain that fell due
runs. -/
def execSelfRefreshExit (s : State) : Res :=
  .next (
    if !(s.idle.selfRefresh && s.exiting) then s
    else
      let s := { s with idle := { s.idle with selfRefresh := false } }
      let s := (List.range 80).foldl (fun s c => if s.chanState c = 3 then s.setChan c 2 else s) s
      let s := s.net.pausing.foldl (fun s k => s.pauseFall (k / 8) (k % 8)) s
      let s := s.crw.xoffSent.foldl (fun s k => s.xoffFall (k / 8) (k % 8)) s
      s.retrainNext)

/-! ## Arbitration (R327, R328) -/

/-- The weight of a class. -/
def State.arbWeight (s : State) (c : Nat) : Nat := if c < 4 then s.getF R.MEM00_ARB_WEIGHT0 (8 * c) 8 else s.getF R.MEM00_ARB_WEIGHT1 (8 * (c - 4)) 8

/-- R328, R488: the bytes a class gains in a round: 64 for each unit of weight. A throttled package serves TILE, DMA and REDUCTION by its fraction, in eighths. -/
def State.arbQuantum (s : State) (ch c : Nat) : Nat := if c < 3 then 8 * ((s.pwr.dramShare.look (ch / 4)).getD 8) * s.arbWeight c else 64 * s.arbWeight c

def State.arbDeficit (s : State) (ch c : Nat) : Nat := (s.msys.deficit.look (8 * ch + c)).getD 0

def State.setDeficit (s : State) (ch c n : Nat) : State := { s with msys := { s.msys with deficit := s.msys.deficit.setD (fun _ => 0) (8 * ch + c) n } }

/-- One turn of a class: its requests, as sizes, while its deficit covers the oldest. -/
def State.arbServe (s : State) (ch c : Nat) : Nat → List Nat → State
  | _, [] => s.setDeficit ch c 0
  | d, n :: r => if n ≤ d then (s.emit (.memServe ch c)).arbServe ch c (d - n) r else s.setDeficit ch c d

/-- One round of deficit round robin over the requests that wait at a channel, as (class, bytes), oldest first. A class of weight 0 takes part only when no
other class waits. -/
def State.arbRound (s : State) (ch : Nat) (waiting : List (Nat × Nat)) : State :=
  let live := (List.range 7).filter (fun c => waiting.any (fun w => w.1 = c))
  let some := live.any (fun c => s.arbWeight c ≠ 0)
  (List.range 7).foldl (fun s c =>
    if c ∉ live then s.setDeficit ch c 0
    else
      let q := (waiting.filter (fun w => w.1 = c)).map Prod.snd
      if s.arbWeight c ≠ 0 then s.arbServe ch c (s.arbDeficit ch c + s.arbQuantum ch c) q
      else if some then s
      else q.foldl (fun s _ => s.emit (.memServe ch c)) s) s

/-- ARB_AGE_EXPIRY, R328: the oldest of the requests that wait at a channel has waited MEM00_ARB_AGE and is served; the channel then goes on with its round. -/
def execArbAgeExpiry (chan : Nat) (waiting : List (Nat × Nat)) (s : State) : Res :=
  .next (match waiting with
    | [] => s
    | w :: r => (s.emit (.memServe chan w.1)).arbRound chan r)

/-- R334: a write of MEM00_CLASS_SEL clears MEM00_CLASS_BYTES. -/
def State.classSelWrite (s : State) (v : Word) : State :=
  { (s.wr R.MEM00_CLASS_SEL (v &&& 7)).wr R.MEM00_CLASS_BYTES 0 with msys := { s.msys with classRem := 0 } }

/-- CLASS_SEL_WRITE, R334. -/
def execClassSelWrite (v : Word) (s : State) : Res := .next (s.classSelWrite v)

end Sys2Proof.Machine
end

