-- ==== Sys2Proof/Machine/Reset.lean ====
section
/-! DEFINITION. Sys2Proof/Machine/Reset.lean: host link resets (R103, R104), module warm resets (R125 to R127), and the end of a write-back of the coherent
cache (R83). -/

namespace Sys2Proof.Machine
open Sys2Proof

/-! ## Event H -/

/-- Whether a page is mapped HOST. -/
def State.hostPage? (s : State) (fn va : Nat) : Bool := match s.walk fn va with | some (_, l) => l.host | none => false

/-- R103, R126, R183: the fault queue at an event H. Entries for host pages end: their accesses are tried again and then wait for the link. A page request that is
out is asked again. -/
def State.faultsH (s : State) : State :=
  let s := s.trn.faults.foldl (fun s e =>
    if s.hostPage? e.fn e.va then
      let s := match s.leafAt e.fn e.gib e.page with
        | some l => if e.st = FaultSt.migrating then s.putLeaf e.fn e.gib e.page { l with busy := false } else s
        | none => s
      s.releaseFault e
    else if e.st = FaultSt.requested then s.setFaultSt e .queued
    else s) s
  let held := s.trn.stalls.filter (fun x => s.hostPage? x.fn x.va)
  held.foldl (fun s x => s.releaseWaiter x.waiter) (s.stallsEnd (fun x => x ∈ held))

/-- R103, R161: every enabled ring and completion queue of a function enters HOST_LOST; nothing fetched stays, no chain is open, and no entry waits for space. -/
def State.hostLost (s : State) (fn : Nat) : State :=
  (List.range 16).foldl (fun s r =>
    if r = 0 then s
    else
      let ring := s.getB (R.RNG_RING_CTRL fn r) 0
      let cq := s.getB (R.RNG_CQ_CTRL fn r) 0
      let s := if ring then ((s.closeChain fn r).emptyQueue fn r).moveRing fn r 4 else s
      let s := if cq then (s.cqStallEnd fn r none).setCqState fn r 2 else s
      if ring || cq then s.raiseInt (ringPage fn r) 2 else s) s

/-- R103: a Pavilion page at an event H: its busy slots are discarded unsubmitted; what it has submitted will have no completion entry. -/
def State.pavLost (s : State) (fn : Nat) : State :=
  let q := s.queue (.pav fn)
  let s := match q.chain with | some c => s.cutChain c stInvalid | none => s
  let s := s.withoutEntries (.pav fn)
  if q.cache.isEmpty && q.chain.isNone then s else s.putQueue (.pav fn) { q with cache := [], chain := none, discarding := false }

/-- R103: the descriptors that trigger queues have had admitted will have no completion entry. -/
def State.tqsLost (s : State) : State := s.tqs.foldl (fun s e => s.withoutEntries (.tq e.1)) s

/-- What completes with a write-back of the coherent cache (R83), but for a warm reset. -/
def State.ccAction (s : State) : CcAction → State
  | .disable => s.setB R.HIF_CC_CTRL 0 false
  | .wbInv => s.setB R.HIF_CC_CTRL 1 false
  | .idle | .warm => s

/-! ## Warm reset -/

/-- R126: what a power-on or warm reset leaves of the die: everything at reset, but for flash, the always-on domain and what the model itself counts. -/
def State.dieCleared (s : State) : State :=
  { State.reset with pending := s.pending, out := s.out, freeCtr := s.freeCtr, uptime := s.uptime, hw := s.hw, flash := s.flash }

/-- R60: an update cut off leaves the inactive bank marked invalid. -/
def Bank.cutOff (b : Bank) : Bank := if b.complete then b else ⟨[], false, false, none, false⟩

def State.updateCut (s : State) : State := { s with flash := { s.flash with banks := s.flash.banks.mapv (fun _ b => b.cutOff) } }

/-- R125, R126: the die is held in reset. Registers go by their Kept columns; DRAM is in self-refresh with all it holds, its page tables, parity bindings, staged
crash dumps and Belvedere snapshots among it; BUSY of no page outlives the work it stood for. -/
def State.warmHeld (s : State) (cause : ResetCause) : State :=
  let s := s.ledsOff
  let t := if s.dbg.crewDriven then s.emit (.pin "CREW_FREEZE#" true) else s
  let z := t.dieCleared.updateCut
  { z with
    regs := s.regs.keep (fun k _ => keptOn evW k), mem := s.mem, dramInit := s.dramInit,
    msys := { MemSys.reset with poison := s.msys.poison },
    trn := { Trn.reset with pt := s.trn.pt.mapv (fun _ e => putBits e 7 1 0), roots := s.trn.roots, nextTable := s.trn.nextTable },
    par := { Par.reset with bindings := s.par.bindings },
    fwc := { Fwc.reset with staged := s.fwc.staged },
    dbg := { Dbg.reset with slots := s.dbg.slots },
    idle := { Idle.reset with selfRefresh := s.dramInit },
    boot := { Boot.reset with warm := true },
    hw := { s.hw with warm := some (cause, .held), mctpHeld := [] } }

/-- R125, R127: a warm reset starts. With the link up the coherent cache is written back first. While one is in progress only MOD_RESET# changes the cause it
will show. -/
def State.warmReset (s : State) (cause : ResetCause) : State :=
  if s.hw.power ≠ .on || s.hw.dieHeld then s
  else match s.hw.warm with
    | some (_, ph) => if cause = .pin then { s with hw := { s.hw with warm := some (.pin, ph) } } else s
    | none =>
      if s.linkUp then { s with hw := { s.hw with warm := some (cause, .writeBack) } }.ccStart .warm
      else s.warmHeld cause

/-- R120: the bit of a cause in GLB_RESET_CAUSE. -/
def resetBit : ResetCause → Nat
  | .powerOn => 0 | .pin => 1 | .software => 2 | .mctp => 3 | .watchdog => 4

/-- R120, R125: the die's reset is released, and Boathouse boots. -/
def State.warmRelease (s : State) : State :=
  match s.hw.warm with
  | some (cause, .held) =>
    { s with hw := { s.hw with warm := none } }.wr R.GLB_RESET_CAUSE (word (2 ^ resetBit cause))
  | _ => s

/-- What waited for a write-back of the coherent cache completes (R83, R125). -/
def State.ccFinish (s : State) : State :=
  let acts := s.hif.ccActions
  let s := acts.foldl (fun s a => s.ccAction a) { s with hif := { s.hif with ccActions := [] } }
  match s.hw.warm with
  | some (cause, .writeBack) => if CcAction.warm ∈ acts then s.warmHeld cause else s
  | _ => s

/-- CC_WRITEBACK_DONE, R83. -/
def execCcWritebackDone (s : State) : Res := .next (if s.hif.ccActions.isEmpty then s else s.ccFlush.ccFinish)

/-- The dirty lines of the coherent cache. -/
def State.dirtyLines (s : State) : Nat := (s.hif.lines.keep (fun _ l => l.dirty)).length

/-- R104: a write-back that an event H cuts off has written some of the dirty lines; how many is a free value, and that they went in ascending order is a DESIGN CHOICE
(log entry 109). -/
def State.ccCut (s : State) : State :=
  if s.hif.ccActions.isEmpty then s
  else
    let f := s.free
    let dirty := f.2.hif.lines.keep (fun _ l => l.dirty)
    (dirty.take (f.1 % (dirty.length + 1))).foldl (fun s e =>
      let s := s.ccWriteBack e.2.fn (e.1 % 2 ^ 51) e.2
      { s with hif := { s.hif with lines := s.hif.lines.del e.1 } }) f.2

/-- R103, R104: an event H. `discarded`: the host-memory writes that were queued in HIF or in flight on the link; in Z1 and Z2 there are none (R104). R104 does not
say whether the action that waits for a write-back under way (R83) then completes: it does here (DESIGN CHOICE, log entry 109). -/
def State.eventH (s : State) (discarded : Nat) : State :=
  if !s.linkUp then s
  else
    let s := s.ccCut
    let lost := if s.idleState = 0 then discarded + s.dirtyLines else 0
    let s := (s.bump R.HIF_RETRAIN_COUNT).bump R.HIF_DISCARD_COUNT lost
    let s := s.regEvent evH
    let tlb := s.trn.tlb.filter (fun e => match e.target with | .device _ => true | _ => false)
    let wrote := s.hif.writesSinceProbe || !s.hif.probes.isEmpty
    let s := { s with
      hif := { s.hif with lines := [], msix := [], writesSinceProbe := wrote, probes := [], training := false },
      trn := { s.trn with numVfs := 0, tlb := tlb },
      sec := { s.sec with sessions := s.sec.sessions.filter (fun x => !x.doe), waitSpdm := s.sec.waitSpdm.filter (fun x => !x.1) } }
    let s := ((List.range 64).foldl (fun s f => (s.hostLost f).pavLost f) s).tqsLost
    let s := (s.faultsH.trace 2 0 0x07 0 none 0 1).linkEvent 0
    s.ccFinish

/-- The link trains when PERST# is high and the internal boot stage has ended (R54, R564). -/
def State.startTraining (s : State) : State :=
  if !s.hw.perstLow && s.boot.internal && s.dieUp && !s.linkUp then { s with hif := { s.hif with training := true } } else s

/-! ## Meanings -/

/-- HOST_LINK_RESET, R103: the data link layer goes down for a cause other than PERST#; the link then trains again. -/
def execHostLinkReset (discarded : Nat) (s : State) : Res := .next (if s.linkUp then (s.eventH discarded).startTraining else s)

/-- PERST_ASSERT, R38, R55. -/
def execPerstAssert (discarded : Nat) (s : State) : Res :=
  let t := { s with hw := { s.hw with perstLow := true } }
  .next (let t := if s.dieUp then t.eventH discarded else t
    { t with hif := { t.hif with training := false } })

/-- PERST_RELEASE, R54, R564. -/
def execPerstRelease (s : State) : Res := .next ({ s with hw := { s.hw with perstLow := false } }.startTraining)

/-- MOD_RESET_ASSERT, R38, R125. -/
def execModResetAssert (s : State) : Res := .next ({ s with hw := { s.hw with modResetLow := true } }.warmReset .pin)

/-- MOD_RESET_RELEASE, R55, R125: a die held at entry to ON, or held in a warm reset, is released. -/
def execModResetRelease (s : State) : Res := .next ({ s with hw := { s.hw with modResetLow := false, dieHeld := false } }.warmRelease)

/-- WARM_RESET_RELEASE, R125: 10 µs have passed, and MOD_RESET# is high. -/
def execWarmResetRelease (s : State) : Res := .next (if s.hw.modResetLow then s else s.warmRelease)

/-- R121: a write of GLB_WARM_RESET. -/
def State.glbWarmReset (s : State) (v : Word) : State := if v = 0xB8800001#32 then s.warmReset .software else s.bump R.GLB_IF_ERR_COUNT

/-- GLB_WARM_RESET, R121. -/
def execGlbWarmReset (v : Word) (s : State) : Res := .next (s.glbWarmReset v)

/-- A management command for a core that is not up: the management controller, or the core's queue, holds it (R26, R62, R506). -/
def State.holdMctp (s : State) (c : Nat) (m : CoreMsg) : State := { s with hw := { s.hw with mctpHeld := s.hw.mctpHeld ++ [(c, m)] } }

/-- MCTP_WARM_RESET, R125, R62: reset commands go to core 0, in ON only; one that comes while core 0 restarts is held. -/
def execMctpWarmReset (s : State) : Res :=
  .next (if !s.dieUp then s else if s.coreUp 0 then s.warmReset .mctp else s.holdMctp 0 .warmReset)

end Sys2Proof.Machine
end

