-- ==== Sys2Proof/Machine/Idle.lean ====
section
/-! DEFINITION. Sys2Proof/Machine/Idle.lean: entry to Z1 and Z2, exits and moves (R122 to R133). -/

namespace Sys2Proof.Machine
open Sys2Proof

/-- R128: a ring or completion queue is not idle. -/
def State.ringsBusy (s : State) : Bool :=
  (List.range 1024).any (fun k =>
    let f := k / 16
    let r := k % 16
    r ≠ 0 && s.getB (R.RNG_RING_CTRL f r) 0 &&
      (s.rd (R.RNG_CONSUMED_SEQ f r) != s.rd (R.RNG_PRODUCER_SEQ f r) || s.rd (R.RNG_COMPLETED_SEQ f r) != s.rd (R.RNG_CONSUMED_SEQ f r))) ||
  s.ops.any (fun e => e.2.st == .done && !e.2.issued)

/-- R128: the conditions that fail, as bits of GLB_IDLE_STATUS (R123). -/
def State.idleBlocks (s : State) : List Nat :=
  let if' := fun (b : Bool) (n : Nat) => if b then [n] else []
  if' s.ringsBusy 8 ++
  if' ((List.range 64).any (fun f => s.rd (R.MBX_SLOT_BUSY f) != 0)) 9 ++
  if' (s.ops.any (fun e => e.2.st != .done) || s.tqs.any (fun e => !e.2.pending.isEmpty || !(s.queue (.tq e.1)).cache.isEmpty)) 10 ++
  if' (!s.ydt.xfers.isEmpty || s.qpm.qps.any (fun e => !e.2.sq.isEmpty)) 11 ++
  if' (!s.trn.faults.isEmpty || !s.trn.stalls.isEmpty) 12 ++
  if' (!s.par.unsent.isEmpty || s.ydt.xfers.any (fun e => match e.2.owner with | .part _ _ => true | _ => false) ||
    s.ydt.trackers.any (fun t => t.typ = tyWrite && s.parityWindow t.pkt.dstFn (t.pkt.window % 65536))) 13 ++
  if' s.frozen 14

/-- R122, R133: TARGET as it acts: 3 acts as 0. -/
def State.idleTarget (s : State) : Nat := let t := s.getF R.GLB_IDLE_CTRL 0 2; if t = 3 then 0 else t

/-- R122: AUTO_TARGET as it acts: 0 and 3 act as 1. -/
def State.autoTarget (s : State) : Nat := if s.getF R.GLB_IDLE_CTRL 3 2 = 2 then 2 else 1

/-- R128, R131: a request for Z1 or Z2 from the active state: refused with its reasons and a DEVICE event, or the entry begins with the write-back of R83. -/
def State.idleEnter (s : State) (goal : Nat) : State :=
  let bs := s.idleBlocks
  let s := s.setF R.GLB_IDLE_STATUS 8 7 0
  if bs.isEmpty then
    ({ s with idle := { s.idle with goal := goal, abandon := false } }.setB R.GLB_IDLE_STATUS 2 true).ccStart .idle
  else
    let s := bs.foldl (fun s b => s.setB R.GLB_IDLE_STATUS b true) s
    s.event 0 pGLB 0x0004 0 clsDevice 0 0 (s.rd R.GLB_IDLE_STATUS).toNat 0

/-- R133: a direct move between Z1 and Z2. R130 gives the holding of traffic for an exit from Z2, and R133 does not say whether the move to Z1 holds it too: the channels
leave self-refresh alike, and it does here (DESIGN CHOICE, log entry 111). -/
def State.idleMove (s : State) (goal : Nat) : State :=
  let s := { s with idle := { s.idle with goal := goal, abandon := false } }
  if goal = 2 then s.setB R.GLB_IDLE_STATUS 2 true
  else (s.setB R.GLB_IDLE_STATUS 3 true).z2Hold

/-- R122, R127, R133: a write of GLB_IDLE_CTRL. -/
def State.idleCtrlWrite (s : State) (v : Word) : State :=
  let s := s.wr R.GLB_IDLE_CTRL (v &&& 0x1F#32)
  let t := s.idleTarget
  if t = 0 then (if s.idleState ≠ 0 || s.entering then s.wake .software else s)
  else if s.entering || s.exiting || t = s.idleState then s
  else if s.idleState = 0 then s.idleEnter t
  else s.idleMove t

/-- IDLE_REQUEST_Z1, R122, R128: TARGET = 1 is written in the active state. -/
def execIdleRequestZ1 (v : Word) (s : State) : Res := .next (if fld v 0 2 = 1 && s.idleState = 0 then s.idleCtrlWrite v else s)

/-- IDLE_REQUEST_Z2, R122, R128: TARGET = 2 is written in the active state. -/
def execIdleRequestZ2 (v : Word) (s : State) : Res := .next (if fld v 0 2 = 2 && s.idleState = 0 then s.idleCtrlWrite v else s)

/-- IDLE_EXIT_REQUEST, R122: TARGET = 0 is written. -/
def execIdleExitRequest (v : Word) (s : State) : Res := .next (if fld v 0 2 = 0 || fld v 0 2 = 3 then s.idleCtrlWrite v else s)

/-- IDLE_MOVE, R133: the other idle state is written in Z1 or Z2. -/
def execIdleMove (v : Word) (s : State) : Res :=
  .next (if (fld v 0 2 = 1 || fld v 0 2 = 2) && s.idleState ≠ 0 then s.idleCtrlWrite v else s)

/-- IDLE_AUTO, R122: the device has been idle for GLB_IDLE_DELAY µs with AUTO set. -/
def execIdleAuto (s : State) : Res :=
  .next (if s.getB R.GLB_IDLE_CTRL 2 && s.idleState = 0 && !s.entering && !s.exiting then s.idleEnter s.autoTarget else s)

/-- R9, R10, R126: the state is Z1 or Z2: registers that do not list it take their Reset values, CTX_PHASE_STATUS among them (R271). -/
def State.enterIdle (s : State) (goal : Nat) : State :=
  { (s.setF R.GLB_IDLE_STATUS 0 2 goal).regEvent (if goal = 2 then evZ2 else evZ1) with lastTag := 0 }

/-- R130, R314, R330: the dirty check bursts are written back and every channel enters self-refresh, a retraining is put off, and the clusters are gated. -/
def State.enterZ2 (s : State) : State :=
  let s := s.checksClean
  let s := match s.msys.retraining with
    | some c => { s with msys := { s.msys with retraining := none, retrainDue := insertNat c s.msys.retrainDue } }
    | none => s
  let s := (List.range 80).foldl (fun s c => if s.chanState c = 2 || s.chanState c = 4 then s.setChan c 3 else s) s
  { s with idle := { s.idle with selfRefresh := true, clustersUp := [] } }

/-- IDLE_ENTRY_DONE, R127, R131, R133: the stages of an entry, or of a move from Z1 to Z2, have ended. One that a wake source met is abandoned. -/
def execIdleEntryDone (s : State) : Res :=
  .next (
    if !s.entering || CcAction.idle ∈ s.hif.ccActions then s
    else
      let s := s.setB R.GLB_IDLE_STATUS 2 false
      if s.idle.abandon then
        { s with idle := { s.idle with goal := 0, abandon := false } }.setF R.GLB_IDLE_STATUS 0 2 0 |>.releaseRestores
      else
        let s := s.enterIdle s.idle.goal
        if s.idle.goal = 2 then s.enterZ2 else s)

/-- WAKE, R124, R127: a wake source arrives. -/
def execWake (src : WakeSource) (s : State) : Res := .next (s.wake src)

/-- CLUSTER_POWER_UP, R132: the next cluster, in ascending order, powers up. -/
def execClusterPowerUp (nn : Nat) (s : State) : Res :=
  .next (if s.exiting && nn < 16 && s.idle.clustersUp = List.range nn then
      { s with idle := { s.idle with clustersUp := List.range (nn + 1) } }
    else s)

/-- IDLE_EXIT_DONE, R132, R133: the exit, or the move from Z2 to Z1, ends: channels out of self-refresh, every cluster up. A restore that waited for the active
state starts (R237). -/
def execIdleExitDone (s : State) : Res :=
  .next (
    if !s.exiting || s.idle.selfRefresh || s.idle.clustersUp ≠ List.range 16 then s
    else
      let s := s.setB R.GLB_IDLE_STATUS 3 false
      if s.idle.goal = 0 then (s.setF R.GLB_IDLE_STATUS 0 2 0).releaseRestores else s.enterIdle s.idle.goal)

end Sys2Proof.Machine
end

