-- ==== Sys2Proof/Machine/Quiesce.lean ====
section
/-! DEFINITION. Sys2Proof/Machine/Quiesce.lean: quiesce, instance reset and removal (R197 to R205, R113, R126). -/

namespace Sys2Proof.Machine
open Sys2Proof

/-- The queues Cox admits from on behalf of a function. -/
def State.fnSources (s : State) (fn : Nat) : List Source :=
  ((List.range 16).map (fun r => if r = 0 then Source.pav fn else .ring fn r)) ++
  (s.tqs.filter (fun e => e.2.fn = fn)).map (fun e => Source.tq e.1)

/-! ## FLUSH -/

/-- An initiator slot outlives the descriptor it worked for: it holds for the packet lifetime (R366). -/
def State.detachSlot (s : State) (i : Nat) : State × Nat :=
  match s.slotOf i with
  | none => (s, 0)
  | some (k, x) => (s.putXfer k { x with owner := .note, holding := some stOK }, x.result)

/-- R200: a descriptor ends at once. -/
def State.flushOp (s : State) (i st : Nat) : State :=
  let d := (s.dropUnits i).detachSlot i
  d.1.finishOp i st d.2

/-- R200: a chain that is open ends at its last admitted descriptor with INSTANCE_QUIESCED. -/
def State.flushChain (s : State) (src : Source) : State :=
  let q := s.queue src
  match q.chain with
  | none => s
  | some c => ((s.cutChain c stQuiesced).putQueue src { q with chain := none }).pauseCheck src

/-- R200: the function's heats abort on every member. -/
def State.flushHeats (s : State) (fn : Nat) : State :=
  (s.groups.filter (fun e => e.2.owner = fn)).foldl (fun s e =>
    let s := s.stopHeat e.1 stAborted 0 0 true
    match s.group? e.1 with
    | none => s
    | some x =>
      x.waiting.foldl (fun s i =>
        match s.group? e.1 with
        | none => s
        | some y => (s.dropHeat e.1 i stAborted 0 0 y).sendAborts e.1 y y.seq stAborted) s) s

/-- R200: the function's queue pairs enter their error state. -/
def State.flushQps (s : State) (fn : Nat) : State :=
  (s.qpm.qps.map Prod.fst).foldl (fun s q => if s.qpOwned q fn && 1 ≤ s.qpState q && s.qpState q ≤ 3 then s.qpError q stFlushed else s) s

/-- R200: the accesses of the function that wait on faults end with INSTANCE_QUIESCED. -/
def State.flushFaults (s : State) (fn : Nat) : State :=
  let ws := (s.trn.faults.filter (fun e => e.fn = fn)).flatMap FaultQ.waiters ++ (s.trn.stalls.filter (fun x => x.fn = fn)).map Stall.waiter
  let mig := s.trn.faults.filter (fun e => e.fn = fn && e.st = FaultSt.migrating)
  let s := mig.foldl (fun s e => match s.leafAt e.fn e.gib e.page with
    | some l => s.putLeaf e.fn e.gib e.page { l with busy := false }
    | none => s) s
  let s := s.stallsEnd (fun x => x.fn = fn)
  let s := { s with trn := { s.trn with faults := s.trn.faults.filter (fun e => e.fn ≠ fn) } }
  ws.foldl (fun s w => match w with
    | .op i | .cox i => if s.opDone i then s else s.flushOp i stQuiesced
    | _ => s) s

/-- A descriptor has started: it runs, or a slot, a queue pair or a heat works for it. A posted receive buffer has not. -/
def State.opStarted (s : State) (i : Nat) (o : Op) : Bool :=
  o.st == .running || (s.slotOf i).isSome || (o.progress ≠ 0 && dOpcode o.desc ≠ 7)

/-- A HEAT that waits in its group: it is aborted with the function's heats (R200). -/
def State.heatWaits (s : State) (i : Nat) : Bool := s.groups.any (fun (e : Nat × Group) => e.2.waiting.contains i)

/-- R200: what FLUSH does to the admitted work of a function. What has not started ends first, so that the end of no other descriptor of its chain ends it. -/
def State.flushFn (s : State) (fn : Nat) : State :=
  let s := (s.fnSources fn).foldl (fun s q => s.flushChain q) s
  let mine := s.ops.filter (fun e => e.2.fn = fn && e.2.st != .done)
  let moving := mine.filter (fun e => (s.slotOf e.1).isSome)
  let idle := mine.filter (fun e => !s.opStarted e.1 e.2 && !s.heatWaits e.1)
  let s := idle.reverse.foldl (fun s e => s.flushOp e.1 stQuiesced) s
  let s := ((s.flushHeats fn).flushQps fn).flushFaults fn
  let s := moving.foldl (fun s e => if s.opDone e.1 then s else s.flushOp e.1 stFlushed) s
  { s with ydt := { s.ydt with posts :=
    (s.ydt.posts.mapv (fun _ l => l.filter (fun i => !(idle.map Prod.fst).contains i))).keep (fun _ l => !l.isEmpty) } }

/-! ## TRN_FN_CTRL -/

/-- TRN_FN_STATUS.RESETTING (R198). -/
def State.resetting (s : State) (fn : Nat) : Bool := s.getB (R.TRN_FN_STATUS fn) 1
def State.isQuiesced (s : State) (fn : Nat) : Bool := s.getB (R.TRN_FN_STATUS fn) 0

/-- R202, R127: a write of RESET = 1. -/
def State.instanceResetStart (s : State) (fn : Nat) (v : Word) : State :=
  if s.isQuiesced fn then
    ((s.setB (R.TRN_FN_CTRL fn) 2 true).setB (R.TRN_FN_STATUS fn) 1 true).wake .config
  else s.trnRefuse 0x06 fn v.toNat

/-- R197, R200, R202, R205: a write of TRN_FN_CTRL for a function. -/
def State.fnCtrlWrite (s : State) (fn : Nat) (v : Word) : State :=
  let k := R.TRN_FN_CTRL fn
  if s.resetting fn then s
  else if bit v 2 && fn ≠ 0 then s.instanceResetStart fn v
  else match s.getB k 0, bit v 0 with
    | false, true =>
      let s := (s.setB k 0 true).setB k 1 (bit v 1)
      if bit v 1 then s.flushFn fn else s
    | true, true => if bit v 1 && !s.getB k 1 then (s.setB k 1 true).flushFn fn else s
    | true, false => ((s.setF k 0 2 0).setB (R.TRN_FN_STATUS fn) 0 false).setB (R.TRN_FN_STATUS fn) 2 false
    | false, false => s.setB k 1 (bit v 1)

/-- QUIESCE_START, R200. -/
def execQuiesceStart (fn : Nat) (v : Word) (s : State) : Res :=
  .next (if fn < 64 && bit v 0 && !s.fnCtrl fn 0 then s.fnCtrlWrite fn v else s)

/-- QUIESCE_FLUSH_ESCALATE, R197, R200: FLUSH = 1 during a DRAIN. -/
def execQuiesceFlushEscalate (fn : Nat) (v : Word) (s : State) : Res :=
  .next (if fn < 64 && bit v 0 && bit v 1 && s.fnCtrl fn 0 && !s.fnCtrl fn 1 then s.fnCtrlWrite fn v else s)

/-- QUIESCE_END, R197, R205: QUIESCE = 0. -/
def execQuiesceEnd (fn : Nat) (v : Word) (s : State) : Res :=
  .next (if fn < 64 && !bit v 0 && s.fnCtrl fn 0 then s.fnCtrlWrite fn v else s)

/-- R201: the function has nothing left: no admitted work, no open chain, no initiator operation, no fault entry or page request, no uncommitted parity update,
and every entry written except while its queue is HOST_LOST. -/
def State.quiet (s : State) (fn : Nat) : Bool :=
  !(s.ops.any (fun e => e.2.fn = fn && (e.2.st != .done || (!e.2.issued && s.cqState fn (s.srcCq e.2.src) ≠ 2)))) &&
  !((s.fnSources fn).any (fun q => (s.queue q).chain.isSome)) &&
  !(s.ydt.xfers.any (fun e => e.2.fn = fn && e.2.owner ≠ .note)) &&
  !(s.trn.faults.any (fun e => e.fn = fn)) && !(s.trn.stalls.any (fun e => e.fn = fn)) &&
  !(s.par.unsent.any (fun p => p.fn = fn)) && !(s.ydt.xfers.any (fun e => match e.2.owner with | .part _ f => f = fn | _ => false))

/-- QUIESCED, R201, R205. -/
def execQuiesced (fn : Nat) (s : State) : Res :=
  .next (if fn < 64 && s.fnCtrl fn 0 && !s.isQuiesced fn && s.coreUp coreTrn && s.quiet fn then
      (s.setB (R.TRN_FN_STATUS fn) 0 true).raiseInt pTRN 2
    else s)

/-! ## Instance reset -/

/-- R9, R113: whether a register keeps its value through the reset of a function. In the pages of its window the common registers do not; a register that acts on
the function, or on a trigger queue or queue pair it owns, goes by its Kept column. -/
def State.keptI (s : State) (fn k : Nat) : Bool :=
  let p := keyPage k
  let i := keyIdx k
  let own := match regRow p (keyOff k) with
    | none => false
    | some r =>
      if 64 ≤ p then ownerFn p = fn
      else if r.selW = 0 then false
      else if p = pTRN then i = fn
      else if p = pCTX then (if keyOff k < 0x100 then i = fn else s.tqOwned i fn)
      else if p = pQPM then s.qpOwned i fn
      else false
  !own || (keptOn evI k && !(64 ≤ p && keyOff k < 0x40))

/-- R126: the key slots of the instance are erased, with cause INSTANCE_RESET. -/
def State.eraseOwned (s : State) (fn : Nat) : State :=
  (List.range 1024).foldl (fun s i =>
    if s.slotState i ≠ 0 && s.getF (R.SEC_SLOT_STATUS i) 8 6 = fn then
      let s := { s with sec := { s.sec with pn := s.sec.pn.del i } }.wr (R.SEC_SLOT_KEY_ID i) 0
      if s.slotState i = 1 then s.eraseSlot i 4 else s
    else s) s

/-- R202: every page of a function is unmapped, and its frames return to the pool. -/
def State.unmapAll (s : State) (fn : Nat) : State := (s.leavesOf fn).foldl (fun s e => s.setPte e.2.1 0) s

/-- R126: the regions of an instance in tile SRAM and the cluster stores are cleared. -/
def State.clearTiles (s : State) (fn : Nat) : State :=
  { s with tiles := { s.tiles with
    tile := s.tiles.tile.mapv (fun _ (x : Tile) => if x.accFn = fn then ({ x with acc := [], accFn := 0 } : Tile) else x),
    store := (s.tiles.store.mapv (fun _ l => l.erase fn)).keep (fun _ l => !l.isEmpty) } }

/-- R126, R202: an instance reset. -/
def State.instanceReset (s : State) (fn : Nat) : State :=
  let tqs := (s.tqs.map Prod.fst).filter (fun q => s.tqOwned q fn)
  let qps := (s.qpm.qps.map Prod.fst).filter (fun q => s.qpOwned q fn)
  let groups := (s.groups.filter (fun e => e.2.owner = fn)).map Prod.fst
  let fnKey := fun (k : Nat) => k / 2 ^ 34 = fn
  let s := { s with regs := s.regs.keep (fun k _ => s.keptI fn k) }
  let s := ((groups.foldl (fun s g => s.delGroup g) (s.eraseOwned fn)).unmapAll fn).clearTiles fn
  let s := s.stallsEnd (fun x => x.fn = fn)
  let s := { s with
    events := s.events.del fn,
    ops := s.ops.keep (fun _ o => o.fn ≠ fn), chains := s.chains.keep (fun _ c => c.fn ≠ fn),
    queues := s.queues.keep (fun k _ => !(k < 65536 && k / 32 = fn) && !(65536 ≤ k && tqs.contains (k - 65536))),
    tqs := s.tqs.keep (fun q _ => !tqs.contains q),
    qpm := { s.qpm with qps := s.qpm.qps.keep (fun q _ => !qps.contains q) },
    ydt := { s.ydt with
      windows := s.ydt.windows.keep (fun i _ => i / 1024 ≠ fn),
      trackers := s.ydt.trackers.filter (fun t => t.pkt.dstFn ≠ fn),
      responders := s.ydt.responders.keep (fun _ r => r.req.dstFn ≠ fn) },
    par := { s.par with bindings := s.par.bindings.keep (fun _ b => b.fn ≠ fn) },
    trn := { s.trn with
      tlb := s.trn.tlb.filter (fun e => e.fn ≠ fn), faults := s.trn.faults.filter (fun e => e.fn ≠ fn),
      misses := s.trn.misses.filter (fun m => m.1 ≠ fn), shortLogged := s.trn.shortLogged.filter (fun m => m.1 ≠ fn),
      unmapping := s.trn.unmapping.filter (fun k => !fnKey k) } }
  (s.noteSlots.noteParity).wr R.CTX_TQ_ARMED_DESC (word s.storeUsed)

/-- INSTANCE_RESET, R202: a write of RESET = 1. -/
def execInstanceReset (fn : Nat) (v : Word) (s : State) : Res :=
  .next (if fn < 64 && fn ≠ 0 && bit v 2 then s.fnCtrlWrite fn v else s)

/-- INSTANCE_RESET_DONE, R202, R127: the reset ends, once the core is back and the device is active. -/
def execInstanceResetDone (fn : Nat) (s : State) : Res :=
  .next (if fn < 64 && s.resetting fn && s.coreUp coreTrn && s.idleState = 0 then s.instanceReset fn else s)

/-- R203, R127: a removed instance is reset: at once, or once the core is back and the device active again (INSTANCE_RESET_DONE). -/
def State.removeFn (s : State) (fn : Nat) : State :=
  if s.coreUp coreTrn && s.idleState = 0 then s.instanceReset fn
  else (s.setB (R.TRN_FN_CTRL fn) 2 true).setB (R.TRN_FN_STATUS fn) 1 true

/-- VF_REMOVE, R203: a write of VF Enable and NumVFs that leaves a number of instances enabled. -/
def execVfRemove (numVfs : Nat) (s : State) : Res :=
  let n := min numVfs 63
  let gone := (List.range 64).filter (fun f => n < f && f ≤ s.trn.numVfs)
  .next (match gone.find? (fun f => !s.isQuiesced f) with
    | some f => s.trnRefuse 0x07 f numVfs
    | none =>
      let s := if gone.isEmpty then s else s.wake .config
      gone.foldl (fun s f => s.removeFn f) { s with trn := { s.trn with numVfs := n } })

end Sys2Proof.Machine
end

