-- ==== Sys2Proof/Machine/Power.lean ====
section
/-! DEFINITION. Sys2Proof/Machine/Power.lean: Stroke and PWR (chapter 15): clocks and the core rail, the power model, the cap, phases, droop, thermal limits,
pacing. -/

namespace Sys2Proof.Machine
open Sys2Proof

/-- The power and thermal core (R496). -/
def corePwr : Nat := 4

/-! ## Frequencies (R22, R233, R472, R473) -/

/-- R473: V(f) in mV at a cluster limit, rounded up to 5 mV. -/
def voltFor (limit f : Nat) : Nat :=
  if limit ≤ 250 then 650
  else min 850 (5 * ceilDiv (650 * (limit - 250) + 200 * (f - 250)) (5 * (limit - 250)))

/-- R473 to R475, R486, R495, R566: the voltage the rail moves to: the highest V(f) of the clocks that run and of those being reached; 0.85 V during a tile's test,
0.65 V in Z2, 0.75 V in reduced service. A clock that still has to fall holds the rail. -/
def State.railGoal (s : State) : Nat :=
  if s.idleState = 2 then 650
  else if s.pwr.testing.isSome then 850
  else if s.reduced then 750
  else (List.range 16).foldl (fun m c => max m (voltFor (s.clusterLimit c) (max (s.clockOf c) (s.targetOf c)))) 650

def State.noteClocks (s : State) : State := (List.range 16).foldl (fun s c => s.noteClock c) s

def State.setTarget (s : State) (c f : Nat) : State :=
  { s with pwr := { s.pwr with target := s.pwr.target.setD (fun _ => 600) c f } }.noteClock c

/-- R474: the next divider step of a cluster: at most 50 MHz; upward only once the rail stands at the new V(f); none while the clock is stretched (R486). -/
def State.clockStep (s : State) (c : Nat) : State :=
  let f := s.clockOf c
  let t := s.targetOf c
  if f = t || s.pwr.stretched.contains c then s
  else if f < t && s.getF R.PWR_VCORE 0 10 < voltFor (s.clusterLimit c) t then s
  else
    let n := if f < t then min t (f + 50) else max t (f - 50)
    ({ s with pwr := { s.pwr with clock := s.pwr.clock.setD (fun _ => 600) c n } }.noteClock c).trace 14 0 0x09 0 none n c

/-- CLOCK_STEP, R474, R486. -/
def execClockStep (nn : Nat) (s : State) : Res := .next (if nn < 16 then s.clockStep nn else s)

/-- RAIL_REACHED, R474: VCORE_CL stands at its new set point; `measured` in mV. -/
def execRailReached (measured : Nat) (s : State) : Res :=
  .next ((s.setF R.PWR_VCORE 0 10 s.railGoal).setF R.PWR_VCORE 16 10 measured)

/-! ## The cap (R480) -/

def clampNat (lo hi n : Nat) : Nat := max lo (min hi n)

def State.capSetting (s : State) : Nat := clampNat 120 220 (s.getF R.PWR_CAP 0 8)

/-- R480: the effective cap, and the bits of PWR_CAP_EFFECTIVE for the sources that set it below PWR_CAP. -/
def State.capNow (s : State) : Nat × Nat :=
  let base := s.capSetting
  let low := if s.hw.lowInput then 150 else base
  let mctp := s.pwr.mctpCap.getD base
  let therm := s.pwr.thermal.getD base
  let m := min base (min low (min mctp therm))
  let hit := fun (v n : Nat) => if v < base && v = m then 2 ^ n else 0
  (m, hit low 8 + hit mctp 9 + hit therm 10)

/-- R480, R494: PWR_CAP_EFFECTIVE follows its sources; a change raises CAP_CHANGED. -/
def State.noteCap (s : State) : State :=
  let e := s.capNow
  let old := s.rd R.PWR_CAP_EFFECTIVE
  let n := word (e.1 + e.2 + fld old 11 2 * 2048)
  if n = old then s else (s.wr R.PWR_CAP_EFFECTIVE n).raiseInt pPWR 2

def State.capWrite (s : State) (v : Word) : State := (s.writePlain pPWR 0x040 0 v).noteCap

/-- CAP_WRITE, R480. -/
def execCapWrite (v : Word) (s : State) : Res := .next (s.capWrite v)

/-- MCTP_CAP, R480: a cap of 120 W to 220 W set over MCTP. -/
def execMctpCap (watts : Nat) (s : State) : Res :=
  .next (if s.dieUp && 120 ≤ watts && watts ≤ 220 then { s with pwr := { s.pwr with mctpCap := some watts } }.noteCap else s)

/-- LOW_INPUT, R48: the input lies between 37.0 V and 40.0 V; `mv` in mV. -/
def execLowInput (mv : Nat) (s : State) : Res :=
  .next (if s.hw.power = .on && 37000 ≤ mv && mv < 40000 && !s.hw.lowInput then
      let s := { s with hw := { s.hw with lowInput := true } }
      if s.dieUp then s.noteCap.logEvent 0 pPWR 0x06 clsPower 0 0 noTags 0 (27 * 65536) else s
    else s)

/-- LOW_INPUT_END, R48, R94. -/
def execLowInputEnd (mv : Nat) (s : State) : Res :=
  .next (if s.hw.lowInput && 40000 < mv then
      let s := { s with hw := { s.hw with lowInput := false } }
      if s.dieUp then s.noteCap.event 0 pPWR 0x0005 1 clsPower 0 0 mv 0 else s
    else s)

/-! ## The power model (R476 to R479) -/

def State.coef (s : State) (part : Nat) : Nat × Nat := (s.pwr.coef.look part).getD (Config.factoryCoef part)

/-- V² and V³ of R471, relative: V in V, and V ÷ 0.85 V. -/
def voltSq (mv : Nat) : Nat × Nat := frac (mv * mv) 1000000
def voltCube (mv : Nat) : Nat × Nat := frac (mv * mv * mv) (850 * 850 * 850)

/-- R476: the sums of the rails before their converters, in mW, in the order of sensors 31 to 37 (R56): VCORE_CL by cluster, then VFAB, VBH, VPHY, VSER and the DRAM
rails. `counts`: the activity of each part over the period; `hot` in 1/16 °C. -/
def State.clusterPower (s : State) (counts : List Nat) (hot : Int) (mv c : Nat) : Nat × Nat :=
  let part := fun p => fmul (counts.getD p 0, 1) (s.coef p)
  let leak := fmul (26000, 16) (fmul (voltCube mv) (Config.leakFactor hot))
  fadd (fmul (fadd (part c) (part (16 + c))) (voltSq mv)) leak

def State.railPower (s : State) (counts : List Nat) (hot : Int) (mv r : Nat) : Nat × Nat :=
  let part := fun p => fmul (counts.getD p 0, 1) (s.coef p)
  match r with
  | 0 => (List.range 16).foldl (fun a c => fadd a (s.clusterPower counts hot mv c)) (0, 1)
  | 1 => fadd (part 35) (fmul (8000, 1) (Config.leakFactor hot))
  | 2 => part 36
  | 3 => part 33
  | 4 => part 34
  | 5 => part 32
  | _ => (0, 1)

/-- A rail's sum divided by its converter's efficiency. -/
def State.atInput (s : State) (r : Nat) (p : Nat × Nat) : Nat × Nat := let e := s.coef (40 + r); fmul p (e.2, e.1)

/-- The mean of a list of fractions. -/
def fmean (l : List (Nat × Nat)) : Nat × Nat := let t := l.foldl fadd (0, 1); frac t.1 (t.2 * max 1 l.length)

/-- The 1 ms means of measured and modelled input power, in mW. -/
def State.inputMeans (s : State) : (Nat × Nat) × (Nat × Nat) :=
  (fmean (s.pwr.window.map (fun e => (e.1, 1))), fmean (s.pwr.window.map Prod.snd))

def fround (f : Nat × Nat) (unit : Nat) : Nat := f.1 / (max 1 f.2 * unit)

/-- R479, R492: the disagreement of the two means in per cent of the measured one, saturating. -/
def disagreement (meas model : Nat × Nat) : Nat :=
  let d := if flt meas model then fsub model meas else fsub meas model
  min 255 (d.1 * meas.2 * 100 / max 1 (d.2 * meas.1))

/-- POWER_MODEL_TICK, R476, R492: `vcore` in mV, `measured` input power in mW. -/
def execPowerModelTick (counts : List Nat) (hot : Int) (vcore measured : Nat) (s : State) : Res :=
  let rails := (List.range 6).map (fun r => s.railPower counts hot vcore r)
  let cl := (List.range 16).map (fun c => (c, s.atInput 0 (s.clusterPower counts hot vcore c)))
  let fixed := ((List.range 6).drop 1).foldl (fun a r => fadd a (s.atInput r (rails.getD r (0, 1)))) (0, 1)
  let total := cl.foldl (fun a e => fadd a e.2) fixed
  let sums := (rails.zipIdx).map (fun e => (e.2, fadd ((s.pwr.railSum.look e.2).getD (0, 1)) e.1))
  let s := { s with pwr := { s.pwr with
    cluster := cl, fixed := fixed, railSum := sums, railCount := s.pwr.railCount + 1,
    window := (s.pwr.window ++ [(measured, total)]).drop (s.pwr.window.length - 99) } }
  let m := s.inputMeans
  let s := s.wr R.PWR_INPUT_POWER (word (min 0xFFFF (fround m.1 100) + 65536 * min 0xFFFF (fround m.2 100)))
  .next ((s.setF R.PWR_MODEL_STATUS 8 8 (disagreement m.1 m.2)).setF R.PWR_VCORE 16 10 vcore)

/-- PWR_MODEL_STATUS.STALE. -/
def State.stale (s : State) : Bool := s.getB R.PWR_MODEL_STATUS 0

/-- R478: scale every coefficient of a rail, a fraction at a time. -/
def railParts : Nat → List Nat
  | 0 => List.range 32
  | 1 => [35]
  | 2 => [36]
  | 3 => [33]
  | 4 => [34]
  | 5 => [32]
  | _ => []

/-- R478: the scale for a rail: 1 + clamp(e × 2^−3, −0.02, +0.02), with 2^−1 while the model is STALE. -/
def trimScale (meas model : Nat × Nat) (stale : Bool) : Nat × Nat :=
  if model.1 = 0 then (1, 1)
  else
    let up := !flt meas model
    let d := if up then fsub meas model else fsub model meas
    let e := fmul (fmul d (model.2, model.1)) (1, if stale then 2 else 8)
    let e := fmin e (1, 50)
    if up then fadd (1, 1) e else fsub (1, 1) e

/-- TRIM_TICK, R478: 100 ms have passed; `rails`: the mean power measured on each rail, in mW. -/
def execTrimTick (rails : List Nat) (s : State) : Res :=
  .next (
    if !s.coreUp corePwr || s.pwr.railCount = 0 then s
    else
      let go := flt (s.getF R.PWR_CAP_EFFECTIVE 0 8 * 600, 1) s.inputMeans.1
      let t := if go then (List.range 6).foldl (fun s r =>
          let sum := (s.pwr.railSum.look r).getD (0, 1)
          let sc := trimScale (rails.getD r 0, 1) (frac sum.1 (sum.2 * s.pwr.railCount)) s.stale
          (railParts r).foldl (fun s p => { s with pwr := { s.pwr with coef := s.pwr.coef.put p (fmul (s.coef p) sc) } }) s) s
        else s
      { t with pwr := { t.pwr with railSum := [], railCount := 0 } })

/-- R478, R483: coefficients and phase points go to the configuration region. -/
def State.writeCoefs (s : State) : State := { s with flash := { s.flash with coef := s.pwr.coef, need := s.pwr.need } }

/-- R491, R496: core 4 has them saved by core 0, which does every flash write. The save waits for either that is not up. -/
def State.saveCoefs (s : State) : State :=
  if !s.coreUp corePwr then s.toInbox corePwr .saveCoefs
  else if !s.coreUp 0 then s.toMail corePwr 0 .saveCoefs
  else s.writeCoefs

/-- COEFFICIENT_SAVE, R478, R483. -/
def execCoefficientSave (s : State) : Res := .next (if s.dieUp then s.saveCoefs else s)

/-- MODEL_STALE, R479: modelled and measured input power have differed by more than 15% for more than 10 ms. -/
def execModelStale (percent : Nat) (s : State) : Res :=
  .next (if 15 < percent && !s.stale then
      let s := (s.setB R.PWR_MODEL_STATUS 0 true).setF R.PWR_MODEL_STATUS 8 8 (min 255 percent)
      let s := (s.setB R.PWR_CAP_EFFECTIVE 11 true).raiseInt pPWR 0
      (s.logErr pPWR 0x01 clsPower 0 noTags 0 0).event 0 pPWR 0x0042 1 clsPower 0 0 (s.rd R.PWR_MODEL_STATUS).toNat 0
    else s)

/-- MODEL_STALE_CLEAR, R479: the two have agreed within 5% for 100 ms. -/
def execModelStaleClear (percent : Nat) (s : State) : Res :=
  .next (if percent ≤ 5 && s.stale then
      let s := (s.setB R.PWR_MODEL_STATUS 0 false).setF R.PWR_MODEL_STATUS 8 8 percent
      (s.setB R.PWR_CAP_EFFECTIVE 11 false).event 0 pPWR 0x0042 2 clsPower 0 0 (s.rd R.PWR_MODEL_STATUS).toNat 0
    else s)

/-! ## Wanted clocks (R483, R484, R490) -/

/-- The descriptors with units queued or running on a cluster's tiles. -/
def State.clusterOps (s : State) (c : Nat) : List Nat := (((List.range 4).flatMap (fun t => (s.tileAt c t).units)).map Prod.fst).eraseDups

def State.needOf (s : State) (phase : Nat) : Nat := (s.pwr.need.look phase).getD 1050

/-- The group of the HEAT that a chain ends in. -/
def State.chainGroup (s : State) (c : Nat) : Option Nat :=
  (s.ops.find? (fun e => e.2.chain = c && dOpcode e.2.desc = 0x42)).map (fun e => dfld e.2.desc 0x10 0 8)

/-- R483, R490: the wanted clock of one unit: the operating point of its phase, lowered by pacing. -/
def State.unitWant (s : State) (i : Nat) : Nat :=
  match s.op? i with
  | none => 250
  | some o =>
    let f := s.needOf (dPhase o.desc)
    match s.getB R.PWR_POLICY 1, s.chainGroup o.chain with
    | true, some g => let p := s.paceOf g; max 250 (f * p.1 / p.2)
    | _, _ => f

/-- R483, R566: the wanted clock of a cluster, at most 600 MHz in reduced service. With units gone for less than 1 ms it keeps the last one. -/
def State.wantOf (s : State) (c : Nat) : Nat :=
  let limit := if s.reduced then min 600 (s.clusterLimit c) else s.clusterLimit c
  let force := s.getF (R.PWR_CLUSTER_FORCE c) 0 11
  let ops := s.clusterOps c
  if force ≠ 0 then min force limit
  else if ops.isEmpty && (s.pwr.idle.contains c || fld s.phaseStatus 8 3 = 5) then 250
  else if s.getB R.PWR_POLICY 0 then limit
  else if ops.isEmpty then min limit ((s.pwr.want.look c).getD 600)
  else min limit ((ops.map (fun i => s.unitWant i)).foldl max 250)

def floor10 (n : Nat) : Nat := n / 10 * 10

/-- f_c(k), k in 1/256. -/
def clockAt (want k : Nat) : Nat := floor10 (max 250 (want * k / 256))

/-- WORK_UNIT_DISPATCH, R267, R268, R484: a tile takes the next unit. Where it belongs to a descriptor whose phase was on no cluster when Cox reported it, the cluster
starts towards the phase's operating point at once. -/
def execWorkUnitDispatch (nn t offered : Nat) (s : State) : Res :=
  .next (if 16 ≤ nn || 4 ≤ t || !s.tileTakes nn t then s
    else
      let d := s.dispatch nn t offered
      let s := d.1
      if (d.2.bind s.op?).any (fun (o : Op) => o.fresh) then s.setTarget nn (clockAt (s.wantOf nn) s.pwr.k) else s)

/-- CLUSTER_IDLE_TIMER, R483: a cluster has had no unit for 1 ms. -/
def execClusterIdleTimer (nn : Nat) (s : State) : Res :=
  .next (if nn < 16 && (s.clusterOps nn).isEmpty && !s.pwr.idle.contains nn then { s with pwr := { s.pwr with idle := s.pwr.idle ++ [nn] } } else s)

/-- R483: the update of one phase's operating point: a quarter of the way to the estimate, rounded up to 10 MHz. -/
def needStep (need clock busy present target : Nat) : Nat :=
  let num := 3 * need * present * target + clock * busy * 100
  clampNat 250 1100 (10 * ceilDiv num (40 * present * target))

/-- R493: R_TARGET in per cent. -/
def State.busyTarget (s : State) : Nat := let r := s.getF R.PWR_POLICY 8 8; if 50 ≤ r && r ≤ 100 then r else 95

/-- PHASE_UPDATE, R483. -/
def execPhaseUpdate (obs : List PhaseObs) (s : State) : Res :=
  .next (if !s.coreUp corePwr then s
    else obs.foldl (fun s b =>
      if 6 ≤ b.phase || b.present = 0 then s
      else
        let n := needStep (s.needOf b.phase) b.clock b.busy b.present s.busyTarget
        { s with pwr := { s.pwr with need := s.pwr.need.setD (fun _ => 1050) b.phase n } }.wr (R.PWR_PHASE_POINT b.phase)
          (word (n + 65536 * min 255 (100 * b.busy / b.present)))) s)

/-! ## Retraining of the maximum frequencies (R475) -/

/-- R475: the next tile that is due, active and on an active device is withheld for its test. START reads 1 until none is left that can be tested. -/
def State.fmaxNext (s : State) : State :=
  if s.pwr.testing.isSome || s.idleState ≠ 0 || !s.coreUp corePwr then s
  else match s.pwr.due.find? (fun t => !s.tileRetired (t / 4) (t % 4)) with
    | some t => { s with pwr := { s.pwr with testing := some t, due := s.pwr.due.erase t } }
    | none => if s.getB R.PWR_FMAX_CTRL 31 then s.setB R.PWR_FMAX_CTRL 31 false else s

def State.fmaxAll (s : State) : State :=
  let left := fun t => decide (s.pwr.testing ≠ some t)
  { s with pwr := { s.pwr with due := (List.range 64).filter left } }.fmaxNext

/-- FMAX_RETRAIN, R475: PERIOD_H hours have passed. -/
def execFmaxRetrain (s : State) : Res := .next (if s.getF R.PWR_FMAX_CTRL 0 8 ≠ 0 && s.dieUp then s.fmaxAll else s)

/-- R492: a write of PWR_FMAX_CTRL. -/
def State.fmaxCtrlWrite (s : State) (v : Word) : State :=
  let s := s.setF R.PWR_FMAX_CTRL 0 8 (fld v 0 8)
  if bit v 31 then (s.setB R.PWR_FMAX_CTRL 31 true).fmaxAll else s

/-- FMAX_START, R475. -/
def execFmaxStart (v : Word) (s : State) : Res := .next (s.fmaxCtrlWrite v)

/-- What PWR_TILE_FMAX shows. -/
def State.noteFmax (s : State) (t : Nat) : State := s.wr (R.PWR_TILE_FMAX t) (word (s.tileFmax t + 65536 * fusedFmax t))

/-- R22, R495: a cluster's clock falls to a limit, and no clock above it is wanted. The steps of R474 that take it there are time. -/
def State.fallTo (s : State) (c limit : Nat) : State :=
  let s := if limit < s.targetOf c then s.setTarget c limit else s
  if limit < s.clockOf c then
    ({ s with pwr := { s.pwr with clock := s.pwr.clock.setD (fun _ => 600) c limit } }.noteClock c).trace 14 0 0x09 0 none limit c
  else s

/-- R234, R236: a tile's self-test has passed: it rejoins. -/
def State.rejoins (s : State) (nn t : Nat) : State :=
  let k := R.CLS_TILE_STATE nn
  ((s.setB k (4 * t) false).setB k (4 * t + 1) false).setB k 16 false

/-- SELF_TEST_DONE, R234, R495. A restored tile starts with no mismatch history; the cluster's clock falls to the new limit before it rejoins. -/
def execSelfTestDone (nn t : Nat) (pass : Bool) (s : State) : Res :=
  .next (if nn < 16 && t < 4 && s.tileTesting nn t then
      let s := s.setB (R.CLS_TILE_STATE nn) (4 * t + 2) false
      let s := if pass then
          let s := (s.fallTo nn ((s.rejoins nn t).clusterLimit nn)).rejoins nn t
          ((s.putTile nn t { s.tileAt nn t with mismatches := [] }).noteClock nn).recordTiles nn
        else s.logErr (clsPage nn) 0x05 clsDevice 0 noTags 0 t
      s.raiseInt (clsPage nn) 3
    else s)

/-- FMAX_TILE_TEST_DONE, R475, R494, R495: the tile's queue is empty and its tests have ended: `passed`, the highest frequency whose test passes, or none at 950 MHz. -/
def execFmaxTileTestDone (tile : Nat) (passed : Option Nat) (s : State) : Res :=
  .next (if s.pwr.testing ≠ some tile || !(s.tileAt (tile / 4) (tile % 4)).units.isEmpty || !s.coreUp corePwr then s
    else
      let old := s.tileFmax tile
      let new := clampNat 950 (fusedFmax tile) (passed.getD 950)
      let f := { s.flash with fmax := s.flash.fmax.put tile new }
      let s := s.fallTo (tile / 4) ({ s with flash := f }.clusterLimit (tile / 4))
      let s := { s with flash := f, pwr := { s.pwr with testing := none } }
      let det := tile / 4 + 16 * (tile % 4)
      let s := if new < old then (s.raiseInt pPWR 3).logErr pPWR 0x03 clsDevice 0 noTags 0 det else s
      let s := if passed.isNone then s.logEvent 0 pPWR 0x04 clsDevice 0 0 noTags 0 det else s
      ((s.noteFmax tile).noteClock (tile / 4)).fmaxNext)

/-! ## Sharing the cap (R482) -/

/-- Σ P_c(f_c(k)): the power of a cluster at another clock is what `Config.powerAt` makes of its figure. -/
def State.powerWith (s : State) (wants : List Nat) (k : Nat) : Nat × Nat :=
  (wants.zipIdx).foldl (fun a e => fadd a (Config.powerAt ((s.pwr.cluster.look e.2).getD (0, 1)) (s.clockOf e.2) (clockAt e.1 k))) (0, 1)

/-- R482: k while the model is STALE: a step each 50 µs. -/
def State.staleK (s : State) (cap : Nat) : Nat :=
  let m := s.inputMeans.1
  if flt (1000 * cap, 1) m then s.pwr.k - 8
  else if flt m (940 * cap, 1) then min 256 (s.pwr.k + 4)
  else s.pwr.k

/-- R482: the largest k whose clusters fit in B, or none. -/
def State.fitK (s : State) (wants : List Nat) (cap : Nat) : Option Nat :=
  let b := fsub (980 * cap, 1) (if flt (980 * cap, 1) s.pwr.fixed then (980 * cap, 1) else s.pwr.fixed)
  ((List.range 257).reverse).find? (fun k => !flt b (s.powerWith wants k))

/-- CAP_CONTROL_TICK, R482, R483. -/
def execCapControlTick (s : State) : Res :=
  let cap := s.getF R.PWR_CAP_EFFECTIVE 0 8
  let wants := (List.range 16).map (fun c => s.wantOf c)
  let step := s.pwr.periods = 4
  let fit := if s.stale || s.reduced then some (if step then s.staleK cap else s.pwr.k) else s.fitK wants cap
  let k := fit.getD 0
  let floorHit := if s.stale || s.reduced then decide (k = 0) && flt (1000 * cap, 1) s.inputMeans.1 else fit.isNone
  let s := { s with pwr := { s.pwr with
    k := k, periods := if step then 0 else s.pwr.periods + 1, want := (wants.zipIdx).map (fun (e : Nat × Nat) => (e.2, e.1)),
    idle := s.pwr.idle.filter (fun c => (s.clusterOps c).isEmpty) } }
  let s := s.setB R.PWR_CAP_EFFECTIVE 12 floorHit
  .next (((wants.zipIdx).foldl (fun (s : State) (e : Nat × Nat) => s.setTarget e.2 (clockAt e.1 k)) s).fmaxNext)

/-! ## Droop (R485, R486) -/

/-- DROOP_DETECT, R485. -/
def execDroopDetect (nn : Nat) (s : State) : Res :=
  .next (if nn < 16 && s.getB R.PWR_DROOP_CTRL 16 && !s.pwr.stretched.contains nn then
      (({ s with pwr := { s.pwr with stretched := s.pwr.stretched ++ [nn] } }.bump (R.PWR_DROOP_COUNT nn)).count 14 0 0x01 0 none 1).noteClock nn
    else s)

/-- DROOP_END, R485: the voltage has stayed above the threshold for HOLD. -/
def execDroopEnd (nn : Nat) (s : State) : Res :=
  .next (if s.pwr.stretched.contains nn then { s with pwr := { s.pwr with stretched := s.pwr.stretched.erase nn } }.noteClock nn else s)

/-- DROOP_LONG, R485: a stretch is still in force after 20 µs. -/
def execDroopLong (nn : Nat) (s : State) : Res :=
  .next (if s.pwr.stretched.contains nn then (s.raiseInt pPWR 4).logEvent 0 pPWR 0x05 clsPower 0 0 noTags 0 nn else s)

/-! ## Thermal limits (R487 to R489) -/

/-- R492: DIE_LIMIT, 70 to 105, and CONV_LIMIT, in 1/16 °C. -/
def State.dieLimit (s : State) : Int := 16 * ((clampNat 70 105 (s.getF R.PWR_THERM_LIMITS 0 8) : Nat) : Int)
def State.dramLimit (s : State) : Int := 16 * ((s.getF R.PWR_THERM_LIMITS 8 8 : Nat) : Int)
def State.convLimit (s : State) : Int := 16 * ((s.getF R.PWR_THERM_LIMITS 16 8 : Nat) : Int)

/-- R489: a throttle starts: THROTTLE, code 0x02, a POWER event. -/
def State.throttleBegins (s : State) (sensor : Nat) : State :=
  ((s.raiseInt pPWR 1).logErr pPWR 0x02 clsPower 0 noTags 0 (65536 * sensor)).event 0 pPWR 0x0043 1 clsPower 0 0 (s.rd R.PWR_THERM_STATUS).toNat 0

/-- R489: a throttle ends. -/
def State.throttleEnds (s : State) : State :=
  (s.raiseInt pPWR 1).event 0 pPWR 0x0043 2 clsPower 0 0 (s.rd R.PWR_THERM_STATUS).toNat 0

/-- Which converter is the hottest is not among the command's operands: a free choice. -/
def State.hotSensor (s : State) (hot : Int) : Nat × State :=
  if s.dieLimit < hot then (26, s) else let p := s.pick [22, 23, 24, 25]; (p.1.getD 22, p.2)

/-- R487: the thermal cap over 1 ms. -/
def State.thermalStep (s : State) (hot conv : Int) (measured : Nat) : State :=
  let die := decide (s.dieLimit < hot)
  let cv := decide (s.convLimit < conv)
  if die || cv then
    let s := if die then s.setB R.PWR_THERM_STATUS 0 true else s
    let s := if cv then s.setB R.PWR_THERM_STATUS 2 true else s
    match s.pwr.thermal with
    | none =>
      let h := s.hotSensor hot
      { h.2 with pwr := { h.2.pwr with thermal := some (measured / 1000) } }.throttleBegins h.1
    | some c => { s with pwr := { s.pwr with thermal := some (c - 2) } }
  else match s.pwr.thermal with
    | none => s
    | some c =>
      if hot ≤ s.dieLimit - 48 && conv ≤ s.convLimit - 48 then
        if 220 ≤ c + 1 then
          ((({ s with pwr := { s.pwr with thermal := none } }.setB R.PWR_THERM_STATUS 0 false).setB R.PWR_THERM_STATUS 2 false).throttleEnds)
        else { s with pwr := { s.pwr with thermal := some (c + 1) } }
      else s

/-- THERMAL_CAP_TICK, R487, R489: once per ms; temperatures in 1/16 °C, `conv` the hottest converter's, `measured` in mW. -/
def execThermalCapTick (hot conv : Int) (measured : Nat) (s : State) : Res :=
  let s := s.thermalStep hot conv measured
  .next (let s := if s.pwr.thermal.isSome || !s.pwr.dramShare.isEmpty then (s.bump R.PWR_THROTTLE_TIME 1000).count 14 0 0x02 0 none 1000 else s
    s.noteCap)

/-- DRAM_THROTTLE_TICK, R488, R489: once per 10 ms for a package; `temp` in 1/16 °C. -/
def execDramThrottleTick (nn : Nat) (temp : Int) (s : State) : Res :=
  .next (if 20 ≤ nn then s
    else match s.pwr.dramShare.look nn with
      | none =>
        if s.dramLimit < temp then
          let s := { s with pwr := { s.pwr with dramShare := s.pwr.dramShare.put nn 7 } }
          ((s.setB R.PWR_THERM_STATUS 1 true).setB R.PWR_THERM_STATUS (8 + nn) true).throttleBegins (2 + nn)
        else s
      | some f =>
        if s.dramLimit < temp then { s with pwr := { s.pwr with dramShare := s.pwr.dramShare.put nn (max 2 (f - 1)) } }
        else if temp ≤ s.dramLimit - 80 then
          if f + 1 < 8 then { s with pwr := { s.pwr with dramShare := s.pwr.dramShare.put nn (f + 1) } }
          else
            let s := { s with pwr := { s.pwr with dramShare := s.pwr.dramShare.del nn } }
            ((s.setB R.PWR_THERM_STATUS (8 + nn) false).setB R.PWR_THERM_STATUS 1 (!s.pwr.dramShare.isEmpty)).throttleEnds
        else s)

/-- INLET_HOT, R489: inlet air above 45 °C; `temp` in 1/16 °C. -/
def execInletHot (temp : Int) (s : State) : Res :=
  .next (if 45 * 16 < temp && s.dieUp then s.event 0 pPWR 0x0005 5 clsPower 0 0 temp.toNat 0 else s)

/-- PACE_LAPSE, R490: 100 ms without a heat of the group. -/
def execPaceLapse (group : Nat) (s : State) : Res := .next (if group < 256 then s.dropPace group else s)

end Sys2Proof.Machine
end

