-- ==== Sys2Proof/Machine/Module.lean ====
section
/-! DEFINITION. Sys2Proof/Machine/Module.lean: the module's inputs, rails, power states, trips and sidebands (R38 to R57, R63). Voltages are in mV. -/

namespace Sys2Proof.Machine
open Sys2Proof

/-! ## Power states -/

/-- CAGE_RESET# is held low and CAGE_LPMODE high from entry to AUX until the port is configured (R42). -/
def State.cagesHeld (s : State) : State :=
  (List.range 8).foldl (fun s c => (s.emit (.cagePin c "CAGE_RESET#" false)).emit (.cagePin c "CAGE_LPMODE" true)) s

/-- R51: in AUX, with the 48 V input accepted, PWRDIS low and no fault latched, the rails start. -/
def State.tryRamp (s : State) : State :=
  if s.hw.power = .aux && s.hw.inputOk && !s.hw.lockout && !s.hw.pwrdis && s.hw.thermalLatch.isEmpty then
    { s with hw := { s.hw with power := .ramp, bulk := false, railsGood := 0 } }
  else s

/-- R57: the device time of the last ON second. -/
def State.onSecond (s : State) : Nat := if s.hw.power = .on then s.devTime / 1000000000 * 1000000000 else s.hw.lastOn

/-- R52: the module leaves ON or RAMP: PWRGD goes low first, then the rails turn off, and DRAM and the die lose what they held. Without 3.3 V auxiliary it is DARK; in
AUX and FAULT the cages' pins are as at entry to AUX (R42). -/
def State.powerDown (s : State) (goal : PowerState) : State :=
  let s := (if s.hw.pwrgd then s.emit (.pin "PWRGD" false) else s).ledsOff.updateCut
  let s := if s.hw.auxIn then s.cagesHeld else s
  let last := s.onSecond
  let s := s.dieCleared
  { s with hw := { s.hw with
    power := if s.hw.auxIn then goal else .dark, bulk := false, railsGood := 0, pwrgd := false, dieHeld := false, warm := none, lowInput := false,
    cageSuspended := [], lastOn := last, mctpHeld := [] } }

def State.powered (s : State) : Bool := s.hw.power == .on || s.hw.power == .ramp

/-- R38: a management event awaits collection: SMB_ALERT# goes low. The manual does not name the events: a new entry of the fault log and a new crash dump are taken as
such (DESIGN CHOICE, log entry 113). -/
def State.alert (s : State) (m : MgmtEvent) : State :=
  let t := { s with hw := { s.hw with alerts := m :: s.hw.alerts.erase m } }
  if s.hw.alerts.isEmpty then t.emit (.pin "SMB_ALERT#" false) else t

/-- R38: a management event has been collected over MCTP. With none left SMB_ALERT# is released. -/
def State.collect (s : State) (m : MgmtEvent) : State :=
  let t := { s with hw := { s.hw with alerts := s.hw.alerts.erase m } }
  if !s.hw.alerts.isEmpty && t.hw.alerts.isEmpty then t.emit (.pin "SMB_ALERT#" true) else t

/-- An entry of the always-on fault log, with the device time of the last ON second (R57). -/
def State.logFault (s : State) (c : FaultCause) : State :=
  { s with hw := { s.hw with faultLog := s.hw.faultLog ++ [(⟨c, s.onSecond⟩ : FaultEntry)] } }.alert .faultLog

/-- AUX_ENTRY, R51, R39, R42, R53: 3.3 V auxiliary has been in range for 20 ms. A thermal latch keeps FAULT. -/
def execAuxEntry (addr1 addr0 : Bool) (s : State) : Res :=
  .next (if s.hw.power = .dark then
      let goal : PowerState := if s.hw.thermalLatch.isEmpty then .aux else .fault
      let s := { s with hw := { s.hw with power := goal, auxIn := true, smbAddr := 0x64 + 2 * b2n addr1 + b2n addr0 } }.cagesHeld
      (if s.hw.alerts.isEmpty then s else s.emit (.pin "SMB_ALERT#" false)).tryRamp
    else s)

/-- INPUT_ACCEPT, R47: the 48 V input rises above 39.0 V. -/
def execInputAccept (s : State) : Res := .next (if s.hw.lockout then s else { s with hw := { s.hw with inputOk := true } }.tryRamp)

/-- BULK_CHARGED, R47. -/
def execBulkCharged (s : State) : Res := .next (if s.hw.power = .ramp then { s with hw := { s.hw with bulk := true } } else s)

/-- RAIL_GOOD, R50: the rail that ramps reaches power-good, and the next of the ten stages starts. -/
def execRailGood (s : State) : Res :=
  .next (if s.hw.power = .ramp && s.hw.bulk && s.hw.railsGood < 10 then { s with hw := { s.hw with railsGood := s.hw.railsGood + 1 } } else s)

/-- ON_ENTRY, R51, R55, R43: every rail has been good for 1 ms. The die starts at power-on reset, and samples MEMBER_ID; with MOD_RESET# low it is held in
reset. An input fault recorded meanwhile raises its POWER event (R63, R94). -/
def execOnEntry (straps : Nat) (s : State) : Res :=
  .next (if s.hw.power = .ramp && s.hw.railsGood = 10 then
      let s := s.dieCleared.emit (.pin "PWRGD" true)
      let seen := s.hw.inputFaultSeen
      let s := { s with hw := { s.hw with power := .on, pwrgd := true, dieHeld := s.hw.modResetLow, inputFaultSeen := false } }
      let s := s.wr R.GLB_MEMBER (word (straps % 8))
      if seen then let f := s.free; f.2.event 0 pPWR 0x0005 4 clsPower 0 0 (f.1 % 2 ^ 32) 0 else s
    else s)

/-- INPUT_RELEASE, R47, R52: the 48 V input falls below 37.0 V. -/
def execInputRelease (s : State) : Res :=
  let t := { s with hw := { s.hw with inputOk := false, lowInput := false } }
  .next (if s.powered then t.powerDown .aux else t)

/-- INPUT_LOCKOUT, R47, R63: the 48 V input rises above 63.0 V. The always-on fault log runs on 3.3 V auxiliary (R49). -/
def execInputLockout (s : State) : Res :=
  let t := { s with hw := { s.hw with lockout := true, inputOk := false, inputFaultSeen := true } }
  let t := if s.hw.power = .dark then t else t.logFault .overVoltage
  .next (if s.powered then t.powerDown .aux else t)

/-- INPUT_LOCKOUT_END, R47: the input falls below 61.0 V; the controller resumes. -/
def execInputLockoutEnd (s : State) : Res :=
  .next (if s.hw.lockout then { s with hw := { s.hw with lockout := false, inputOk := true } }.tryRamp else s)

/-- INPUT_REVERSED, R63: no current is conducted; with 3.3 V auxiliary present the fault log records it. -/
def execInputReversed (s : State) : Res :=
  let t := { s with hw := { s.hw with inputOk := false, lowInput := false, inputFaultSeen := true } }
  let t := if s.hw.power = .dark then t else t.logFault .reversed
  .next (if s.powered then t.powerDown .aux else t)

/-- RAIL_GOOD_LOST, R51, R52. -/
def execRailGoodLost (rail : Nat) (s : State) : Res :=
  .next (if rail < 10 && (s.hw.power = .on || (s.hw.power = .ramp && rail < s.hw.railsGood)) then (s.logFault (.railLost rail)).powerDown .fault else s)

/-- PWRDIS_RISE, R38, R52, R55. -/
def execPwrdisRise (s : State) : Res :=
  let t := { s with hw := { s.hw with pwrdis := true } }
  .next (if s.powered then t.powerDown .aux else t)

/-- PWRDIS_FALL, R53: after at least 100 ms high, FAULT is left for AUX, unless a thermal trip is latched. -/
def execPwrdisFall (highMs : Nat) (s : State) : Res :=
  .next (if !s.hw.pwrdis then s
    else
      let s := { s with hw := { s.hw with pwrdis := false } }
      let s := if s.hw.power = .fault && 100 ≤ highMs && s.hw.thermalLatch.isEmpty then { s with hw := { s.hw with power := .aux } } else s
      s.tryRamp)

/-- AUX_LOSS, R49, R51: in ON service goes on; else nothing feeds the always-on domain. -/
def execAuxLoss (mv : Nat) (s : State) : Res :=
  .next (if !s.hw.auxIn then s
    else
      let s := { s with hw := { s.hw with auxIn := false } }
      if s.hw.power = .on then (if s.dieUp then s.event 0 pPWR 0x0005 2 clsPower 0 0 mv 0 else s)
      else if s.hw.power = .ramp then s.powerDown .aux
      else { s.updateCut with hw := { s.hw with power := .dark } })

/-- AUX_RESTORE, R49. -/
def execAuxRestore (mv : Nat) (s : State) : Res :=
  .next (if s.hw.power = .on && !s.hw.auxIn then
      let s := { s with hw := { s.hw with auxIn := true } }
      if s.dieUp then s.event 0 pPWR 0x0005 3 clsPower 0 0 mv 0 else s
    else s)

/-! ## Trips (R53, R57) -/

/-- The sensors whose comparators trip on temperature: packages 2 to 21, converters 22 to 25, the die 26. -/
def thermalSensor (i : Nat) : Bool := 2 ≤ i && i ≤ 26

/-- HARDWARE_TRIP, R57, R52. -/
def execHardwareTrip (sensor : Nat) (s : State) : Res :=
  .next (if s.powered && (thermalSensor sensor || (31 ≤ sensor && sensor ≤ 37)) then
      let s := s.logFault (.trip sensor)
      let s := if thermalSensor sensor && sensor ∉ s.hw.thermalLatch then
          { s with hw := { s.hw with thermalLatch := s.hw.thermalLatch ++ [sensor] } } else s
      s.powerDown .fault
    else s)

/-- TRIP_CLEAR, R53. -/
def execTripClear (sensor : Nat) (s : State) : Res := .next ({ s with hw := { s.hw with thermalLatch := s.hw.thermalLatch.erase sensor } }.tryRamp)

/-- PLDM_SENSOR_READ, R56, R62: in AUX and FAULT sensors 2 to 26 and 31 to 37 are not available. In ON core 5 serves it, and it is held while that core restarts.
Of sensors 31 to 37, which are pairs, the reading is of the output voltage or of the current. -/
def execPldmSensorRead (sensor : Nat) (value : Reading) (s : State) : Res :=
  .next (
    if 38 ≤ sensor || (value.current && sensor < 31) || s.hw.power = .dark || s.hw.power = .ramp then s
    else if s.hw.power = .on then
      (if !s.dieUp then s else if s.coreUp 5 then s.emit (.sensor sensor value.current (some value.value)) else s.holdMctp 5 (.sensor sensor value.current value.value))
    else s.emit (.sensor sensor value.current (if thermalSensor sensor || 31 ≤ sensor then none else some value.value)))

/-! ## Sidebands (R63) -/

/-- SMBUS_TIMEOUT, R63, R94: the bus is released and the front end reset. -/
def execSmbusTimeout (s : State) : Res := .next (if s.dieUp then s.event 0 pGLB 0x0006 1 clsDevice 0 0 0 0 else s)

/-- CREW_FREEZE_STUCK, R63. -/
def execCrewFreezeStuck (s : State) : Res :=
  .next (if s.hw.power = .on && !s.hw.freezeIgnored then
      let s := { s with hw := { s.hw with freezeIgnored := true } }
      if s.dieUp then s.event 0 pGLB 0x0006 2 clsDevice 0 0 0 0 else s
    else s)

/-- CREW_FREEZE_CLEAR, R63. -/
def execCrewFreezeClear (s : State) : Res := .next { s with hw := { s.hw with freezeIgnored := false } }

/-- CREW_TIME_LOSS, R63, R94: the member takes crew time from the Ozmen links alone. -/
def execCrewTimeLoss (s : State) : Res :=
  .next (if s.dieUp && !s.hw.crewTimeLost then
      { s with hw := { s.hw with crewTimeLost := true } }.event 0 pNET 0x0008 3 clsPort 0 0 0 0
    else s)

/-- CREW_TIME_RESTORED, R94. -/
def execCrewTimeRestored (s : State) : Res :=
  .next (if s.dieUp && s.hw.crewTimeLost then
      { s with hw := { s.hw with crewTimeLost := false } }.event 0 pNET 0x0008 4 clsPort 0 0 0 0
    else s)

end Sys2Proof.Machine
end

