-- ==== Sys2Proof/Machine/Firmware.lean ====
section
/-! DEFINITION. Sys2Proof/Machine/Firmware.lean: Boathouse's banks, updates, crash dumps and management messages (chapter 16, R58 to R62, R516 to R518). -/

namespace Sys2Proof.Machine
open Sys2Proof

/-- R514: a FIRMWARE event with its INT_STATUS bit. -/
def State.fwEvent (s : State) (b event code detail addr : Nat) : State :=
  (s.raiseInt pFWC b).event 0 pFWC event code clsFirmware 0 0 detail addr

/-- R514: an FWC error: DETAIL holds the core and the cause. -/
def State.fwErr (s : State) (code core cause : Nat) : State := s.logErr pFWC code clsFirmware 0 noTags 0 (core + 16 * cause)

/-! ## Banks -/

def State.bank (s : State) (b : Nat) : Bank := (s.flash.banks.look b).getD ⟨[], false, false, none, false⟩

def State.putBank (s : State) (b : Nat) (x : Bank) : State := { s with flash := { s.flash with banks := s.flash.banks.put b x } }

/-- What FWC_BANK shows (R513); BANK_FALLBACK stays until the next boot. -/
def State.noteBank (s : State) : State :=
  s.wr R.FWC_BANK (word (s.flash.active + 2 * b2n s.boot.recovery + 4 * b2n s.flash.trial + 8 * b2n (s.bank 0).valid + 16 * b2n (s.bank 1).valid +
    32 * b2n s.flash.pending.isSome + 64 * s.getF R.FWC_BANK 6 1))

/-- R517: an image passes the checks. -/
def State.imageOk (s : State) (m : Image) : Bool :=
  (m.root = 1 || (m.root = 0 && !s.flash.root0Revoked)) && m.keyOk && m.sigOk && m.partOk && m.svn ≤ 64 && s.flash.svn ≤ m.svn && m.digestsOk

/-- The inactive bank (R60). -/
def State.spare (s : State) : Nat := 1 - s.flash.active

/-- A firmware bank of 24 MiB (R58). -/
def bankBytes : Nat := 24 * 2 ^ 20

def putBytes (t : Tab Byte) (o : Nat) : List Byte → Tab Byte
  | [] => t
  | b :: r => putBytes (t.put o b) (o + 1) r

/-- R60: a part of an image goes into the inactive bank, which from the first part on is not PENDING. An update that began in AUX or FAULT and ends in ON, or the other way
round, is UNCHECKED as its last part was received, and entry to ON does not cut it off (DESIGN CHOICE, log entry 114: R60 speaks of neither). -/
def State.updatePart (s : State) (off : Nat) (data : List Byte) (last unchecked : Bool) : State :=
  let b := s.spare
  let old := s.bank b
  let base := if old.complete then ([] : Tab Byte) else old.data
  let x : Bank := { data := putBytes base off data, complete := last, unchecked := unchecked, info := none, valid := false }
  let s := s.putBank b x
  let s := { s with flash := { s.flash with pending := none } }
  if s.dieUp then s.noteBank else s

/-- PLDM_FW_UPDATE, R60, R61, R62: in ON core 0 receives it; in AUX and FAULT the management controller does, over SMBus. While a dump is being written, or core 0
restarts, the update is suspended: its parts wait and nothing of it is lost. -/
def execPldmFwUpdate (smbus : Bool) (off : Nat) (data : List Byte) (last : Bool) (s : State) : Res :=
  .next (
    if bankBytes < off + data.length || (smbus && !s.hw.auxIn) then s
    else if s.hw.power = .on then
      (if !s.dieUp || (!smbus && !s.linkUp) then s
       else if s.coreUp 0 && s.fwc.writing.isNone then s.updatePart off data last false
       else s.holdMctp 0 (.update off data last))
    else if (s.hw.power = .aux || s.hw.power = .fault) && smbus then s.updatePart off data last true
    else s)

/-- BANK_CHECK, R60, R517: core 0 has checked the complete image of the inactive bank; one written UNCHECKED is checked only once BOOT_DONE is set. -/
def execBankCheck (image : Image) (s : State) : Res :=
  let b := s.spare
  let x := s.bank b
  .next (
    if !s.dieUp || !s.coreUp 0 || !x.complete || x.info.isSome || (x.unchecked && !s.getB (statusK pGLB) 0) then s
    else if s.imageOk image then
      let s := s.putBank b { x with info := some image, unchecked := false, valid := true }
      { s with flash := { s.flash with pending := some b } }.noteBank
    else ((s.putBank b ⟨[], false, false, none, false⟩).logErr pSEC 0x05 clsSecurity 0 noTags 0 0).noteBank)

/-- R504: ACTIVATE: the PENDING bank becomes active in trial. -/
def State.activate (s : State) : State :=
  match s.flash.pending with
  | none => s
  | some b => { s with flash := { s.flash with active := b, trial := true, trialBooted := false, pending := none } }.noteBank

/-- R504, R517, R518: COMMIT: the trial ends, SVN fuses are blown up to the image's SVN, and REVOKE_ROOT0 of a manifest under ROOT1 takes effect. -/
def State.commitBank (s : State) : State :=
  if !s.flash.trial then s
  else
    let f := { s.flash with trial := false, trialBooted := false }
    let f := match (s.bank s.flash.active).info with
      | some m => { f with svn := max f.svn m.svn, root0Revoked := f.root0Revoked || (m.root = 1 && m.revoke) }
      | none => f
    ({ s with flash := f }.setF R.SEC_SVN 16 8 f.svn).noteBank

/-- R513: a write of FWC_BANK_CTRL; without 0xB880_02 in [31:8] it is discarded. -/
def State.bankCtrl (s : State) (v : Word) : State :=
  if fld v 8 24 ≠ 0xB88002 then s
  else
    let s := if bit v 0 then s.activate else s
    if bit v 1 then s.commitBank else s

/-- BANK_ACTIVATE, R504. -/
def execBankActivate (v : Word) (s : State) : Res := .next (if bit v 0 then s.bankCtrl v else s)

/-- BANK_COMMIT, R504, R518. -/
def execBankCommit (v : Word) (s : State) : Res := .next (if bit v 1 then s.bankCtrl v else s)

/-! ## What waits for a core (R26, R62, R497, R506) -/

/-- R62, R510: the answer to a request for a dump or for the fault log, which collects it (R38). -/
def State.dumpReply (s : State) : DumpSel → State
  | .slot i => (s.emit (.dump (s.flash.dumps.look i))).collect (.dump i)
  | .faultLog => (s.emit (.faultLog s.hw.faultLog)).collect .faultLog

/-- A core takes a message. -/
def State.deliver (s : State) (c : Nat) : CoreMsg → State
  | .mctp kind payload => s.emit (.toCore c kind payload)
  | .freeze => s.freeze 7
  | .warmReset => s.warmReset .mctp
  | .sensor i current v => s.emit (.sensor i current (some v))
  | .dumpRead what => s.dumpReply what
  | .update off data last => if s.fwc.writing.isNone then s.updatePart off data last false else s.holdMctp 0 (.update off data last)
  | .pri fn va code => s.priResponse fn va code
  | .ats fn va whole permitted write => s.atsCompletion fn va whole permitted write
  | .event dest e => s.queueEvent dest e
  | .recordTiles nn => if c = 0 then s.saveTiles nn else s.recordTiles nn
  | .saveCoefs => if c = 0 then s.writeCoefs else s.saveCoefs

/-- What waits for a core: its queue from the fabric, its mailboxes in the order of the senders, and what the management controller holds for it. -/
def State.inboxOf (s : State) (c : Nat) : List CoreMsg :=
  (s.fwc.inq.look c).getD [] ++ (List.range 6).flatMap (fun f => (s.fwc.mail.look (6 * f + c)).getD []) ++ (s.hw.mctpHeld.filter (fun m => m.1 = c)).map Prod.snd

/-- Take everything that waits for a core out of where it waits. -/
def State.emptyInbox (s : State) (c : Nat) : State :=
  { s with
    fwc := { s.fwc with inq := s.fwc.inq.del c, mail := s.fwc.mail.keep (fun k _ => k % 6 ≠ c) },
    hw := { s.hw with mctpHeld := s.hw.mctpHeld.filter (fun m => m.1 ≠ c) } }

/-- A core that is up takes what waits for it, each message once; what it takes before it resets the die is all it takes. -/
def State.serveInbox (s : State) (c : Nat) : State :=
  if s.coreUp c then (s.inboxOf c).foldl (fun s m => if s.dieUp then s.deliver c m else s) (s.emptyInbox c) else s

/-! ## Crash dumps (R508 to R510) -/

/-- What FWC_DUMP_STATUS shows; LOST stays. -/
def State.noteDumps (s : State) : State :=
  let full := (s.fwc.staged.filter (fun d => !d.headerOnly)).length
  s.wr R.FWC_DUMP_STATUS (word (b2n (s.flash.dumps.has 0) + 2 * b2n (s.flash.dumps.has 1) + 4 * b2n s.fwc.writing.isSome + 256 * full +
    65536 * s.getF R.FWC_DUMP_STATUS 16 16))

/-- R508: a crash fills a free staging slot; with all four full its header alone is staged, LOST counts it, and code 0x06 is logged. -/
def State.stageDump (s : State) (core cause : Nat) : State :=
  let full := 4 ≤ (s.fwc.staged.filter (fun d => !d.headerOnly)).length
  let d : Dump := ⟨0, s.devTime, core, cause, (s.rd R.FWC_FW_VERSION).toNat, (s.rd R.FWC_IF_VERSION).toNat, full⟩
  let s := { s with fwc := { s.fwc with staged := s.fwc.staged ++ [d] } }
  let s := if full then (s.setF R.FWC_DUMP_STATUS 16 16 (min 0xFFFF (s.getF R.FWC_DUMP_STATUS 16 16 + 1))).fwErr 0x06 core cause else s
  s.noteDumps

/-- R508: the flash slot that is invalid, or the one with the lower SEQ. -/
def State.dumpSlot (s : State) : Nat :=
  match s.flash.dumps.look 0, s.flash.dumps.look 1 with
  | none, _ => 0
  | _, none => 1
  | some a, some b => if a.seq ≤ b.seq then 0 else 1

/-- DUMP_WRITE, R508: core 0 starts to write the oldest staged crash, whose slot is then invalid, or ends the write with its header. -/
def execDumpWrite (done : Bool) (s : State) : Res :=
  .next (
    if !s.coreUp 0 || !s.dieUp then s
    else match done, s.fwc.writing, s.fwc.staged with
      | false, none, _ :: _ =>
        let k := s.dumpSlot
        { s with fwc := { s.fwc with writing := some k }, flash := { s.flash with dumps := s.flash.dumps.del k } }.noteDumps
      | true, some k, d :: r =>
        let n := s.flash.dumpSeq + 1
        let s := { s with
          fwc := { s.fwc with writing := none, staged := r },
          flash := { s.flash with dumps := s.flash.dumps.put k { d with seq := n }, dumpSeq := n } }
        (s.noteDumps.fwEvent 2 0x0032 0 k n).alert (.dump k) |>.serveInbox 0
      | _, _, _ => s)

/-- R513: a write of FWC_DUMP_CLEAR. -/
def State.dumpClear (s : State) (v : Word) : State :=
  let gone := (List.range 2).filter (fun i => bit v i)
  { s with flash := { s.flash with dumps := s.flash.dumps.keep (fun k _ => !gone.contains k) } }.noteDumps

/-- DUMP_CLEAR, R513. -/
def execDumpClear (v : Word) (s : State) : Res := .next (s.dumpClear v)

/-- R509: the 2 MiB of a slot. -/
def dumpImage (d : Dump) : List Byte :=
  (List.range 0x93000).map (fun i => Config.dumpByte d.seq i) ++ List.replicate (0x200000 - 0x93000) (0 : Byte)

/-- DUMP_READ, R510. -/
def execDumpRead (op : Nat) (hv : HostView) (s : State) : Res :=
  .next (match s.runnable op [0x76] with
    | none => s
    | some o =>
      let a := dQuad o.desc 0x10
      if !s.coreUp 5 then s
      else if o.fn ≠ 0 then s.finishOp op stDenied 0
      else if farAddr a || a % 64 ≠ 0 then s.finishOp op stInvalid (invalidAt 0x10)
      else match s.flash.dumps.look (dfld o.desc 0x18 0 1) with
        | none => (s.traceStart o a).finishOp op stOK 0
        | some d =>
          match (s.traceStart o a).vwrite hv 5 o.fn a (dumpImage d) (descTags o.desc) with
          | (s, some f) => s.opFail op f true false
          | (s, none) => (s.noteData op o.fn a 0x200000).finishOp op stOK d.seq)

/-- MCTP_DUMP_READ, R62, R510: in AUX and FAULT the management controller reads them, in ON core 5; it is held while that core restarts. -/
def execMctpDumpRead (what : DumpSel) (s : State) : Res :=
  .next (
    if s.hw.power = .aux || s.hw.power = .fault then s.dumpReply what
    else if s.hw.power = .on && s.dieUp then (if s.coreUp 5 then s.dumpReply what else s.holdMctp 5 (.dumpRead what))
    else s)

/-! ## Management messages (R62) -/

/-- R62: the core that serves a kind of message. -/
def mctpCore : MctpKind → Nat
  | .fwUpdate | .security | .attestation | .reset => 0
  | .monitoring | .dump | .debug => 5

/-- MCTP_MESSAGE, R62: in ON a message goes to its core, and is held while that core restarts; in AUX and FAULT the management controller serves firmware
updates, monitoring and dumps, over SMBus. -/
def execMctpMessage (smbus : Bool) (kind : MctpKind) (payload : List Byte) (s : State) : Res :=
  .next (
    if s.hw.power = .on then
      if !s.dieUp || (smbus && !s.hw.auxIn) || (!smbus && !s.linkUp) then s
      else if s.coreUp (mctpCore kind) then s.emit (.toCore (mctpCore kind) kind payload)
      else s.holdMctp (mctpCore kind) (.mctp kind payload)
    else if (s.hw.power = .aux || s.hw.power = .fault) && smbus then
      match kind with
      | .fwUpdate | .monitoring | .dump => s.emit (.toController kind payload)
      | .security | .attestation | .reset | .debug => s
    else s)

end Sys2Proof.Machine
end

