-- ==== Sys2Proof/Machine/Security.lean ====
section
/-! DEFINITION. Sys2Proof/Machine/Security.lean: measurements, attestation, SPDM, the Orangery and its alarms, debug unlock (chapter 17). A signature, digest or
check value is the function of its inputs that `Config.crypto` stands for. -/

namespace Sys2Proof.Machine
open Sys2Proof

/-! ## Measurements and attestation (R519 to R521) -/

def State.debugOpen (s : State) : Bool := s.getB R.SEC_BOOT_STATUS 9

def State.measureOf (s : State) (i : Nat) : Nat := (s.sec.measure.look i).getD 0

def State.setMeasure (s : State) (i v : Nat) : State := { s with sec := { s.sec with measure := s.sec.measure.put i v } }

/-- R519: measurement 10. -/
def State.measureState (s : State) : State := s.setMeasure 10 (b2n s.boot.recovery + 2 * b2n s.debugOpen)

/-- R519: measurements 2 to 9 of the running image, and the chain of 11, which starts from zero at boot. -/
def State.measureImage (s : State) (m : Image) (atBoot : Bool) : State :=
  let s := (s.setMeasure 1 (Config.crypto 1 1)).setMeasure 2 m.digest
  let s := (List.range 6).foldl (fun s c => s.setMeasure (3 + c) (Config.crypto m.digest (3 + c))) s
  let s := s.setMeasure 9 (m.svn + 256 * s.flash.svn + 65536 * m.root)
  s.setMeasure 11 (Config.crypto (if atBoot then 0 else s.measureOf 11) m.digest)

/-- R521: the digest of measurements 1 to 10. -/
def State.attestDigest (s : State) : Nat := (List.range 10).foldl (fun a i => Config.crypto a (s.measureOf (i + 1))) 0

/-- R521: core 0 forms the attestation key's seed again. ATTEST_READY reads 0 until a certificate for a new key is present. -/
def State.reattest (s : State) : State :=
  let d := s.attestDigest
  if d = s.sec.attest then s
  else { s with sec := { s.sec with attest := d } }.setB R.SEC_BOOT_STATUS 8 false

/-- R538: what SEC_BOOT_STATUS and SEC_SVN show, at boot and at the end of a handover. -/
def State.loadSec (s : State) (m : Image) : State :=
  let k := R.SEC_BOOT_STATUS
  let s := (((s.setB k 0 true).setB k 1 s.boot.recovery).setB k 2 (m.root = 1)).setB k 3 s.flash.root0Revoked
  s.wr R.SEC_SVN (word (m.svn % 256 + 65536 * (s.flash.svn % 256)))

/-- ATTEST_CERT_READY, R521, R539: the certificate for the current key is signed, or the stored one is reused. -/
def execAttestCertReady (digest : Nat) (s : State) : Res :=
  .next (if s.boot.internal && s.coreUp 0 && digest = s.sec.attest && !s.getB R.SEC_BOOT_STATUS 8 then
      ({ s with flash := { s.flash with cert := some digest } }.setB R.SEC_BOOT_STATUS 8 true).raiseInt pSEC 3
    else s)

/-- R516, R520: the seed of the device identity key, of the fused DEVICE_SECRET. The same die always yields the same one. -/
def identitySeed : Nat := Config.hkdf Config.deviceSecret "BX880 identity"

/-- R521: the seed of the attestation key, of DEVICE_SECRET over the measurement digest. -/
def State.attestSeed (s : State) : Nat := Config.crypto Config.deviceSecret s.sec.attest

/-- R520 to R522: the chain of slot 0: root, intermediate and identity certificate as flash stores them, and the attestation key's certificate, which the identity key signs. -/
def State.certChain (s : State) : List Nat := [s.flash.idCert, Config.crypto identitySeed s.attestSeed]

/-! ## Sessions and requests -/

/-- What SEC_REQ_STATUS shows; `n`: requests completed. -/
def State.noteReqs (s : State) (n : Nat) : State :=
  s.wr R.SEC_REQ_STATUS (word (s.sec.waitKey.length + 256 * s.sec.sessions.length + 65536 * ((s.getF R.SEC_REQ_STATUS 16 16 + n) % 65536)))

def State.session? (s : State) (i : Nat) : Option Session := s.sec.sessions.find? (fun x => x.id = i)

/-- End every session but one. -/
def State.endSessions (s : State) (but : Option Nat) : State :=
  { s with sec := { s.sec with sessions := s.sec.sessions.filter (fun x => some x.id = but) } }.noteReqs 0

/-- R523: the requests that need a signature. -/
def spdmSigns : SpdmReq → Bool
  | .challenge | .keyExchange => true
  | .getMeasurements _ signed => signed
  | _ => false

/-- R522, R519: core 0 serves one SPDM request. -/
def State.serveSpdm (s : State) (doe : Bool) (r : SpdmReq) : State :=
  let need := fun (i : Nat) (f : State → State) => if (s.session? i).isSome then f s else s.emit (.spdm .unexpected [])
  match r with
  | .getMeasurements i _ =>
    if i = 0 then s.emit (.spdm .ok [11])
    else if i = 255 then s.emit (.spdm .ok ((List.range 11).map (fun k => s.measureOf (k + 1))))
    else if i ≤ 11 then s.emit (.spdm .ok [s.measureOf i])
    else s.emit (.spdm .unsupported [])
  | .getCertificate slot => s.emit (if slot = 0 then .spdm .ok s.certChain else .spdm .unsupported [])
  | .keyExchange =>
    if 4 ≤ s.sec.sessions.length then s.emit (.spdm .refused [])
    else
      let i := s.sec.lastSession + 1
      ({ s with sec := { s.sec with lastSession := i, sessions := s.sec.sessions ++ [(⟨i, doe, none⟩ : Session)] } }.noteReqs 0).emit (.spdm .ok [i])
  | .endSession i =>
    need i (fun s => ({ s with sec := { s.sec with sessions := s.sec.sessions.filter (fun x => x.id ≠ i) } }.noteReqs 0).emit (.spdm .ok []))
  | .finish i | .heartbeat i | .keyUpdate i => need i (fun s => s.emit (.spdm .ok []))
  | .getVersion | .getCapabilities | .negotiateAlgorithms | .getDigests | .challenge | .chunkSend | .chunkGet => s.emit (.spdm .ok [])
  | .unsupported _ => s.emit (.spdm .unsupported [])

/-- The entropy source has failed its health tests: sealing, opening and SPDM stop (R536). -/
def State.entropyBad (s : State) : Bool := s.sec.alarms.contains 4

/-- SPDM_REQUEST, R522, R523, R62. -/
def execSpdmRequest (doe : Bool) (req : SpdmReq) (s : State) : Res :=
  .next (
    if !s.dieUp || !s.boot.internal || (doe && !s.linkUp) then s
    else if (spdmSigns req) && (!s.coreUp 0 || !s.getB R.SEC_BOOT_STATUS 8) then s.emit (.spdm .responseNotReady [16])
    else if !s.coreUp 0 || s.entropyBad then { s with sec := { s.sec with waitSpdm := s.sec.waitSpdm ++ [(doe, req)] } }
    else s.serveSpdm doe req)

/-- The requests that waited are served, in arrival order. -/
def State.serveWaiting (s : State) : State :=
  let l := s.sec.waitSpdm
  l.foldl (fun s x => s.serveSpdm x.1 x.2) { s with sec := { s.sec with waitSpdm := [] } }

/-! ## Key slots (R525, R526, R537) -/

/-- R537: erase every slot with a cause. -/
def State.eraseAll (s : State) (cause : Nat) : State := (List.range 1024).foldl (fun s i => s.eraseSlot i cause) s

def State.keyRefused (s : State) (slot : Nat) : State :=
  (s.logErr pSEC 0x06 clsDevice 0 noTags 0 (slot % 1024)).emit (.spdm .refused [])

/-- R195, R526: KEY_SET. -/
def State.keySet (s : State) (slot owner keyId key : Nat) : State :=
  let owned := ((List.range 1024).filter (fun i => i ≠ slot && s.slotState i = 1 && s.getF (R.SEC_SLOT_STATUS i) 8 6 = owner)).length
  if 1024 ≤ slot || 64 ≤ owner || s.slotState slot = 1 || s.getF (R.TRN_FN_KEYS owner) 0 11 ≤ owned || !s.sec.alarms.isEmpty || s.sec.wasOpen then
    s.keyRefused slot
  else
    let st := s.rd (R.SEC_SLOT_STATUS slot)
    let s := s.wr (R.SEC_SLOT_STATUS slot) (word (1 + 256 * owner + 65536 * fld st 16 1))
    let s := s.wr (R.SEC_SLOT_KEY_ID slot) (word keyId)
    let s := { s with sec := { s.sec with key := s.sec.key.put slot key, pn := s.sec.pn.del slot } }
    s.emit (.spdm .ok [Config.crypto key 0 % 2 ^ 32])

def State.keyErase (s : State) (slot : Nat) : State :=
  let s := if slot = 0xFFFF then s.eraseAll 1 else if slot < 1024 then s.eraseSlot slot 1 else s
  s.emit (.spdm .ok [])

def State.keyQuery (s : State) (slot : Nat) : State :=
  s.emit (.spdm .ok [s.slotState slot, s.getF (R.SEC_SLOT_STATUS slot) 8 6, (s.rd (R.SEC_SLOT_KEY_ID slot)).toNat, (s.sec.pn.look slot).getD 0])

/-- R524: a change of DEBUG_OPEN, asked for in a session. -/
def State.setDebug (s : State) (session : Nat) (open' : Bool) : State :=
  if s.debugOpen = open' then s
  else
    let s := s.setB R.SEC_BOOT_STATUS 9 open'
    let s := if open' then { s.eraseAll 1 with sec := { (s.eraseAll 1).sec with wasOpen := true } } else { s with fwc := { s.fwc with halted := [] } }
    (s.measureState.reattest).endSessions (some session)

/-- R524: DEBUG_UNLOCK. -/
def State.unlock (s : State) (x : Session) (serial nonce root : Nat) (sigOk : Bool) : State :=
  if serial = Config.serial && x.nonce = some nonce && sigOk && (root = 1 || (root = 0 && !s.flash.root0Revoked)) then
    (s.setDebug x.id true).emit (.spdm .ok [])
  else (s.logErr pSEC 0x08 clsSecurity 0 noTags 0 0).emit (.spdm .refused [])

/-- R526: core 0 takes one request of the Orangery queue. A request outside a session is answered UnexpectedRequest. -/
def State.serveKey (s : State) (session : Option Nat) (r : KeyReq) : State :=
  match session.bind s.session? with
  | none => s.emit (.spdm .unexpected [])
  | some x =>
    let s := s.noteReqs 1
    match r with
    | .set slot owner keyId key => s.keySet slot owner keyId key
    | .erase slot => s.keyErase slot
    | .query slot => s.keyQuery slot
    | .nonce =>
      let f := s.free
      let s := f.2
      let ss := s.sec.sessions.map (fun y => if y.id = x.id then { y with nonce := some f.1 } else y)
      { s with sec := { s.sec with sessions := ss } }.emit (.spdm .ok [f.1])
    | .unlock serial nonce root sigOk => s.unlock x serial nonce root sigOk
    | .lock => (s.setDebug x.id false).emit (.spdm .ok [])

/-- R526: a request arrives. While core 0 restarts, 16 wait; a further one is answered Busy. -/
def State.keyRequest (s : State) (session : Option Nat) (r : KeyReq) : State :=
  if !s.dieUp || !s.boot.internal then s
  else if (session.bind s.session?).isNone then s.emit (.spdm .unexpected [])
  else if s.coreUp 0 && !s.entropyBad then s.serveKey session r
  else if 16 ≤ s.sec.waitKey.length then s.emit (.spdm .busy [])
  else { s with sec := { s.sec with waitKey := s.sec.waitKey ++ [(session, r)] } }.noteReqs 0

def State.serveKeys (s : State) : State :=
  let l := s.sec.waitKey
  l.foldl (fun s x => s.serveKey x.1 x.2) ({ s with sec := { s.sec with waitKey := [] } }.noteReqs 0)

/-- KEY_SET, R526. -/
def execKeySet (session : Option Nat) (slot owner keyId key : Nat) (s : State) : Res := .next (s.keyRequest session (.set slot owner keyId key))

/-- KEY_ERASE, R526. -/
def execKeyErase (session : Option Nat) (slot : Nat) (s : State) : Res := .next (s.keyRequest session (.erase slot))

/-- KEY_QUERY, R526. -/
def execKeyQuery (session : Option Nat) (slot : Nat) (s : State) : Res := .next (s.keyRequest session (.query slot))

/-- DEBUG_NONCE, R524. -/
def execDebugNonce (session : Option Nat) (s : State) : Res := .next (s.keyRequest session .nonce)

/-- DEBUG_UNLOCK, R524. -/
def execDebugUnlock (session : Option Nat) (serial nonce root : Nat) (sigOk : Bool) (s : State) : Res :=
  .next (s.keyRequest session (.unlock serial nonce root sigOk))

/-- DEBUG_LOCK, R524. -/
def execDebugLock (session : Option Nat) (s : State) : Res := .next (s.keyRequest session .lock)

/-- What waited for a core is served (R62, R506, R526). -/
def State.coreServes (s : State) (c : Nat) : State :=
  let s := s.serveInbox c
  if c = 0 && s.dieUp && s.coreUp 0 then s.serveWaiting.serveKeys else s

/-- DEBUG_MODULE_ACCESS, R524: commands 0 halt, 1 single-step, 2 resume; any other is an abstract command. While DEBUG_OPEN is 0 every one is refused. -/
def execDebugModuleAccess (core command arg : Nat) (s : State) : Res :=
  .next (
    if !s.dieUp || 6 ≤ core then s
    else
      let s := s.emit (.debugModule core command arg s.debugOpen)
      if !s.debugOpen then s
      else if command = 0 && !s.fwc.halted.contains core then { s with fwc := { s.fwc with halted := s.fwc.halted ++ [core] } }
      else if command = 2 then
        { s with fwc := { s.fwc with halted := s.fwc.halted.erase core } }.coreServes core
      else s)

/-! ## Alarms (R536) -/

/-- SECURITY_ALARM, R536. -/
def execSecurityAlarm (alarm : Nat) (s : State) : Res :=
  .next (
    if 5 ≤ alarm || !s.dieUp || s.sec.alarms.contains alarm then s
    else
      let loaded := (List.range 1024).filter (fun i => s.slotState i = 1)
      let owners := ((loaded.map (fun i => s.getF (R.SEC_SLOT_STATUS i) 8 6)).eraseDups).filter (· ≠ 0)
      let s := { s with sec := { s.sec with alarms := s.sec.alarms ++ [alarm] } }
      let s := (loaded.foldl (fun s i => s.eraseSlot i 2) s).endSessions none
      let s := (s.setB R.SEC_ALARM_STATUS alarm true).raiseInt pSEC 0
      let s := s.logErr pSEC 0x01 clsSecurity 0 noTags 0 (2 ^ alarm)
      (0 :: owners).foldl (fun s f => s.event f pSEC 0x0001 0x01 clsSecurity 0 0 (2 ^ alarm) 0) s)

/-- ALARM_CLEAR, R536: a condition no longer persists. -/
def execAlarmClear (alarm : Nat) (s : State) : Res :=
  .next (if s.sec.alarms.contains alarm then
      let s := { s with sec := { s.sec with alarms := s.sec.alarms.erase alarm } }
      if alarm = 4 && s.coreUp 0 then s.serveWaiting.serveKeys else s
    else s)

/-- R537: a write of SEC_ERASE. -/
def State.secErase (s : State) (v : Word) : State := if v = 0xB8800400#32 then s.eraseAll 1 else s

/-- SEC_ERASE_WRITE, R537. -/
def execSecEraseWrite (v : Word) (s : State) : Res := .next (s.secErase v)

/-! ## Bindings (R528) -/

def State.partSlots (s : State) (i : Nat) : List Nat := [s.getF (R.SEC_PART_SLOTS i) 0 10, s.getF (R.SEC_PART_SLOTS i) 16 10]

/-- What SEC_SLOT_STATUS.BOUND shows for a slot. -/
def State.noteBound (s : State) (slot : Nat) : State :=
  s.setB (R.SEC_SLOT_STATUS slot) 16 ((List.range 256).any (fun i => s.getB (R.SEC_PART_KEY i) 31 && slot ∈ s.partSlots i))

/-- R528: whether entry i, if valid, breaks a rule against another valid entry: its key or one of its slots is there too. -/
def State.bindingClash (s : State) (i : Nat) : Bool :=
  s.getB (R.SEC_PART_KEY i) 31 && (List.range 256).any (fun j => j ≠ i && s.getB (R.SEC_PART_KEY j) 31 &&
    (s.getF (R.SEC_PART_KEY j) 0 16 = s.getF (R.SEC_PART_KEY i) 0 16 || (s.partSlots j).any (fun x => x ∈ s.partSlots i)))

/-- R528: a write of SEC_PART_KEY or SEC_PART_SLOTS. -/
def State.bindingWrite (s : State) (slots : Bool) (i : Nat) (v : Word) : State :=
  let t := s.writePlain pSEC (if slots then 0x060 else 0x05C) i v
  if t.bindingClash i then s.uncodedErr pSEC 0 i
  else ((s.partSlots i ++ t.partSlots i).eraseDups).foldl (fun s k => s.noteBound k) t

/-- BINDING_WRITE, R528. -/
def execBindingWrite (slots : Bool) (i : Nat) (v : Word) (s : State) : Res := .next (if i < 256 then s.bindingWrite slots i v else s)

end Sys2Proof.Machine
end

