-- ==== Sys2Proof/Machine/Restart.lean ====
section
/-! DEFINITION. Sys2Proof/Machine/Restart.lean: crashes and restarts of Boathouse's cores, escalation, handover (R499, R505 to R507, R511 to R515). -/

namespace Sys2Proof.Machine
open Sys2Proof

/-- STATE of a core: 0 RUNNING, 1 RESTARTING, 2 FAILED, 3 BOOTING (R513). -/
def State.coreState (s : State) (c : Nat) : Nat := s.getF (R.FWC_CORE_STATUS c) 0 2

def State.setCore (s : State) (c x : Nat) : State :=
  let old := s.coreState c
  if old = x then s else (s.setF (R.FWC_CORE_STATUS c) 0 2 x).trace (pageType pFWC) 0 0x07 0 none x old

/-- R497: the 16 regions of a core's memory protection unit, as its firmware sets them. -/
def mpuOf (c : Nat) : List MpuRegion := (List.range 16).map (fun i => let r := Config.mpuRegion c i; ⟨r.1, r.2.1, r.2.2⟩)

/-- R497: an access of a component of a core lies within one of its regions. -/
def State.mpuAllows (s : State) (c : Nat) (component addr : Nat) : Bool :=
  ((s.fwc.mpu.look c).getD (mpuOf c)).any (fun r => r.component = component && r.base ≤ addr && addr < r.base + r.len)

/-- A core runs again after a restart, with its memory protection unit set. -/
def State.coreBack (s : State) (c : Nat) : State :=
  let s := { s with fwc := { s.fwc with mpu := s.fwc.mpu.put c (mpuOf c) } }
  ((s.setCore c 0).bump (R.FWC_RESTART_COUNT c)).coreServes c

/-- R512: the next core that a rolled back handover moves back starts to restart. -/
def State.backNext (s : State) : State := match s.fwc.back with | c :: _ => s.setCore c 1 | [] => s

/-- R512: a handover is rolled back: the cores already moved restart onto the old image, the last one first; the bank stays PENDING. -/
def State.rollBack (s : State) (core : Nat) (back : List Nat) : State :=
  let s := { s with fwc := { s.fwc with handover := none, back := back } }
  ((s.setF R.FWC_HANDOVER_STATUS 0 3 4).fwErr 0x05 core 0).backNext

/-- The cores of R512 in their turn. -/
def handoverOrder : List Nat := [5, 4, 3, 2, 1, 0]

/-- R507: the crashes of a core within WINDOW_S. -/
def State.noteCrash (s : State) (core : Nat) : State :=
  let window := s.getF R.FWC_ESCALATE 8 16 * 1000000000
  let l := (((s.fwc.crashes.look core).getD []).filter (fun t => s.devTime < t + window)) ++ [s.devTime]
  { s with fwc := { s.fwc with crashes := s.fwc.crashes.put core l } }.setF (R.FWC_CORE_STATUS core) 8 8 (min 255 l.length)

/-- R507, R514: an escalation: a warm reset, or the core is held FAILED. -/
def State.escalate (s : State) (core cause : Nat) : State :=
  let s := (s.fwErr 0x02 core cause).fwEvent 1 0x0031 0x02 (core + 16 * cause) 0
  if s.getB R.FWC_ESCALATE 31 then s.warmReset .watchdog else s.setCore core 2

/-- R505, R508, R515: a core stops and its restart begins: it is staged for a dump, a dump that core 0 was writing stays invalid and staged, and a handover
in progress rolls back. -/
def State.stopCore (s : State) (core cause : Nat) : State :=
  let s := { s with fwc := { s.fwc with lastCrash := s.devTime, cause := s.fwc.cause.put core cause } }
  let s := (s.setCore core 1).stageDump core cause
  let s := if core = 0 then { s with fwc := { s.fwc with writing := none } }.noteDumps else s
  match s.fwc.handover with
  | some moved => s.rollBack core ((handoverOrder.drop moved.length).take 1 ++ moved.reverse)
  | none => s

/-- R499, R507, R549: a crash of a core. -/
def State.crash (s : State) (core cause : Nat) : State :=
  let s := ((s.stopCore core cause).noteCrash core).freeze 6
  if s.getF R.FWC_ESCALATE 0 8 < ((s.fwc.crashes.look core).getD []).length then s.escalate core cause else s

/-- CORE_CRASH, R497 to R499: causes 1 fault, 3 SECDED, 4 access map. `access`: the memory access that the core's memory protection unit checks, as component and address:
one within a region of the component is no fault. FWC_MPU_FAULT_COUNT counts MPU faults and access-map refusals. -/
def execCoreCrash (core cause : Nat) (access : Option (Nat × Nat)) (s : State) : Res :=
  .next (if !s.dieUp || 6 ≤ core || s.coreState core ≠ 0 || access.any (fun a => s.mpuAllows core a.1 a.2) then s
    else (if access.isSome || cause = 4 then s.bump R.FWC_MPU_FAULT_COUNT else s).crash core (cause % 16))

/-- WATCHDOG_EXPIRY, R505, R524: a hang. The watchdog of a halted core does not count. -/
def execWatchdogExpiry (core : Nat) (s : State) : Res :=
  .next (if !s.dieUp || 6 ≤ core || !s.coreUp core then s else s.crash core 2)

/-- CORE_RESTART_DONE, R505, R514. A core that crashed and that a rolled back handover has moved restarts once more, in its turn. -/
def execCoreRestartDone (core : Nat) (s : State) : Res :=
  .next (
    if !s.dieUp || 6 ≤ core || s.coreState core ≠ 1 then s
    else match s.fwc.cause.look core with
      | some cause =>
        let s := { s with fwc := { s.fwc with cause := s.fwc.cause.del core } }
        let s := (s.coreBack core).fwErr 0x01 core cause
        (s.fwEvent 0 0x0030 0x01 (core + 16 * cause) 0).backNext
      | none =>
        match s.fwc.back with
        | c :: rest => if c = core then ({ s with fwc := { s.fwc with back := rest } }.coreBack core).backNext else s
        | [] => s)

/-- R513: a write of FWC_CORE_RESTART: cause 5. It is no crash in the sense of R507. -/
def State.coreRestartWrite (s : State) (v : Word) : State :=
  let core := v.toNat - 0xB8800100
  if v.toNat < 0xB8800100 || 6 ≤ core || s.coreState core = 1 then s.uncodedErr pFWC 0 v.toNat clsFirmware else s.stopCore core 5

/-- CORE_RESTART_WRITE, R513. -/
def execCoreRestartWrite (v : Word) (s : State) : Res := .next (s.coreRestartWrite v)

/-! ## Handover (R511, R512) -/

/-- R511: the conditions of a handover; the image it moves to. -/
def State.handoverTo (s : State) : Option (Nat × Image) :=
  match s.flash.pending with
  | none => none
  | some b =>
    match (s.bank b).info with
    | none => none
    | some m =>
      let now := (s.rd R.FWC_IF_VERSION).toNat
      if m.ifv / 65536 % 65536 = now / 65536 && now % 65536 ≤ m.ifv % 65536 && m.accepts.contains (s.rd R.FWC_FW_VERSION).toNat &&
          handoverOrder.all (fun c => s.coreState c = 0) && s.fwc.handover.isNone && s.fwc.back.isEmpty then
        some (b, m)
      else none

/-- R511, R513: a write of FWC_HANDOVER. A value that is not the key does nothing. -/
def State.handoverWrite (s : State) (v : Word) : State :=
  if v ≠ 0xB8800300#32 then s
  else if s.handoverTo.isNone then s.fwErr 0x04 0 0
  else
    let s := { s with fwc := { s.fwc with handover := some [] } }
    (s.wr R.FWC_HANDOVER_STATUS (word (1 + 16 * 5))).setCore 5 1

/-- HANDOVER_START, R511. -/
def execHandoverStart (v : Word) (s : State) : Res := .next (s.handoverWrite v)

/-- R502, R504, R512: the end of a handover: the new bank is active in trial, and this was its trial boot. -/
def State.handoverEnd (s : State) (b : Nat) (m : Image) : State :=
  let old := s.rd R.FWC_IF_VERSION
  let s := { s with
    flash := { s.flash with active := b, trial := true, trialBooted := true, pending := none },
    fwc := { s.fwc with handover := none, running := some m } }
  let s := (s.wr R.FWC_IF_VERSION (word m.ifv)).wr R.FWC_FW_VERSION (word m.fw)
  let s := ((((s.wr R.FWC_HANDOVER_STATUS 2).noteBank).loadSec m).measureImage m false).reattest
  let s := s.fwEvent 3 0x0033 0 (m.ifv % 2 ^ 32) 0
  if old = word m.ifv then s
  else (List.range 64).foldl (fun s f => s.event f pFWC 0x0035 0 clsFirmware 0 0 (m.ifv % 2 ^ 32) 0) s

/-- HANDOVER_CORE_DONE, R512: the core in progress runs the new image, or could not convert its state and resumes on the old one. -/
def execHandoverCoreDone (ok : Bool) (s : State) : Res :=
  .next (match s.fwc.handover with
    | none => s
    | some moved =>
      let core := 5 - moved.length
      let s := s.coreBack core
      if !ok then s.rollBack core moved.reverse
      else if core = 0 then
        match s.flash.pending with
        | some b => match (s.bank b).info with | some m => s.handoverEnd b m | none => s
        | none => s
      else
        let s := { s with fwc := { s.fwc with handover := some (moved ++ [core]) } }
        (s.wr R.FWC_HANDOVER_STATUS (word (1 + 16 * (core - 1)))).setCore (core - 1) 1)

end Sys2Proof.Machine
end

