-- ==== Sys2Proof/Machine/Debug.lean ====
section
/-! DEFINITION. Sys2Proof/Machine/Debug.lean: counters, freeze, trace, Belvedere, the hang detector and DEBUG_READ (chapter 18). -/

namespace Sys2Proof.Machine
open Sys2Proof

/-! ## Counters (R543, R548) -/

def State.counter (s : State) (i : Nat) : Nat := (s.dbg.counters.look i).getD 0

/-- R548: a write of CNT_CLEAR. -/
def State.cntClear (s : State) (v : Word) : State :=
  let n := v.toNat - 0xB8800700
  if v = 0xB8800600#32 then { s with dbg := { s.dbg with counters := [] } }
  else if 0xB8800700 ≤ v.toNat && n < 64 then { s with dbg := { s.dbg with counters := s.dbg.counters.del n } }
  else s.uncodedErr pCNT 0 v.toNat

/-- CNT_CLEAR_ALL, R548. -/
def execCntClearAll (v : Word) (s : State) : Res := .next (s.cntClear v)

/-- CNT_CLEAR_ONE, R548. -/
def execCntClearOne (v : Word) (s : State) : Res := .next (s.cntClear v)

/-! ## Freeze (R549 to R552) -/

/-- R552: the freeze ends. -/
def State.thaw (s : State) : State := { s with dbg := { s.dbg with postLeft := none } }.setB (statusK pDBG) 0 false

/-- R549, R552, R561: a write of DBG_FREEZE. -/
def State.freezeWrite (s : State) (v : Word) : State :=
  if v = 0xB8800500#32 then s.freeze 0
  else if v = 0xB8800501#32 then s.thaw
  else s.logErr pDBG 0x03 clsDevice 0 noTags 0 0

/-- FREEZE, R549. -/
def execFreeze (v : Word) (s : State) : Res := .next (s.freezeWrite v)

/-- FREEZE_RELEASE, R552. -/
def execFreezeRelease (v : Word) (s : State) : Res := .next (s.freezeWrite v)

/-- CREW_FREEZE_FALL, R551, R63. -/
def execCrewFreezeFall (s : State) : Res := .next (if s.dieUp && !s.hw.freezeIgnored then s.freeze 1 else s)

/-- MCTP_FREEZE, R549, R62: core 5 serves debug commands; one that comes while it restarts is held. -/
def execMctpFreeze (s : State) : Res :=
  .next (if !s.dieUp then s else if s.coreUp 5 then s.freeze 7 else s.holdMctp 5 .freeze)

/-- CREW_FREEZE_PULSE_END, R550: 2 µs have passed. -/
def execCrewFreezePulseEnd (s : State) : Res :=
  .next (if s.dbg.crewDriven then { s.emit (.pin "CREW_FREEZE#" true) with dbg := { s.dbg with crewDriven := false } } else s)

/-! ## Trace (R553, R555) -/

/-- R553: the 32 bytes of a record. -/
def TraceRec.bytes (r : TraceRec) : List Byte :=
  leBytes 8 r.time ++ leBytes 4 (r.block % 256 + 256 * (r.inst % 256) + 65536 * (r.event % 256) + 2 ^ 24 * (r.fn % 64) + 2 ^ 30 * b2n r.desc) ++
  leBytes 4 r.job ++ leBytes 4 (r.layer + 65536 * r.oper) ++ leBytes 4 r.arg0 ++ leBytes 8 r.arg1

/-- DBG STATUS.TRACING: records are taken. -/
def State.tracing (s : State) : Bool := s.getB R.DBG_TRACE_CTRL 0 && s.dbg.postLeft ≠ some 0

/-- R555, R561: a write of DBG_TRACE_CTRL. Spilling that a fault has stopped starts again when SPILL is written. -/
def State.traceCtrlWrite (s : State) (v : Word) : State :=
  let s := s.writePlain pDBG 0x054 0 v
  if bit v 2 then { s with dbg := { s.dbg with spillStopped := false } } else s

/-- TRACE_SPILL, R555: the oldest 4 KiB of the buffer moves to the spill region, in class MAINT. The region lies in DEVICE pages of function 0; any other page ends
spilling as a fault does. -/
def execTraceSpill (hv : HostView) (s : State) : Res :=
  .next (
    let size := s.getF R.DBG_SPILL_SIZE 0 16 * 2 ^ 20
    if !s.dieUp || !s.getB R.DBG_TRACE_CTRL 2 || size = 0 || s.dbg.spillStopped || s.dbg.trace.length < 128 then s
    else
      let va := s.pair R.DBG_SPILL_BASE_LO R.DBG_SPILL_BASE_HI + s.dbg.spillPos % size
      let stop := fun (s : State) => { s with dbg := { s.dbg with spillStopped := true } }.logErr pDBG 0x02 clsDevice 0 noTags va 0
      if !s.allDevice 0 va 4096 then stop s
      else match s.vwrite hv 6 0 va ((s.dbg.trace.take 128).flatMap TraceRec.bytes) with
        | (s, some _) => stop s
        | (s, none) => { s with dbg := { s.dbg with trace := s.dbg.trace.drop 128, spillPos := (s.dbg.spillPos + 4096) % size } })

/-! ## Belvedere (R556 to R559) -/

/-- A running descriptor's reason of R559. -/
def State.opWait (s : State) (i : Nat) (o : Op) : Nat :=
  if o.st == .done then (if o.issued then 0 else 6)
  else if !s.chainReady o then 4
  else if !s.fenceReady i o then 5
  else if o.waitFault then 7
  else if s.groups.any (fun g => match g.2.running with | some h => h.op = i | none => false) then 9
  else if s.ydt.xfers.any (fun e => match e.2.owner with | .part j _ => j = i | _ => false) || s.par.unsent.any (fun p => p.op = i) then 10
  else if isContext o.desc then 3
  else 0

/-- R559: why the head of an admission queue does not advance. -/
def State.queueWait (s : State) (src : Source) : Nat :=
  let fn := s.srcFn src
  let q := s.queue src
  let ring := match src with
    | .ring f r => if s.ringState f r = 4 then 13 else if s.ringState f r = 3 then 14 else if s.getB (statusK (ringPage f r)) 4 then 6 else 0
    | .pav _ => 0
    | .tq t => if s.tqState t = 2 || s.tqDepth t ≤ (s.tq t).pending.length then 11 else 0
  if ring ≠ 0 then ring
  else match q.cache with
    | [] => 0
    | w :: _ =>
      if !s.admitOpen fn q w.desc then 15
      else if !s.admitRoom fn w.desc then (if isContext w.desc then 1 else 8)
      else 0

/-- A dual-clock queue of R23: how many there are, the width of an entry in bytes, the depth. -/
structure CdqKind where
  number : Nat
  width : Nat
  depth : Nat
deriving DecidableEq, Repr

/-- R23: the dual-clock queues, by pair of domains and direction: cluster data and control, memory controllers, Ethernet ports, Ozmen virtual lanes, host link (posted,
non-posted, completion), Boathouse, timestamp points, always-on. -/
def cdqKinds : List CdqKind :=
  [⟨32, 128, 32⟩, ⟨32, 16, 16⟩, ⟨160, 32, 64⟩, ⟨16, 192, 128⟩, ⟨64, 192, 16⟩, ⟨6, 64, 64⟩, ⟨12, 16, 32⟩, ⟨16, 8, 4⟩, ⟨2, 4, 8⟩]

/-- R24, R26: what waits to cross into queue i of a kind. An entry crosses in the step that makes it (log entry 4), but for those bound for a Boathouse core that is not
up: they stand in its queue, and beyond its depth with their producers, in order (`Fwc.inq`). -/
def State.cdqHeld (s : State) (kind i : Nat) : Nat := if kind = 6 && i < 6 then ((s.fwc.inq.look i).getD []).length else 0

/-- R24, R558: every dual-clock queue: its kind and number, its occupancy, and whether its producer stalls. -/
def State.queueStates (s : State) : List (List Nat) :=
  (cdqKinds.zipIdx).flatMap (fun k => (List.range k.1.number).map (fun i =>
    [k.2, i, min k.1.depth (s.cdqHeld k.2 i), b2n (decide (k.1.depth < s.cdqHeld k.2 i))]))

/-- The admission queues. -/
def allQueues : List Source :=
  (List.range 1024).filterMap (fun k => if k % 16 = 0 then none else some (Source.ring (k / 16) (k % 16))) ++
  (List.range 64).map Source.pav ++ (List.range 4096).map Source.tq

/-- R558: the sections of a snapshot. In section 7 no request waits at a memory channel between two commands (log entry 4). -/
def State.sections (s : State) : List (Nat × List (List Nat)) :=
  let rings := (List.range 1024).filter (· % 16 ≠ 0)
  let desc := fun (d : Desc) => [dWord d 0, (descTags d).layer, (descTags d).oper, (descTags d).job]
  [ (1, rings.map (fun k =>
      let f := k / 16
      let r := k % 16
      let c := fun (k : Nat) => (s.rd k).toNat
      [f, r, s.ringState f r, c (R.RNG_PRODUCER_SEQ f r), c (R.RNG_CONSUMED_SEQ f r), c (R.RNG_COMPLETED_SEQ f r), c (R.RNG_CQ_WRITTEN_SEQ f r),
        c (R.RNG_HOST_SEEN_SEQ f r), b2n (s.queue (.ring f r)).chain.isSome, s.getF (statusK (ringPage f r)) 4 1, s.queueWait (.ring f r)])),
    (2, allQueues.map (fun q => srcKey q :: ((match (s.queue q).cache with | w :: _ => desc w.desc | [] => []) ++ [s.queueWait q]))),
    (3, allTiles.map (fun x =>
      let t := s.tileAt x.1 x.2
      let head := match t.units with
        | u :: _ => (match s.op? u.1 with | some o => desc o.desc | none => [])
        | [] => []
      [x.1, x.2, t.units.length, b2n (s.tileRetired x.1 x.2)] ++ head)),
    (4, s.trn.faults.map (fun e => [e.fn, e.va, s.uptime - e.since, match e.st with | .queued => 0 | .requested => 1 | .migrating => 2])),
    (5, s.groups.filterMap (fun g => g.2.running.map (fun h =>
      [g.1, g.2.seq, (h.done.map (fun d => d.2)).foldl min 0xFFFF, (h.chunks.map (fun c => c.1)).headD 0, (g.2.credits.map (fun c => c.2)).sum,
        ((g.2.list.map (fun m => m.1)).headD 0)]))),
    (6, (List.range 32).map (fun k => [k / 8, k % 8, s.vlHeld (k / 8) (k % 8), b2n (s.crw.xoffSent.contains k), b2n (s.crw.xoffReceived.contains k)]) ++
      (List.range 64).map (fun k => [k / 8, k % 8, s.classHeld (k / 8) (k % 8), b2n (s.net.pausing.contains k), b2n (s.net.pausedBy.contains k)])),
    (7, s.queueStates ++ (List.range 80).flatMap (fun c => (List.range 7).map (fun k => [c, k, 0]))),
    (8, s.ydt.xfers.map (fun e => [e.1, e.2.inc, e.2.dev, b2n e.2.holding.isSome, e.2.attempts, e.2.timeout, e.2.acked.length])),
    (9, s.ydt.trackers.map (fun t => [t.dev, t.fn, t.opid, t.placed.length, t.expected.getD 0, t.last])),
    (10, (List.range 6).map (fun c => [c, s.coreState c, ((List.range 6).map (fun (f : Nat) => ((s.fwc.mail.look (6 * f + c)).getD []).length)).sum])) ]

/-- R561: a write of DBG_BELV_CTRL. CAPTURE reads 1 until the capture it started is done. -/
def State.belvCtrlWrite (s : State) (v : Word) : State :=
  let was := s.getB R.DBG_BELV_CTRL 0
  let s := (s.writePlain pDBG 0x080 0 v).setB R.DBG_BELV_CTRL 0 was
  if !bit v 0 then s
  else
    let busy := s.dbg.capturing.isSome
    let s := s.startCapture 1
    if !busy && s.dbg.capturing.isSome then s.setB R.DBG_BELV_CTRL 0 true else s

/-- BELVEDERE_CAPTURE, R556, R561. -/
def execBelvedereCapture (v : Word) (s : State) : Res := .next (if bit v 0 then s.belvCtrlWrite v else s)

/-- CAPTURE_DONE, R556, R558, R561: the header is written last. -/
def execCaptureDone (s : State) : Res :=
  .next (match s.dbg.capturing with
    | none => s
    | some (slot, cause, start) =>
      let seq := (s.getF R.DBG_BELV_STATUS 16 16 + 1) % 65536
      let b : BelvSlot := ⟨seq, start, s.devTime, cause, (s.rd R.DBG_FREEZE_CAUSE).toNat, s.sections⟩
      let s := { s with dbg := { s.dbg with capturing := none, slots := s.dbg.slots.put slot b } }
      let s := ((s.setB R.DBG_BELV_STATUS slot true).setF R.DBG_BELV_STATUS 2 1 slot).setF R.DBG_BELV_STATUS 16 16 seq
      ((s.setB R.DBG_BELV_CTRL 0 false).setB (statusK pDBG) 2 false).raiseInt pDBG 1)

/-- R557: what the hang detector sees of a condition, by number: 0 the rings whose completed count is below the consumed one, each with that count; 1 the tile units
dispatched, while Cox holds admitted context work; 2 the fault queue's entries. -/
def State.hangSign (s : State) (condition : Nat) : List Nat :=
  if condition = 0 then
    (List.range 1024).filterMap (fun k =>
      let done := s.rd (R.RNG_COMPLETED_SEQ (k / 16) (k % 16))
      if k % 16 ≠ 0 && done != s.rd (R.RNG_CONSUMED_SEQ (k / 16) (k % 16)) then some (k + 1024 * done.toNat) else none)
  else if condition = 1 then
    if s.ops.any (fun e => isContext e.2.desc && e.2.st != .done) then [(s.tiles.dispatched.map (fun e => e.2.length)).sum] else []
  else if condition = 2 then s.trn.faults.map (fun e => e.page + 2 ^ 64 * e.fn)
  else []

/-- HANG_DETECT, R557, R549: a condition has persisted for HANG_MS. It fires once until the condition clears. -/
def execHangDetect (condition : Nat) (s : State) : Res :=
  .next (
    let now := s.hangSign condition
    let old := ((s.dbg.hangFired.look condition).getD []).filter (fun x => now.contains x)
    if !s.dieUp || !s.getB R.DBG_BELV_CTRL 1 || s.getF R.DBG_BELV_CTRL 16 16 = 0 || now.isEmpty || !old.isEmpty then s
    else
      let s := { s with dbg := { s.dbg with hangFired := s.dbg.hangFired.put condition now } }
      (s.startCapture (3 + 16 * condition)).freeze 5)

/-! ## DEBUG_READ (R560) -/

/-- R560: the counter image. -/
def State.counterImage (s : State) : List Byte := (List.range 64).flatMap (fun i => leBytes 8 (s.counter i)) ++ leBytes 8 s.dbg.freezeTime

/-- R560: what a source holds; none for an invalid slot. -/
def State.debugSource (s : State) (source slot : Nat) : Option (List Byte) :=
  if source = 0 then some (s.dbg.trace.flatMap TraceRec.bytes)
  else if source = 1 then (s.dbg.slots.look slot).map (fun b => (List.range (Config.belvBytes b.seq)).map (fun i => Config.belvByte b.seq i))
  else some s.counterImage

/-- DEBUG_READ, R560. -/
def execDebugRead (op : Nat) (hv : HostView) (s : State) : Res :=
  .next (match s.runnable op [0x77] with
    | none => s
    | some o =>
      let a := dQuad o.desc 0x10
      let source := dfld o.desc 0x18 0 2
      let len := dWord o.desc 0x1C
      if !s.coreUp 5 then s
      else if o.fn ≠ 0 then s.finishOp op stDenied 0
      else if farAddr a || a % 64 ≠ 0 then s.finishOp op stInvalid (invalidAt 0x10)
      else if source = 3 then s.finishOp op stInvalid (invalidAt 0x18)
      else match s.debugSource source (dfld o.desc 0x18 2 1) with
        | none => (s.traceStart o a).finishOp op stOK 0
        | some bs =>
          if len = 0 then (s.traceStart o a).finishOp op stOK bs.length
          else
            let data := bs.take len
            match (s.traceStart o a).vwrite hv 5 o.fn a data (descTags o.desc) with
            | (s, some f) => s.opFail op f true false
            | (s, none) => (s.noteData op o.fn a data.length).finishOp op stOK data.length)

end Sys2Proof.Machine
end

