-- ==== Sys2Proof/Machine/Boot.lean ====
section
/-! DEFINITION. Sys2Proof/Machine/Boot.lean: bring-up, reduced service, SERVICE_CTL and the crew's roster (chapter 19; R503, R504, R519, R538). -/

namespace Sys2Proof.Machine
open Sys2Proof

/-! ## Stage 1 (R503) -/

/-- R503, step 1 and 2: the bank that boots, and whether it is the one before a trial that ended without COMMIT. -/
def State.chooseBank (s : State) : Nat × Bool × Flash :=
  let f := s.flash
  if !f.trial then (f.active, false, f)
  else if !f.trialBooted then (f.active, false, { f with trialBooted := true })
  else (1 - f.active, true, { f with active := 1 - f.active, trial := false, trialBooted := false })

/-- R517: the checks of a bank at boot. `ok`: its bytes in flash verify. -/
def State.bankBoots (s : State) (b : Nat) (ok : Bool) : Option Image :=
  match (s.bank b).info with
  | some m => if ok && (s.bank b).valid && s.imageOk m then some m else none
  | none => none

/-- R503 step 3, R514, R539: a bank that fails its checks is marked invalid. -/
def State.bankFails (s : State) (b : Nat) : State :=
  let s := s.putBank b { s.bank b with valid := false }
  let s := { s with flash := { s.flash with pending := if s.flash.pending = some b then none else s.flash.pending } }
  (s.fwErr 0x03 0 0).logErr pSEC 0x05 clsSecurity 0 noTags 0 0

/-- The bank that boots is the active one. Booting another than the one in trial ends the trial. -/
def State.bootBank (s : State) (b : Nat) (m : Image) : State :=
  let f := s.flash
  let f := if f.active = b then f else { f with active := b, trial := false, trialBooted := false }
  { s with flash := { f with pending := if f.pending = some b then none else f.pending }, fwc := { s.fwc with running := some m } }

/-- R503: the choice of the image: a bank, or the recovery image. -/
def State.chooseImage (s : State) (ok : Nat → Bool) : State × Bool :=
  let c := s.chooseBank
  let s := { s with flash := c.2.2 }
  match s.bankBoots c.1 (ok c.1) with
  | some m => (s.bootBank c.1 m, c.2.1)
  | none =>
    let s := s.bankFails c.1
    let b := 1 - c.1
    match s.bankBoots b (ok b) with
    | some m => (s.bootBank b m, c.2.1)
    | none =>
      let s := if (s.bank b).valid then s.bankFails b else s
      ({ s with boot := { s.boot with recovery := true } }, c.2.1)

/-- R126, R234, R472, R478, R483, R508: what core 0 and core 4 load from flash once they run, and what the registers show of it. -/
def State.loadFlash (s : State) : State :=
  let s := { s with pwr := { s.pwr with coef := s.flash.coef, need := s.flash.need } }
  let s := s.flash.tileState.foldl (fun s e => s.wr (R.CLS_TILE_STATE e.1) e.2) s
  let s := (List.range 64).foldl (fun s t => s.noteFmax t) s
  let s := (List.range 8).foldl (fun s p => s.wr (R.PWR_PHASE_POINT p) (word (s.needOf p))) s
  let s := match s.flash.config.look R.HIF_LINK_CTRL with | some v => s.wr R.HIF_LINK_CTRL v | none => s
  s.noteClocks.noteDumps

/-- INTERNAL_BOOT_DONE, R503, R517, R563, R564: stage 1. `okA`, `okB`: the bytes of bank A and bank B verify. -/
def execInternalBootDone (okA okB : Bool) (s : State) : Res :=
  .next (
    if !s.dieUp || s.boot.internal then s
    else
      let c := s.chooseImage (fun b => if b = 0 then okA else okB)
      let s := { c.1 with boot := { c.1.boot with internal := true } }
      let s := (s.setB R.FWC_BANK 6 c.2).noteBank.loadFlash
      let s := match s.fwc.running with
        | some m =>
          let s := (s.wr R.FWC_IF_VERSION (word m.ifv)).wr R.FWC_FW_VERSION (word m.fw)
          (s.loadSec m).measureImage m true
        | none => s.setB R.SEC_BOOT_STATUS 1 true
      let s := s.measureState.reattest
      let s := if c.2 then s.fwEvent 4 0x0034 0 (s.rd R.FWC_BANK).toNat 0 else s
      s.startTraining)

/-- The bring-up stages after the first run: the image is no recovery image, and BOOT_DONE is not set. -/
def State.booting (s : State) : Bool := s.dieUp && s.boot.internal && !s.boot.recovery && !s.getB (statusK pGLB) 0

/-! ## Stages 2 to 6 -/

/-- R308, R331: every package at a speed. -/
def State.setSpeed (s : State) (fast : Bool) : State :=
  (List.range 20).foldl (fun s nn => s.wr (R.MEM_SPEED nn) (if fast then 9600 else 6400)) s

/-- R58, R323: the training results of the channels that trained go into the configuration region. What a result is the manual does not say: a free value. -/
def State.storeTraining (s : State) (bad : List Nat) : State :=
  let f := s.free
  let l := ((List.range 80).filter (fun c => c ∉ bad)).map (fun c => (c, Config.trainingResult c f.1))
  { f.2 with flash := { f.2.flash with training := l.foldl (fun t e => t.put e.1 e.2) f.2.flash.training } }

/-- MEMORY_TRAINING_DONE, R323, R325, R563, R564: stage 2. `fast`: the channels run at 9,600 MT/s; `failed`: those that failed at both speeds. -/
def execMemoryTrainingDone (fast : Bool) (failed : List Nat) (s : State) : Res :=
  .next (
    if !s.booting || s.boot.mem.isSome then s
    else
      let bad := (List.range 80).filter (fun c => failed.contains c)
      let s := s.storeTraining bad
      let s := { s.setSpeed fast with
        boot := { s.boot with mem := some (fast && bad.isEmpty) },
        idle := { s.idle with selfRefresh := false } }
      let s := (List.range 80).foldl (fun s c => s.setChan c 2) s
      bad.foldl State.channelFails s)

/-- SERDES_CAL_DONE, R563: stage 3. -/
def execSerdesCalDone (ok : Bool) (s : State) : Res :=
  .next (if s.booting && s.boot.serdes.isNone then { s with boot := { s.boot with serdes := some ok } } else s)

/-- R564: a tile that fails at 0.60 GHz too is retired by R233, and logs code 0x05. -/
def State.tileFails (s : State) (k : Nat) : State :=
  let s := if s.tileRetired (k / 4) (k % 4) then s else s.autoRetire (k / 4) (k % 4)
  s.logErr (clsPage (k / 4)) 0x05 clsDevice 0 noTags 0 (k % 4)

/-- The active tiles of a list of 4 × cluster + tile. -/
def State.anyActive (s : State) (l : List Nat) : Bool := (List.range 64).any (fun k => l.contains k && !s.tileRetired (k / 4) (k % 4))

/-- TILE_SELFTEST_DONE, R563, R564: stage 4. `retested`: the tiles that passed only at 0.60 GHz; `failed`: those that failed there too. -/
def execTileSelftestDone (retested failed : List Nat) (s : State) : Res :=
  .next (
    if !s.booting || s.boot.tiles.isSome then s
    else
      let s := ((List.range 64).filter (fun k => failed.contains k)).foldl State.tileFails s
      let s := s.noteClocks
      { s with boot := { s.boot with tiles := some (!(s.anyActive retested || s.anyActive failed)) } })

/-- DRAM_INIT_DONE, R320: stage 5, at power-on: DRAM reads as zero. -/
def execDramInitDone (s : State) : Res :=
  .next (if s.booting && s.boot.mem.isSome && !s.dramInit then { s with dramInit := true, mem := [] } else s)

/-- R477: the end of a calibration: the fitted coefficients, in the order of the parts, or none when the fit fails. -/
def State.calibrated (s : State) (coefs : Option (List (Nat × Nat))) : State :=
  match coefs with
  | some l =>
    let t : Tab (Nat × Nat) := (l.zipIdx).map (fun (e : (Nat × Nat) × Nat) => (e.2, e.1))
    { s with pwr := { s.pwr with coef := t }, flash := { s.flash with coef := t } }.setB R.PWR_MODEL_STATUS 1 true
  | none => (s.setB R.PWR_MODEL_STATUS 1 false).logErr pPWR 0x07 clsPower 0 noTags 0 0

/-- CALIBRATION_DONE, R477: stage 6. -/
def execCalibrationDone (coefs : Option (List (Nat × Nat))) (s : State) : Res :=
  .next (if s.booting && s.boot.mem.isSome && s.dramInit && !s.boot.calib then
      { s.calibrated coefs with boot := { s.boot with calib := true } }
    else s)

/-! ## Stage 7 and service (R565, R566) -/

/-- R565: the unmet conditions, as bits. -/
def State.unmet (s : State) : Nat :=
  b2n (s.boot.mem != some true) + 2 * b2n (s.boot.serdes != some true) + 4 * b2n (s.boot.tiles != some true) +
    8 * b2n (!s.getB R.PWR_MODEL_STATUS 1) + 16 * b2n s.flash.hold

/-- R413: the saved tables go into version 0. -/
def State.loadTables (s : State) : State :=
  let f := s.flash
  let s := { s with net := { s.net with fnAddr := f.fnAddr }, crw := { s.crw with route := f.route, part := f.part } }
  let s := if f.route.isEmpty && f.part.isEmpty then s
    else { s with crw := { s.crw with loaded := [0, 2] } }.wr R.CRW_EPOCH 2
  f.plan.foldl (fun s e =>
    let s := { s with net := { s.net with plans := s.net.plans.put (2 * e.1) e.2 } }
    ((s.setF (R.NET_PORT_PLAN_STATUS e.1) 0 1 0).setB (R.NET_PORT_PLAN_STATUS e.1) 2 true).setEntry e.1 s.devTime) s

/-- R374, R414, R416, R467, R492, R568: the registers that SAVE_CONFIG saves and a boot reloads. -/
def savedKey (k : Nat) : Bool :=
  let page := keyPage k
  let off := keyOff k
  let rw := match regRow page off with | some r => r.acc == .rw | none => false
  (k = R.HIF_LINK_CTRL) || (page = pYDT && rw && (k = R.YDT_DEVICE_ID || off = keyOff (R.YDT_FN_PKEY 0) || off = keyOff (R.YDT_RQ_OWNER 0))) ||
  ((page = pNET || page = pCRW) && (off = 8 || (0x40 ≤ off && rw))) ||
  (page = pCTX && 0x200 ≤ off && off < 0x300 && rw) ||
  k = R.PWR_CAP || k = R.PWR_POLICY || k = R.PWR_DROOP_CTRL || k = R.PWR_FMAX_CTRL || k = R.PWR_THERM_LIMITS

/-- R563: register reloads from the configuration region. -/
def State.loadConfig (s : State) : State := s.flash.config.foldl (fun s e => s.wr e.1 e.2) s

/-- R59, R118, R384: what comes from the vital product data. -/
def State.loadVpd (s : State) : State :=
  let v := s.flash.vpd
  (((s.wr R.GLB_SERIAL_LO (word v.serial)).wr R.GLB_SERIAL_HI (word (v.serial / 2 ^ 32))).wr R.NET_MAC_BASE_LO (word v.macBase)).wr
    R.NET_MAC_BASE_HI (word (v.macBase / 2 ^ 32 % 65536))

/-- R383, R398: enabled ports and links train. -/
def State.trainAll (s : State) : State :=
  let s := (List.range 8).foldl (fun s p => if s.portEnabled p then s.portStart p else s) s
  (List.range 4).foldl (fun s l => if s.getB (ctrlK pCRW) l then s.linkTrain l else s) s

/-- RESTORE_DONE, R204, R413, R467, R563, R565, R566: stage 7. -/
def execRestoreDone (s : State) : Res :=
  .next (
    if !s.booting || s.boot.mem.isNone || s.boot.serdes.isNone || s.boot.tiles.isNone || !s.boot.calib || !s.dramInit then s
    else
      let s := s.loadTables.loadConfig.loadVpd.noteParity
      let full := s.unmet = 0
      let s := if full then s else s.setSpeed false
      ((s.setB (statusK pGLB) 1 full).setB (statusK pGLB) 0 true).noteCap.trainAll)

/-! ## SERVICE_CTL (R568 to R570) -/

/-- R568: RESULT of SERVICE_CTL. -/
def State.serviceResult (s : State) : Nat := s.unmet + 2 ^ 31 * b2n (s.getB (statusK pGLB) 1)

/-- R569: the conditions of R128, the descriptor itself excepted. -/
def State.quietBut (s : State) (i : Nat) (o : Op) : Bool :=
  let t := { s with ops := s.ops.del i }
  let t := match o.src with
    | .ring f r => t.wr (R.RNG_COMPLETED_SEQ f r) (t.rd (R.RNG_COMPLETED_SEQ f r) + 1)
    | .pav _ | .tq _ => t
  (t.idleBlocks.filter (· ≠ 9)).isEmpty &&
    (List.range 64).all (fun f => s.rd (R.MBX_SLOT_BUSY f) == 0 || (o.src == Source.pav f && (s.queue (.pav f)).cache.isEmpty))

/-- A SERVICE_CTL descriptor that core 0 serves: its state is left to `f`. -/
def State.service (s : State) (op action : Nat) (f : State → Op → State) : State :=
  match s.runnable op [0x78] with
  | none => s
  | some o =>
    if dfld o.desc 0x10 0 2 ≠ action || !s.coreUp 0 then s
    else if o.fn ≠ 0 then s.finishOp op stDenied 0
    else f (s.traceStart o 0) o

/-- SERVICE_QUERY, R568. -/
def execServiceQuery (op : Nat) (s : State) : Res := .next (s.service op 0 (fun s _ => s.finishOp op stOK s.serviceResult))

/-- R570 step 1: every port and link goes DOWN. -/
def State.linksDown (s : State) : State :=
  let s := (List.range 8).foldl (fun s p => s.setPort p 0) s
  (List.range 4).foldl (fun s l => (s.setLink l 0).setF (R.CRW_LINK_STATUS l) 4 3 0) s

/-- R565, R570: FULL_SERVICE changes, with its event. -/
def State.setService (s : State) (full : Bool) : State :=
  let s := s.setB (statusK pGLB) 1 full
  s.event 0 pGLB 0x0040 0 clsDevice 0 0 s.serviceResult 0

/-- SERVICE_REQUEST_FULL, R568 to R570. The operands are what the checks of stages 2, 3, 4 and 6 find. -/
def execServiceRequestFull (op : Nat) (fast : Bool) (serdes : Bool) (retested : List Nat) (calib : Bool) (s : State) : Res :=
  .next (s.service op 1 (fun s o =>
    if !s.quietBut op o then s.finishOp op stInvalid (invalidAt 0x10)
    else if s.getB (statusK pGLB) 1 then { s with flash := { s.flash with hold := false } }.finishOp op stOK s.serviceResult
    else
      let s := { s.linksDown with
        flash := { s.flash with hold := false },
        boot := { s.boot with mem := some fast, serdes := some serdes, tiles := some (!s.anyActive retested) } }
      let s := if calib then s.setB R.PWR_MODEL_STATUS 1 true else s.calibrated none
      let full := s.unmet = 0
      let s := s.setSpeed full
      let s := if full then s.setService true else s
      (s.finishOp op stOK s.serviceResult).trainAll))

/-- SERVICE_HOLD_REDUCED, R568 to R570. -/
def execServiceHoldReduced (op : Nat) (s : State) : Res :=
  .next (s.service op 2 (fun s o =>
    if !s.quietBut op o then s.finishOp op stInvalid (invalidAt 0x10)
    else
      let s := { s with flash := { s.flash with hold := true } }
      if !s.getB (statusK pGLB) 1 then s.finishOp op stOK s.serviceResult
      else
        let s := (s.linksDown.setSpeed false).setService false
        (s.finishOp op stOK s.serviceResult).trainAll))

/-- SERVICE_SAVE_CONFIG, R568. -/
def execServiceSaveConfig (op : Nat) (s : State) : Res :=
  .next (s.service op 3 (fun s _ =>
    { s with flash := { s.flash with config := s.regs.keep (fun k _ => savedKey k) } }.finishOp op stOK s.serviceResult))

/-! ## The roster (R571, R572) -/

/-- This member's own record. -/
def State.ownRoster (s : State) : Roster :=
  ⟨s.devId, (s.rd R.GLB_SERIAL_LO).toNat + 2 ^ 32 * (s.rd R.GLB_SERIAL_HI).toNat, s.getB (statusK pGLB) 1, s.crewMaster, 0⟩

/-- R572: the breach of a roster, as (reason, conflicting device ID); (0, 0) for none. -/
def State.rosterBreach (s : State) : Nat × Nat :=
  let own := s.ownRoster
  let all := own :: s.boot.roster.map Prod.fst
  match all.find? (fun r => all.any (fun q => q.dev = r.dev && q.serial ≠ r.serial)) with
  | some r => (1, r.dev)
  | none =>
    match all.find? (fun r => r.dev / 8 ≠ own.dev / 8) with
    | some r => (2, r.dev)
    | none =>
      let masters := all.filter (fun r => r.master)
      if 1 < masters.length then (3, (masters.getD 1 own).dev) else (0, 0)

/-- R572: a breach: the member refuses, or leaves the crew, with a DEVICE event. -/
def State.noteBreach (s : State) : State :=
  let b := s.rosterBreach
  if b.1 = 0 || b.1 = s.boot.breach then s
  else
    let s := { s with boot := { s.boot with breach := b.1 } }.setB (statusK pGLB) 2 false
    s.event 0 pGLB 0x0041 b.1 clsDevice 0 0 (b.2 % 4096) 0

/-- ROSTER_SEND, R571: this member's record goes out on every UP link. Records not heard for 10 ms leave the roster. -/
def execRosterSend (s : State) : Res :=
  .next (
    let s := { s with boot := { s.boot with roster := s.boot.roster.filter (fun e => s.uptime < e.2 + 10000000) } }
    s.linksUp.foldl (fun s l => s.emit (.roster l s.ownRoster)) s)

/-- ROSTER_RECEIVE, R571, R572: a record is new unless the same one came within the last half millisecond; a new one is relayed on the other UP links, up to
6 hops. -/
def execRosterReceive (link : Nat) (r : Roster) (s : State) : Res :=
  .next (
    if s.linkState link ≠ 2 then s
    else
      let same := fun (q : Roster) => q.dev = r.dev && q.serial = r.serial
      let fresh := !(s.boot.roster.any (fun e => same e.1 && e.1.full = r.full && e.1.master = r.master && s.uptime < e.2 + 500000))
      if same s.ownRoster || !fresh then s
      else
        let s := { s with boot := { s.boot with roster := s.boot.roster.filter (fun (e : Roster × Nat) => !same e.1) ++ [(r, s.uptime)] } }
        let s := if r.hops + 1 < 6 then
            s.linksUp.foldl (fun s l => if l = link then s else s.emit (.roster l { r with hops := r.hops + 1 })) s
          else s
        s.noteBreach)

/-- CREW_JOIN, R571, R572: the roster has been clean for 10 ms. -/
def execCrewJoin (s : State) : Res :=
  .next (if s.dieUp && !s.linksUp.isEmpty && s.rosterBreach.1 = 0 then
      { s with boot := { s.boot with breach := 0 } }.setB (statusK pGLB) 2 true
    else s)

end Sys2Proof.Machine
end

