-- ==== Sys2Proof/Machine/Regs.lean ====
section
/-! DEFINITION. Sys2Proof/Machine/Regs.lean: register accesses of the host: reads with their side effects (R6, R8, R114, R115) and writes, each word to
the operation that its register's chapter gives it. -/

namespace Sys2Proof.Machine
open Sys2Proof

/-! ## Reads -/

/-- CRW_EPOCH_AGE (R416): µs since a packet of another epoch was sent, held or received. -/
def State.epochAge (s : State) : Nat :=
  if s.crw.tx.any (fun t => t.pkt.epoch ≠ s.sendEpoch) then 0
  else match s.crw.otherEpochAt with
    | some t => (s.uptime - t) / 1000
    | none => s.uptime / 1000

/-- The value of a register that shows what the device holds elsewhere, in 64 bits for a LO register; of any other, the stored value. -/
def State.view (s : State) (page off idx : Nat) : Nat :=
  let stored := (s.rd (rkey page off idx)).toNat
  match pageKind page, off with
  | some 0, 0x06C => s.devTime
  | some 1, 0x05C => min 65536 s.dirtyLines + 2 ^ 31 * b2n (!s.hif.ccActions.isEmpty)
  | some 4, 0x050 => (s.trn.roots.look idx).getD 0 % 2 ^ 32
  | some 4, 0x054 => (s.trn.roots.look idx).getD 0 / 2 ^ 32
  | some 4, 0x05C => s.memUsed idx
  | some 4, 0x080 => s.trn.faults.length + 65536 * b2n (!s.trn.stalls.isEmpty)
  | some 5, 0x054 => s.phaseStatus.toNat
  | some 5, 0x058 => s.ctxAdmitted.toNat
  | some 7, 0x064 => min 0xFFFFFFFF s.epochAge
  | some 7, 0x068 =>
    s.vlHeld (idx % 4) (idx / 16) % 32768 + 65536 * b2n (s.crw.xoffSent.contains (8 * (idx % 4) + idx / 16)) +
      131072 * b2n (s.crw.xoffReceived.contains (8 * (idx % 4) + idx / 16))
  | some 10, 0x058 => 0
  | some 12, 0x054 => (s.sec.pn.look idx).getD 0 / 65536
  | some 13, 0x07C => s.fwc.lastCrash
  | some 14, 0x00C => stored + 2 * b2n s.tracing
  | some 14, 0x04C => s.dbg.freezeTime
  | some 15, 0x05C => s.counter idx
  | some 18, 0x050 => s.visibleTime
  | some 19, 0x00C =>
    let q := s.queue (.ring (ownerFn page) ((page - 64) % 16))
    stored + 8 * b2n q.chain.isSome + 256 * q.cache.length
  | _, _ => stored

/-- R115: the LO registers whose read latches the register above. -/
def latches (kind off : Nat) : Bool :=
  (kind, off) ∈ [(0, 0x06C), (13, 0x07C), (14, 0x04C), (15, 0x05C), (18, 0x050)]

/-- R157, R180: what a counter of time shows while the time it counts still runs: RNG_CQ_STALL_TIME takes in the wait so far. -/
def State.accrued (s : State) (page off : Nat) : State :=
  if pageKind page = some 19 && off = 0x07C then s.cqStallCount (ownerFn page) ((page - 64) % 16) none
  else if page = pTRN && off = 0x088 then s.stallCount
  else s

/-- R6, R8, R114, R115: a read of one aligned word, with its side effect. An offset without a register reads as zero. PWR_SENSOR_VALUE reads a sensor, whose
value is free. -/
def State.readWord (s : State) (page off : Nat) : Word × State :=
  match regRow page off with
  | none => (0, s)
  | some r =>
    let idx := s.selIdx page off
    let k := rkey page off idx
    match r.acc with
    | .wo | .w1s => (0, s)
    | .rc =>
      let s := s.accrued page off
      (s.rd k, s.wr k 0)
    | .rw | .ro | .w1c =>
      if page = pPWR && off = 0x090 then
        let f := s.free
        (word f.1 &&& 0x80FFFFFF, f.2)
      else
        let v := s.view page off idx
        let s := match pageKind page with
          | some kind => if latches kind off then s.wr (rkey page (off + 4) idx) (word (v / 2 ^ 32)) else s
          | none => s
        (word v, s)

/-- R114: the aligned words of a read, lower address first. -/
def State.readWords (s : State) (page off : Nat) : Nat → List Word × State
  | 0 => ([], s)
  | n + 1 =>
    let r := s.readWord page off
    let t := r.2.readWords page (off + 4) n
    (r.1 :: t.1, t.2)

/-- A read of `words` aligned words from an offset of a page, and its answer. -/
def State.readRegs (s : State) (page off words : Nat) : State :=
  match msixPage page with
  | some fn => s.emit (.readData ((List.range words).map (fun i => s.msixRead fn (off / 4 * 4 + 4 * i))))
  | none =>
    let r := s.readWords page (off / 4 * 4) words
    r.2.emit (.readData r.1)

/-- RC_READ, R6, R8: a read that clears the counters it touches. -/
def execRcRead (page off words : Nat) (s : State) : Res := .next (s.readRegs page off words)

/-- LO_READ, R115: a read of a LO register latches its HI. -/
def execLoRead (page off words : Nat) (s : State) : Res := .next (s.readRegs page off words)

/-! ## Writes -/

/-- A write of a word of the GLB, HIF, TRN or CTX page. -/
def State.writeCore (s : State) (kind off idx : Nat) (v : Word) : State :=
  match kind, off with
  | 0, 0x058 => s.glbWarmReset v
  | 0, 0x05C => s.idleCtrlWrite v
  | 1, 0x058 => s.ccCtrlWrite v
  | 4, 0x044 => s.fnCtrlWrite idx v
  | 4, _ => if (quotaFields off).isEmpty then s.writePlain kind off idx v else s.quotaWrite off idx v
  | 5, 0x044 => s.shareWrite off idx v
  | 5, 0x048 => s.shareWrite off idx v
  | 5, 0x104 => s.tqOwnerWrite idx v
  | 5, 0x200 => s.parRegWrite 0 v
  | 5, 0x204 => s.parRegWrite 1 v
  | 5, 0x208 => s.parRegWrite 2 v
  | 5, 0x20C => s.parRegWrite 3 v
  | 5, 0x210 => s.parLostClear v
  | 5, 0x214 => s.parDeclare v
  | _, _ => s.writePlain kind off idx v

/-- A write of a word of the NET, CRW, YDT, QPM or PWR page. -/
def State.writeLinks (s : State) (kind off idx : Nat) (v : Word) : State :=
  match kind, off with
  | 6, 0x008 => s.netCtrlWrite v
  | 6, 0x04C => s.netShareWrite idx false v
  | 6, 0x050 => s.netShareWrite idx true v
  | 6, 0x05C => s.planArm idx v
  | 7, 0x008 => s.crwCtrlWrite v
  | 7, 0x050 => s.linkRetrain idx v
  | 7, 0x060 => s.epochWrite v
  | 8, 0x040 => s.crewIdWrite v
  | 8, 0x098 => if ((s.ydt.posts.look idx).getD []).isEmpty then s.writePlain kind off idx v else s
  | 9, 0x044 => if s.getF (R.QPM_QP_STATUS idx) 0 3 = 0 then s.writePlain kind off idx v else s
  | 11, 0x040 => s.capWrite v
  | 11, 0x07C => s.fmaxCtrlWrite v
  | _, _ => s.writePlain kind off idx v

/-- A write of a word of the SEC, FWC, DBG, CNT, CLS or MEM page. -/
def State.writeManage (s : State) (kind page off idx : Nat) (v : Word) : State :=
  match kind, off with
  | 12, 0x05C => s.bindingWrite false idx v
  | 12, 0x060 => s.bindingWrite true idx v
  | 12, 0x064 => s.secErase v
  | 13, 0x050 => s.coreRestartWrite v
  | 13, 0x05C => s.bankCtrl v
  | 13, 0x060 => s.handoverWrite v
  | 13, 0x06C => s.dumpClear v
  | 14, 0x040 => s.freezeWrite v
  | 14, 0x054 => s.traceCtrlWrite v
  | 14, 0x078 => s.setPair R.DBG_SPILL_BASE_LO R.DBG_SPILL_BASE_HI v
  | 14, 0x080 => s.belvCtrlWrite v
  | 15, 0x068 => s.setPair (R.CNT_CTR_COMPARE_LO idx) (R.CNT_CTR_COMPARE_HI idx) (v &&& 0xFFFF)
  | 15, 0x06C => s.cntClear v
  | 16, 0x044 => s.tileCtrlWrite (page - 16) v
  | 16, 0x070 => s.injectWrite (page - 16) v
  | 17, 0x06C => s.retrainWrite (page - 32) v
  | 17, 0x0DC => s.classSelWrite v
  | _, _ => s.writePlain page off idx v

/-- A write of a word of a Pavilion page. While the event queue is enabled, a write of its base is ignored (R92). -/
def State.writePav (s : State) (page fn off : Nat) (v : Word) : State :=
  match off with
  | 0x040 => s.pavDoorbell fn v
  | 0x058 => if s.getB (R.MBX_EVQ_CTRL fn) 0 then s else s.writePlain page off 0 v
  | 0x05C => if s.getB (R.MBX_EVQ_CTRL fn) 0 then s else s.setPair (R.MBX_EVQ_BASE_LO fn) (R.MBX_EVQ_BASE_HI fn) v
  | 0x060 => s.evqCtrlWrite fn v
  | 0x068 => s.evqSeenWrite fn v
  | _ => s.writePlain page off 0 v

/-- A write of a word of a ring page. While a ring is enabled, a write of its base is ignored (R138). -/
def State.writeRing (s : State) (page fn r off : Nat) (v : Word) : State :=
  let ring := s.getB (R.RNG_RING_CTRL fn r) 0
  match off with
  | 0x040 => if ring then s else s.writePlain page off 0 v
  | 0x044 => if ring then s else s.setPair (R.RNG_RING_BASE_LO fn r) (R.RNG_RING_BASE_HI fn r) v
  | 0x048 => s.ringCtrlWrite fn r v
  | 0x04C => s.ringDoorbell fn r v
  | 0x05C => s.resyncWrite fn r v
  | 0x060 => s.dcacheInv fn r v
  | 0x068 => s.setPair (R.RNG_CQ_BASE_LO fn r) (R.RNG_CQ_BASE_HI fn r) v
  | 0x06C => s.cqCtrlWrite fn r v
  | 0x074 => s.hostSeenWrite fn r v
  | _ => s.writePlain page off 0 v

/-- R6, R114: a 4-byte write of an aligned word. -/
def State.writeWord (s : State) (page off : Nat) (v : Word) : State :=
  let idx := s.selIdx page off
  let fn := ownerFn page
  match pageKind page with
  | none => match msixPage page with | some f => s.msixWrite f off v | none => s
  | some kind =>
    match off with
    | 0x010 => s.intStatusWrite page v
    | 0x014 => s.intEnableWrite page v
    | 0x018 => s.raiseInts page v
    | _ =>
      if kind ≤ 5 then s.writeCore kind off idx v
      else if kind ≤ 11 then s.writeLinks kind off idx v
      else if kind = 18 then s.writePav page fn off v
      else if kind = 19 then s.writeRing page fn ((page - 64) % 16) off v
      else s.writeManage kind page off idx v

/-- R114: a write outside the slot areas, by the aligned words it touches. -/
def State.writeWords (s : State) (page off : Nat) (data : List (Option Byte)) : State :=
  (List.range ((off % 4 + data.length + 3) / 4)).foldl (fun s i =>
    let at_ := off / 4 * 4 + 4 * i
    let bytes := (List.range 4).map (fun j => if off ≤ at_ + j then (data[at_ + j - off]?).join else none)
    if bytes.all Option.isSome then s.writeWord page at_ (word (leNat (bytes.filterMap id))) else s.bump R.HIF_ERR_COUNT) s

/-- R87, R114: a write to a function's Pavilion page: its words below the slots, then its part in the slot areas. A write that starts in the store-and-submit area
is one of 64 whole bytes, or is discarded. -/
def State.writePavPage (s : State) (page off : Nat) (data : List (Option Byte)) : State :=
  let fn := ownerFn page
  if 0x800 ≤ off then s.writeWords page off data
  else if 0x600 ≤ off then
    if data.all Option.isSome then s.pavGo fn off (data.filterMap id) else s.bump (R.MBX_REJECT_COUNT fn)
  else
    let low := data.take (0x400 - off)
    let s := if low.isEmpty then s else s.writeWords page off low
    if 0x400 < off + data.length then s.pavSlotWrite fn (max off 0x400) (data.drop (0x400 - off)) else s

/-- REGISTER_WRITE, R6, R114 to R116. `data`: the bytes from the offset on; none where a byte is not enabled. -/
def execRegisterWrite (page off : Nat) (data : List (Option Byte)) (s : State) : Res :=
  .next (if pageKind page = some 18 then s.writePavPage page off data else s.writeWords page off data)

end Sys2Proof.Machine
end

