-- ==== Sys2Proof/Machine/Dispatch.lean ====
section
/-! DEFINITION. Sys2Proof/Machine/Dispatch.lean: one arm per command. -/

namespace Sys2Proof.Machine
open Sys2Proof

def exec (i : Instr) (s : State) : Host.Outcome State Fault Refusal :=
  match i with
  | .auxEntry addr1 addr0 => Sys2Proof.Machine.execAuxEntry addr1 addr0 s
  | .inputAccept => Sys2Proof.Machine.execInputAccept s
  | .bulkCharged => Sys2Proof.Machine.execBulkCharged s
  | .railGood => Sys2Proof.Machine.execRailGood s
  | .onEntry straps => Sys2Proof.Machine.execOnEntry straps s
  | .inputRelease => Sys2Proof.Machine.execInputRelease s
  | .inputLockout => Sys2Proof.Machine.execInputLockout s
  | .inputLockoutEnd => Sys2Proof.Machine.execInputLockoutEnd s
  | .railGoodLost rail => Sys2Proof.Machine.execRailGoodLost rail s
  | .pwrdisRise => Sys2Proof.Machine.execPwrdisRise s
  | .pwrdisFall highMs => Sys2Proof.Machine.execPwrdisFall highMs s
  | .auxLoss mv => Sys2Proof.Machine.execAuxLoss mv s
  | .auxRestore mv => Sys2Proof.Machine.execAuxRestore mv s
  | .lowInput mv => Sys2Proof.Machine.execLowInput mv s
  | .lowInputEnd mv => Sys2Proof.Machine.execLowInputEnd mv s
  | .hardwareTrip sensor => Sys2Proof.Machine.execHardwareTrip sensor s
  | .tripClear sensor => Sys2Proof.Machine.execTripClear sensor s
  | .modResetAssert => Sys2Proof.Machine.execModResetAssert s
  | .modResetRelease => Sys2Proof.Machine.execModResetRelease s
  | .perstAssert discarded => Sys2Proof.Machine.execPerstAssert discarded s
  | .perstRelease => Sys2Proof.Machine.execPerstRelease s
  | .smbusTimeout => Sys2Proof.Machine.execSmbusTimeout s
  | .crewFreezeStuck => Sys2Proof.Machine.execCrewFreezeStuck s
  | .crewFreezeClear => Sys2Proof.Machine.execCrewFreezeClear s
  | .crewTimeLoss => Sys2Proof.Machine.execCrewTimeLoss s
  | .crewTimeRestored => Sys2Proof.Machine.execCrewTimeRestored s
  | .cageI2cTimeout cage => Sys2Proof.Machine.execCageI2cTimeout cage s
  | .mctpMessage smbus kind payload => Sys2Proof.Machine.execMctpMessage smbus kind payload s
  | .pldmFwUpdate smbus off data last => Sys2Proof.Machine.execPldmFwUpdate smbus off data last s
  | .pldmSensorRead sensor value => Sys2Proof.Machine.execPldmSensorRead sensor value s
  | .mctpDumpRead what => Sys2Proof.Machine.execMctpDumpRead what s
  | .mctpWarmReset => Sys2Proof.Machine.execMctpWarmReset s
  | .hostLinkReset discarded => Sys2Proof.Machine.execHostLinkReset discarded s
  | .linkTrained width speed negotiated reversed => Sys2Proof.Machine.execLinkTrained width speed negotiated reversed s
  | .refclkRetry => Sys2Proof.Machine.execRefclkRetry s
  | .linkRecovery => Sys2Proof.Machine.execLinkRecovery s
  | .ccDisable v => Sys2Proof.Machine.execCcDisable v s
  | .ccWbInv v => Sys2Proof.Machine.execCcWbInv v s
  | .ccWritebackDone => Sys2Proof.Machine.execCcWritebackDone s
  | .snoop fn line inv => Sys2Proof.Machine.execSnoop fn line inv s
  | .mbxDoorbell fn v => Sys2Proof.Machine.execMbxDoorbell fn v s
  | .mbxGo fn off data => Sys2Proof.Machine.execMbxGo fn off data s
  | .mbxSlotWrite fn off data => Sys2Proof.Machine.execMbxSlotWrite fn off data s
  | .pavilionTake fn => Sys2Proof.Machine.execPavilionTake fn s
  | .evqEnable fn v => Sys2Proof.Machine.execEvqEnable fn v s
  | .evqDisable fn v => Sys2Proof.Machine.execEvqDisable fn v s
  | .evqSeenWrite fn v => Sys2Proof.Machine.execEvqSeenWrite fn v s
  | .eventRecordWrite fn hv => Sys2Proof.Machine.execEventRecordWrite fn hv s
  | .visibleTimeRead fn words => Sys2Proof.Machine.execVisibleTimeRead fn words s
  | .probePeriodic => Sys2Proof.Machine.execProbePeriodic s
  | .probeReturn issued => Sys2Proof.Machine.execProbeReturn issued s
  | .unimplementedAccess off write => Sys2Proof.Machine.execUnimplementedAccess off write s
  | .intStatusW1c page v => Sys2Proof.Machine.execIntStatusW1c page v s
  | .intSet page v => Sys2Proof.Machine.execIntSet page v s
  | .rcRead page off words => Sys2Proof.Machine.execRcRead page off words s
  | .loRead page off words => Sys2Proof.Machine.execLoRead page off words s
  | .registerWrite page off data => Sys2Proof.Machine.execRegisterWrite page off data s
  | .glbWarmReset v => Sys2Proof.Machine.execGlbWarmReset v s
  | .warmResetRelease => Sys2Proof.Machine.execWarmResetRelease s
  | .idleRequestZ1 v => Sys2Proof.Machine.execIdleRequestZ1 v s
  | .idleRequestZ2 v => Sys2Proof.Machine.execIdleRequestZ2 v s
  | .idleExitRequest v => Sys2Proof.Machine.execIdleExitRequest v s
  | .idleMove v => Sys2Proof.Machine.execIdleMove v s
  | .idleAuto => Sys2Proof.Machine.execIdleAuto s
  | .idleEntryDone => Sys2Proof.Machine.execIdleEntryDone s
  | .wake src => Sys2Proof.Machine.execWake src s
  | .idleExitDone => Sys2Proof.Machine.execIdleExitDone s
  | .selfRefreshExit => Sys2Proof.Machine.execSelfRefreshExit s
  | .clusterPowerUp nn => Sys2Proof.Machine.execClusterPowerUp nn s
  | .rngDoorbell fn ring v => Sys2Proof.Machine.execRngDoorbell fn ring v s
  | .ringEnable fn ring v => Sys2Proof.Machine.execRingEnable fn ring v s
  | .ringDisable fn ring v => Sys2Proof.Machine.execRingDisable fn ring v s
  | .cqEnable fn ring v => Sys2Proof.Machine.execCqEnable fn ring v s
  | .cqDisable fn ring v => Sys2Proof.Machine.execCqDisable fn ring v s
  | .ringPause fn ring v => Sys2Proof.Machine.execRingPause fn ring v s
  | .ringResume fn ring v => Sys2Proof.Machine.execRingResume fn ring v s
  | .dcacheInv fn ring v => Sys2Proof.Machine.execDcacheInv fn ring v s
  | .hostSeenWrite fn ring v => Sys2Proof.Machine.execHostSeenWrite fn ring v s
  | .cqResync fn ring v => Sys2Proof.Machine.execCqResync fn ring v s
  | .resyncSeqWrite fn ring v => Sys2Proof.Machine.execResyncSeqWrite fn ring v s
  | .descriptorFetch fn ring => Sys2Proof.Machine.execDescriptorFetch fn ring s
  | .fetchReturn fn ring hv => Sys2Proof.Machine.execFetchReturn fn ring hv s
  | .descriptorAdmit src => Sys2Proof.Machine.execDescriptorAdmit src s
  | .completionIssue src hv => Sys2Proof.Machine.execCompletionIssue src hv s
  | .cqModTimer fn ring => Sys2Proof.Machine.execCqModTimer fn ring s
  | .tlbMiss fn va => Sys2Proof.Machine.execTlbMiss fn va s
  | .tlbFill fn va write ats => Sys2Proof.Machine.execTlbFill fn va write ats s
  | .atsCompletion fn va whole permitted write => Sys2Proof.Machine.execAtsCompletion fn va whole permitted write s
  | .atsInvalidation fn va len => Sys2Proof.Machine.execAtsInvalidation fn va len s
  | .faultStallRelease => Sys2Proof.Machine.execFaultStallRelease s
  | .priRequest fn va => Sys2Proof.Machine.execPriRequest fn va s
  | .priResponse fn va code => Sys2Proof.Machine.execPriResponse fn va code s
  | .priTimeout fn va => Sys2Proof.Machine.execPriTimeout fn va s
  | .migrateOnFaultDone fn va hv => Sys2Proof.Machine.execMigrateOnFaultDone fn va hv s
  | .map op => Sys2Proof.Machine.execMap op s
  | .unmap op => Sys2Proof.Machine.execUnmap op s
  | .protect op => Sys2Proof.Machine.execProtect op s
  | .migrate op hv => Sys2Proof.Machine.execMigrate op hv s
  | .advise op => Sys2Proof.Machine.execAdvise op s
  | .quotaWrite reg fn v => Sys2Proof.Machine.execQuotaWrite reg fn v s
  | .quiesceStart fn v => Sys2Proof.Machine.execQuiesceStart fn v s
  | .quiesceFlushEscalate fn v => Sys2Proof.Machine.execQuiesceFlushEscalate fn v s
  | .quiesceEnd fn v => Sys2Proof.Machine.execQuiesceEnd fn v s
  | .quiesced fn => Sys2Proof.Machine.execQuiesced fn s
  | .instanceReset fn v => Sys2Proof.Machine.execInstanceReset fn v s
  | .instanceResetDone fn => Sys2Proof.Machine.execInstanceResetDone fn s
  | .vfRemove numVfs => Sys2Proof.Machine.execVfRemove numVfs s
  | .workUnitDispatch nn t offered => Sys2Proof.Machine.execWorkUnitDispatch nn t offered s
  | .tileBlock nn t fa fb load scale a b own => Sys2Proof.Machine.execTileBlock nn t fa fb load scale a b own s
  | .tileRetire nn v => Sys2Proof.Machine.execTileRetire nn v s
  | .tileRestore nn v => Sys2Proof.Machine.execTileRestore nn v s
  | .selfTestDone nn t pass => Sys2Proof.Machine.execSelfTestDone nn t pass s
  | .checkInject nn v => Sys2Proof.Machine.execCheckInject nn v s
  | .stretchInit op hv => Sys2Proof.Machine.execStretchInit op hv s
  | .append op hv => Sys2Proof.Machine.execAppend op hv s
  | .attendDense op hv join => Sys2Proof.Machine.execAttendDense op hv join s
  | .attendSelected op hv join => Sys2Proof.Machine.execAttendSelected op hv join s
  | .summarise op hv => Sys2Proof.Machine.execSummarise op hv s
  | .truncate op hv => Sys2Proof.Machine.execTruncate op hv s
  | .packWaitExpiry op hv join => Sys2Proof.Machine.execPackWaitExpiry op hv join s
  | .ctxShareWrite share fn v => Sys2Proof.Machine.execCtxShareWrite share fn v s
  | .copy op hv => Sys2Proof.Machine.execCopy op hv s
  | .write op hv => Sys2Proof.Machine.execWrite op hv s
  | .send op hv => Sys2Proof.Machine.execSend op hv s
  | .read op hv => Sys2Proof.Machine.execRead op hv s
  | .windowSet op => Sys2Proof.Machine.execWindowSet op s
  | .windowClose op => Sys2Proof.Machine.execWindowClose op s
  | .recvPost op => Sys2Proof.Machine.execRecvPost op s
  | .qpModify op hv => Sys2Proof.Machine.execQpModify op hv s
  | .nop op => Sys2Proof.Machine.execNop op s
  | .timestamp op hv => Sys2Proof.Machine.execTimestamp op hv s
  | .invalidOpcode op => Sys2Proof.Machine.execInvalidOpcode op s
  | .triggerArm op hv => Sys2Proof.Machine.execTriggerArm op hv s
  | .triggerArmDone q => Sys2Proof.Machine.execTriggerArmDone q s
  | .triggerDisarm op => Sys2Proof.Machine.execTriggerDisarm op s
  | .triggerDisarmDone q => Sys2Proof.Machine.execTriggerDisarmDone q s
  | .triggerRunAdmit q => Sys2Proof.Machine.execTriggerRunAdmit q s
  | .tqOwnerWrite q v => Sys2Proof.Machine.execTqOwnerWrite q v s
  | .scrubStep hv => Sys2Proof.Machine.execScrubStep hv s
  | .scrubWake => Sys2Proof.Machine.execScrubWake s
  | .oscillatorRead chan linkErrors => Sys2Proof.Machine.execOscillatorRead chan linkErrors s
  | .channelRetrain chan => Sys2Proof.Machine.execChannelRetrain chan s
  | .memRetrainRequest nn v => Sys2Proof.Machine.execMemRetrainRequest nn v s
  | .retrainDone ok us => Sys2Proof.Machine.execRetrainDone ok us s
  | .refresh nn temp => Sys2Proof.Machine.execRefresh nn temp s
  | .memTempHot nn temp => Sys2Proof.Machine.execMemTempHot nn temp s
  | .arbAgeExpiry chan waiting => Sys2Proof.Machine.execArbAgeExpiry chan waiting s
  | .classSelWrite v => Sys2Proof.Machine.execClassSelWrite v s
  | .writePacketReceive hv => Sys2Proof.Machine.execWritePacketReceive hv s
  | .readRequestReceive hv => Sys2Proof.Machine.execReadRequestReceive hv s
  | .reconstructStaged stage hv => Sys2Proof.Machine.execReconstructStaged stage hv s
  | .stageExpiry stage => Sys2Proof.Machine.execStageExpiry stage s
  | .readResponderSend r hv => Sys2Proof.Machine.execReadResponderSend r hv s
  | .readResponseReceive hv => Sys2Proof.Machine.execReadResponseReceive hv s
  | .sendPacketReceive hv => Sys2Proof.Machine.execSendPacketReceive hv s
  | .ackReceive hv => Sys2Proof.Machine.execAckReceive hv s
  | .nakReceive withdrawn => Sys2Proof.Machine.execNakReceive withdrawn s
  | .probeReceive => Sys2Proof.Machine.execProbeReceive s
  | .ackDelayTimer dev fn opid => Sys2Proof.Machine.execAckDelayTimer dev fn opid s
  | .retransmitTimeout queuePair slot hv => Sys2Proof.Machine.execRetransmitTimeout queuePair slot hv s
  | .holdingEnd slot => Sys2Proof.Machine.execHoldingEnd slot s
  | .trackerExpiry dev fn opid => Sys2Proof.Machine.execTrackerExpiry dev fn opid s
  | .sendRecordExpiry dev fn opid => Sys2Proof.Machine.execSendRecordExpiry dev fn opid s
  | .pathProbe dev path => Sys2Proof.Machine.execPathProbe dev path s
  | .orderedSendRelease slot hv => Sys2Proof.Machine.execOrderedSendRelease slot hv s
  | .ccPeriod => Sys2Proof.Machine.execCcPeriod s
  | .rateIdleReset queuePair j => Sys2Proof.Machine.execRateIdleReset queuePair j s
  | .rateFloor dev => Sys2Proof.Machine.execRateFloor dev s
  | .crewIdWrite v => Sys2Proof.Machine.execCrewIdWrite v s
  | .qpPacketReceive hv => Sys2Proof.Machine.execQpPacketReceive hv s
  | .netModeWrite v => Sys2Proof.Machine.execNetModeWrite v s
  | .portEnable v => Sys2Proof.Machine.execPortEnable v s
  | .portTrainDone port failed => Sys2Proof.Machine.execPortTrainDone port failed s
  | .portDown port fec => Sys2Proof.Machine.execPortDown port fec s
  | .laneFaultRetry port => Sys2Proof.Machine.execLaneFaultRetry port s
  | .frameReceive port f fec => Sys2Proof.Machine.execFrameReceive port f fec s
  | .pauseRepeat port cls => Sys2Proof.Machine.execPauseRepeat port cls s
  | .frameTransmit port => Sys2Proof.Machine.execFrameTransmit port s
  | .shareWrite port high v => Sys2Proof.Machine.execShareWrite port high v s
  | .timeSourceTimeout => Sys2Proof.Machine.execTimeSourceTimeout s
  | .crewTimeDrive => Sys2Proof.Machine.execCrewTimeDrive s
  | .crewTimePulse => Sys2Proof.Machine.execCrewTimePulse s
  | .timeBlockReceive link b => Sys2Proof.Machine.execTimeBlockReceive link b s
  | .planSwitchArm port v => Sys2Proof.Machine.execPlanSwitchArm port v s
  | .planSwitch port => Sys2Proof.Machine.execPlanSwitch port s
  | .gateChange port => Sys2Proof.Machine.execGateChange port s
  | .linkEnable v => Sys2Proof.Machine.execLinkEnable v s
  | .linkRetrain link v => Sys2Proof.Machine.execLinkRetrain link v s
  | .linkTrainDone link r => Sys2Proof.Machine.execLinkTrainDone link r s
  | .linkTrainRetry link => Sys2Proof.Machine.execLinkTrainRetry link s
  | .laneExclude link lane lost fec => Sys2Proof.Machine.execLaneExclude link lane lost fec s
  | .widthChangeDone link => Sys2Proof.Machine.execWidthChangeDone link s
  | .linkTimeout link => Sys2Proof.Machine.execLinkTimeout link s
  | .controlBlockSend link => Sys2Proof.Machine.execControlBlockSend link s
  | .ozmenPacketReceive link p fec => Sys2Proof.Machine.execOzmenPacketReceive link p fec s
  | .xoffRepeat link vl => Sys2Proof.Machine.execXoffRepeat link vl s
  | .ozmenTransmit link => Sys2Proof.Machine.execOzmenTransmit link s
  | .xoffReceive link vl xoff => Sys2Proof.Machine.execXoffReceive link vl xoff s
  | .headDrop link vl input => Sys2Proof.Machine.execHeadDrop link vl input s
  | .epochWrite v => Sys2Proof.Machine.execEpochWrite v s
  | .tableXfer op hv => Sys2Proof.Machine.execTableXfer op hv s
  | .tableSave => Sys2Proof.Machine.execTableSave s
  | .groupSet op hv => Sys2Proof.Machine.execGroupSet op hv s
  | .groupDelete op => Sys2Proof.Machine.execGroupDelete op s
  | .heat op hv => Sys2Proof.Machine.execHeat op hv s
  | .heatAbort op => Sys2Proof.Machine.execHeatAbort op s
  | .heatDataReceive => Sys2Proof.Machine.execHeatDataReceive s
  | .creditReceive => Sys2Proof.Machine.execCreditReceive s
  | .abortReceive => Sys2Proof.Machine.execAbortReceive s
  | .chunkSend group chunk hv => Sys2Proof.Machine.execChunkSend group chunk hv s
  | .chunkMerge group chunk crcOk first again hv => Sys2Proof.Machine.execChunkMerge group chunk crcOk first again hv s
  | .heatTimeout group => Sys2Proof.Machine.execHeatTimeout group s
  | .paritySync op hv => Sys2Proof.Machine.execParitySync op hv s
  | .parityUnbind op hv => Sys2Proof.Machine.execParityUnbind op hv s
  | .recoverLandmarks op hv => Sys2Proof.Machine.execRecoverLandmarks op hv s
  | .recoverBlocks op => Sys2Proof.Machine.execRecoverBlocks op s
  | .recoveryDone op hv => Sys2Proof.Machine.execRecoveryDone op hv s
  | .rescan op hv => Sys2Proof.Machine.execRescan op hv s
  | .rescanDone => Sys2Proof.Machine.execRescanDone s
  | .memberLossDetect member => Sys2Proof.Machine.execMemberLossDetect member s
  | .parDeclare v => Sys2Proof.Machine.execParDeclare v s
  | .parWithdraw v => Sys2Proof.Machine.execParWithdraw v s
  | .parLostClear v => Sys2Proof.Machine.execParLostClear v s
  | .parCtrlWrite reg v => Sys2Proof.Machine.execParCtrlWrite reg v s
  | .burstRewrite burst => Sys2Proof.Machine.execBurstRewrite burst s
  | .sramPatrol w uncorrectable => Sys2Proof.Machine.execSramPatrol w uncorrectable s
  | .powerModelTick counts hot vcore measured => Sys2Proof.Machine.execPowerModelTick counts hot vcore measured s
  | .capControlTick => Sys2Proof.Machine.execCapControlTick s
  | .clockStep nn => Sys2Proof.Machine.execClockStep nn s
  | .railReached measured => Sys2Proof.Machine.execRailReached measured s
  | .trimTick rails => Sys2Proof.Machine.execTrimTick rails s
  | .modelStale percent => Sys2Proof.Machine.execModelStale percent s
  | .modelStaleClear percent => Sys2Proof.Machine.execModelStaleClear percent s
  | .phaseUpdate obs => Sys2Proof.Machine.execPhaseUpdate obs s
  | .clusterIdleTimer nn => Sys2Proof.Machine.execClusterIdleTimer nn s
  | .droopDetect nn => Sys2Proof.Machine.execDroopDetect nn s
  | .droopEnd nn => Sys2Proof.Machine.execDroopEnd nn s
  | .droopLong nn => Sys2Proof.Machine.execDroopLong nn s
  | .fmaxRetrain => Sys2Proof.Machine.execFmaxRetrain s
  | .fmaxStart v => Sys2Proof.Machine.execFmaxStart v s
  | .fmaxTileTestDone tile passed => Sys2Proof.Machine.execFmaxTileTestDone tile passed s
  | .thermalCapTick hot conv measured => Sys2Proof.Machine.execThermalCapTick hot conv measured s
  | .dramThrottleTick nn temp => Sys2Proof.Machine.execDramThrottleTick nn temp s
  | .paceLapse group => Sys2Proof.Machine.execPaceLapse group s
  | .capWrite v => Sys2Proof.Machine.execCapWrite v s
  | .mctpCap watts => Sys2Proof.Machine.execMctpCap watts s
  | .inletHot temp => Sys2Proof.Machine.execInletHot temp s
  | .coreCrash core cause access => Sys2Proof.Machine.execCoreCrash core cause access s
  | .watchdogExpiry core => Sys2Proof.Machine.execWatchdogExpiry core s
  | .coreRestartDone core => Sys2Proof.Machine.execCoreRestartDone core s
  | .coreRestartWrite v => Sys2Proof.Machine.execCoreRestartWrite v s
  | .bankActivate v => Sys2Proof.Machine.execBankActivate v s
  | .bankCommit v => Sys2Proof.Machine.execBankCommit v s
  | .bankCheck image => Sys2Proof.Machine.execBankCheck image s
  | .handoverStart v => Sys2Proof.Machine.execHandoverStart v s
  | .handoverCoreDone ok => Sys2Proof.Machine.execHandoverCoreDone ok s
  | .dumpWrite done => Sys2Proof.Machine.execDumpWrite done s
  | .dumpRead op hv => Sys2Proof.Machine.execDumpRead op hv s
  | .dumpClear v => Sys2Proof.Machine.execDumpClear v s
  | .spdmRequest doe req => Sys2Proof.Machine.execSpdmRequest doe req s
  | .keySet session slot owner keyId key => Sys2Proof.Machine.execKeySet session slot owner keyId key s
  | .keyErase session slot => Sys2Proof.Machine.execKeyErase session slot s
  | .keyQuery session slot => Sys2Proof.Machine.execKeyQuery session slot s
  | .debugNonce session => Sys2Proof.Machine.execDebugNonce session s
  | .debugUnlock session serial nonce root sigOk => Sys2Proof.Machine.execDebugUnlock session serial nonce root sigOk s
  | .debugLock session => Sys2Proof.Machine.execDebugLock session s
  | .debugModuleAccess core command arg => Sys2Proof.Machine.execDebugModuleAccess core command arg s
  | .attestCertReady digest => Sys2Proof.Machine.execAttestCertReady digest s
  | .securityAlarm alarm => Sys2Proof.Machine.execSecurityAlarm alarm s
  | .secEraseWrite v => Sys2Proof.Machine.execSecEraseWrite v s
  | .bindingWrite slots j v => Sys2Proof.Machine.execBindingWrite slots j v s
  | .cntClearAll v => Sys2Proof.Machine.execCntClearAll v s
  | .cntClearOne v => Sys2Proof.Machine.execCntClearOne v s
  | .freeze v => Sys2Proof.Machine.execFreeze v s
  | .freezeRelease v => Sys2Proof.Machine.execFreezeRelease v s
  | .crewFreezeFall => Sys2Proof.Machine.execCrewFreezeFall s
  | .mctpFreeze => Sys2Proof.Machine.execMctpFreeze s
  | .crewFreezePulseEnd => Sys2Proof.Machine.execCrewFreezePulseEnd s
  | .traceSpill hv => Sys2Proof.Machine.execTraceSpill hv s
  | .belvedereCapture v => Sys2Proof.Machine.execBelvedereCapture v s
  | .captureDone => Sys2Proof.Machine.execCaptureDone s
  | .hangDetect condition => Sys2Proof.Machine.execHangDetect condition s
  | .debugRead op hv => Sys2Proof.Machine.execDebugRead op hv s
  | .internalBootDone okA okB => Sys2Proof.Machine.execInternalBootDone okA okB s
  | .memoryTrainingDone fast failed => Sys2Proof.Machine.execMemoryTrainingDone fast failed s
  | .serdesCalDone ok => Sys2Proof.Machine.execSerdesCalDone ok s
  | .tileSelftestDone retested failed => Sys2Proof.Machine.execTileSelftestDone retested failed s
  | .dramInitDone => Sys2Proof.Machine.execDramInitDone s
  | .calibrationDone coefs => Sys2Proof.Machine.execCalibrationDone coefs s
  | .restoreDone => Sys2Proof.Machine.execRestoreDone s
  | .serviceQuery op => Sys2Proof.Machine.execServiceQuery op s
  | .serviceRequestFull op fast serdes retested calib => Sys2Proof.Machine.execServiceRequestFull op fast serdes retested calib s
  | .serviceHoldReduced op => Sys2Proof.Machine.execServiceHoldReduced op s
  | .serviceSaveConfig op => Sys2Proof.Machine.execServiceSaveConfig op s
  | .rosterSend => Sys2Proof.Machine.execRosterSend s
  | .rosterReceive link r => Sys2Proof.Machine.execRosterReceive link r s
  | .crewJoin => Sys2Proof.Machine.execCrewJoin s
  | .inputReversed => Sys2Proof.Machine.execInputReversed s
  | .cagePresentChange cage present => Sys2Proof.Machine.execCagePresentChange cage present s
  | .alarmClear alarm => Sys2Proof.Machine.execAlarmClear alarm s
  | .coefficientSave => Sys2Proof.Machine.execCoefficientSave s
  | .msiXUnmask fn vec => Sys2Proof.Machine.execMsiXUnmask fn vec s
  | .intEnableWrite page v => Sys2Proof.Machine.execIntEnableWrite page v s
  | .pauseQuantaExpiry port cls => Sys2Proof.Machine.execPauseQuantaExpiry port cls s
  | .memTempNormal nn temp => Sys2Proof.Machine.execMemTempNormal nn temp s

end Sys2Proof.Machine
end

