-- ==== Sys2Proof/Safety.lean ====
section
/-! DEFINITION. Sys2Proof/Safety.lean: the terms in which claims speak: the parts of the state, what a command leaves as it was, and the invariants of the
machine. -/

namespace Sys2Proof.Machine
open Sys2Proof

/-- The parts of State that a command can change (the queue is not among them): its fields, and apart from the rest of `fwc` the messages that wait for a core. -/
inductive Field where
  | out | freeCtr | uptime | devTime | regs | mem | dramInit | hw | hif | events | idle | ops | chains | nextOp | nextChain | queues | lastTag
  | trn | tiles | tqs | msys | ydt | qpm | net | crw | groups | par | pwr | flash | fwc | inbox | boot | sec | dbg
deriving DecidableEq, Repr

/-- A part is as it was. Memory is compared by its bytes, registers by what each holds. -/
def Field.Same : Field → State → State → Prop
  | .out, s, t => t.out = s.out
  | .freeCtr, s, t => t.freeCtr = s.freeCtr
  | .uptime, s, t => t.uptime = s.uptime
  | .devTime, s, t => t.devTime = s.devTime
  | .regs, s, t => ∀ k, t.rd k = s.rd k
  | .mem, s, t => ∀ p, t.dram p = s.dram p
  | .dramInit, s, t => t.dramInit = s.dramInit
  | .hw, s, t => t.hw = s.hw
  | .hif, s, t => t.hif = s.hif
  | .events, s, t => t.events = s.events
  | .idle, s, t => t.idle = s.idle
  | .ops, s, t => t.ops = s.ops
  | .chains, s, t => t.chains = s.chains
  | .nextOp, s, t => t.nextOp = s.nextOp
  | .nextChain, s, t => t.nextChain = s.nextChain
  | .queues, s, t => t.queues = s.queues
  | .lastTag, s, t => t.lastTag = s.lastTag
  | .trn, s, t => t.trn = s.trn
  | .tiles, s, t => t.tiles = s.tiles
  | .tqs, s, t => t.tqs = s.tqs
  | .msys, s, t => t.msys = s.msys
  | .ydt, s, t => t.ydt = s.ydt
  | .qpm, s, t => t.qpm = s.qpm
  | .net, s, t => t.net = s.net
  | .crw, s, t => t.crw = s.crw
  | .groups, s, t => t.groups = s.groups
  | .par, s, t => t.par = s.par
  | .pwr, s, t => t.pwr = s.pwr
  | .flash, s, t => t.flash = s.flash
  | .fwc, s, t => { t.fwc with inq := [] } = { s.fwc with inq := [] }
  | .inbox, s, t => t.fwc.inq = s.fwc.inq
  | .boot, s, t => t.boot = s.boot
  | .sec, s, t => t.sec = s.sec
  | .dbg, s, t => t.dbg = s.dbg

/-- Only the named parts can have changed. -/
def Only (changed : List Field) (s t : State) : Prop := t.pending = s.pending ∧ ∀ p : Field, p ∉ changed → p.Same s t

/-- Only the named registers can have changed. -/
def RegsBut (ks : List Nat) (s t : State) : Prop := ∀ k, k ∉ ks → t.rd k = s.rd k

/-- R9, R10: every register but the named ones that lists an event in its Kept column is as it was, and every other one is at its Reset value. -/
def RegsEvent (ev : Nat) (ks : List Nat) (s t : State) : Prop := ∀ k, k ∉ ks → t.rd k = if keptOn ev k then s.rd k else regDefault k

/-- What telling about an event can change: registers, messages, events or the inbox of the core that raises them, counters, trace, and a freeze with the wake it
causes (R549). -/
def telling : List Field := [.out, .regs, .hif, .events, .idle, .net, .crw, .inbox, .dbg]

/-- The registers in which an event is told: the common registers of a page (R105), the debug page, the idle state, and the count of lost events. -/
def tellKey (k : Nat) : Bool :=
  decide (keyOff k < 0x40) || keyPage k == pDBG || k == R.GLB_WAKE_CAUSE || k == R.GLB_IDLE_STATUS || (64 ≤ keyPage k && keyOff k == 0x06C)

/-- At most an event is told: no other part and no other register changes. -/
def Told (s t : State) : Prop := Only telling s t ∧ ∀ k, tellKey k = false → t.rd k = s.rd k

/-- A change of the named fields and registers, and at most an event told. -/
def TellsIn (changed : List Field) (ks : List Nat) (s t : State) : Prop :=
  Only (telling ++ changed) s t ∧ ∀ k, tellKey k = false → k ∉ ks → t.rd k = s.rd k

/-- As `TellsIn`, where only registers change. -/
def ToldBut (ks : List Nat) (s t : State) : Prop := TellsIn [] ks s t

/-- Every byte of memory reads as before. -/
def SameMem (s t : State) : Prop := ∀ p, t.dram p = s.dram p

/-- Every byte of memory outside n bytes from address a reads as before. -/
def MemBut (a n : Nat) (s t : State) : Prop := ∀ p, p < a ∨ a + n ≤ p → t.dram p = s.dram p

/-- The descriptors whose accesses wait on a fault. -/
def faultOps (e : FaultQ) : List Nat := e.waiters.filterMap (fun (w : Waiter) => match w with | .op i => some i | .cox i => some i | _ => none)

/-- n bytes of memory from address a read zero. -/
def Zeroed (t : State) (a n : Nat) : Prop := ∀ p, a ≤ p → p < a + n → t.dram p = 0

/-- The page tables that a function's root or a table entry names (R171). -/
def State.tablesNamed (s : State) : List Nat :=
  s.trn.roots.map Prod.snd ++ (s.trn.pt.filter (fun e => isTable e.2)).map (fun e => bitsOf e.2 12 40 * 4096)

/-- The page tables are trees that share no table: entries and named tables lie in the tables taken so far, every listed entry is VALID, and no table is named
twice (R170 to R172). -/
abbrev PageTables.wf (s : State) : Bool :=
  Tab.wf (fun _ => 0) s.trn.pt && s.trn.roots.rising &&
    s.trn.pt.all (fun e => bitOf e.2 0 && decide (tableAt 0 ≤ e.1) && decide (e.1 < tableAt s.trn.nextTable)) &&
    s.tablesNamed.all (fun a => decide (a % 4096 = 0) && decide (tableAt 0 ≤ a) && decide (a < tableAt s.trn.nextTable)) && decide s.tablesNamed.Nodup

/-- The page tables are well formed, and n pages more can be mapped before a table's address would leave the 40 bits of an entry. -/
abbrev TablesFor (s : State) (n : Nat) : Prop := PageTables.wf s = true ∧ s.trn.nextTable + 4 * n < 2 ^ 39

/-- n bytes from a function's address va lie in DEVICE pages at the device addresses from p, may be accessed, and hold no poison. -/
abbrev DevRange (s : State) (hv : HostView) (fn va p n : Nat) (wr : Bool) : Prop :=
  ∀ i, i < n → s.access hv fn (va + i) wr = .dev (p + i) ∧ s.badBurst ((p + i) / 64) = false ∧ (p + i) / 64 ∉ hv.ue

/-- The oldest packet of a TYPE that waits, of those chosen, is x's: in clear, for an enabled endpoint of its partition; the device is active (R129). -/
abbrev Oldest (s : State) (typ : Nat) (sel : Pkt → Bool) (x : Rx) : Prop :=
  s.ydt.rx.find? (fun y => decide (y.pkt.typ = typ) && sel y.pkt) = some x ∧ s.endpointOn x.pkt.dstFn = true ∧ s.pkey x.pkt.dstFn = x.pkt.partition ∧
  x.pkt.encrypted = false ∧ s.encrypts x.pkt.dstFn = false ∧ s.idleState = 0 ∧ s.idle.selfRefresh = false

/-- The state once a packet has left its buffer. -/
def State.without (s : State) (x : Rx) : State := { s with ydt := { s.ydt with rx := s.ydt.rx.erase x } }.bufferFall x.port x.link

/-- The die holds nothing: every register at its Reset value, DRAM undefined, no work in any block, boot not begun (R52, R126). -/
def DieCold (t : State) : Prop :=
  (∀ k, t.rd k = regDefault k) ∧ t.mem = [] ∧ t.dramInit = false ∧ t.ops = [] ∧ t.chains = [] ∧ t.queues = [] ∧ t.events = [] ∧ t.groups = [] ∧
  t.tqs = [] ∧ t.hif = Hif.reset ∧ t.trn = Trn.reset ∧ t.tiles = Tiles.reset ∧ t.msys = MemSys.reset ∧ t.ydt = Ydt.reset ∧ t.qpm = Qpm.reset ∧
  t.net = Net.reset ∧ t.crw = Crw.reset ∧ t.par = Par.reset ∧ t.pwr = Pwr.reset ∧ t.fwc = Fwc.reset ∧ t.boot = Boot.reset ∧ t.sec = Sec.reset ∧
  t.dbg = Dbg.reset ∧ t.idle = Idle.reset

/-- What a warm reset leaves (R125, R126): registers by their Kept column, DRAM in self-refresh with its poison and page tables, parity bindings, flash but for
an update cut off, staged crash dumps, Belvedere snapshots; no work in any block, and a boot that knows of the warm reset. -/
def WarmLeaves (s t : State) : Prop :=
  (∀ k, t.rd k = if keptOn evW k then s.rd k else regDefault k) ∧ SameMem s t ∧ t.dramInit = s.dramInit ∧ t.msys.poison = s.msys.poison ∧
  t.par.bindings = s.par.bindings ∧ t.fwc.staged = s.fwc.staged ∧ t.dbg.slots = s.dbg.slots ∧
  t.trn = { Trn.reset with pt := s.trn.pt.mapv (fun _ e => putBits e 7 1 0), roots := s.trn.roots, nextTable := s.trn.nextTable } ∧
  t.idle = { Idle.reset with selfRefresh := s.dramInit } ∧
  t.flash = { s.flash with banks := s.flash.banks.mapv (fun _ b => b.cutOff) } ∧ t.ops = [] ∧ t.chains = [] ∧ t.queues = [] ∧ t.events = [] ∧
  t.groups = [] ∧ t.tqs = [] ∧ t.ydt = Ydt.reset ∧ t.qpm = Qpm.reset ∧ t.net = Net.reset ∧ t.crw = Crw.reset ∧ t.hif = Hif.reset ∧
  t.tiles = Tiles.reset ∧ t.pwr = Pwr.reset ∧ t.sec = Sec.reset ∧ t.boot = { Boot.reset with warm := true } ∧ t.pending = s.pending

/-- The descriptor i has ended with a status and a RESULT (R15, R154). -/
abbrev Ended (t : State) (i status result : Nat) : Prop :=
  (t.op? i).map (fun o => (o.st, o.status, o.result)) = some (OpSt.done, status, result)

/-- The bytes of memory are in their canonical form: rising addresses, and none that equals what an unlisted byte reads as (MEMORY of INVENTORY.md). -/
abbrev Memory.wf (s : State) : Bool := Tab.wf s.memDefault s.mem

/-- The registers are in their canonical form: none is listed that holds its Reset value. -/
abbrev Registers.wf (s : State) : Bool := Tab.wf regDefault s.regs

/-- What every step keeps: equal memories and equal registers are equal data. -/
def State.Canonical (s : State) : Prop := Memory.wf s = true ∧ Registers.wf s = true

end Sys2Proof.Machine
end

