-- ==== Sys2Proof/Certificates/Slice0/Obligations.lean ====
section
/-! DEFINITION. Sys2Proof/Certificates/Slice0/Obligations.lean: the statements about the model. A clause "there is t with exec c s = next t" says that the command
completes, and with what; its hypotheses are on the state and the operands alone. -/

open Sys2Proof Sys2Proof.Machine
set_option linter.unusedVariables false

/-- A step takes the command at the front of the queue and answers what its meaning answers with the rest of the queue (R27). -/
def Obligations.StepRunsFrontCommand : Prop :=
  ∀ (s : State) (c : Instr) (r : List Instr),
    step { s with pending := c :: r } = exec c { s with pending := r }

/-- With no command waiting a step lets one nanosecond pass and changes nothing else (the model's choice, log entry 4) (R17). -/
def Obligations.IdleStepLetsTimePass : Prop :=
  ∀ (s : State),
    s.pending = [] →
    ∃ t, step s = .next t ∧ t.uptime = s.uptime + 1 ∧ (s.dieUp = true ∧ s.rd R.NET_TIME_RATE = 0 ∧ s.net.rem < 1000000000 → t.devTime = (s.devTime + 1) % 2 ^ 64) ∧
    (s.dieUp = false → t.devTime = s.devTime ∧ t.net = s.net) ∧ Only [.uptime, .devTime, .net] s t

/-- Every command answers a next state in every state: no meaning faults or refuses (R5, R27). -/
def Obligations.EveryCommandAnswersNext : Prop :=
  ∀ (s : State) (c : Instr),
    ∃ t, exec c s = .next t

/-- After reset registers hold what the Reset columns of the register tables give (R73, R85, R118, R137, R196, R334, R374, R414, R416, R467, R492, R513). -/
def Obligations.ResetRegisters : Prop :=
  (∀ e ∈ ([(R.HIF_LINK_CTRL, 0x5b), (R.HIF_PROBE_PERIOD, 0x7d0), (R.HIF_CC_CTRL, 0x1), (R.MBX_EVQ_CTRL 5, 0x600), (R.GLB_PART_CODE, 0x8800020), (R.GLB_SILICON_STEP, 0x101), (R.GLB_RESET_CAUSE, 0x1), (R.GLB_IDLE_CTRL, 0x8), (R.GLB_IDLE_DELAY, 0x3e8), (R.RNG_RING_CTRL 5 2, 0x600), (R.RNG_CQ_CTRL 5 2, 0x600), (R.RNG_CQ_MOD 5 2, 0x1), (R.TRN_FN_FQ_RESERVE 3, 0x4), (R.TRN_PRI_TIMEOUT, 0x3e8), (R.CTX_FN_SHARE 3, 0x10004), (R.CTX_TQ_DEPTH 9, 0x4), (R.MEM00_ARB_WEIGHT0, 0x281010b0), (R.MEM00_ARB_AGE, 0xc8), (R.YDT_UDP_PORT, 0x4a39), (R.YDT_TIMER, 0x106), (R.YDT_CC_CTRL, 0xa320541), (R.QPM_CNP_GAP, 0x32), (R.NET_PORT_SHARE0 3, 0x20202020), (R.NET_CLASS_PCP, 0x76543210), (R.CRW_FC_THRESH, 0x4000b80), (R.CRW_CE_THRESH, 0x800), (R.HEA_SLABS_FREE, 0x100), (R.CTX_PAR_CTRL, 0x800), (R.CTX_PAR_LOSS_MS, 0xc8), (R.PWR_CAP, 0xdc), (R.PWR_CAP_EFFECTIVE, 0xdc), (R.PWR_VCORE, 0x2ee), (R.PWR_THERM_LIMITS, 0x736464), (R.FWC_ESCALATE, 0x80003c03), (R.CNT_CTR_EVENT 7, 0xff00), (R.DBG_FREEZE_ENABLE, 0x20000), (R.DBG_BELV_CTRL, 0x3e80002), (R.SEC_BOOT_STATUS, 0x0), (R.GLB_MEMBER, 0x0)] : List (Nat × Word)), State.reset.rd e.1 = e.2) ∧
    State.reset.ops = [] ∧ State.reset.pending = [] ∧ State.reset.mem = []

/-- The state after reset lists its memory and registers in the canonical form (R9, R320). -/
def Obligations.ResetIsCanonical : Prop :=
  State.reset.Canonical

/-- Every step keeps memory and registers in their canonical form: rising addresses, and nothing listed that equals what is read where nothing is (R9, R320). -/
def Obligations.StepKeepsCanonical : Prop :=
  ∀ (s t : State),
    s.Canonical → step s = .next t →
    t.Canonical

/-- No step changes the SVN fuses or ROOT0_REVOKED but by the commit of an image that a bank holds, and neither ever goes back (R516, R517, R518). -/
def Obligations.FusesOnlyAdvance : Prop :=
  ∀ (s t : State),
    step s = .next t →
    s.flash.svn ≤ t.flash.svn ∧ (s.flash.root0Revoked = true → t.flash.root0Revoked = true) ∧
    ((t.flash.svn = s.flash.svn ∧ t.flash.root0Revoked = s.flash.root0Revoked) ∨ ∃ (b : Nat) (m : Image), (s.bank b).info = some m ∧ t.flash.svn = max s.flash.svn m.svn ∧ t.flash.root0Revoked = (s.flash.root0Revoked || (decide (m.root = 1) && m.revoke)))

/-- Bytes written to device memory read back, every other byte reads as before, and numbers are stored least significant byte first (R4, R315). -/
def Obligations.BytesReadBack : Prop :=
  -- a run of bytes written at p reads back and leaves the others
  (∀ (s : State) (p : Nat) (l : List Byte),
    (s.setDrams p l).drams p l.length = l ∧ MemBut p l.length s (s.setDrams p l)) ∧
  -- the n bytes of x, lowest first, spell x again
  (∀ (n x : Nat),
    leNat (leBytes n x) = x % 256 ^ n ∧ ∀ i ∈ List.range n, (leBytes n x)[i]? = some (BitVec.ofNat 8 (x / 256 ^ i)))

/-- A NaN that an FP32 function of the vector unit makes is 0x7FC0_0000, and a NaN operand makes one (R208, R222). -/
def Obligations.EveryNaNIsCanonical : Prop :=
  ∀ (a b c : Nat),
    a < 2 ^ 32 → b < 2 ^ 32 → c < 2 ^ 32 →
    (∀ x ∈ [add32 a b, sub32 a b, mul32 a b, fma32 a b c, max32 a b, min32 a b, exp2_32 a, exp32 a, log32 a, rcp32 a, rsqrt32 a], isNan32 x = true → x = 0x7FC00000) ∧
    (isNan32 a = true → ∀ x ∈ [add32 a b, sub32 a b, mul32 a b, fma32 a b c, max32 a b, min32 a b, exp2_32 a, exp32 a, log32 a, rcp32 a, rsqrt32 a], x = 0x7FC00000) ∧
    (isNan32 b = true → ∀ x ∈ [add32 a b, sub32 a b, mul32 a b, fma32 a b c, max32 a b, min32 a b], x = 0x7FC00000) ∧
    (isNan32 c = true → fma32 a b c = 0x7FC00000)

/-- An element of E4M3, E5M2, INT8, BF16, FP16 or FP32 that is no NaN converts to FP32 and back to itself, without a saturation (R207, R212, R213). -/
def Obligations.StorageFormatsAreExact : Prop :=
  ∀ (f x : Nat),
    f ∈ [1, 2, 6, 7, 8, 9] → x < 256 ^ elemBytes f → isNan32 (toF32 f x) = false →
    fromF32 f (toF32 f x) = (x, false)

/-- A write of 0xB880_0501 to DBG_FREEZE ends the freeze; a value other than the two keys is discarded and counted (R552). -/
def Obligations.FreezeRelease : Prop :=
  -- the release key ends the freeze: counters keep their values, trace capture follows ENABLE, and the causes stay
  (∀ (s : State),
    ∃ t, exec (.freezeRelease 0xB8800501) s = .next t ∧ t.frozen = false ∧ t.dbg.counters = s.dbg.counters ∧ t.tracing = t.getB R.DBG_TRACE_CTRL 0 ∧
    t.rd R.DBG_FREEZE_CAUSE = s.rd R.DBG_FREEZE_CAUSE ∧ RegsBut [statusK pDBG] s t ∧ Only [.dbg, .regs] s t) ∧
  -- another value ends no freeze, and counts in ERR_COUNT
  (∀ (s : State) (v : Word),
    v ≠ 0xB8800500 → v ≠ 0xB8800501 →
    ∃ t, exec (.freezeRelease v) s = .next t ∧ (s.frozen = true → t.frozen = true) ∧ (s.rd R.DBG_FREEZE_ENABLE = 0 → t.frozen = s.frozen ∧ t.rd R.DBG_FREEZE_CAUSE = s.rd R.DBG_FREEZE_CAUSE) ∧
    t.rd (errCountK pDBG) = word (min 0xFFFFFFFF ((s.rd (errCountK pDBG)).toNat + 1)) ∧ t.getB (intK pDBG) 31 = true ∧
    Told s t)

/-- COMMIT blows the SVN fuses up to the committed image's SVN when that is higher, and not before (R518). -/
def Obligations.SvnAdvance : Prop :=
  -- the commit takes the higher of the two
  (∀ (s : State) (v : Word) (m : Image),
    fld v 8 24 = 0xB88002 → bit v 0 = false → bit v 1 = true → s.flash.trial = true → (s.bank s.flash.active).info = some m →
    ∃ t, exec (.bankCommit v) s = .next t ∧ t.flash.svn = max s.flash.svn m.svn ∧ t.flash.trial = false ∧ t.flash.active = s.flash.active ∧
    Only [.flash, .regs] s t) ∧
  -- an ACTIVATE alone leaves the fuses
  (∀ (s : State) (v : Word),
    bit v 1 = false →
    ∃ t, exec (.bankActivate v) s = .next t ∧ t.flash.svn = s.flash.svn ∧ Only [.flash, .regs] s t) ∧
  -- a part of an update does too
  (∀ (s : State) (a : Bool) (i : Nat) (l : List Byte) (z : Bool),
    ∃ t, exec (.pldmFwUpdate a i l z) s = .next t ∧ t.flash.svn = s.flash.svn) ∧
  -- so does the check of an image
  (∀ (s : State) (m : Image),
    ∃ t, exec (.bankCheck m) s = .next t ∧ t.flash.svn = s.flash.svn)

/-- Groups are made, and heats start, wait for their turn, are refused, aborted or time out (R420, R421, R424, R425, R426, R427, R430, R438, R439, R441). -/
def Obligations.GroupsAndHeats : Prop :=
  -- GROUP_SET makes the group with its list, its credits and sequence number 0, and answers the list's CRC
  (∀ (s : State) (op : Nat) (o : Op) (hv : HostView) (p : Nat),
    s.runnable op [0x40] = some o → s.op? op = some o → o.issued = false → s.coreUp coreHea = true → (groupArgs o.desc).list % 4 = 0 →
    (groupArgs o.desc).list < 2 ^ 57 → 0 < (groupArgs o.desc).members → (groupArgs o.desc).members ≤ 4096 → DevRange s hv o.fn (groupArgs o.desc).list p (4 * (groupArgs o.desc).members) false →
    hv.ce = [] → s.groupCheck o.fn (groupArgs o.desc) (((wordsOf (s.drams p (4 * (groupArgs o.desc).members)) (groupArgs o.desc).members).map (· % 2 ^ 18)).map (fun w => (w % 4096, w / 4096))) = none →
    ∃ t, exec (.groupSet op hv) s = .next t ∧ ((t.group? (groupArgs o.desc).group).map (fun x => (x.owner, x.list, x.rank, x.reserve)) = some (o.fn, (((wordsOf (s.drams p (4 * (groupArgs o.desc).members)) (groupArgs o.desc).members).map (· % 2 ^ 18)).map (fun w => (w % 4096, w / 4096))), (groupArgs o.desc).rank, (groupArgs o.desc).reserve)) ∧
    ((t.group? (groupArgs o.desc).group).map (fun x => (x.seq, x.running, x.tclass, x.timeoutMs)) = some (0, none, (groupArgs o.desc).tclass, (groupArgs o.desc).timeout)) ∧
    (∀ r ∈ List.range (groupArgs o.desc).members, (t.group? (groupArgs o.desc).group).map (fun x => (x.granted.look r, x.credits.look r)) = some (if r ∈ sendersTo (groupArgs o.desc).members (groupArgs o.desc).rank then some 1 else none, if r ∈ receiversOf (groupArgs o.desc).members (groupArgs o.desc).rank then some 1 else none)) ∧
    Ended t op stOK (crc32c (((wordsOf (s.drams p (4 * (groupArgs o.desc).members)) (groupArgs o.desc).members).map (· % 2 ^ 18)).flatMap (leBytes 4))) ∧
    SameMem s t) ∧
  -- an empty list is INVALID and logged
  (∀ (s : State) (op : Nat) (o : Op) (hv : HostView),
    s.runnable op [0x40] = some o → s.op? op = some o → o.issued = false → s.coreUp coreHea = true → (groupArgs o.desc).list % 4 = 0 →
    (groupArgs o.desc).list < 2 ^ 57 → (groupArgs o.desc).members = 0 →
    ∃ t, exec (.groupSet op hv) s = .next t ∧ Ended t op stInvalid (invalidAt 0x18) ∧ t.groups = s.groups ∧ t.getB (intK pHEA) 31 = true ∧
    SameMem s t) ∧
  -- HEAT with a field that R425 refuses is INVALID at it
  (∀ (s : State) (op : Nat) (o : Op) (hv : HostView) (off : Nat),
    s.runnable op [0x42] = some o → s.op? op = some o → o.issued = false → o.progress = 0 → s.heatBad o (heatArgs o.desc) = some off →
    ∃ t, exec (.heat op hv) s = .next t ∧ Ended t op stInvalid (invalidAt off) ∧ t.groups = s.groups ∧ SameMem s t) ∧
  -- of another function's group it is denied
  (∀ (s : State) (op : Nat) (o : Op) (hv : HostView) (x : Group),
    s.runnable op [0x42] = some o → s.op? op = some o → o.issued = false → o.progress = 0 → s.heatBad o (heatArgs o.desc) = none →
    s.group? (heatArgs o.desc).group = some x → (x.owner ≠ o.fn ∨ s.getF (R.TRN_FN_HEAT o.fn) 0 8 = 0) →
    ∃ t, exec (.heat op hv) s = .next t ∧ Ended t op stDenied 0 ∧ t.groups = s.groups ∧ SameMem s t) ∧
  -- a heat of no elements in a group of one completes at once with its sequence number
  (∀ (s : State) (op : Nat) (o : Op) (hv : HostView) (x : Group),
    s.runnable op [0x42] = some o → s.op? op = some o → o.issued = false → o.progress = 0 → s.heatBad o (heatArgs o.desc) = none →
    s.group? (heatArgs o.desc).group = some x → x.owner = o.fn → s.getF (R.TRN_FN_HEAT o.fn) 0 8 ≠ 0 → x.running = none →
    x.waiting = [] → x.abortNext = none → x.pool = [] → (heatArgs o.desc).fromStore = false → (heatArgs o.desc).elements = 0 →
    x.list.length = 1 → x.rank = 0 →
    ∃ t, exec (.heat op hv) s = .next t ∧ (t.op? op).map (fun y => (y.st, y.result)) = some (OpSt.done, x.seq) ∧ (t.group? (heatArgs o.desc).group).map (fun y => (y.seq, y.running, y.waiting)) = some ((x.seq + 1) % 2 ^ 32, none, []) ∧
    SameMem s t) ∧
  -- a SUM in a group of two starts with the member's contribution, cut into chunks
  (∀ (s : State) (op : Nat) (o : Op) (hv : HostView) (x : Group) (p : Nat),
    s.runnable op [0x42] = some o → s.op? op = some o → o.issued = false → o.progress = 0 → s.heatBad o (heatArgs o.desc) = none →
    s.group? (heatArgs o.desc).group = some x → x.owner = o.fn → s.getF (R.TRN_FN_HEAT o.fn) 0 8 ≠ 0 → x.running = none →
    x.waiting = [] → x.abortNext = none → x.pool = [] → (heatArgs o.desc).fromStore = false → (heatArgs o.desc).lse = false →
    0 < (heatArgs o.desc).elements → (heatArgs o.desc).contrib = (heatArgs o.desc).elements → x.list.length = 2 →
    x.rank < 2 → s.allDevice o.fn (heatArgs o.desc).output (heatArgs o.desc).bytes = true → DevRange s hv o.fn (heatArgs o.desc).src p (heatArgs o.desc).bytes false →
    hv.ce = [] →
    ∃ t, exec (.heat op hv) s = .next t ∧ (t.op? op).map Op.st = some OpSt.running ∧ ((t.group? (heatArgs o.desc).group).bind Group.running).map (fun h => (h.op, h.chunks, h.done)) =
    some (op, cutChunks false (heatArgs o.desc).rowLen (heatArgs o.desc).elements ((elemsOf (heatArgs o.desc).dtype (heatArgs o.desc).elements (s.drams p (heatArgs o.desc).bytes)).map (toF32 (heatArgs o.desc).dtype)), []) ∧
    SameMem s t) ∧
  -- HEAT_ABORT of no group answers 0
  (∀ (s : State) (op : Nat) (o : Op),
    s.runnable op [0x43] = some o → s.op? op = some o → o.issued = false → s.group? (dfld o.desc 0x10 0 8) = none →
    ∃ t, exec (.heatAbort op) s = .next t ∧ Ended t op stOK 0 ∧ t.groups = s.groups ∧ SameMem s t) ∧
  -- of a group whose heat runs it ends that heat HEAT_ABORTED and answers 1
  (∀ (s : State) (op : Nat) (o : Op) (x : Group) (h : Heat) (p : Op),
    s.runnable op [0x43] = some o → s.op? op = some o → o.issued = false → s.group? (dfld o.desc 0x10 0 8) = some x →
    x.owner = o.fn → x.running = some h → h.op ≠ op → s.op? h.op = some p → p.issued = false →
    ∃ t, exec (.heatAbort op) s = .next t ∧ Ended t op stOK 1 ∧ Ended t h.op stAborted x.seq ∧ (t.group? (dfld o.desc 0x10 0 8)).map (fun y => (y.running, y.seq)) = some (none, (x.seq + 1) % 2 ^ 32) ∧
    t.getB (intK pHEA) 1 = true ∧ SameMem s t) ∧
  -- HEAT_TIMEOUT aborts the running heat
  (∀ (s : State) (g : Nat) (x : Group) (h : Heat) (p : Op),
    s.group? g = some x → x.running = some h → s.op? h.op = some p → p.issued = false →
    ∃ t, exec (.heatTimeout g) s = .next t ∧ (t.op? h.op).map (fun y => (y.st, y.status, y.result)) = some (OpSt.done, stAborted, x.seq) ∧
    (t.group? g).map (fun y => (y.running, y.seq)) = some (none, (x.seq + 1) % 2 ^ 32) ∧ t.getB (intK pHEA) 2 = true ∧
    t.getB (intK pHEA) 1 = true ∧ SameMem s t)

/-- Chunks are sent against credits, kept, merged and checked, and an abort ends the heat that it names (R231, R431, R433, R434, R435, R436, R437, R438, R439, R441, R445). -/
def Obligations.ChunksAndCredits : Prop :=
  -- CHUNK_SEND spends a credit of its receiver and sends the chunk
  (∀ (s : State) (g c : Nat) (hv : HostView) (x : Group) (h : Heat) (q n : Nat) (ga : Bool) (xs : List Nat),
    s.group? g = some x → x.running = some h → h.next x c = some (.send q ga) → h.chunks.look c = some xs → x.credits.look q = some (n + 1) →
    s.endpointOn x.owner = true → (x.list.getD q (0, 0)).1 = s.devId → s.encrypts x.owner = false → s.ydt.xfers.length < 32768 →
    (h.advance c 0).isOver x = false →
    ∃ t, exec (.chunkSend g c hv) s = .next t ∧ (t.group? g).map (fun y => (y.credits.look q, (y.running.map (fun k => k.done.look c)))) = some (some n, some (some ((h.done.look c).getD 0 + 1))) ∧
    t.ydt.xfers.length = s.ydt.xfers.length + 1 ∧ t.ops = s.ops ∧ SameMem s t) ∧
  -- without one it waits
  (∀ (s : State) (g c : Nat) (hv : HostView) (x : Group) (h : Heat) (q : Nat) (ga : Bool) (xs : List Nat),
    s.group? g = some x → x.running = some h → h.next x c = some (.send q ga) → h.chunks.look c = some xs → x.credits.look q = none →
    ∃ t, exec (.chunkSend g c hv) s = .next t ∧ t.ydt = s.ydt ∧ ((t.group? g).bind Group.running).map Heat.done = some h.done ∧
    t.ops = s.ops ∧ SameMem s t) ∧
  -- CHUNK_MERGE merges the chunk that has come, frees its slab and restores its credit
  (∀ (s : State) (g c : Nat) (hv : HostView) (x : Group) (h : Heat) (q : Nat) (xs : List Nat) (a : Arrived),
    s.group? g = some x → x.running = some h → h.next x c = some (.merge q) → h.chunks.look c = some xs → x.pool.find? (fun y => y.rank = q && y.chunk = c && y.gather = false && y.seqLo = x.seq % 16) = some a →
    (h.advance c 0).isOver x = false → a.standing = true →
    ∃ t, exec (.chunkMerge g c true false false hv) s = .next t ∧ ((t.group? g).bind Group.running).map (fun k => (k.chunks.look c, k.done.look c)) = some (some (mergeChunk h.lse h.rowLen xs a.data), some ((h.done.look c).getD 0 + 1)) ∧
    (t.group? g).map (fun y => (y.granted.look q, y.pool)) = some (some 1, x.pool.erase a) ∧ t.ops = s.ops ∧ SameMem s t) ∧
  -- a merge that fails its residue check twice ends the heat ARITH_UNRECOVERED
  (∀ (s : State) (g c : Nat) (hv : HostView) (x : Group) (h : Heat) (q : Nat) (xs : List Nat) (a : Arrived) (p : Op),
    s.group? g = some x → x.running = some h → s.op? h.op = some p → p.issued = false → h.next x c = some (.merge q) →
    h.chunks.look c = some xs → x.pool.find? (fun y => y.rank = q && y.chunk = c && y.gather = false && y.seqLo = x.seq % 16) = some a →
    ∃ t, exec (.chunkMerge g c true true true hv) s = .next t ∧ (t.op? h.op).map (fun y => (y.st, y.status, y.result)) = some (OpSt.done, stArith, x.seq) ∧
    (t.group? g).map (fun y => (y.running, y.seq)) = some (none, (x.seq + 1) % 2 ^ 32) ∧ t.getB (intK pHEA) 4 = true ∧
    SameMem s t) ∧
  -- CREDIT_RECEIVE adds the credits of a rank
  (∀ (s : State) (x : Rx) (y : Group) (r : Nat),
    Oldest s tyHeat (fun p => p.heatKind = 1) x → s.heatFrom x.pkt = some (y, r) →
    ∃ t, exec .creditReceive s = .next t ∧ (t.group? x.pkt.heatGroup).map (fun z => z.credits.look r) = some (some ((y.credits.look r).getD 0 + x.pkt.heatValue % 256)) ∧
    t.ops = s.ops ∧ SameMem s t) ∧
  -- ABORT_RECEIVE ends the heat it names
  (∀ (s : State) (x : Rx) (y : Group) (r : Nat) (h : Heat) (p : Op),
    Oldest s tyHeat (fun p => p.heatKind = 2) x → s.heatFrom x.pkt = some (y, r) → y.running = some h → s.op? h.op = some p →
    p.issued = false → bitsOf x.pkt.heatWord 17 4 = y.seq % 16 → x.pkt.heatValue % 256 ≠ stMismatch →
    ∃ t, exec .abortReceive s = .next t ∧ (t.op? h.op).map (fun z => (z.st, z.status, z.result)) = some (OpSt.done, stAborted, y.seq) ∧
    (t.group? x.pkt.heatGroup).map (fun z => (z.running, z.seq)) = some (none, (y.seq + 1) % 2 ^ 32) ∧ t.getB (intK pHEA) 31 = true ∧
    SameMem s t) ∧
  -- before the heat starts it is remembered for it
  (∀ (s : State) (x : Rx) (y : Group) (r : Nat),
    Oldest s tyHeat (fun p => p.heatKind = 2) x → s.heatFrom x.pkt = some (y, r) → y.running = none → bitsOf x.pkt.heatWord 17 4 = y.seq % 16 →
    x.pkt.heatValue % 256 = stMismatch →
    ∃ t, exec .abortReceive s = .next t ∧ (t.group? x.pkt.heatGroup).map (fun z => (z.abortNext, z.seq)) = some (some stMismatch, y.seq) ∧
    t.ops = s.ops ∧ SameMem s t) ∧
  -- HEAT_DATA_RECEIVE keeps a chunk that comes against a standing credit until its merge
  (∀ (s : State) (x : Rx) (y : Group) (r : Nat),
    Oldest s tyHeat (fun p => p.heatKind = 0) x → s.heatFrom x.pkt = some (y, r) → single x.pkt = true → s.recorded x.pkt = false →
    s.recordsFull = false → 0 < (y.granted.look r).getD 0 → bitsOf x.pkt.heatWord 17 4 = y.seq % 16 → y.running = none →
    ∃ t, exec .heatDataReceive s = .next t ∧ (t.group? x.pkt.heatGroup).map (fun z => z.pool) = some (y.pool ++ [⟨r, bitsOf x.pkt.heatWord 3 14, bitOf x.pkt.heatWord 21, bitsOf x.pkt.heatWord 17 4, true, x.pkt.heatValue, elemsOf 9 (x.pkt.payload.length / 4) x.pkt.payload, s.uptime⟩]) ∧
    (t.group? x.pkt.heatGroup).map (fun z => z.granted.look r) = some (some 0) ∧ t.ops = s.ops ∧ SameMem s t) ∧
  -- a chunk of another descriptor hash ends the heat HEAT_MISMATCH
  (∀ (s : State) (x : Rx) (y : Group) (r : Nat) (h : Heat) (p : Op),
    Oldest s tyHeat (fun p => p.heatKind = 0) x → s.heatFrom x.pkt = some (y, r) → single x.pkt = true → s.recorded x.pkt = false →
    s.recordsFull = false → 0 < (y.granted.look r).getD 0 → bitsOf x.pkt.heatWord 17 4 = y.seq % 16 → y.running = some h →
    x.pkt.heatValue ≠ h.hash y → s.op? h.op = some p → p.issued = false →
    ∃ t, exec .heatDataReceive s = .next t ∧ (t.op? h.op).map (fun z => (z.st, z.status, z.result)) = some (OpSt.done, stMismatch, y.seq) ∧
    t.getB (intK pHEA) 0 = true ∧ SameMem s t)

/-- GROUP_DELETE frees a group's slabs, is refused for a group in use or of another function, and resets delete groups too (R423). -/
def Obligations.GroupDeletion : Prop :=
  -- of a group that does not exist it completes OK
  (∀ (s : State) (op : Nat) (o : Op),
    s.runnable op [0x41] = some o → s.op? op = some o → o.issued = false → s.coreUp coreHea = true → s.group? (dfld o.desc 0x10 0 8) = none →
    ∃ t, exec (.groupDelete op) s = .next t ∧ Ended t op stOK 0 ∧ t.groups = s.groups ∧ SameMem s t) ∧
  -- of another function's group ACCESS_DENIED
  (∀ (s : State) (op : Nat) (o : Op) (x : Group),
    s.runnable op [0x41] = some o → s.op? op = some o → o.issued = false → s.coreUp coreHea = true → s.group? (dfld o.desc 0x10 0 8) = some x →
    x.owner ≠ o.fn →
    ∃ t, exec (.groupDelete op) s = .next t ∧ Ended t op stDenied 0 ∧ t.groups = s.groups ∧ SameMem s t) ∧
  -- of one with a heat that runs or waits INVALID
  (∀ (s : State) (op : Nat) (o : Op) (x : Group),
    s.runnable op [0x41] = some o → s.op? op = some o → o.issued = false → s.coreUp coreHea = true → s.group? (dfld o.desc 0x10 0 8) = some x →
    (x.owner = o.fn ∧ x.busy = true) →
    ∃ t, exec (.groupDelete op) s = .next t ∧ Ended t op stInvalid (invalidAt 0x10) ∧ t.groups = s.groups ∧ SameMem s t) ∧
  -- else the group is gone and its slabs are free
  (∀ (s : State) (op : Nat) (o : Op) (x : Group),
    s.runnable op [0x41] = some o → s.op? op = some o → o.issued = false → s.coreUp coreHea = true → s.group? (dfld o.desc 0x10 0 8) = some x →
    (x.owner = o.fn ∧ x.busy = false) →
    ∃ t, exec (.groupDelete op) s = .next t ∧ Ended t op stOK 0 ∧ t.groups = s.groups.del (dfld o.desc 0x10 0 8) ∧
    t.rd R.HEA_SLABS_FREE = word (256 - slabsUsed t) ∧ SameMem s t) ∧
  -- an instance reset deletes the function's groups
  (∀ (s : State) (fn : Nat),
    fn < 64 → fn ≠ 0 → s.resetting fn = true → s.coreUp coreTrn = true → s.idleState = 0 →
    ∃ t, exec (.instanceResetDone fn) s = .next t ∧ (∀ e ∈ t.groups, e ∈ s.groups ∧ e.2.owner ≠ fn) ∧ (∀ e ∈ s.groups, e.2.owner ≠ fn → e ∈ t.groups)) ∧
  -- a warm reset deletes all
  (∀ (s : State),
    s.hw.power = .on → s.hw.dieHeld = false → s.hw.warm = none → s.linkUp = false →
    ∃ t, exec .modResetAssert s = .next t ∧ t.groups = [])

/-- The 3.3 V and 48 V inputs, the bulk charge, the ten rails and entry to ON move the module through the power states of R51 (R39, R47, R50, R51, R53, R55). -/
def Obligations.PowerUpSequence : Prop :=
  -- AUX_ENTRY in DARK samples the address straps and enters AUX, or FAULT with a thermal trip latched, or goes on to RAMP where the 48 V input and PWRDIS allow it
  (∀ (s : State) (a1 a0 : Bool),
    s.hw.power = .dark →
    ∃ t, exec (.auxEntry a1 a0) s = .next t ∧ t.hw.auxIn = true ∧ t.hw.smbAddr = 0x64 + 2 * b2n a1 + b2n a0 ∧
    t.hw.power = (if s.hw.thermalLatch ≠ [] then .fault else if s.hw.inputOk && !s.hw.lockout && !s.hw.pwrdis then .ramp else .aux) ∧
    t.hw.thermalLatch = s.hw.thermalLatch ∧ t.hw.faultLog = s.hw.faultLog ∧ Only [.hw, .out] s t) ∧
  -- INPUT_ACCEPT without a lockout accepts the input, and in AUX with PWRDIS low and nothing latched starts RAMP from the first rail
  (∀ (s : State),
    s.hw.lockout = false →
    ∃ t, exec .inputAccept s = .next t ∧ t.hw = { s.hw with inputOk := true, power := t.hw.power, bulk := t.hw.bulk, railsGood := t.hw.railsGood } ∧
    t.hw.power = (if s.hw.power = .aux ∧ s.hw.pwrdis = false ∧ s.hw.thermalLatch = [] then .ramp else s.hw.power) ∧
    (t.hw.power ≠ s.hw.power → t.hw.bulk = false ∧ t.hw.railsGood = 0) ∧ (t.hw.power = s.hw.power → t.hw.bulk = s.hw.bulk ∧ t.hw.railsGood = s.hw.railsGood) ∧
    Only [.hw] s t) ∧
  -- BULK_CHARGED in RAMP enables the converters
  (∀ (s : State),
    s.hw.power = .ramp →
    ∃ t, exec .bulkCharged s = .next t ∧ t.hw = { s.hw with bulk := true } ∧ Only [.hw] s t) ∧
  -- RAIL_GOOD in RAMP advances to the next rail stage
  (∀ (s : State),
    s.hw.power = .ramp → s.hw.bulk = true → s.hw.railsGood < 10 →
    ∃ t, exec .railGood s = .next t ∧ t.hw = { s.hw with railsGood := s.hw.railsGood + 1 } ∧ Only [.hw] s t) ∧
  -- ON_ENTRY with all rails good enters ON, raises PWRGD, starts the die from power-on reset (held while MOD_RESET# is low) and samples MEMBER_ID; flash survives
  (∀ (s : State) (straps : Nat),
    s.hw.power = .ramp → s.hw.railsGood = 10 →
    ∃ t, exec (.onEntry straps) s = .next t ∧ t.hw = { s.hw with power := .on, pwrgd := true, dieHeld := s.hw.modResetLow, inputFaultSeen := false } ∧
    t.rd R.GLB_MEMBER = word (straps % 8) ∧ DieCold s.dieCleared ∧ s.dieCleared.flash = s.flash ∧
    TellsIn [.hw, .freeCtr] [R.GLB_MEMBER] s.dieCleared t) ∧
  -- INPUT_LOCKOUT_END lets the hot-swap controller resume
  (∀ (s : State),
    s.hw.lockout = true →
    ∃ t, exec .inputLockoutEnd s = .next t ∧ t.hw.lockout = false ∧ t.hw.inputOk = true ∧
    t.hw.power = (if s.hw.power = .aux ∧ s.hw.pwrdis = false ∧ s.hw.thermalLatch = [] then .ramp else s.hw.power) ∧
    Only [.hw] s t) ∧
  -- TRIP_CLEAR removes the sensor's thermal latch; FAULT itself stays
  (∀ (s : State) (sensor : Nat),
    sensor ∈ s.hw.thermalLatch → s.hw.power ≠ .aux →
    ∃ t, exec (.tripClear sensor) s = .next t ∧ t.hw = { s.hw with thermalLatch := s.hw.thermalLatch.erase sensor } ∧
    Only [.hw] s t) ∧
  -- PWRDIS_FALL leaves FAULT for AUX, and for RAMP where the input is good, only after 100 ms high with no thermal trip latched
  (∀ (s : State) (ms : Nat),
    s.hw.pwrdis = true →
    ∃ t, exec (.pwrdisFall ms) s = .next t ∧ t.hw.pwrdis = false ∧ t.hw.thermalLatch = s.hw.thermalLatch ∧
    (s.hw.power = .fault → ms < 100 ∨ s.hw.thermalLatch ≠ [] → t.hw.power = .fault) ∧
    (s.hw.power = .fault → 100 ≤ ms → s.hw.thermalLatch = [] → t.hw.power = (if s.hw.inputOk && !s.hw.lockout then .ramp else .aux)) ∧
    Only [.hw] s t)

/-- Loss of the input, of a rail or of 3.3 V, PWRDIS and a hardware trip take PWRGD low and leave the die and DRAM with nothing (R47, R49, R51, R52, R57, R63). -/
def Obligations.PowerDownSequence : Prop :=
  -- INPUT_RELEASE in ON or RAMP turns the module off to AUX (DARK without 3.3 V)
  (∀ (s : State),
    (s.hw.power = .on ∨ s.hw.power = .ramp) →
    ∃ t, exec .inputRelease s = .next t ∧ t.hw.power = (if s.hw.auxIn then .aux else .dark) ∧ t.hw.inputOk = false ∧
    t.hw.pwrgd = false ∧ t.hw.railsGood = 0 ∧ DieCold t ∧ t.flash = { s.flash with banks := s.flash.banks.mapv (fun _ b => b.cutOff) } ∧
    t.pending = s.pending) ∧
  -- INPUT_LOCKOUT locks the input out and enters it in the fault log with the time of the last second; in ON or RAMP the module turns off
  (∀ (s : State),
    s.hw.power ≠ .dark →
    ∃ t, exec .inputLockout s = .next t ∧ t.hw.lockout = true ∧ t.hw.inputOk = false ∧ t.hw.inputFaultSeen = true ∧
    t.hw.faultLog = s.hw.faultLog ++ [⟨.overVoltage, s.onSecond⟩] ∧
    (s.hw.power = .on ∨ s.hw.power = .ramp → t.hw.power = (if s.hw.auxIn then .aux else .dark) ∧ DieCold t) ∧
    (s.hw.power = .aux ∨ s.hw.power = .fault → t.hw.power = s.hw.power ∧ Only [.hw, .out] s t)) ∧
  -- INPUT_REVERSED conducts nothing and is logged
  (∀ (s : State),
    (s.hw.power = .on ∨ s.hw.power = .ramp) →
    ∃ t, exec .inputReversed s = .next t ∧ t.hw.inputOk = false ∧ t.hw.inputFaultSeen = true ∧ t.hw.faultLog = s.hw.faultLog ++ [⟨.reversed, s.onSecond⟩] ∧
    t.hw.power = (if s.hw.auxIn then .aux else .dark) ∧ DieCold t) ∧
  -- RAIL_GOOD_LOST of a rail that was good enters FAULT with a fault log entry
  (∀ (s : State) (rail : Nat),
    rail < 10 → (s.hw.power = .on ∨ (s.hw.power = .ramp ∧ rail < s.hw.railsGood)) →
    ∃ t, exec (.railGoodLost rail) s = .next t ∧ t.hw.power = (if s.hw.auxIn then .fault else .dark) ∧ t.hw.faultLog = s.hw.faultLog ++ [⟨.railLost rail, s.onSecond⟩] ∧
    t.hw.pwrgd = false ∧ t.hw.railsGood = 0 ∧ DieCold t ∧ t.flash = { s.flash with banks := s.flash.banks.mapv (fun _ b => b.cutOff) } ∧
    t.pending = s.pending) ∧
  -- PWRDIS_RISE turns the module off to AUX
  (∀ (s : State),
    (s.hw.power = .on ∨ s.hw.power = .ramp) →
    ∃ t, exec .pwrdisRise s = .next t ∧ t.hw.pwrdis = true ∧ t.hw.power = (if s.hw.auxIn then .aux else .dark) ∧
    t.hw.pwrgd = false ∧ t.hw.railsGood = 0 ∧ DieCold t ∧ t.flash = { s.flash with banks := s.flash.banks.mapv (fun _ b => b.cutOff) } ∧
    t.pending = s.pending) ∧
  -- AUX_LOSS in ON changes only the supply flag and may tell an event; in any other state the module goes DARK
  (∀ (s : State) (mv : Nat),
    s.hw.auxIn = true →
    ∃ t, exec (.auxLoss mv) s = .next t ∧ t.hw.auxIn = false ∧ (s.hw.power = .on → t.hw = { s.hw with auxIn := false } ∧ TellsIn [.hw] [] s t) ∧
    (s.hw.power ≠ .on → t.hw.power = .dark)) ∧
  -- HARDWARE_TRIP enters FAULT with a log entry, and latches where the sensor trips on temperature
  (∀ (s : State) (i : Nat),
    (s.hw.power = .on ∨ s.hw.power = .ramp) → ((2 ≤ i ∧ i ≤ 26) ∨ (31 ≤ i ∧ i ≤ 37)) →
    ∃ t, exec (.hardwareTrip i) s = .next t ∧ t.hw.power = (if s.hw.auxIn then .fault else .dark) ∧ t.hw.faultLog = s.hw.faultLog ++ [⟨.trip i, s.onSecond⟩] ∧
    (i ≤ 26 → i ∈ t.hw.thermalLatch) ∧ (31 ≤ i → t.hw.thermalLatch = s.hw.thermalLatch) ∧
    t.hw.pwrgd = false ∧ t.hw.railsGood = 0 ∧ DieCold t ∧ t.flash = { s.flash with banks := s.flash.banks.mapv (fun _ b => b.cutOff) } ∧
    t.pending = s.pending)

/-- Supply and sideband faults, crew time, cage events and sensor reads change or answer what each clause names, and at most tell an event (R42, R48, R49, R63, R94). -/
def Obligations.SidebandsAndSupply : Prop :=
  -- AUX_RESTORE in ON notes the returned 3.3 V supply
  (∀ (s : State) (mv : Nat),
    s.hw.power = .on → s.hw.auxIn = false →
    ∃ t, exec (.auxRestore mv) s = .next t ∧ t.hw = { s.hw with auxIn := true } ∧ TellsIn [.hw] [] s t) ∧
  -- LOW_INPUT holds the cap at 150 W or below
  (∀ (s : State) (mv : Nat),
    s.hw.power = .on → 37000 ≤ mv → mv < 40000 → s.hw.lowInput = false →
    ∃ t, exec (.lowInput mv) s = .next t ∧ t.hw = { s.hw with lowInput := true } ∧ (s.dieUp = true → t.getF R.PWR_CAP_EFFECTIVE 0 8 ≤ 150) ∧
    TellsIn [.hw] [R.PWR_CAP_EFFECTIVE] s t) ∧
  -- LOW_INPUT_END lifts it
  (∀ (s : State) (mv : Nat),
    s.hw.lowInput = true → 40000 < mv →
    ∃ t, exec (.lowInputEnd mv) s = .next t ∧ t.hw = { s.hw with lowInput := false } ∧ TellsIn [.hw] [R.PWR_CAP_EFFECTIVE] s t) ∧
  -- SMBUS_TIMEOUT tells the manager a PIN event with code 1 and changes nothing else
  (∀ (s : State),
    s.dieUp = true →
    ∃ t, exec .smbusTimeout s = .next t ∧ (s.fnEvents 0).held.length < 32 → ((t.fnEvents 0).held.getLast?.map (fun e => (e.event, e.code))) = some (6, 1) ∧
    Told s t) ∧
  -- CREW_FREEZE_STUCK makes the member ignore CREW_FREEZE#
  (∀ (s : State),
    s.hw.power = .on → s.hw.freezeIgnored = false →
    ∃ t, exec .crewFreezeStuck s = .next t ∧ t.hw = { s.hw with freezeIgnored := true } ∧ TellsIn [.hw] [] s t) ∧
  -- CREW_FREEZE_CLEAR ends that
  (∀ (s : State),
    ∃ t, exec .crewFreezeClear s = .next t ∧ t.hw = { s.hw with freezeIgnored := false } ∧ Only [.hw] s t) ∧
  -- CREW_TIME_LOSS leaves crew time to the Ozmen links
  (∀ (s : State),
    s.dieUp = true → s.hw.crewTimeLost = false →
    ∃ t, exec .crewTimeLoss s = .next t ∧ t.hw = { s.hw with crewTimeLost := true } ∧ TellsIn [.hw] [] s t) ∧
  -- CREW_TIME_RESTORED returns to it
  (∀ (s : State),
    s.dieUp = true → s.hw.crewTimeLost = true →
    ∃ t, exec .crewTimeRestored s = .next t ∧ t.hw = { s.hw with crewTimeLost := false } ∧ TellsIn [.hw] [] s t) ∧
  -- CAGE_I2C_TIMEOUT suspends the cage and takes its port DOWN
  (∀ (s : State) (cage p : Nat),
    p < portCount s → s.portCage p = cage →
    ∃ t, exec (.cageI2cTimeout cage) s = .next t ∧ cage ∈ t.hw.cageSuspended ∧ t.portState p = 0 ∧ TellsIn [.hw] ((List.range 8).map R.NET_PORT_STATUS) s t) ∧
  -- CAGE_PRESENT_CHANGE shows the cage's level in its port's status
  (∀ (s : State) (cage p : Nat) (present : Bool),
    p < portCount s → s.portCage p = cage →
    ∃ t, exec (.cagePresentChange cage present) s = .next t ∧ t.getB (R.NET_PORT_STATUS p) 16 = present ∧ RegsBut ((List.range 8).map R.NET_PORT_STATUS) s t ∧
    Only [.regs] s t) ∧
  -- PLDM_SENSOR_READ in ON answers the sensor's value, of 31 to 37 the voltage or the current asked for
  (∀ (s : State) (i : Nat) (cur : Bool) (v : Int),
    s.hw.power = .on → s.dieUp = true → i < 38 → (cur = true → 31 ≤ i) → s.coreUp 5 = true →
    ∃ t, exec (.pldmSensorRead i ⟨cur, v⟩) s = .next t ∧ t = s.emit (.sensor i cur (some v))) ∧
  -- is held while core 5 restarts
  (∀ (s : State) (i : Nat) (cur : Bool) (v : Int),
    s.hw.power = .on → s.dieUp = true → i < 38 → (cur = true → 31 ≤ i) → s.coreUp 5 = false →
    ∃ t, exec (.pldmSensorRead i ⟨cur, v⟩) s = .next t ∧ t.hw = { s.hw with mctpHeld := s.hw.mctpHeld ++ [(5, .sensor i cur v)] } ∧
    Only [.hw] s t) ∧
  -- in AUX and FAULT answers, and for sensors 2 to 26 and 31 to 37 that they are not available
  (∀ (s : State) (i : Nat) (cur : Bool) (v : Int),
    (s.hw.power = .aux ∨ s.hw.power = .fault) → i < 38 → (cur = true → 31 ≤ i) →
    ∃ t, exec (.pldmSensorRead i ⟨cur, v⟩) s = .next t ∧ t = s.emit (.sensor i cur (if (2 ≤ i ∧ i ≤ 26) ∨ 31 ≤ i then none else some v)))

/-- A warm reset by MOD_RESET#, software or MCTP first has the coherent cache written back, then leaves registers by their Kept columns and what WarmLeaves names (R120, R121, R125, R126, R83). -/
def Obligations.WarmResets : Prop :=
  -- MOD_RESET_ASSERT in ON starts a warm reset of cause PIN
  (∀ (s : State),
    s.hw.power = .on → s.hw.dieHeld = false → s.hw.warm = none →
    ∃ t, exec .modResetAssert s = .next t ∧ t.hw.modResetLow = true ∧ (s.linkUp = true → t.hw = { { s.hw with modResetLow := true } with warm := some (.pin, .writeBack) } ∧ t.hif.ccActions = s.hif.ccActions ++ [.warm] ∧ Only [.hw, .hif] s t) ∧
    (s.linkUp = false → t.hw.warm = some (.pin, .held) ∧ WarmLeaves s t)) ∧
  -- GLB_WARM_RESET with its key starts one of cause SOFTWARE
  (∀ (s : State),
    s.hw.power = .on → s.hw.dieHeld = false → s.hw.warm = none →
    ∃ t, exec (.glbWarmReset 0xB8800001#32) s = .next t ∧ (s.linkUp = true → t.hw = { s.hw with warm := some (.software, .writeBack) } ∧ t.hif.ccActions = s.hif.ccActions ++ [.warm] ∧ Only [.hw, .hif] s t) ∧
    (s.linkUp = false → t.hw.warm = some (.software, .held) ∧ WarmLeaves s t)) ∧
  -- any other value only counts in GLB_IF_ERR_COUNT
  (∀ (s : State) (v : Word),
    v ≠ 0xB8800001#32 →
    ∃ t, exec (.glbWarmReset v) s = .next t ∧ t.rd R.GLB_IF_ERR_COUNT = word (min 0xFFFFFFFF ((s.rd R.GLB_IF_ERR_COUNT).toNat + 1)) ∧
    RegsBut [R.GLB_IF_ERR_COUNT] s t ∧ Only [.regs] s t) ∧
  -- MCTP_WARM_RESET starts one of cause MCTP while core 0 runs
  (∀ (s : State),
    s.hw.power = .on → s.hw.dieHeld = false → s.hw.warm = none → s.coreUp 0 = true →
    ∃ t, exec .mctpWarmReset s = .next t ∧ (s.linkUp = true → t.hw = { s.hw with warm := some (.mctp, .writeBack) } ∧ t.hif.ccActions = s.hif.ccActions ++ [.warm] ∧ Only [.hw, .hif] s t) ∧
    (s.linkUp = false → t.hw.warm = some (.mctp, .held) ∧ WarmLeaves s t)) ∧
  -- and is held while core 0 restarts
  (∀ (s : State),
    s.hw.power = .on → s.hw.dieHeld = false → s.hw.warm = none → s.coreUp 0 = false →
    ∃ t, exec .mctpWarmReset s = .next t ∧ t.hw = { s.hw with mctpHeld := s.hw.mctpHeld ++ [(0, .warmReset)] } ∧ Only [.hw] s t) ∧
  -- CC_WRITEBACK_DONE lets a waiting warm reset go on to what it leaves
  (∀ (s : State) (c : ResetCause),
    s.hif.ccActions ≠ [] → s.hw.warm = some (c, .writeBack) → CcAction.warm ∈ s.hif.ccActions →
    ∃ t, exec .ccWritebackDone s = .next t ∧ t.hw.warm = some (c, .held) ∧ WarmLeaves s t) ∧
  -- without one the cache is invalid, and ENABLE and WB_INV read 0 where they asked for it
  (∀ (s : State),
    s.hif.ccActions ≠ [] → s.hw.warm = none →
    ∃ t, exec .ccWritebackDone s = .next t ∧ t.hif.lines = [] ∧ t.hif.ccActions = [] ∧ (CcAction.disable ∈ s.hif.ccActions → t.getB R.HIF_CC_CTRL 0 = false) ∧
    (CcAction.wbInv ∈ s.hif.ccActions → t.getB R.HIF_CC_CTRL 1 = false) ∧ SameMem s t ∧ t.hw = s.hw ∧ t.ops = s.ops ∧
    t.trn = s.trn ∧ t.flash = s.flash) ∧
  -- MOD_RESET_RELEASE releases a die held in warm reset, whose cause then shows
  (∀ (s : State) (c : ResetCause),
    s.hw.warm = some (c, .held) →
    ∃ t, exec .modResetRelease s = .next t ∧ t.hw = { s.hw with modResetLow := false, dieHeld := false, warm := none } ∧
    t.rd R.GLB_RESET_CAUSE = word (2 ^ resetBit c) ∧ RegsBut [R.GLB_RESET_CAUSE] s t ∧ Only [.hw, .regs] s t) ∧
  -- and a die held at entry to ON
  (∀ (s : State),
    s.hw.warm = none →
    ∃ t, exec .modResetRelease s = .next t ∧ t.hw = { s.hw with modResetLow := false, dieHeld := false } ∧ Only [.hw] s t) ∧
  -- WARM_RESET_RELEASE with MOD_RESET# high releases it
  (∀ (s : State) (c : ResetCause),
    s.hw.modResetLow = false → s.hw.warm = some (c, .held) →
    ∃ t, exec .warmResetRelease s = .next t ∧ t.hw = { s.hw with warm := none } ∧ t.rd R.GLB_RESET_CAUSE = word (2 ^ resetBit c) ∧
    RegsBut [R.GLB_RESET_CAUSE] s t ∧ Only [.hw, .regs] s t)

/-- Event H drops the coherent cache, MSI-X tables, probes and virtual functions, loses the rings, counts, and leaves memory, flash and what each clause names (R103, R104, R77, R38, R54, R141). -/
def Obligations.HostLinkLoss : Prop :=
  -- HOST_LINK_RESET ends the link and all it held, and trains again when PERST# is high and the internal boot stage has ended
  (∀ (s : State) (n : Nat),
    s.linkUp = true → s.hw.warm = none →
    ∃ t, exec (.hostLinkReset n) s = .next t ∧ t.linkUp = false ∧ t.hif.lines = [] ∧ t.hif.msix = [] ∧ t.hif.probes = [] ∧
    t.trn.numVfs = 0 ∧
    t.trn.tlb = s.trn.tlb.filter (fun e => match e.target with | .device _ => true | _ => false) ∧ t.rd R.HIF_LINK_EVENTS &&& 1 = 1 ∧
    t.rd R.HIF_RETRAIN_COUNT = word (min 0xFFFFFFFF ((s.rd R.HIF_RETRAIN_COUNT).toNat + 1)) ∧
    (s.hif.ccActions = [] → t.rd R.HIF_DISCARD_COUNT = word (min 0xFFFFFFFF ((s.rd R.HIF_DISCARD_COUNT).toNat + (if s.idleState = 0 then n + s.dirtyLines else 0)))) ∧
    (∀ fn ∈ List.range 64, ∀ r ∈ List.range 15, (s.getB (R.RNG_RING_CTRL fn (r + 1)) 0 = true → t.ringState fn (r + 1) = 4) ∧ (s.getB (R.RNG_CQ_CTRL fn (r + 1)) 0 = true → t.cqState fn (r + 1) = 2)) ∧
    SameMem s t ∧ t.flash = s.flash ∧ t.boot = s.boot ∧ t.pwr = s.pwr ∧ t.groups = s.groups ∧ t.ydt = s.ydt ∧
    t.hif.training = (!s.hw.perstLow && s.boot.internal && s.dieUp)) ∧
  -- with no link it changes nothing
  (∀ (s : State) (n : Nat),
    s.linkUp = false →
    ∃ t, exec (.hostLinkReset n) s = .next t ∧ t = s) ∧
  -- PERST_ASSERT in a running die with the link up does the same and does not train
  (∀ (s : State) (n : Nat),
    s.linkUp = true → s.hw.warm = none → s.dieUp = true →
    ∃ t, exec (.perstAssert n) s = .next t ∧ t.linkUp = false ∧ t.hif.lines = [] ∧ t.hif.msix = [] ∧ t.hif.probes = [] ∧
    t.trn.numVfs = 0 ∧
    t.trn.tlb = s.trn.tlb.filter (fun e => match e.target with | .device _ => true | _ => false) ∧ t.rd R.HIF_LINK_EVENTS &&& 1 = 1 ∧
    t.rd R.HIF_RETRAIN_COUNT = word (min 0xFFFFFFFF ((s.rd R.HIF_RETRAIN_COUNT).toNat + 1)) ∧
    (s.hif.ccActions = [] → t.rd R.HIF_DISCARD_COUNT = word (min 0xFFFFFFFF ((s.rd R.HIF_DISCARD_COUNT).toNat + (if s.idleState = 0 then n + s.dirtyLines else 0)))) ∧
    (∀ fn ∈ List.range 64, ∀ r ∈ List.range 15, (s.getB (R.RNG_RING_CTRL fn (r + 1)) 0 = true → t.ringState fn (r + 1) = 4) ∧ (s.getB (R.RNG_CQ_CTRL fn (r + 1)) 0 = true → t.cqState fn (r + 1) = 2)) ∧
    SameMem s t ∧ t.flash = s.flash ∧ t.boot = s.boot ∧ t.pwr = s.pwr ∧ t.groups = s.groups ∧ t.ydt = s.ydt ∧
    t.hif.training = false ∧ t.hw.perstLow = true) ∧
  -- else it holds the link down: PERST# is low and nothing trains
  (∀ (s : State) (n : Nat),
    (s.linkUp = false ∨ s.dieUp = false) →
    ∃ t, exec (.perstAssert n) s = .next t ∧ t.hw = { s.hw with perstLow := true } ∧ t.hif = { s.hif with training := false } ∧
    Only [.hw, .hif] s t) ∧
  -- PERST_RELEASE takes PERST# high and starts training once the internal boot stage has ended
  (∀ (s : State),
    ∃ t, exec .perstRelease s = .next t ∧ t.hw = { s.hw with perstLow := false } ∧ t.hif = { s.hif with training := s.hif.training || (s.boot.internal && s.dieUp && !s.linkUp) } ∧
    Only [.hw, .hif] s t)

/-- LINK_TRAINED, REFCLK_RETRY, LINK_RECOVERY, CC_DISABLE, CC_WB_INV and SNOOP change the link's status, the cache's control bits and its lines as each clause says (R66, R67, R74, R76, R82, R83). -/
def Obligations.HostLinkAndCache : Prop :=
  -- LINK_TRAINED outside CXL mode brings the link up as a PCIe link with the width, speed and lane order found
  (∀ (s : State) (w sp : Nat) (neg rev : Bool),
    s.hif.training = true → (bit (s.rd R.HIF_LINK_CTRL) 0 && neg && decide (3 ≤ sp) && decide (4 ≤ w)) = false → linkShapeOk false w sp = true →
    sp ≤ (if fld (s.rd R.HIF_LINK_CTRL) 4 3 = 0 then 5 else fld (s.rd R.HIF_LINK_CTRL) 4 3) →
    ∃ t, exec (.linkTrained w sp neg rev) s = .next t ∧ t.linkUp = true ∧ t.cacheActive = false ∧ t.getF R.HIF_LINK_STATUS 0 5 = w ∧
    t.getF R.HIF_LINK_STATUS 5 3 = sp ∧ t.getB R.HIF_LINK_STATUS 11 = rev ∧
    t.hif.training = false ∧ t.hif.prevWidth = w ∧ t.hif.prevSpeed = sp ∧ TellsIn [] [R.HIF_LINK_STATUS, R.HIF_LINK_EVENTS] s t) ∧
  -- in CXL mode also with CXL.cache as CACHE_ALLOWED says
  (∀ (s : State) (w sp : Nat) (rev : Bool),
    s.hif.training = true → bit (s.rd R.HIF_LINK_CTRL) 0 = true → linkShapeOk true w sp = true → sp ≤ (if fld (s.rd R.HIF_LINK_CTRL) 4 3 = 0 then 5 else fld (s.rd R.HIF_LINK_CTRL) 4 3) →
    ∃ t, exec (.linkTrained w sp true rev) s = .next t ∧ t.linkUp = true ∧ t.cacheActive = bit (s.rd R.HIF_LINK_CTRL) 1 ∧
    t.getB R.HIF_LINK_STATUS 9 = true ∧ t.getF R.HIF_LINK_STATUS 0 5 = w ∧
    TellsIn [] [R.HIF_LINK_STATUS, R.HIF_LINK_EVENTS] s t) ∧
  -- REFCLK_RETRY tries the other reference clock mode
  (∀ (s : State),
    s.hif.training = true → s.getB R.HIF_LINK_CTRL 3 = true →
    ∃ t, exec .refclkRetry s = .next t ∧ t.hif = { s.hif with refOther := !s.hif.refOther } ∧ Only [.hif] s t) ∧
  -- LINK_RECOVERY sets RECOVERED and at most tells an event
  (∀ (s : State),
    s.linkUp = true →
    ∃ t, exec .linkRecovery s = .next t ∧ t.getB R.HIF_LINK_EVENTS 1 = true ∧ TellsIn [] [R.HIF_LINK_EVENTS] s t) ∧
  -- CC_DISABLE starts a write-back and leaves ENABLE 1 until it completes
  (∀ (s : State) (v : Word),
    s.getB R.HIF_CC_CTRL 0 = true → bit v 0 = false →
    ∃ t, exec (.ccDisable v) s = .next t ∧ t.hif.ccActions = s.hif.ccActions ++ (if bit v 1 then [.wbInv] else []) ++ [.disable] ∧
    t.getB R.HIF_CC_CTRL 0 = true ∧ t.hif.lines = s.hif.lines ∧
    RegsBut [R.HIF_CC_CTRL] s t ∧ Only [.hif, .regs] s t) ∧
  -- CC_WB_INV starts one and WB_INV reads 1
  (∀ (s : State) (v : Word),
    bit v 0 = true → bit v 1 = true →
    ∃ t, exec (.ccWbInv v) s = .next t ∧ t.hif.ccActions = s.hif.ccActions ++ [.wbInv] ∧ t.getB R.HIF_CC_CTRL 1 = true ∧
    t.getB R.HIF_CC_CTRL 0 = true ∧ t.hif.lines = s.hif.lines ∧
    RegsBut [R.HIF_CC_CTRL] s t ∧ Only [.hif, .regs] s t) ∧
  -- SNOOP of an absent line answers that it is absent
  (∀ (s : State) (fn line : Nat) (inv : Bool),
    s.hif.lines.look (ccKey fn line) = none →
    ∃ t, exec (.snoop fn line inv) s = .next t ∧ t.out = .snoopReply line false false :: s.out ∧ t.rd R.HIF_SNOOP_COUNT = word (min 0xFFFFFFFF ((s.rd R.HIF_SNOOP_COUNT).toNat + 1)) ∧
    RegsBut [R.HIF_SNOOP_COUNT] s t ∧ Only [.out, .regs] s t) ∧
  -- SNOOP of a held line answers its state, writes a dirty one back and leaves it clean or invalid
  (∀ (s : State) (fn line : Nat) (l : CcLine) (inv : Bool),
    s.hif.lines.look (ccKey fn line) = some l →
    ∃ t, exec (.snoop fn line inv) s = .next t ∧ t.out = (if l.dirty then [.hostWrite fn (64 * line) l.data .writeBack (s.hostRoute fn (64 * line))] else []) ++ .snoopReply line true l.dirty :: s.out ∧
    t.hif.lines.look (ccKey fn line) = (if inv then none else some { l with dirty := false }) ∧
    RegsBut [R.HIF_SNOOP_COUNT] s t ∧ Only [.out, .regs, .hif] s t)

/-- Doorbells, store-and-submit writes and slot writes of a Pavilion page submit, store or refuse slot by slot, and Cox takes the oldest submitted slot (R86, R87, R88, R114, R29). -/
def Obligations.PavilionSubmits : Prop :=
  -- MBX_DOORBELL makes every free slot it names busy and queues their descriptors in ascending slot order, and counts each bit for a busy slot
  (∀ (s : State) (fn : Nat) (v : Word),
    fn < 64 → s.pavOpen fn = true →
    ∃ t, exec (.mbxDoorbell fn v) s = .next t ∧ (∀ i ∈ List.range 8, t.slotBusy fn i = (s.slotBusy fn i || bit v i) ∧ t.slotDesc fn i = s.slotDesc fn i) ∧
    (t.queue (.pav fn)).cache = (s.queue (.pav fn)).cache ++ ((List.range 8).filter (fun i => bit v i && !s.slotBusy fn i)).zipIdx.map (fun x => (⟨word ((s.queue (.pav fn)).submits + x.2), x.1, s.slotDesc fn x.1, decide (x.2 + 1 = ((List.range 8).filter (fun i => bit v i && !s.slotBusy fn i)).length)⟩ : Waiting)) ∧
    t.rd (R.MBX_REJECT_COUNT fn) = word (min 0xFFFFFFFF ((s.rd (R.MBX_REJECT_COUNT fn)).toNat + ((List.range 8).filter (fun i => bit v i && s.slotBusy fn i)).length)) ∧
    TellsIn [.queues] [R.MBX_SLOT_BUSY fn, R.MBX_REJECT_COUNT fn] s t) ∧
  -- while the page takes no submissions it counts once (the model's choice, log entry 104) and submits nothing
  (∀ (s : State) (fn : Nat) (v : Word),
    fn < 64 → fld v 0 8 ≠ 0 → s.pavOpen fn = false →
    ∃ t, exec (.mbxDoorbell fn v) s = .next t ∧ t.rd (R.MBX_REJECT_COUNT fn) = word (min 0xFFFFFFFF ((s.rd (R.MBX_REJECT_COUNT fn)).toNat + 1)) ∧
    RegsBut [R.MBX_REJECT_COUNT fn] s t ∧ Only [.regs] s t) ∧
  -- MBX_GO of 64 aligned bytes stores and submits a free slot in one write
  (∀ (s : State) (fn i : Nat) (data : List Byte),
    fn < 64 → i < 8 → data.length = 64 → s.pavOpen fn = true → s.slotBusy fn i = false →
    ∃ t, exec (.mbxGo fn (0x600 + 64 * i) data) s = .next t ∧ t.slotBusy fn i = true ∧ t.slotDesc fn i = BitVec.ofNat 512 (leNat data) ∧
    (t.queue (.pav fn)).cache = (s.queue (.pav fn)).cache ++ [⟨word (s.queue (.pav fn)).submits, i, BitVec.ofNat 512 (leNat data), true⟩] ∧
    TellsIn [.queues] (R.MBX_SLOT_BUSY fn :: (List.range 128).map (fun j => rkey (pavPage fn) (0x400 + 4 * j) 0)) s t) ∧
  -- is refused and counted while the slot is busy or the page takes no submissions
  (∀ (s : State) (fn i : Nat) (data : List Byte),
    fn < 64 → i < 8 → data.length = 64 → (s.pavOpen fn = false ∨ s.slotBusy fn i = true) →
    ∃ t, exec (.mbxGo fn (0x600 + 64 * i) data) s = .next t ∧ t.rd (R.MBX_REJECT_COUNT fn) = word (min 0xFFFFFFFF ((s.rd (R.MBX_REJECT_COUNT fn)).toNat + 1)) ∧
    RegsBut [R.MBX_REJECT_COUNT fn] s t ∧ Only [.regs] s t) ∧
  -- and any other write to the area is discarded and counted
  (∀ (s : State) (fn off : Nat) (data : List Byte),
    fn < 64 → (data.length ≠ 64 ∨ off % 64 ≠ 0 ∨ off < 0x600 ∨ 0x800 ≤ off) →
    ∃ t, exec (.mbxGo fn off data) s = .next t ∧ t.rd (R.MBX_REJECT_COUNT fn) = word (min 0xFFFFFFFF ((s.rd (R.MBX_REJECT_COUNT fn)).toNat + 1)) ∧
    RegsBut [R.MBX_REJECT_COUNT fn] s t ∧ Only [.regs] s t) ∧
  -- MBX_SLOT_WRITE stores its bytes in the free slots it touches, and counts one refusal for each busy slot and one for a part past MBX_SLOT7
  (∀ (s : State) (fn off : Nat) (data : List Byte),
    fn < 64 → 0x400 ≤ off → off < 0x600 →
    ∃ t, exec (.mbxSlotWrite fn off data) s = .next t ∧ (∀ i ∈ List.range 8, t.slotBusy fn i = s.slotBusy fn i) ∧
    (∀ o ∈ List.range 512, t.slotByte fn (0x400 + o) = (if off ≤ 0x400 + o ∧ 0x400 + o < off + data.length ∧ s.slotBusy fn (o / 64) = false then data.getD (0x400 + o - off) 0 else s.slotByte fn (0x400 + o))) ∧
    t.rd (R.MBX_REJECT_COUNT fn) = word (min 0xFFFFFFFF ((s.rd (R.MBX_REJECT_COUNT fn)).toNat + ((List.range 8).filter (fun i => decide (0x400 + 64 * i < off + data.length ∧ off < 0x440 + 64 * i) && s.slotBusy fn i)).length + (if 0x600 < off + data.length then 1 else 0))) ∧
    RegsBut (R.MBX_REJECT_COUNT fn :: (List.range 128).map (fun j => rkey (pavPage fn) (0x400 + 4 * j) 0)) s t ∧
    Only [.regs] s t) ∧
  -- PAVILION_TAKE admits the oldest submitted descriptor, of a new chain, and frees its slot
  (∀ (s : State) (fn : Nat) (w : Waiting) (rest : List Waiting),
    fn < 64 → (s.queue (.pav fn)).cache = w :: rest → s.admitOpen fn (s.queue (.pav fn)) w.desc = true → s.admitRoom fn w.desc = true →
    s.idleState = 0 → dPhase w.desc ≤ 5 → dFirst w.desc = true →
    ∃ t, exec (.pavilionTake fn) s = .next t ∧ (t.op? s.nextOp).map (fun o => (o.fn, o.desc, o.src, o.seq, o.st)) = some (fn, w.desc, .pav fn, w.seq, .admitted) ∧
    t.nextOp = s.nextOp + 1 ∧
    (t.queue (.pav fn)).cache = rest ∧ (rest.any (fun x => x.queue = w.queue) = false → t.slotBusy fn w.queue = false) ∧
    SameMem s t) ∧
  -- and one that continues the open chain, at the chain's next place
  (∀ (s : State) (fn : Nat) (w : Waiting) (rest : List Waiting) (c : Nat) (ch : Chain),
    fn < 64 → (s.queue (.pav fn)).cache = w :: rest → s.admitOpen fn (s.queue (.pav fn)) w.desc = true → s.admitRoom fn w.desc = true →
    s.idleState = 0 → dPhase w.desc ≤ 5 → dFirst w.desc = false → (s.queue (.pav fn)).discarding = false → (s.queue (.pav fn)).chain = some c →
    s.chains.look c = some ch → ch.count < 1024 → ch.fail = none →
    ∃ t, exec (.pavilionTake fn) s = .next t ∧ (t.op? s.nextOp).map (fun o => (o.fn, o.desc, o.src, o.seq, o.st)) = some (fn, w.desc, .pav fn, w.seq, .admitted) ∧
    t.nextOp = s.nextOp + 1 ∧
    (t.queue (.pav fn)).cache = rest ∧ (rest.any (fun x => x.queue = w.queue) = false → t.slotBusy fn w.queue = false) ∧
    SameMem s t ∧
    (t.op? s.nextOp).map (fun o => (o.chain, o.pos)) = some (c, ch.count))

/-- An event queue is enabled from zero, keeps its allowed range of SEEN, delivers held records in order while it has room, and visible time follows probes (R85, R92, R95, R100, R101, R102, R71). -/
def Obligations.EventQueues : Prop :=
  -- EVQ_ENABLE starts both counts at 0
  (∀ (s : State) (fn : Nat) (v : Word),
    fn < 64 → bit v 0 = true → s.getB (R.MBX_EVQ_CTRL fn) 0 = false →
    ∃ t, exec (.evqEnable fn v) s = .next t ∧ t.rd (R.MBX_EVQ_CTRL fn) = v &&& 0x1F01 ∧ t.rd (R.MBX_EVQ_WRITTEN fn) = 0 ∧
    t.rd (R.MBX_EVQ_SEEN fn) = 0 ∧
    RegsBut [R.MBX_EVQ_CTRL fn, R.MBX_EVQ_WRITTEN fn, R.MBX_EVQ_SEEN fn] s t ∧ Only [.regs] s t) ∧
  -- EVQ_DISABLE keeps the counts and the held records
  (∀ (s : State) (fn : Nat) (v : Word),
    fn < 64 → bit v 0 = false → s.getB (R.MBX_EVQ_CTRL fn) 0 = true →
    ∃ t, exec (.evqDisable fn v) s = .next t ∧ t.getB (R.MBX_EVQ_CTRL fn) 0 = false ∧ RegsBut [R.MBX_EVQ_CTRL fn] s t ∧
    t.events = s.events ∧ Only [.regs] s t) ∧
  -- EVQ_SEEN_WRITE in its range is stored
  (∀ (s : State) (fn : Nat) (v : Word),
    fn < 64 → 0 ≤ serial v (s.rd (R.MBX_EVQ_SEEN fn)) → (v - s.rd (R.MBX_EVQ_SEEN fn)).toNat ≤ (s.rd (R.MBX_EVQ_WRITTEN fn) - s.rd (R.MBX_EVQ_SEEN fn)).toNat →
    ∃ t, exec (.evqSeenWrite fn v) s = .next t ∧ t.rd (R.MBX_EVQ_SEEN fn) = v ∧ RegsBut [R.MBX_EVQ_SEEN fn] s t ∧
    Only [.regs] s t) ∧
  -- and outside it is ignored
  (∀ (s : State) (fn : Nat) (v : Word),
    fn < 64 → (serial v (s.rd (R.MBX_EVQ_SEEN fn)) < 0 ∨ (s.rd (R.MBX_EVQ_WRITTEN fn) - s.rd (R.MBX_EVQ_SEEN fn)).toNat < (v - s.rd (R.MBX_EVQ_SEEN fn)).toNat) →
    ∃ t, exec (.evqSeenWrite fn v) s = .next t ∧ t = s) ∧
  -- EVENT_RECORD_WRITE with no record held writes nothing
  (∀ (s : State) (fn : Nat) (hv : HostView),
    fn < 64 → s.getB (R.MBX_EVQ_CTRL fn) 0 = true → s.linkUp = true → (s.fnEvents fn).held = [] →
    ∃ t, exec (.eventRecordWrite fn hv) s = .next t ∧ t = s) ∧
  -- with room and a good address it writes the held record at the place of its number, counts it and sets EVENT
  (∀ (s : State) (fn : Nat) (hv : HostView) (e : EvRec),
    fn < 64 → s.getB (R.MBX_EVQ_CTRL fn) 0 = true → s.linkUp = true → (s.fnEvents fn).held = [e] → (s.rd (R.MBX_EVQ_WRITTEN fn) - s.rd (R.MBX_EVQ_SEEN fn)).toNat < s.evqDepth fn →
    (s.vwrite hv 4 fn (s.evqBase fn + 32 * ((s.rd (R.MBX_EVQ_WRITTEN fn)).toNat % s.evqDepth fn)) (e.bytes (s.rd (R.MBX_EVQ_WRITTEN fn)).toNat (s.evqDepth fn) (s.fnEvents fn).lost)).2 = none →
    ∃ t, exec (.eventRecordWrite fn hv) s = .next t ∧ t.rd (R.MBX_EVQ_WRITTEN fn) = s.rd (R.MBX_EVQ_WRITTEN fn) + 1 ∧
    (t.fnEvents fn).held = [] ∧ (t.fnEvents fn).lost = false ∧ t.getB (intK (pavPage fn)) 0 = true ∧
    TellsIn [] [R.MBX_EVQ_WRITTEN fn] (s.vwrite hv 4 fn (s.evqBase fn + 32 * ((s.rd (R.MBX_EVQ_WRITTEN fn)).toNat % s.evqDepth fn)) (e.bytes (s.rd (R.MBX_EVQ_WRITTEN fn)).toNat (s.evqDepth fn) (s.fnEvents fn).lost)).1 t) ∧
  -- VISIBLE_TIME_READ answers the visible time and latches its high word
  (∀ (s : State) (fn words : Nat),
    fn < 64 → words < 2 →
    ∃ t, exec (.visibleTimeRead fn words) s = .next t ∧ t.out = .readData [word s.visibleTime] :: s.out ∧ t.rd (R.MBX_VISIBLE_TIME_HI fn) = word (s.visibleTime / 2 ^ 32) ∧
    RegsBut [R.MBX_VISIBLE_TIME_LO fn, R.MBX_VISIBLE_TIME_HI fn] s t ∧ Only [.out, .regs] s t) ∧
  -- PROBE_PERIODIC probes while non-snooped writes are outstanding
  (∀ (s : State),
    s.rd R.HIF_PROBE_PERIOD ≠ 0 → s.linkUp = true → s.hif.writesSinceProbe = true →
    ∃ t, exec .probePeriodic s = .next t ∧ t.out = .hostProbe s.hif.lastNonSnoop :: s.out ∧ t.hif = { s.hif with probes := s.hif.probes ++ [⟨s.devTime, none⟩], writesSinceProbe := false } ∧
    Only [.out, .hif] s t) ∧
  -- PROBE_RETURN moves the visible time forward to the probe's issue time
  (∀ (s : State) (p : Probe),
    s.hif.probes.find? (fun q => q.issued = p.issued) = some p → p.op = none →
    ∃ t, exec (.probeReturn p.issued) s = .next t ∧ t.hif = { s.hif with probes := s.hif.probes.erase p, visible := max s.hif.visible p.issued } ∧
    Only [.hif] s t) ∧
  -- UNIMPLEMENTED_ACCESS reads zero and counts
  (∀ (s : State) (off : Nat),
    off < 0x400000 → (0x340000 ≤ off ∨ 0x1000 ≤ off % 0x10000) →
    ∃ t, exec (.unimplementedAccess off none) s = .next t ∧ t.out = .readData [0] :: s.out ∧ t.rd R.HIF_ERR_COUNT = word (min 0xFFFFFFFF ((s.rd R.HIF_ERR_COUNT).toNat + 1)) ∧
    RegsBut [R.HIF_ERR_COUNT] s t ∧ Only [.out, .regs] s t) ∧
  -- and a write is dropped and counted
  (∀ (s : State) (off : Nat) (v : Word),
    off < 0x400000 → (0x340000 ≤ off ∨ 0x1000 ≤ off % 0x10000) →
    ∃ t, exec (.unimplementedAccess off (some v)) s = .next t ∧ t.rd R.HIF_ERR_COUNT = word (min 0xFFFFFFFF ((s.rd R.HIF_ERR_COUNT).toNat + 1)) ∧
    RegsBut [R.HIF_ERR_COUNT] s t ∧ Only [.regs] s t)

/-- Interrupt causes are set by INT_SET, cleared by writing one, and a request that rises or stays sends one message (R105, R107, R109, R112, R90). -/
def Obligations.InterruptRegisters : Prop :=
  -- INT_SET sets the causes that are not reserved; exactly a request that rises sends a message
  (∀ (s : State) (page : Nat) (v : Word),
    (pageKind page).isSome = true →
    ∃ t, exec (.intSet page v) s = .next t ∧ t.rd (intK page) = (s.rd (intK page) ||| (v &&& pageIntMask page)) ∧
    RegsBut [intK page] s t ∧
    (s.intReq page = true ∨ ((s.rd (intK page) ||| (v &&& pageIntMask page)) &&& s.rd (enK page)) = 0 → Only [.regs] s t) ∧
    (s.intReq page = false → ((s.rd (intK page) ||| (v &&& pageIntMask page)) &&& s.rd (enK page)) ≠ 0 → t = (s.wr (intK page) (s.rd (intK page) ||| (v &&& pageIntMask page))).pageMsg page)) ∧
  -- INT_STATUS_W1C clears the bits written 1, and clearing ERROR rearms the error capture
  (∀ (s : State) (page : Nat) (v : Word),
    (pageKind page).isSome = true → page < 4096 →
    ∃ t, exec (.intStatusW1c page v) s = .next t ∧ t.rd (intK page) = s.rd (intK page) &&& ~~~v ∧ (bit v 31 = true → t.getB (statusK page) 31 = false) ∧
    (bit v 31 = false → t.rd (statusK page) = s.rd (statusK page)) ∧
    RegsBut [intK page, statusK page] s t ∧ SameMem s t ∧ ((s.rd (intK page) &&& ~~~v) &&& s.rd (enK page) = 0 → Only [.regs] s t)) ∧
  -- INT_ENABLE_WRITE stores the mask but for reserved bits and sends a message when a request stands
  (∀ (s : State) (page : Nat) (v : Word),
    (pageKind page).isSome = true →
    ∃ t, exec (.intEnableWrite page v) s = .next t ∧ t.rd (enK page) = v &&& pageIntMask page ∧ RegsBut [enK page] s t ∧
    ((s.rd (intK page) &&& (v &&& pageIntMask page)) = 0 → Only [.regs] s t) ∧
    ((s.rd (intK page) &&& (v &&& pageIntMask page)) ≠ 0 → t = (s.wr (enK page) (v &&& pageIntMask page)).pageMsg page)) ∧
  -- MSI_X_UNMASK sends a pending message once
  (∀ (s : State) (fn vec : Nat),
    fn < 64 → vec < 32 →
    ∃ t, exec (.msiXUnmask fn vec) s = .next t ∧ (t.msixEntry fn vec).masked = false ∧ (t.msixEntry fn vec).pending = false ∧
    (t.msixEntry fn vec).addr = (s.msixEntry fn vec).addr ∧
    t.out = (if (s.msixEntry fn vec).pending && s.linkUp then [.msix fn vec (s.msixEntry fn vec).addr (s.msixEntry fn vec).data] else []) ++ s.out ∧
    Only [.hif, .out] s t)

/-- Doorbells, ring and completion queue enables, pauses, resynchronisations and refusals, by the state of the ring or queue (R138, R139, R140, R147, R149, R150, R164). -/
def Obligations.RingControl : Prop :=
  -- RNG_DOORBELL in its range publishes the new producer count
  (∀ (s : State) (fn r : Nat) (v : Word),
    fn < 64 → 1 ≤ r → r < 16 → s.doorbellOk fn r v = true →
    ∃ t, exec (.rngDoorbell fn r v) s = .next t ∧ t.rd (R.RNG_PRODUCER_SEQ fn r) = v ∧ TellsIn [] [R.RNG_PRODUCER_SEQ fn r] s t) ∧
  -- outside it the doorbell is refused and counted
  (∀ (s : State) (fn r : Nat) (v : Word),
    fn < 64 → 1 ≤ r → r < 16 → s.doorbellOk fn r v = false →
    ∃ t, exec (.rngDoorbell fn r v) s = .next t ∧ t.rd (R.RNG_REJECT_COUNT fn r) = word (min 0xFFFFFFFF ((s.rd (R.RNG_REJECT_COUNT fn r)).toNat + 1)) ∧
    t.rd (R.RNG_PRODUCER_SEQ fn r) = s.rd (R.RNG_PRODUCER_SEQ fn r) ∧ t.getB (intK (ringPage fn r)) 3 = true ∧ TellsIn [] [R.RNG_REJECT_COUNT fn r] s t) ∧
  -- RING_ENABLE with its completion queue enabled starts RUNNING, or PAUSED with PAUSE 1, from sequence 0 with nothing prefetched
  (∀ (s : State) (fn r : Nat) (v : Word),
    fn < 64 → 1 ≤ r → r < 16 → bit v 0 = true → s.getB (R.RNG_RING_CTRL fn r) 0 = false → s.getB (R.RNG_CQ_CTRL fn (if fld v 16 4 = 0 then r else fld v 16 4)) 0 = true →
    ∃ t, exec (.ringEnable fn r v) s = .next t ∧ t.ringState fn r = (if bit v 1 then 3 else 1) ∧ t.rd (R.RNG_RING_CTRL fn r) = v &&& 0x000F1F07 ∧
    t.rd (R.RNG_PRODUCER_SEQ fn r) = 0 ∧ t.rd (R.RNG_CONSUMED_SEQ fn r) = 0 ∧ t.rd (R.RNG_COMPLETED_SEQ fn r) = 0 ∧
    (t.queue (.ring fn r)).cache = [] ∧ (t.queue (.ring fn r)).fetch = none ∧ (t.queue (.ring fn r)).chain = none ∧
    TellsIn [.queues] [R.RNG_RING_CTRL fn r, R.RNG_PRODUCER_SEQ fn r, R.RNG_CONSUMED_SEQ fn r, R.RNG_COMPLETED_SEQ fn r] s t) ∧
  -- without it the enable is refused
  (∀ (s : State) (fn r : Nat) (v : Word),
    fn < 64 → 1 ≤ r → r < 16 → bit v 0 = true → s.getB (R.RNG_RING_CTRL fn r) 0 = false → s.getB (R.RNG_CQ_CTRL fn (if fld v 16 4 = 0 then r else fld v 16 4)) 0 = false →
    ∃ t, exec (.ringEnable fn r v) s = .next t ∧ t.getB (R.RNG_RING_CTRL fn r) 0 = false ∧ t.rd (R.RNG_REJECT_COUNT fn r) = word (min 0xFFFFFFFF ((s.rd (R.RNG_REJECT_COUNT fn r)).toNat + 1)) ∧
    t.ringState fn r = s.ringState fn r ∧ TellsIn [] [R.RNG_RING_CTRL fn r, R.RNG_REJECT_COUNT fn r] s t) ∧
  -- RING_DISABLE of a PAUSED, HOST_LOST, FAULTED or DISABLED ring with nothing outstanding disables it
  (∀ (s : State) (fn r : Nat) (v : Word),
    fn < 64 → 1 ≤ r → r < 16 → bit v 0 = false → s.getB (R.RNG_RING_CTRL fn r) 0 = true → s.ringState fn r ∈ [0, 3, 4, 5] →
    s.rd (R.RNG_COMPLETED_SEQ fn r) = s.rd (R.RNG_CONSUMED_SEQ fn r) →
    ∃ t, exec (.ringDisable fn r v) s = .next t ∧ t.ringState fn r = 0 ∧ t.rd (R.RNG_RING_CTRL fn r) = v &&& 0x000F1F07 ∧
    (t.queue (.ring fn r)).cache = [] ∧ (t.queue (.ring fn r)).chain = none ∧
    TellsIn [.queues, .ops, .chains] [R.RNG_RING_CTRL fn r] s t) ∧
  -- of any other it is refused, though its PAUSE bit acts (the model's choice, log entry 101)
  (∀ (s : State) (fn r : Nat) (v : Word),
    fn < 64 → 1 ≤ r → r < 16 → bit v 0 = false → s.getB (R.RNG_RING_CTRL fn r) 0 = true → (s.ringState fn r = 1 ∨ s.ringState fn r = 2 ∨ s.rd (R.RNG_COMPLETED_SEQ fn r) ≠ s.rd (R.RNG_CONSUMED_SEQ fn r)) →
    ∃ t, exec (.ringDisable fn r v) s = .next t ∧ t.getB (R.RNG_RING_CTRL fn r) 0 = true ∧ t.rd (R.RNG_REJECT_COUNT fn r) = word (min 0xFFFFFFFF ((s.rd (R.RNG_REJECT_COUNT fn r)).toNat + 1)) ∧
    t.ringState fn r = (if bit v 1 then (if s.ringState fn r = 1 then (if (s.queue (.ring fn r)).chain.isSome then 2 else 3) else s.ringState fn r) else if s.ringState fn r = 2 ∨ s.ringState fn r = 3 then 1 else s.ringState fn r) ∧
    TellsIn [] [R.RNG_RING_CTRL fn r, R.RNG_REJECT_COUNT fn r] s t) ∧
  -- CQ_ENABLE starts RUNNING with both counts 0 and puts depth and base into force
  (∀ (s : State) (fn r : Nat) (v : Word),
    fn < 64 → 1 ≤ r → r < 16 → bit v 0 = true → s.getB (R.RNG_CQ_CTRL fn r) 0 = false →
    ∃ t, exec (.cqEnable fn r v) s = .next t ∧ t.cqState fn r = 1 ∧ t.rd (R.RNG_CQ_CTRL fn r) = v &&& 0x1F01 ∧ t.rd (R.RNG_CQ_WRITTEN_SEQ fn r) = 0 ∧
    t.rd (R.RNG_HOST_SEEN_SEQ fn r) = 0 ∧
    (t.queue (.ring fn r)).unannounced = 0 ∧ t.cqDepth fn r = depthOf (bitsOf v.toNat 8 5) ∧ t.cqBase fn r = s.pair (R.RNG_CQ_BASE_LO fn r) (R.RNG_CQ_BASE_HI fn r) ∧
    RegsBut [R.RNG_CQ_CTRL fn r, R.RNG_CQ_WRITTEN_SEQ fn r, R.RNG_HOST_SEEN_SEQ fn r, statusK (ringPage fn r), R.RNG_CQ_CTRL fn r + pairKey, R.RNG_CQ_BASE_LO fn r + 2 * pairKey, R.RNG_CQ_BASE_HI fn r + 2 * pairKey] s t ∧
    Only [.regs, .queues] s t) ∧
  -- CQ_DISABLE of a queue that nothing names disables it
  (∀ (s : State) (fn r : Nat) (v : Word),
    fn < 64 → 1 ≤ r → r < 16 → bit v 0 = false → s.getB (R.RNG_CQ_CTRL fn r) 0 = true → s.cqNamed fn r = false →
    ∃ t, exec (.cqDisable fn r v) s = .next t ∧ t.cqState fn r = 0 ∧ t.rd (R.RNG_CQ_CTRL fn r) = v &&& 0x1F01 ∧ RegsBut [R.RNG_CQ_CTRL fn r, statusK (ringPage fn r)] s t ∧
    Only [.regs] s t) ∧
  -- of a queue in use it is refused
  (∀ (s : State) (fn r : Nat) (v : Word),
    fn < 64 → 1 ≤ r → r < 16 → bit v 0 = false → s.getB (R.RNG_CQ_CTRL fn r) 0 = true → s.cqNamed fn r = true →
    ∃ t, exec (.cqDisable fn r v) s = .next t ∧ t.cqState fn r = s.cqState fn r ∧ t.getB (R.RNG_CQ_CTRL fn r) 0 = true ∧
    TellsIn [] [R.RNG_REJECT_COUNT fn r] s t) ∧
  -- RING_PAUSE of a RUNNING ring reaches PAUSED at a chain boundary, else PAUSING
  (∀ (s : State) (fn r : Nat) (v : Word),
    fn < 64 → 1 ≤ r → r < 16 → (bit v 0 && bit v 1) = true → s.getB (R.RNG_RING_CTRL fn r) 0 = true → s.ringState fn r = 1 →
    ∃ t, exec (.ringPause fn r v) s = .next t ∧ t.ringState fn r = (if (s.queue (.ring fn r)).chain.isSome then 2 else 3) ∧
    t.getB (R.RNG_RING_CTRL fn r) 1 = true ∧ TellsIn [] [R.RNG_RING_CTRL fn r] s t) ∧
  -- RING_RESUME returns it to RUNNING
  (∀ (s : State) (fn r : Nat) (v : Word),
    fn < 64 → 1 ≤ r → r < 16 → bit v 0 = true → bit v 1 = false → s.getB (R.RNG_RING_CTRL fn r) 0 = true → (s.ringState fn r = 2 ∨ s.ringState fn r = 3) →
    ∃ t, exec (.ringResume fn r v) s = .next t ∧ t.ringState fn r = 1 ∧ t.getB (R.RNG_RING_CTRL fn r) 1 = false ∧
    TellsIn [] [R.RNG_RING_CTRL fn r] s t) ∧
  -- DCACHE_INV in PAUSED drops what was prefetched
  (∀ (s : State) (fn r : Nat) (v : Word),
    fn < 64 → 1 ≤ r → r < 16 → bit v 0 = true → s.ringState fn r = 3 →
    ∃ t, exec (.dcacheInv fn r v) s = .next t ∧ t.queue (.ring fn r) = { s.queue (.ring fn r) with cache := [], fetch := none } ∧
    Only [.queues] s t) ∧
  -- HOST_SEEN_WRITE in its range releases space
  (∀ (s : State) (fn r : Nat) (v : Word),
    fn < 64 → 1 ≤ r → r < 16 → s.cqState fn r = 1 → 0 ≤ serial v (s.rd (R.RNG_HOST_SEEN_SEQ fn r)) → (v - s.rd (R.RNG_HOST_SEEN_SEQ fn r)).toNat ≤ (s.rd (R.RNG_CQ_WRITTEN_SEQ fn r) - s.rd (R.RNG_HOST_SEEN_SEQ fn r)).toNat →
    ∃ t, exec (.hostSeenWrite fn r v) s = .next t ∧ t.rd (R.RNG_HOST_SEEN_SEQ fn r) = v ∧ RegsBut [R.RNG_HOST_SEEN_SEQ fn r] s t ∧
    Only [.regs] s t) ∧
  -- CQ_RESYNC sets both counts and returns the queue to RUNNING
  (∀ (s : State) (fn r : Nat) (v : Word),
    fn < 64 → 1 ≤ r → r < 16 → (s.cqState fn r = 2 ∨ s.cqState fn r = 3) → 0 ≤ serial v (s.rd (R.RNG_HOST_SEEN_SEQ fn r)) →
    (v - s.rd (R.RNG_HOST_SEEN_SEQ fn r)).toNat ≤ (s.rd (R.RNG_CQ_WRITTEN_SEQ fn r) - s.rd (R.RNG_HOST_SEEN_SEQ fn r)).toNat →
    ∃ t, exec (.cqResync fn r v) s = .next t ∧ t.rd (R.RNG_HOST_SEEN_SEQ fn r) = v ∧ t.rd (R.RNG_CQ_WRITTEN_SEQ fn r) = v ∧
    t.cqState fn r = 1 ∧
    RegsBut [R.RNG_HOST_SEEN_SEQ fn r, R.RNG_CQ_WRITTEN_SEQ fn r, statusK (ringPage fn r)] s t ∧ Only [.regs] s t) ∧
  -- RESYNC_SEQ_WRITE in HOST_LOST or FAULTED restarts the ring at the count written
  (∀ (s : State) (fn r : Nat) (v : Word),
    fn < 64 → 1 ≤ r → r < 16 → (s.ringState fn r = 4 ∨ s.ringState fn r = 5) → (s.rd (R.RNG_PRODUCER_SEQ fn r) - v).toNat ≤ s.ringDepth fn r →
    ∃ t, exec (.resyncSeqWrite fn r v) s = .next t ∧ t.rd (R.RNG_CONSUMED_SEQ fn r) = v ∧ t.rd (R.RNG_COMPLETED_SEQ fn r) = v ∧
    t.ringState fn r = (if s.getB (R.RNG_RING_CTRL fn r) 1 then 3 else 1) ∧
    (t.queue (.ring fn r)).cache = [] ∧ (t.queue (.ring fn r)).chain = none ∧ TellsIn [.queues, .ops, .chains] [R.RNG_CONSUMED_SEQ fn r, R.RNG_COMPLETED_SEQ fn r] s t)

/-- A ring's descriptors are fetched, admitted in order and completed by one entry each, and a moderated entry is announced (R145, R148, R151, R157, R158, R29). -/
def Obligations.FetchAdmitComplete : Prop :=
  -- DESCRIPTOR_FETCH starts a fetch of the published descriptors that fit
  (∀ (s : State) (fn r : Nat),
    fn < 64 → 1 ≤ r → r < 16 → (s.ringState fn r = 1 ∨ s.ringState fn r = 2 ∨ s.ringState fn r = 3) → (s.queue (.ring fn r)).fetch = none →
    0 < s.fetchCount fn r →
    ∃ t, exec (.descriptorFetch fn r) s = .next t ∧ (t.queue (.ring fn r)).fetch = some (s.fetchCount fn r) ∧ (t.queue (.ring fn r)).cache = (s.queue (.ring fn r)).cache ∧
    Only [.queues] s t) ∧
  -- FETCH_RETURN adds the descriptors read, numbered on, from the ring's place in memory
  (∀ (s : State) (fn r n : Nat) (hv : HostView) (bs : List Byte),
    fn < 64 → 1 ≤ r → r < 16 → (s.queue (.ring fn r)).fetch = some n → (match (s.vread hv 4 fn (s.ringBase fn r + 64 * (((s.rd (R.RNG_CONSUMED_SEQ fn r)).toNat + (s.queue (.ring fn r)).cache.length) % s.ringDepth fn r)) (64 * n)).2 with | .ok x => some x | .error _ => none) = some bs →
    ∃ t, exec (.fetchReturn fn r hv) s = .next t ∧ (t.queue (.ring fn r)).fetch = none ∧ TellsIn [.queues] [] (s.vread hv 4 fn (s.ringBase fn r + 64 * (((s.rd (R.RNG_CONSUMED_SEQ fn r)).toNat + (s.queue (.ring fn r)).cache.length) % s.ringDepth fn r)) (64 * n)).1 t ∧
    (t.queue (.ring fn r)).cache = (((s.vread hv 4 fn (s.ringBase fn r + 64 * (((s.rd (R.RNG_CONSUMED_SEQ fn r)).toNat + (s.queue (.ring fn r)).cache.length) % s.ringDepth fn r)) (64 * n)).1).queue (.ring fn r)).cache ++ waitings r ((s.rd (R.RNG_CONSUMED_SEQ fn r)).toNat + (s.queue (.ring fn r)).cache.length) n bs) ∧
  -- DESCRIPTOR_ADMIT takes the oldest fetched descriptor, of a new chain, and consumes it
  (∀ (s : State) (fn r : Nat) (w : Waiting) (rest : List Waiting),
    fn < 64 → 1 ≤ r → r < 16 → (s.queue (.ring fn r)).cache = w :: rest → (s.ringState fn r = 1 ∨ s.ringState fn r = 2) →
    dPhase w.desc ≤ 5 → (s.getB (R.RNG_RING_CTRL fn r) 2 = true → dfld w.desc 0x0C 0 16 = w.seq.toNat % 65536) →
    s.admitOpen fn (s.queue (.ring fn r)) w.desc = true → s.admitRoom fn w.desc = true → s.idleState = 0 → dFirst w.desc = true →
    ∃ t, exec (.descriptorAdmit (.ring fn r)) s = .next t ∧ (t.op? s.nextOp).map (fun o => (o.fn, o.desc, o.src, o.seq, o.st)) = some (fn, w.desc, .ring fn r, w.seq, .admitted) ∧
    t.nextOp = s.nextOp + 1 ∧
    t.rd (R.RNG_CONSUMED_SEQ fn r) = s.rd (R.RNG_CONSUMED_SEQ fn r) + 1 ∧ (t.queue (.ring fn r)).cache = rest ∧ SameMem s t) ∧
  -- and one that continues the open chain, at the chain's next place
  (∀ (s : State) (fn r : Nat) (w : Waiting) (rest : List Waiting) (c : Nat) (ch : Chain),
    fn < 64 → 1 ≤ r → r < 16 → (s.queue (.ring fn r)).cache = w :: rest → (s.ringState fn r = 1 ∨ s.ringState fn r = 2) →
    dPhase w.desc ≤ 5 → (s.getB (R.RNG_RING_CTRL fn r) 2 = true → dfld w.desc 0x0C 0 16 = w.seq.toNat % 65536) →
    s.admitOpen fn (s.queue (.ring fn r)) w.desc = true → s.admitRoom fn w.desc = true → s.idleState = 0 → dFirst w.desc = false →
    (s.queue (.ring fn r)).discarding = false → (s.queue (.ring fn r)).chain = some c → s.chains.look c = some ch →
    ch.count < 1024 → ch.fail = none →
    ∃ t, exec (.descriptorAdmit (.ring fn r)) s = .next t ∧ (t.op? s.nextOp).map (fun o => (o.fn, o.desc, o.src, o.seq, o.st)) = some (fn, w.desc, .ring fn r, w.seq, .admitted) ∧
    t.nextOp = s.nextOp + 1 ∧
    t.rd (R.RNG_CONSUMED_SEQ fn r) = s.rd (R.RNG_CONSUMED_SEQ fn r) + 1 ∧ (t.queue (.ring fn r)).cache = rest ∧ SameMem s t ∧
    (t.op? s.nextOp).map (fun o => (o.chain, o.pos)) = some (c, ch.count)) ∧
  -- COMPLETION_ISSUE drops the entry of a ring in HOST_LOST, or whose completion queue is, and writes nothing
  (∀ (s : State) (fn r : Nat) (hv : HostView) (e : Entry),
    fn < 64 → 1 ≤ r → r < 16 → s.nextEntry (.ring fn r) = some e → (s.ringState fn r = 4 ∨ s.cqState fn (s.ringCq fn r) = 2) →
    ∃ t, exec (.completionIssue (.ring fn r) hv) s = .next t ∧ (∀ i ∈ e.ops, t.op? i = none) ∧ t.rd (R.RNG_CQ_WRITTEN_SEQ fn (s.ringCq fn r)) = s.rd (R.RNG_CQ_WRITTEN_SEQ fn (s.ringCq fn r)) ∧
    t.getB (statusK (ringPage fn (s.ringCq fn r))) 4 = false ∧ t.out = s.out ∧ SameMem s t) ∧
  -- with room and a good address it writes the entry at the place of its number, counts it and forgets the descriptors it covers
  (∀ (s : State) (fn r : Nat) (hv : HostView) (e : Entry),
    fn < 64 → 1 ≤ r → r < 16 → s.nextEntry (.ring fn r) = some e → s.ringState fn r = 1 → s.cqState fn (s.ringCq fn r) = 1 →
    (s.rd (R.RNG_CQ_WRITTEN_SEQ fn (s.ringCq fn r)) - s.rd (R.RNG_HOST_SEEN_SEQ fn (s.ringCq fn r))).toNat < s.cqDepth fn (s.ringCq fn r) →
    s.needsProbe fn (s.cqBase fn (s.ringCq fn r) + 32 * ((s.rd (R.RNG_CQ_WRITTEN_SEQ fn (s.ringCq fn r))).toNat % s.cqDepth fn (s.ringCq fn r))) (e.ops.filterMap s.op?) = (false, false) →
    (s.vwrite hv 4 fn (s.cqBase fn (s.ringCq fn r) + 32 * ((s.rd (R.RNG_CQ_WRITTEN_SEQ fn (s.ringCq fn r))).toNat % s.cqDepth fn (s.ringCq fn r))) (e.bytes (s.rd (R.RNG_CQ_WRITTEN_SEQ fn (s.ringCq fn r))).toNat (s.cqDepth fn (s.ringCq fn r)) s.devTime)).2 = none →
    ∃ t, exec (.completionIssue (.ring fn r) hv) s = .next t ∧ t.rd (R.RNG_CQ_WRITTEN_SEQ fn (s.ringCq fn r)) = s.rd (R.RNG_CQ_WRITTEN_SEQ fn (s.ringCq fn r)) + 1 ∧
    SameMem (s.vwrite hv 4 fn (s.cqBase fn (s.ringCq fn r) + 32 * ((s.rd (R.RNG_CQ_WRITTEN_SEQ fn (s.ringCq fn r))).toNat % s.cqDepth fn (s.ringCq fn r))) (e.bytes (s.rd (R.RNG_CQ_WRITTEN_SEQ fn (s.ringCq fn r))).toNat (s.cqDepth fn (s.ringCq fn r)) s.devTime)).1 t ∧
    (∀ i ∈ e.ops, t.op? i = none)) ∧
  -- CQ_MOD_TIMER announces the entries that wait
  (∀ (s : State) (fn r : Nat),
    fn < 64 → 1 ≤ r → r < 16 → 0 < (s.queue (.ring fn r)).unannounced →
    ∃ t, exec (.cqModTimer fn r) s = .next t ∧ (t.queue (.ring fn r)).unannounced = 0 ∧ t.getB (intK (ringPage fn r)) 0 = true ∧
    TellsIn [.queues] [] s t)

/-- Requests, wake sources and the ends of entry and exit move the device between the active state, Z1 and Z2 (R122, R124, R127, R128, R130, R131, R132, R133, R330). -/
def Obligations.IdleStates : Prop :=
  -- IDLE_REQUEST_Z1 with no reason against it begins the entry with the write-back of the coherent cache
  (∀ (s : State) (v : Word),
    fld v 0 2 = 1 → s.idleState = 0 → s.entering = false → s.exiting = false → s.idleBlocks = [] →
    ∃ t, exec (.idleRequestZ1 v) s = .next t ∧ t.entering = true ∧ t.idle.goal = 1 ∧ t.idle.abandon = false ∧ t.idleState = 0 ∧
    t.hif.ccActions = s.hif.ccActions ++ [.idle] ∧
    RegsBut [R.GLB_IDLE_CTRL, R.GLB_IDLE_STATUS] s t ∧ Only [.regs, .hif, .idle] s t) ∧
  -- with a reason against it the device stays active and shows the reasons
  (∀ (s : State) (v : Word),
    fld v 0 2 = 1 → s.idleState = 0 → s.entering = false → s.exiting = false → s.idleBlocks ≠ [] →
    ∃ t, exec (.idleRequestZ1 v) s = .next t ∧ t.entering = false ∧ t.idleState = 0 ∧ (∀ b ∈ s.idleBlocks, t.getB R.GLB_IDLE_STATUS b = true) ∧
    TellsIn [] [R.GLB_IDLE_CTRL] s t) ∧
  -- IDLE_REQUEST_Z2 with no reason against it begins the entry with the write-back of the coherent cache
  (∀ (s : State) (v : Word),
    fld v 0 2 = 2 → s.idleState = 0 → s.entering = false → s.exiting = false → s.idleBlocks = [] →
    ∃ t, exec (.idleRequestZ2 v) s = .next t ∧ t.entering = true ∧ t.idle.goal = 2 ∧ t.idle.abandon = false ∧ t.idleState = 0 ∧
    t.hif.ccActions = s.hif.ccActions ++ [.idle] ∧
    RegsBut [R.GLB_IDLE_CTRL, R.GLB_IDLE_STATUS] s t ∧ Only [.regs, .hif, .idle] s t) ∧
  -- with a reason against it the device stays active and shows the reasons
  (∀ (s : State) (v : Word),
    fld v 0 2 = 2 → s.idleState = 0 → s.entering = false → s.exiting = false → s.idleBlocks ≠ [] →
    ∃ t, exec (.idleRequestZ2 v) s = .next t ∧ t.entering = false ∧ t.idleState = 0 ∧ (∀ b ∈ s.idleBlocks, t.getB R.GLB_IDLE_STATUS b = true) ∧
    TellsIn [] [R.GLB_IDLE_CTRL] s t) ∧
  -- IDLE_AUTO enters the state of AUTO_TARGET
  (∀ (s : State),
    s.getB R.GLB_IDLE_CTRL 2 = true → s.idleState = 0 → s.entering = false → s.exiting = false → s.idleBlocks = [] →
    ∃ t, exec .idleAuto s = .next t ∧ t.entering = true ∧ t.idle.goal = s.autoTarget ∧ t.idle.abandon = false ∧ t.idleState = 0 ∧
    t.hif.ccActions = s.hif.ccActions ++ [.idle] ∧
    RegsBut [R.GLB_IDLE_CTRL, R.GLB_IDLE_STATUS] s t ∧ Only [.regs, .hif, .idle] s t) ∧
  -- IDLE_EXIT_REQUEST in Z1 or Z2 begins an exit of cause SOFTWARE
  (∀ (s : State) (v : Word),
    (fld v 0 2 = 0 ∨ fld v 0 2 = 3) → s.idleState ≠ 0 → s.entering = false → s.exiting = false →
    ∃ t, exec (.idleExitRequest v) s = .next t ∧ t.exiting = true ∧ t.idle.goal = 0 ∧ t.getB R.GLB_WAKE_CAUSE 4 = true ∧
    TellsIn [] [R.GLB_IDLE_CTRL] s t) ∧
  -- IDLE_MOVE from Z1 to Z2 is an entry
  (∀ (s : State) (v : Word),
    fld v 0 2 = 2 → s.idleState = 1 → s.entering = false → s.exiting = false →
    ∃ t, exec (.idleMove v) s = .next t ∧ t.entering = true ∧ t.idle.goal = 2 ∧ t.idleState = 1 ∧ RegsBut [R.GLB_IDLE_CTRL, R.GLB_IDLE_STATUS] s t ∧
    Only [.regs, .idle] s t) ∧
  -- from Z2 to Z1 an exit
  (∀ (s : State) (v : Word),
    fld v 0 2 = 1 → s.idleState = 2 → s.entering = false → s.exiting = false →
    ∃ t, exec (.idleMove v) s = .next t ∧ t.exiting = true ∧ t.idle.goal = 1 ∧ TellsIn [] [R.GLB_IDLE_CTRL] s t) ∧
  -- IDLE_ENTRY_DONE reaches Z1, and registers that do not list Z1 take their Reset values
  (∀ (s : State),
    s.entering = true → CcAction.idle ∉ s.hif.ccActions → s.idle.abandon = false → s.idle.goal = 1 →
    ∃ t, exec .idleEntryDone s = .next t ∧ t.entering = false ∧ t.idleState = 1 ∧ RegsEvent evZ1 [R.GLB_IDLE_STATUS] s t ∧
    t.lastTag = 0 ∧ Only [.regs, .lastTag] s t) ∧
  -- or Z2, with DRAM in self-refresh and every cluster gated, and of the registers that do not list Z2 the two named at their Reset values
  (∀ (s : State),
    s.entering = true → CcAction.idle ∉ s.hif.ccActions → s.idle.abandon = false → s.idle.goal = 2 →
    ∃ t, exec .idleEntryDone s = .next t ∧ t.entering = false ∧ t.idleState = 2 ∧ t.idle.selfRefresh = true ∧ t.idle.clustersUp = [] ∧
    t.msys.retraining = none ∧
    (∀ c ∈ List.range 80, s.chanState c = 2 ∨ s.chanState c = 4 → t.chanState c = 3) ∧ (∀ k ∈ [R.YDT_TRACKERS, R.PWR_INPUT_POWER], t.rd k = regDefault k) ∧
    SameMem s t ∧ t.ops = s.ops ∧ t.trn = s.trn) ∧
  -- an abandoned entry returns to the active state
  (∀ (s : State),
    s.entering = true → CcAction.idle ∉ s.hif.ccActions → s.idle.abandon = true →
    ∃ t, exec .idleEntryDone s = .next t ∧ t.entering = false ∧ t.idleState = 0 ∧ t.idle.abandon = false ∧ t.idle.goal = 0) ∧
  -- WAKE in Z1 or Z2 begins an exit and records its cause
  (∀ (s : State) (w : WakeSource),
    s.idleState ≠ 0 → s.entering = false → s.exiting = false →
    ∃ t, exec (.wake w) s = .next t ∧ t.exiting = true ∧ t.idle.goal = 0 ∧ t.getB R.GLB_WAKE_CAUSE (wakeBit w) = true ∧
    Told s t) ∧
  -- during an entry it abandons the entry
  (∀ (s : State) (w : WakeSource),
    s.entering = true →
    ∃ t, exec (.wake w) s = .next t ∧ t.idle.abandon = true ∧ t.getB R.GLB_WAKE_CAUSE (wakeBit w) = true ∧ t.idleState = s.idleState ∧
    Told s t) ∧
  -- CLUSTER_POWER_UP powers the clusters up in ascending order
  (∀ (s : State) (nn : Nat),
    s.exiting = true → nn < 16 → s.idle.clustersUp = List.range nn →
    ∃ t, exec (.clusterPowerUp nn) s = .next t ∧ t.idle = { s.idle with clustersUp := List.range (nn + 1) } ∧ Only [.idle] s t) ∧
  -- SELF_REFRESH_EXIT makes the channels active again
  (∀ (s : State),
    s.exiting = true → s.idle.selfRefresh = true →
    ∃ t, exec .selfRefreshExit s = .next t ∧ t.idle = { s.idle with selfRefresh := false } ∧ (∀ c ∈ List.range 80, s.chanState c = 3 → t.chanState c = 2 ∨ t.chanState c = 4) ∧
    SameMem s t) ∧
  -- IDLE_EXIT_DONE ends the exit, or the move to Z1, once DRAM and every cluster are up
  (∀ (s : State),
    s.exiting = true → s.idle.selfRefresh = false → s.idle.clustersUp = List.range 16 → s.idle.goal < 2 →
    ∃ t, exec .idleExitDone s = .next t ∧ t.exiting = false ∧ t.idleState = s.idle.goal)

/-- TLB misses, fills, ATS answers, invalidations and released stalls change the TLB, the misses under way and the fault queue as each clause says (R173, R174, R175, R176, R177, R178, R180). -/
def Obligations.TranslationCache : Prop :=
  -- TLB_MISS counts and starts, or joins, the walk of its page
  (∀ (s : State) (fn va : Nat),
    s.tlbHit fn va = false →
    ∃ t, exec (.tlbMiss fn va) s = .next t ∧ (fn, s.tlbPage fn va) ∈ t.trn.misses ∧ t.trn.tlb = s.trn.tlb ∧ t.rd R.TRN_TLB_MISS_COUNT = word (min 0xFFFFFFFF ((s.rd R.TRN_TLB_MISS_COUNT).toNat + 1)) ∧
    TellsIn [.trn] [R.TRN_TLB_MISS_COUNT] s t) ∧
  -- TLB_FILL of a DEVICE page enters its leaf as the newest entry
  (∀ (s : State) (fn va : Nat) (l : Leaf) (w ats : Bool),
    fn < 64 → (fn, s.tlbPage fn va) ∈ s.trn.misses → s.coreUp coreTrn = true → s.walk fn va = some (false, l) → l.host = false →
    (s.trn.tlb.filter (fun x => x.key ≠ ptKey fn false (va / mib32))).length < 4096 →
    ∃ t, exec (.tlbFill fn va w ats) s = .next t ∧ t.trn.tlb.head? = some ⟨fn, false, va / mib32, .device l.addr, l.read, l.write, l.shared⟩ ∧
    (fn, s.tlbPage fn va) ∉ t.trn.misses ∧ t.trn.pt = s.trn.pt ∧
    RegsBut [R.MEM00_CLASS_BYTES] s t ∧ Only [.trn, .regs, .msys] s t) ∧
  -- of a HOST page with ATS it asks the host for the whole page
  (∀ (s : State) (fn va : Nat) (g : Bool) (l : Leaf) (w : Bool),
    (fn, s.tlbPage fn va) ∈ s.trn.misses → s.coreUp coreTrn = true → s.walk fn va = some (g, l) → l.host = true →
    ∃ t, exec (.tlbFill fn va w true) s = .next t ∧ t.out = .atsRequest fn (va / pageBytes g * pageBytes g) :: s.out ∧
    RegsBut [R.MEM00_CLASS_BYTES] s t ∧ Only [.out, .regs, .msys] s t) ∧
  -- without a leaf it raises a fault
  (∀ (s : State) (fn va : Nat) (w ats : Bool),
    fn < 64 → (fn, s.tlbPage fn va) ∈ s.trn.misses → s.coreUp coreTrn = true → s.walk fn va = none →
    ∃ t, exec (.tlbFill fn va w ats) s = .next t ∧ t.trn.tlb = s.trn.tlb ∧ (fn, s.tlbPage fn va) ∉ t.trn.misses ∧
    t.rd (R.TRN_FN_FAULT_COUNT fn) = word (min 0xFFFFFFFF ((s.rd (R.TRN_FN_FAULT_COUNT fn)).toNat + 1))) ∧
  -- ATS_COMPLETION for the whole page fills the host's address
  (∀ (s : State) (fn va : Nat) (g : Bool) (l : Leaf) (a : Nat) (w : Bool),
    (fn, s.tlbPage fn va) ∈ s.trn.misses → s.coreUp coreTrn = true → s.walk fn va = some (g, l) → (s.trn.tlb.filter (fun x => x.key ≠ ptKey fn g (va / pageBytes g))).length < 4096 →
    ∃ t, exec (.atsCompletion fn va (some a) true w) s = .next t ∧ t.trn.tlb.head? = some ⟨fn, g, va / pageBytes g, .hostAt a, l.read, l.write, l.shared⟩ ∧
    Only [.trn] s t) ∧
  -- one for less of it counts, and leaves the page untranslated
  (∀ (s : State) (fn va : Nat) (w : Bool),
    fn < 64 → (fn, s.tlbPage fn va) ∈ s.trn.misses → s.coreUp coreTrn = true →
    ∃ t, exec (.atsCompletion fn va none true w) s = .next t ∧ t.rd R.TRN_ATS_SHORT_COUNT = word (min 0xFFFFFFFF ((s.rd R.TRN_ATS_SHORT_COUNT).toNat + 1)) ∧
    TellsIn [.trn] [R.TRN_ATS_SHORT_COUNT] s t) ∧
  -- and any waits while the core that serves translation restarts
  (∀ (s : State) (fn va : Nat) (whole : Option Nat) (pe w : Bool),
    s.coreUp coreTrn = false →
    ∃ t, exec (.atsCompletion fn va whole pe w) s = .next t ∧ t.fwc.inq = s.fwc.inq.put coreTrn (((s.fwc.inq.look coreTrn).getD []) ++ [.ats fn va whole pe w]) ∧
    Only [.inbox] s t) ∧
  -- ATS_INVALIDATION removes exactly the function's entries in the range and answers
  (∀ (s : State) (fn va : Nat) (len : Nat),
    ∃ t, exec (.atsInvalidation fn va len) s = .next t ∧ t.out = .atsInvDone fn va :: s.out ∧ (∀ e ∈ t.trn.tlb, e ∈ s.trn.tlb ∧ ¬(e.fn = fn ∧ e.page * pageBytes e.gib < va + len ∧ va < (e.page + 1) * pageBytes e.gib)) ∧
    (∀ e ∈ s.trn.tlb, ¬(e.fn = fn ∧ e.page * pageBytes e.gib < va + len ∧ va < (e.page + 1) * pageBytes e.gib) → e ∈ t.trn.tlb) ∧
    t.trn.pt = s.trn.pt ∧ Only [.trn, .out] s t) ∧
  -- FAULT_STALL_RELEASE gives the oldest stall, where an entry is free for it, a fault entry
  (∀ (s : State) (x : Stall) (r : List Stall),
    s.trn.stalls = x :: r → x ∉ r → s.faultRoom x.fn = true → (s.trn.faults.any (fun e => decide (e.fn = x.fn ∧ e.gib = x.gib ∧ e.page = x.va / pageBytes x.gib)) = false) →
    ∃ t, exec .faultStallRelease s = .next t ∧ t.trn.stalls = r.map (fun (y : Stall) => ({ y with since := s.uptime } : Stall)) ∧
    t.trn.faults = s.trn.faults ++ [(⟨x.fn, x.va / pageBytes x.gib, x.gib, x.va, x.write, x.prefer, .queued, [x.waiter], s.uptime⟩ : FaultQ)] ∧
    TellsIn [.trn, .tiles] [R.TRN_FQ_STALL_CYCLES] s t) ∧
  -- and joins it to the entry its page has
  (∀ (s : State) (x : Stall) (r : List Stall) (e : FaultQ),
    s.trn.stalls = x :: r → x ∉ r → s.trn.faults = [e] → (e.fn = x.fn ∧ e.gib = x.gib ∧ e.page = x.va / pageBytes x.gib) →
    ∃ t, exec .faultStallRelease s = .next t ∧ t.trn.faults = [({ e with waiters := e.waiters ++ [x.waiter] } : FaultQ)] ∧
    t.trn.stalls.length = r.length)

/-- A queued fault becomes a page request, a migration or a release, and the host's answer, or its absence, releases or ends the accesses that wait (R179, R182, R183, R184, R205). -/
def Obligations.PageRequests : Prop :=
  -- PRI_REQUEST sends one request for the 4 KiB address of the fault
  (∀ (s : State) (fn va : Nat) (e : FaultQ),
    s.faultAt fn va = some e → e.st = .queued → e.prefer = false → s.coreUp coreTrn = true → s.linkUp = true →
    ∃ t, exec (.priRequest fn va) s = .next t ∧ t.out = .priRequest fn (e.va / 4096 * 4096) (s.getF (R.TRN_FN_PASID fn) 0 20) e.write :: s.out ∧
    t.trn = { s.trn with faults := s.trn.faults.map (fun x => if x = e then { x with st := .requested } else x) } ∧
    Only [.out, .trn] s t) ∧
  -- a PREFER_DEVICE fault without room is served from host memory and counted
  (∀ (s : State) (fn va : Nat) (e : FaultQ) (l : Leaf),
    fn < 64 → s.faultAt fn va = some e → e.st = .queued → e.prefer = true → s.coreUp coreTrn = true → s.linkUp = true →
    TablesFor s 1 → s.leafAt fn e.gib e.page = some l → (l.host && l.prefer && !l.busy) = true → s.migrateRoom fn e.gib = false →
    ∃ t, exec (.priRequest fn va) s = .next t ∧ (t.leafAt fn e.gib e.page).map (fun x => (x.host, x.read, x.write, x.shared, x.prefer, x.busy)) = some (true, l.read, l.write, l.shared, false, false) ∧
    t.trn.faults = s.trn.faults.erase e ∧
    t.rd (R.TRN_FN_MIGRATE_SKIP fn) = word (min 0xFFFFFFFF ((s.rd (R.TRN_FN_MIGRATE_SKIP fn)).toNat + 1)) ∧ RegsBut [R.TRN_FN_MIGRATE_SKIP fn] s t ∧
    Only [.trn, .ops, .regs] s t) ∧
  -- with room its migration starts, and the page is BUSY
  (∀ (s : State) (fn va : Nat) (e : FaultQ) (l : Leaf),
    fn < 64 → s.faultAt fn va = some e → e.st = .queued → e.prefer = true → s.coreUp coreTrn = true → s.linkUp = true →
    TablesFor s 1 → s.leafAt fn e.gib e.page = some l → (l.host && l.prefer && !l.busy) = true → s.migrateRoom fn e.gib = true →
    ∃ t, exec (.priRequest fn va) s = .next t ∧ (t.leafAt fn e.gib e.page).map (fun x => (x.host, x.read, x.write, x.shared, x.prefer, x.busy)) = some (true, l.read, l.write, l.shared, true, true) ∧
    t.trn.faults = s.trn.faults.map (fun x => if x = e then { x with st := .migrating } else x) ∧ Only [.trn] s t) ∧
  -- PRI_RESPONSE success releases the accesses that wait
  (∀ (s : State) (fn va : Nat) (e : FaultQ),
    s.faultAt fn va = some e → e.st = .requested → s.coreUp coreTrn = true →
    ∃ t, exec (.priResponse fn va .success) s = .next t ∧ t.trn = { s.trn with faults := s.trn.faults.erase e } ∧
    (∀ i ∈ faultOps e, t.op? i = (s.op? i).map (fun o => { o with waitFault := false })) ∧ Only [.trn, .ops] s t) ∧
  -- any other answer drops the fault, and failure sets PRI_FAILED
  (∀ (s : State) (fn va : Nat) (e : FaultQ) (code : PriCode),
    fn < 64 → s.faultAt fn va = some e → e.st = .requested → s.coreUp coreTrn = true → e.waiters = [.remote] → code ≠ .success →
    ∃ t, exec (.priResponse fn va code) s = .next t ∧ t.trn = { s.trn with faults := s.trn.faults.erase e } ∧ (code = .failure → t.getB (R.TRN_FN_STATUS fn) 2 = true) ∧
    t.getB (intK pTRN) 1 = true ∧
    TellsIn [.trn] [R.TRN_FN_STATUS fn] s t) ∧
  -- and ends a COPY that waits with TRANSLATION_FAULT
  (∀ (s : State) (fn va : Nat) (e : FaultQ) (code : PriCode) (i : Nat) (o : Op),
    fn < 64 → s.faultAt fn va = some e → e.st = .requested → s.coreUp coreTrn = true → e.waiters = [.op i] → code ≠ .success →
    s.op? i = some o → dOpcode o.desc = 1 → o.issued = false → s.slotOf i = none →
    ∃ t, exec (.priResponse fn va code) s = .next t ∧ Ended t i stTransFault 0 ∧ t.trn.faults = s.trn.faults.erase e ∧
    SameMem s t) ∧
  -- while the core restarts an answer waits
  (∀ (s : State) (fn va : Nat) (code : PriCode),
    s.coreUp coreTrn = false →
    ∃ t, exec (.priResponse fn va code) s = .next t ∧ t.fwc.inq = s.fwc.inq.put coreTrn (((s.fwc.inq.look coreTrn).getD []) ++ [.pri fn va code]) ∧
    Only [.inbox] s t) ∧
  -- PRI_TIMEOUT drops the fault and sets PRI_FAILED
  (∀ (s : State) (fn va : Nat) (e : FaultQ),
    fn < 64 → s.faultAt fn va = some e → e.st = .requested → s.coreUp coreTrn = true → e.waiters = [.remote] →
    ∃ t, exec (.priTimeout fn va) s = .next t ∧ t.trn = { s.trn with faults := s.trn.faults.erase e } ∧ t.getB (R.TRN_FN_STATUS fn) 2 = true ∧
    t.getB (intK pTRN) 1 = true ∧ TellsIn [.trn] [R.TRN_FN_STATUS fn] s t) ∧
  -- MIGRATE_ON_FAULT_DONE makes the page a DEVICE page with the same permissions and releases the fault
  (∀ (s : State) (fn va : Nat) (e : FaultQ) (l : Leaf) (hv : HostView),
    fn < 64 → s.faultAt fn va = some e → e.st = .migrating → s.leafAt fn e.gib e.page = some l → s.migrateRoom fn e.gib = true →
    s.idle.selfRefresh = false → TablesFor s 1 →
    ∃ t, exec (.migrateOnFaultDone fn va hv) s = .next t ∧ (∃ p ∈ s.framesFree e.gib, t.leafAt fn e.gib e.page = some ⟨false, l.read, l.write, false, false, false, p⟩) ∧
    t.trn.faults = s.trn.faults.erase e)

/-- MAP, UNMAP, PROTECT, MIGRATE and ADVISE of pages that they can process change the pages' leaves as each clause says, and quotas are stored or refused (R186, R187, R188, R189, R190, R191, R192, R195). -/
def Obligations.MemoryManagement : Prop :=
  -- MAP of unmapped pages to HOST enters their leaves
  (∀ (s : State) (op : Nat) (o : Op),
    s.mmReady op 0x60 = some o → s.op? op = some o → o.issued = false → TablesFor s (mmArgs o.desc).count → (mmArgs o.desc).bad true false = none →
    (mmArgs o.desc).loc = 2 → ((∀ i, i < (mmArgs o.desc).count → s.pageReason o.fn (mmArgs o.desc).g ((mmArgs o.desc).page + i) false = 0)) →
    ∃ t, exec (.map op) s = .next t ∧ (∀ i, i < (mmArgs o.desc).count → t.leafAt o.fn (mmArgs o.desc).g ((mmArgs o.desc).page + i) = some ⟨true, (mmArgs o.desc).read, (mmArgs o.desc).write, (mmArgs o.desc).bias, false, false, 0⟩) ∧
    Ended t op stOK (mmArgs o.desc).count ∧ SameMem s t) ∧
  -- MAP of a page to DEVICE takes a frame and fills it with zero
  (∀ (s : State) (op : Nat) (o : Op),
    s.mmReady op 0x60 = some o → s.op? op = some o → o.issued = false → TablesFor s (mmArgs o.desc).count → (mmArgs o.desc).bad true false = none →
    (mmArgs o.desc).loc = 1 → (mmArgs o.desc).count = 1 → s.pageReason o.fn (mmArgs o.desc).g (mmArgs o.desc).page false = 0 →
    s.migrateRoom o.fn (mmArgs o.desc).g = true → s.anyFailed = false → s.dramInit = true →
    ∃ t, exec (.map op) s = .next t ∧ (∃ p ∈ s.framesFree (mmArgs o.desc).g, t.leafAt o.fn (mmArgs o.desc).g (mmArgs o.desc).page = some ⟨false, (mmArgs o.desc).read, (mmArgs o.desc).write, false, false, false, p⟩ ∧ Zeroed t p (pageBytes (mmArgs o.desc).g) ∧ MemBut p (pageBytes (mmArgs o.desc).g) s t) ∧
    Ended t op stOK 1) ∧
  -- UNMAP first sets BUSY on its pages
  (∀ (s : State) (op : Nat) (o : Op),
    s.mmReady op 0x61 = some o → s.op? op = some o → o.issued = false → TablesFor s (mmArgs o.desc).count → (mmArgs o.desc).bad false false = none →
    o.st = .admitted → s.busyInRange o.fn (mmArgs o.desc) = false → ((∀ i, i < (mmArgs o.desc).count → s.pageReason o.fn (mmArgs o.desc).g ((mmArgs o.desc).page + i) true = 0)) →
    ∃ t, exec (.unmap op) s = .next t ∧ (∀ i, i < (mmArgs o.desc).count → (t.leafAt o.fn (mmArgs o.desc).g ((mmArgs o.desc).page + i)).map (fun l => l.busy) = some true) ∧
    (t.op? op).map (fun x => x.st) = some .running ∧ SameMem s t) ∧
  -- and once they are marked removes them
  (∀ (s : State) (op : Nat) (o : Op),
    s.mmReady op 0x61 = some o → s.op? op = some o → o.issued = false → TablesFor s (mmArgs o.desc).count → (mmArgs o.desc).bad false false = none →
    o.st = .running → ((∀ i, i < (mmArgs o.desc).count → s.pageReason o.fn (mmArgs o.desc).g ((mmArgs o.desc).page + i) true = 0)) →
    ∃ t, exec (.unmap op) s = .next t ∧ (∀ i, i < (mmArgs o.desc).count → t.leafAt o.fn (mmArgs o.desc).g ((mmArgs o.desc).page + i) = none) ∧
    Ended t op stOK (mmArgs o.desc).count ∧ SameMem s t) ∧
  -- PROTECT sets the permissions of mapped pages
  (∀ (s : State) (op : Nat) (o : Op),
    s.mmReady op 0x62 = some o → s.op? op = some o → o.issued = false → TablesFor s (mmArgs o.desc).count → (mmArgs o.desc).bad false false = none →
    ((∀ i, i < (mmArgs o.desc).count → s.pageReason o.fn (mmArgs o.desc).g ((mmArgs o.desc).page + i) true = 0)) →
    ∃ t, exec (.protect op) s = .next t ∧ (∀ i, i < (mmArgs o.desc).count → (t.leafAt o.fn (mmArgs o.desc).g ((mmArgs o.desc).page + i)).map (fun l => (l.read, l.write)) = some ((mmArgs o.desc).read, (mmArgs o.desc).write)) ∧
    Ended t op stOK (mmArgs o.desc).count ∧ SameMem s t) ∧
  -- ADVISE 0 clears PREFER_DEVICE of its pages and ADVISE 1 sets it on HOST pages
  (∀ (s : State) (op : Nat) (o : Op) (ats : Bool),
    s.mmReady op 0x64 = some o → s.op? op = some o → o.issued = false → TablesFor s (mmArgs o.desc).count → (mmArgs o.desc).bad false true = none →
    ((∀ i, i < (mmArgs o.desc).count → s.pageReason o.fn (mmArgs o.desc).g ((mmArgs o.desc).page + i) true = 0)) →
    (mmArgs o.desc).advice < 2 →
    ∃ t, exec (.advise ⟨op, ats⟩) s = .next t ∧ (∀ i, i < (mmArgs o.desc).count → (t.leafAt o.fn (mmArgs o.desc).g ((mmArgs o.desc).page + i)).map (fun x => x.prefer) = (s.leafAt o.fn (mmArgs o.desc).g ((mmArgs o.desc).page + i)).map (fun x => if (mmArgs o.desc).advice = 0 then false else x.host || x.prefer)) ∧
    Ended t op stOK (mmArgs o.desc).count ∧ SameMem s t) ∧
  -- ADVISE 2 and 3 change no leaf, and 3 drops the pages' TLB entries
  (∀ (s : State) (op : Nat) (o : Op) (ats : Bool),
    s.mmReady op 0x64 = some o → s.op? op = some o → o.issued = false → TablesFor s (mmArgs o.desc).count → (mmArgs o.desc).bad false true = none →
    ((∀ i, i < (mmArgs o.desc).count → s.pageReason o.fn (mmArgs o.desc).g ((mmArgs o.desc).page + i) true = 0)) →
    ((mmArgs o.desc).advice = 2 ∨ (mmArgs o.desc).advice = 3) →
    ∃ t, exec (.advise ⟨op, ats⟩) s = .next t ∧ t.trn.pt = s.trn.pt ∧ Ended t op stOK (mmArgs o.desc).count ∧ SameMem s t ∧
    ((mmArgs o.desc).advice = 3 → ∀ e ∈ t.trn.tlb, e ∈ s.trn.tlb ∧ (∀ i, i < (mmArgs o.desc).count → e.key ≠ ptKey o.fn (mmArgs o.desc).g ((mmArgs o.desc).page + i)))) ∧
  -- MIGRATE first sets BUSY on the pages it will move
  (∀ (s : State) (op : Nat) (o : Op) (hv : HostView),
    s.mmReady op 0x63 = some o → s.op? op = some o → o.issued = false → TablesFor s (mmArgs o.desc).count → (mmArgs o.desc).bad true false = none →
    0 < (mmArgs o.desc).count → o.st = .admitted → s.busyInRange o.fn (mmArgs o.desc) = false → ((∀ i, i < (mmArgs o.desc).count → s.pageReason o.fn (mmArgs o.desc).g ((mmArgs o.desc).page + i) true = 0)) →
    ∃ t, exec (.migrate op hv) s = .next t ∧ (∀ i, i < (mmArgs o.desc).count → (t.leafAt o.fn (mmArgs o.desc).g ((mmArgs o.desc).page + i)).map (fun l => l.busy) = (s.leafAt o.fn (mmArgs o.desc).g ((mmArgs o.desc).page + i)).map (fun l => decide (l.host ≠ ((mmArgs o.desc).loc == 2)))) ∧
    (t.op? op).map (fun x => x.st) = some .running ∧ SameMem s t) ∧
  -- and then moves one page a step: of a DEVICE page to HOST it keeps the permissions, and the last one ends it
  (∀ (s : State) (op : Nat) (o : Op) (hv : HostView) (l : Leaf),
    s.mmReady op 0x63 = some o → s.op? op = some o → o.issued = false → TablesFor s (mmArgs o.desc).count → (mmArgs o.desc).bad true false = none →
    o.progress < (mmArgs o.desc).count → o.st = .running → (mmArgs o.desc).loc = 2 → s.pageReason o.fn (mmArgs o.desc).g ((mmArgs o.desc).page + o.progress) true = 0 →
    s.leafAt o.fn (mmArgs o.desc).g ((mmArgs o.desc).page + o.progress) = some l → l.host = false → s.linkUp = true →
    hv.deny = [] → (s.checkRange hv 1 l.addr (pageBytes (mmArgs o.desc).g) o.fn (descTags o.desc)).2 = false →
    ∃ t, exec (.migrate op hv) s = .next t ∧ (t.leafAt o.fn (mmArgs o.desc).g ((mmArgs o.desc).page + o.progress)).map (fun x => (x.host, x.read, x.write, x.shared, x.prefer, x.busy)) = some (true, l.read, l.write, (mmArgs o.desc).bias, false, false) ∧
    (o.progress + 1 = (mmArgs o.desc).count → Ended t op stOK (mmArgs o.desc).count) ∧ (o.progress + 1 < (mmArgs o.desc).count → (t.op? op).map (fun x => x.progress) = some (o.progress + 1)) ∧
    SameMem s t) ∧
  -- QUOTA_WRITE of memory is stored while the sum of quotas keeps within 19,584 units
  (∀ (s : State) (fn : Nat) (v : Word),
    fn < 64 → ((List.range 64).map (fun f => if f = fn then fld v 0 20 else s.getF (R.TRN_FN_MEM_QUOTA f) 0 20)).sum ≤ 19584 →
    ∃ t, exec (.quotaWrite 0x058 fn v) s = .next t ∧ t.rd (R.TRN_FN_MEM_QUOTA fn) = v &&& 0xFFFFF ∧ RegsBut [R.TRN_FN_MEM_QUOTA fn] s t ∧
    Only [.regs] s t) ∧
  -- and refused and counted beyond it
  (∀ (s : State) (fn : Nat) (v : Word),
    fn < 64 → 19584 < ((List.range 64).map (fun f => if f = fn then fld v 0 20 else s.getF (R.TRN_FN_MEM_QUOTA f) 0 20)).sum →
    ∃ t, exec (.quotaWrite 0x058 fn v) s = .next t ∧ t.rd (R.TRN_FN_MEM_QUOTA fn) = s.rd (R.TRN_FN_MEM_QUOTA fn) ∧
    t.rd R.TRN_REFUSE_COUNT = word (min 0xFFFFFFFF ((s.rd R.TRN_REFUSE_COUNT).toNat + 1)) ∧ TellsIn [] [R.TRN_REFUSE_COUNT] s t)

/-- In page tables that are well formed a leaf written reads back, a leaf removed is gone, every other address translates as before, and the tables stay well formed (R169, R170, R171, R172). -/
def Obligations.PageTablesReadBack : Prop :=
  -- a leaf written to a page that no page of the other size covers reads back
  (∀ (s : State) (fn page : Nat) (g : Bool) (l : Leaf),
    TablesFor s 1 → page * pageBytes g < 2 ^ 57 → Leaf.dec l.enc = some l → s.otherSize fn g page = false →
    (s.putLeaf fn g page l).leafAt fn g page = some l ∧ PageTables.wf (s.putLeaf fn g page l) = true) ∧
  -- and leaves the translation of every other address
  (∀ (s : State) (fn page : Nat) (g : Bool) (l : Leaf) (f va : Nat),
    TablesFor s 1 → page * pageBytes g < 2 ^ 57 → Leaf.dec l.enc = some l → s.otherSize fn g page = false → va < 2 ^ 57 →
    (f ≠ fn ∨ va / pageBytes g ≠ page) →
    (s.putLeaf fn g page l).walk f va = s.walk f va) ∧
  -- a leaf removed is gone, and no other
  (∀ (s : State) (fn page : Nat) (g : Bool) (f va : Nat),
    PageTables.wf s = true → page * pageBytes g < 2 ^ 57 → va < 2 ^ 57 →
    (s.delLeaf fn g page).leafAt fn g page = none ∧ PageTables.wf (s.delLeaf fn g page) = true ∧
    (f ≠ fn ∨ va / pageBytes g ≠ page → (s.delLeaf fn g page).walk f va = s.walk f va)) ∧
  -- at reset there is no table
  (PageTables.wf State.reset = true)

/-- Reads that clear and reads that latch, and whole and partial register writes, answer, store, discard or count as each clause says (R6, R8, R105, R114, R115). -/
def Obligations.RegisterAccess : Prop :=
  -- RC_READ answers the counter and clears it, and no other register
  (∀ (s : State) (page off : Nat) (r : RegRow),
    regRow page off = some r → r.acc = .rc → off % 4 = 0 →
    ∃ t, exec (.rcRead page off 1) s = .next t ∧ t.out = .readData [s.rd (rkey page off (s.selIdx page off))] :: s.out ∧
    t.rd (rkey page off (s.selIdx page off)) = 0 ∧
    RegsBut [rkey page off (s.selIdx page off)] s t ∧ Only [.out, .regs] s t) ∧
  -- LO_READ of device time answers both words of one time
  (∀ (s : State),
    ∃ t, exec (.loRead 0 0x06C 2) s = .next t ∧ t.out = .readData [word s.devTime, word (s.devTime / 2 ^ 32)] :: s.out ∧
    RegsBut [rkey 0 0x070 0] s t ∧ Only [.out, .regs] s t) ∧
  -- and of the visible time latches the word above it
  (∀ (s : State) (fn : Nat),
    fn < 64 →
    ∃ t, exec (.loRead (pavPage fn) 0x050 1) s = .next t ∧ t.out = .readData [word s.visibleTime] :: s.out ∧ t.rd (rkey (pavPage fn) 0x054 0) = word (s.visibleTime / 2 ^ 32) ∧
    RegsBut [rkey (pavPage fn) 0x054 0] s t ∧ Only [.out, .regs] s t) ∧
  -- REGISTER_WRITE of a whole word of an RW register stores its bits that are not reserved, lowest byte first
  (∀ (s : State) (b0 b1 b2 b3 : Byte),
    ∃ t, exec (.registerWrite 4 0x040 [some b0, some b1, some b2, some b3]) s = .next t ∧ t.rd (rkey 4 0x040 0) = word (b0.toNat % 64) ∧
    RegsBut [rkey 4 0x040 0] s t ∧ Only [.regs] s t) ∧
  -- of a read-only register changes nothing
  (∀ (s : State) (page off : Nat) (r : RegRow) (b0 b1 b2 b3 : Byte),
    (page = 0 ∨ page = 1) → off % 4 = 0 → regRow page off = some r → r.acc = .ro →
    ∃ t, exec (.registerWrite page off [some b0, some b1, some b2, some b3]) s = .next t ∧ t = s) ∧
  -- of less than a word is discarded and counted
  (∀ (s : State) (page off : Nat) (b0 b1 b2 : Byte),
    off % 4 = 0 → (pageKind page ≠ some 18 ∨ off + 4 ≤ 0x400) →
    ∃ t, exec (.registerWrite page off [some b0, some b1, some b2]) s = .next t ∧ t.rd R.HIF_ERR_COUNT = word (min 0xFFFFFFFF ((s.rd R.HIF_ERR_COUNT).toNat + 1)) ∧
    RegsBut [R.HIF_ERR_COUNT] s t ∧ Only [.regs] s t) ∧
  -- and of a register with a command of its own is that command
  (∀ (s : State) (fn : Nat) (b0 b1 b2 b3 : Byte),
    fn < 64 →
    ∃ t, exec (.registerWrite (pavPage fn) 0x040 [some b0, some b1, some b2, some b3]) s = .next t ∧ t = s.pavDoorbell fn (word (b0.toNat + 256 * b1.toNat + 65536 * b2.toNat + 16777216 * b3.toNat)))

/-- Quiesce, its escalation and end, the instance reset and the removal of functions change the function's states and end its work as each clause says (R197, R198, R200, R201, R202, R203, R205, R126). -/
def Obligations.InstanceLifecycle : Prop :=
  -- QUIESCE_START with FLUSH 0 begins a DRAIN and ends nothing
  (∀ (s : State) (fn : Nat) (v : Word),
    fn < 64 → s.resetting fn = false → bit v 2 = false → bit v 0 = true → bit v 1 = false → s.fnCtrl fn 0 = false →
    ∃ t, exec (.quiesceStart fn v) s = .next t ∧ t.fnCtrl fn 0 = true ∧ t.fnCtrl fn 1 = false ∧ RegsBut [R.TRN_FN_CTRL fn] s t ∧
    Only [.regs] s t) ∧
  -- with FLUSH 1 a descriptor that has not started ends INSTANCE_QUIESCED
  (∀ (s : State) (fn : Nat) (v : Word) (i : Nat) (o : Op),
    fn < 64 → s.resetting fn = false → bit v 2 = false → bit v 0 = true → bit v 1 = true → s.fnCtrl fn 0 = false →
    s.groups = [] → s.qpm.qps = [] → s.trn.faults = [] → s.trn.stalls = [] → s.ydt.xfers = [] → s.queues = [] → s.ydt.posts = [] →
    s.op? i = some o → o.early = false → o.fn = fn → o.st = .admitted → o.progress = 0 → o.issued = false →
    ∃ t, exec (.quiesceStart fn v) s = .next t ∧ t.fnCtrl fn 0 = true ∧ t.fnCtrl fn 1 = true ∧ Ended t i stQuiesced 0 ∧
    SameMem s t ∧ t.trn.pt = s.trn.pt) ∧
  -- QUIESCE_FLUSH_ESCALATE does the same to a DRAIN
  (∀ (s : State) (fn : Nat) (v : Word) (i : Nat) (o : Op),
    fn < 64 → s.resetting fn = false → bit v 2 = false → bit v 0 = true → bit v 1 = true → s.fnCtrl fn 0 = true →
    s.fnCtrl fn 1 = false → s.groups = [] → s.qpm.qps = [] → s.trn.faults = [] → s.trn.stalls = [] → s.ydt.xfers = [] →
    s.queues = [] → s.ydt.posts = [] → s.op? i = some o → o.early = false → o.fn = fn → o.st = .admitted → o.progress = 0 →
    o.issued = false →
    ∃ t, exec (.quiesceFlushEscalate fn v) s = .next t ∧ t.fnCtrl fn 0 = true ∧ t.fnCtrl fn 1 = true ∧ Ended t i stQuiesced 0 ∧
    SameMem s t ∧ t.trn.pt = s.trn.pt) ∧
  -- and leaves one that runs
  (∀ (s : State) (fn : Nat) (v : Word) (i : Nat) (o : Op),
    fn < 64 → s.resetting fn = false → bit v 2 = false → bit v 0 = true → bit v 1 = true → s.fnCtrl fn 0 = true →
    s.fnCtrl fn 1 = false → s.groups = [] → s.qpm.qps = [] → s.trn.faults = [] → s.trn.stalls = [] → s.ydt.xfers = [] →
    s.queues = [] → s.ydt.posts = [] → s.op? i = some o → o.early = false → o.fn = fn → o.st = .running →
    ∃ t, exec (.quiesceFlushEscalate fn v) s = .next t ∧ t.fnCtrl fn 1 = true ∧ t.op? i = some o ∧ SameMem s t) ∧
  -- QUIESCE_END reopens the function and clears QUIESCED and PRI_FAILED
  (∀ (s : State) (fn : Nat) (v : Word),
    fn < 64 → s.resetting fn = false → bit v 2 = false → bit v 0 = false → s.fnCtrl fn 0 = true →
    ∃ t, exec (.quiesceEnd fn v) s = .next t ∧ t.fnCtrl fn 0 = false ∧ t.fnCtrl fn 1 = false ∧ t.isQuiesced fn = false ∧
    t.priFailed fn = false ∧ RegsBut [R.TRN_FN_CTRL fn, R.TRN_FN_STATUS fn] s t ∧ Only [.regs] s t) ∧
  -- QUIESCED is shown, and told, once the function has nothing left
  (∀ (s : State) (fn : Nat),
    fn < 64 → s.fnCtrl fn 0 = true → s.isQuiesced fn = false → s.coreUp coreTrn = true → s.quiet fn = true →
    ∃ t, exec (.quiesced fn) s = .next t ∧ t.isQuiesced fn = true ∧ t.getB (intK pTRN) 2 = true ∧ TellsIn [] [R.TRN_FN_STATUS fn] s t) ∧
  -- and not before
  (∀ (s : State) (fn : Nat),
    s.quiet fn = false →
    ∃ t, exec (.quiesced fn) s = .next t ∧ t = s) ∧
  -- INSTANCE_RESET of a quiesced function begins the reset
  (∀ (s : State) (fn : Nat) (v : Word),
    fn < 64 → fn ≠ 0 → bit v 2 = true → s.resetting fn = false → s.isQuiesced fn = true → s.idleState = 0 → s.entering = false →
    s.exiting = false →
    ∃ t, exec (.instanceReset fn v) s = .next t ∧ t.resetting fn = true ∧ t.fnCtrl fn 2 = true ∧ RegsBut [R.TRN_FN_CTRL fn, R.TRN_FN_STATUS fn] s t ∧
    Only [.regs] s t) ∧
  -- of any other it is refused and counted
  (∀ (s : State) (fn : Nat) (v : Word),
    fn < 64 → fn ≠ 0 → bit v 2 = true → s.resetting fn = false → s.isQuiesced fn = false →
    ∃ t, exec (.instanceReset fn v) s = .next t ∧ t.resetting fn = false ∧ t.rd (R.TRN_FN_CTRL fn) = s.rd (R.TRN_FN_CTRL fn) ∧
    t.rd R.TRN_REFUSE_COUNT = word (min 0xFFFFFFFF ((s.rd R.TRN_REFUSE_COUNT).toNat + 1)) ∧ TellsIn [] [R.TRN_REFUSE_COUNT] s t) ∧
  -- INSTANCE_RESET_DONE leaves the function without descriptors, pages, windows, groups, bindings or events, and reopened
  (∀ (s : State) (fn : Nat),
    fn < 64 → fn ≠ 0 → s.resetting fn = true → s.coreUp coreTrn = true → s.idleState = 0 →
    ∃ t, exec (.instanceResetDone fn) s = .next t ∧ t.resetting fn = false ∧ t.isQuiesced fn = false ∧ t.fnCtrl fn 0 = false ∧
    t.fnCtrl fn 2 = false ∧ t.events.look fn = none ∧ (∀ e ∈ t.ops, e.2.fn ≠ fn) ∧ (∀ e ∈ t.trn.tlb, e.fn ≠ fn) ∧
    t.leavesOf fn = [] ∧ (∀ e ∈ t.trn.faults, e.fn ≠ fn) ∧ (∀ e ∈ t.trn.stalls, e.fn ≠ fn) ∧ (∀ e ∈ t.ydt.windows, e.1 / 1024 ≠ fn) ∧
    (∀ e ∈ t.groups, e.2.owner ≠ fn) ∧ (∀ e ∈ t.par.bindings, e.2.fn ≠ fn) ∧ SameMem s t) ∧
  -- VF_REMOVE of quiesced functions resets and removes them
  (∀ (s : State) (n : Nat),
    n < 64 → s.trn.numVfs ≤ 63 → s.coreUp coreTrn = true → s.idleState = 0 → (∀ f ∈ List.range 64, n < f → f ≤ s.trn.numVfs → s.isQuiesced f = true) →
    ∃ t, exec (.vfRemove n) s = .next t ∧ t.trn.numVfs = n ∧ (∀ e ∈ t.ops, ¬(n < e.2.fn ∧ e.2.fn ≤ s.trn.numVfs)) ∧
    (∀ f ∈ List.range 64, n < f → f ≤ s.trn.numVfs → t.leavesOf f = [] ∧ t.resetting f = false) ∧ SameMem s t) ∧
  -- their reset waits for core 1 and the active state
  (∀ (s : State) (n : Nat),
    n < 64 → s.trn.numVfs ≤ 63 → (s.coreUp coreTrn = false ∨ s.idleState ≠ 0) → (∀ f ∈ List.range 64, n < f → f ≤ s.trn.numVfs → s.isQuiesced f = true) →
    ∃ t, exec (.vfRemove n) s = .next t ∧ t.trn.numVfs = n ∧ (∀ f ∈ List.range 64, n < f → f ≤ s.trn.numVfs → t.resetting f = true) ∧
    SameMem s t) ∧
  -- while one of them is not quiesced it is refused
  (∀ (s : State) (n f : Nat),
    n < f → f ≤ s.trn.numVfs → f < 64 → s.isQuiesced f = false →
    ∃ t, exec (.vfRemove n) s = .next t ∧ t.trn = s.trn ∧ t.rd R.TRN_REFUSE_COUNT = word (min 0xFFFFFFFF ((s.rd R.TRN_REFUSE_COUNT).toNat + 1)) ∧
    TellsIn [] [R.TRN_REFUSE_COUNT] s t)

/-- Work units are dispatched, tile blocks leave their results, mismatches are retried and counted, and tiles are retired, restored and tested, as each clause says (R211, R216, R219, R228, R229, R232, R233, R234, R237, R239, R267, R268). -/
def Obligations.TilesAndChecks : Prop :=
  -- WORK_UNIT_DISPATCH puts the next unit of the one operation that has any on the tile's queue
  (∀ (s : State) (nn t' : Nat) (w i k : Nat) (o : Op),
    nn < 16 → t' < 4 → s.tileTakes nn t' = true → s.nextUnit i = some k → s.ops.filter (fun e => (s.nextUnit e.1).isSome) = [(i, o)] →
    s.tileUse o.fn * 256 < s.cap o.fn * w → o.fresh = false →
    ∃ t, exec (.workUnitDispatch nn t' w) s = .next t ∧ (t.tileAt nn t').units = (s.tileAt nn t').units ++ [(i, k)] ∧
    t.getF (R.CLS_QUEUE_DEPTH nn) (8 * t') 8 = (s.tileAt nn t').units.length + 1 ∧
    t.tiles.dispatched.look i = some (((s.tiles.dispatched.look i).getD []) ++ [k]) ∧ t.ops = s.ops ∧
    RegsBut [R.CLS_QUEUE_DEPTH nn, statusK (clsPage nn)] s t ∧ Only [.regs, .tiles] s t) ∧
  -- of one whose phase was on no cluster it also starts the clock towards the wanted one
  (∀ (s : State) (nn t' : Nat) (w i k : Nat) (o : Op),
    nn < 16 → t' < 4 → s.tileTakes nn t' = true → s.nextUnit i = some k → s.ops.filter (fun e => (s.nextUnit e.1).isSome) = [(i, o)] →
    s.tileUse o.fn * 256 < s.cap o.fn * w → o.fresh = true → s.op? i = some o →
    ∃ t, exec (.workUnitDispatch nn t' w) s = .next t ∧ (t.tileAt nn t').units = (s.tileAt nn t').units ++ [(i, k)] ∧
    t.getF (R.CLS_QUEUE_DEPTH nn) (8 * t') 8 = (s.tileAt nn t').units.length + 1 ∧
    t.tiles.dispatched.look i = some (((s.tiles.dispatched.look i).getD []) ++ [k]) ∧ t.ops = s.ops ∧
    t.targetOf nn = clockAt (t.wantOf nn) t.pwr.k ∧ RegsBut [R.CLS_QUEUE_DEPTH nn, statusK (clsPage nn), R.PWR_CLUSTER_CLOCK nn] s t ∧
    Only [.regs, .tiles, .pwr] s t) ∧
  -- of two functions the one below its guarantee goes first
  (∀ (s : State) (nn t' : Nat) (w i j k : Nat) (o p : Op),
    nn < 16 → t' < 4 → s.tileTakes nn t' = true → s.ops.filter (fun e => (s.nextUnit e.1).isSome) = [(i, o), (j, p)] →
    s.nextUnit j = some k → o.fn ≠ p.fn → p.fresh = false → s.op? j = some p → s.tileUse o.fn * 256 < s.cap o.fn * w →
    s.guarantee o.fn * w ≤ s.tileUse o.fn * 256 → s.tileUse p.fn * 256 < s.guarantee p.fn * w →
    ∃ t, exec (.workUnitDispatch nn t' w) s = .next t ∧ (t.tileAt nn t').units = (s.tileAt nn t').units ++ [(j, k)] ∧
    Only [.regs, .tiles] s t) ∧
  -- TILE_BLOCK leaves in the tile's accumulators the products of R216 added to what it loads, and its unit in the queue unless the block ends it
  (∀ (s : State) (nn t' fa fb : Nat) (load ends : Bool) (scale : Option Nat) (a b : List Row) (u : Nat × Nat) (r : List (Nat × Nat)) (o : Op),
    nn < 16 → t' < 4 → s.tileRetired nn t' = false → s.clusterStalled nn = false → (s.tileAt nn t').units = u :: r →
    s.op? u.1 = some o → dOpcode o.desc ≠ 0x24 → pairOk fa fb = true → s.reduced = false → (isBlockFmt fa = true → (a.headD ⟨0, [], []⟩).k % 32 = 0) →
    blockShapeOk fa fb a b (a.headD ⟨0, [], []⟩).k = true → (s.tileAt nn t').inject = none →
    ∃ t, exec (.tileBlock nn t' fa fb ⟨load, ends⟩ scale a b []) s = .next t ∧ (∀ e ∈ blockOutputs fa fb a b scale (fun i => if load then ((s.tileAt nn t').acc.look i).getD 0 else 0), (t.tileAt nn t').acc.look e.1 = some e.2) ∧
    (t.tileAt nn t').units = (if ends then r else u :: r) ∧ t.ops = s.ops ∧ SameMem s t) ∧
  -- a block whose check sees a mismatch once is run again on the tile, and both are counted
  (∀ (s : State) (nn t' fa fb : Nat) (load ends : Bool) (scale : Option Nat) (a b : List Row) (u : Nat × Nat) (r : List (Nat × Nat)) (o : Op) (f : TileFault),
    nn < 16 → t' < 4 → s.tileRetired nn t' = false → s.clusterStalled nn = false → (s.tileAt nn t').units = u :: r →
    s.op? u.1 = some o → dOpcode o.desc ≠ 0x24 → pairOk fa fb = true → s.reduced = false → (isBlockFmt fa = true → (a.headD ⟨0, [], []⟩).k % 32 = 0) →
    blockShapeOk fa fb a b (a.headD ⟨0, [], []⟩).k = true → (s.tileAt nn t').inject = none → faultSeen f = true →
    s.getF (R.CLS_RETIRE_LIMIT nn) 0 8 = 0 →
    ∃ t, exec (.tileBlock nn t' fa fb ⟨load, ends⟩ scale a b [.mismatch f, .clean]) s = .next t ∧ (∀ e ∈ blockOutputs fa fb a b scale (fun i => if load then ((s.tileAt nn t').acc.look i).getD 0 else 0), (t.tileAt nn t').acc.look e.1 = some e.2) ∧
    (t.tileAt nn t').units = (if ends then r else u :: r) ∧ t.rd (R.CLS_CHECK_COUNT nn t') = word (min 0xFFFFFFFF ((s.rd (R.CLS_CHECK_COUNT nn t')).toNat + 1)) ∧
    t.rd (R.CLS_RETRY_COUNT nn) = word (min 0xFFFFFFFF ((s.rd (R.CLS_RETRY_COUNT nn)).toNat + 1)) ∧ t.getB (intK (clsPage nn)) 0 = true ∧
    t.tileRetired nn t' = false ∧ t.ops = s.ops ∧ SameMem s t) ∧
  -- an error that the checks do not see spoils at most its row, and nothing is counted
  (∀ (s : State) (nn t' fa fb : Nat) (load ends : Bool) (scale : Option Nat) (a b : List Row) (u : Nat × Nat) (r : List (Nat × Nat)) (o : Op) (f : TileFault),
    nn < 16 → t' < 4 → s.tileRetired nn t' = false → s.clusterStalled nn = false → (s.tileAt nn t').units = u :: r →
    s.op? u.1 = some o → dOpcode o.desc ≠ 0x24 → pairOk fa fb = true → s.reduced = false → (isBlockFmt fa = true → (a.headD ⟨0, [], []⟩).k % 32 = 0) →
    blockShapeOk fa fb a b (a.headD ⟨0, [], []⟩).k = true → (s.tileAt nn t').inject = none → faultSeen f = false →
    ∃ t, exec (.tileBlock nn t' fa fb ⟨load, ends⟩ scale a b [.mismatch f]) s = .next t ∧ (∀ e ∈ blockOutputs fa fb a b scale (fun i => if load then ((s.tileAt nn t').acc.look i).getD 0 else 0), e.1 / 32 ≠ f.row → (t.tileAt nn t').acc.look e.1 = some e.2) ∧
    (t.tileAt nn t').units = (if ends then r else u :: r) ∧ t.rd (R.CLS_CHECK_COUNT nn t') = s.rd (R.CLS_CHECK_COUNT nn t') ∧
    t.ops = s.ops ∧ SameMem s t) ∧
  -- a pair of formats that R215 does not give ends its operation INVALID
  (∀ (s : State) (nn t' fa fb : Nat) (load ends : Bool) (scale : Option Nat) (a b : List Row) (u : Nat × Nat) (r : List (Nat × Nat)) (o : Op),
    nn < 16 → t' < 4 → s.tileRetired nn t' = false → s.clusterStalled nn = false → (s.tileAt nn t').units = u :: r →
    s.op? u.1 = some o → dOpcode o.desc ≠ 0x24 → o.issued = false → pairOk fa fb = false →
    ∃ t, exec (.tileBlock nn t' fa fb ⟨load, ends⟩ scale a b []) s = .next t ∧ Ended t u.1 stInvalid (invalidAt (formatField o.desc)) ∧
    SameMem s t) ∧
  -- TILE_RETIRE retires the tiles it names, while another cluster has an active one, and moves their units
  (∀ (s : State) (nn : Nat) (v : Word),
    nn < 16 → fld v 0 4 ≠ 0 → s.activeTiles.any (fun x => x.1 ≠ nn) = true →
    ∃ t, exec (.tileRetire nn v) s = .next t ∧ (∀ x ∈ List.range 4, t.tileRetired nn x = (s.tileRetired nn x || bit v x) ∧ (bit v x = true → s.tileRetired nn x = false → t.getB (R.CLS_TILE_STATE nn) (4 * x + 1) = true ∧ (t.tileAt nn x).units = [] ∧ t.getB (intK (clsPage nn)) 1 = true)) ∧
    TellsIn [.flash, .fwc, .tiles, .freeCtr] (R.CLS_TILE_STATE nn :: R.PWR_CLUSTER_CLOCK nn :: (List.range 16).flatMap (fun n => [R.CLS_QUEUE_DEPTH n, statusK (clsPage n)])) s t) ∧
  -- the last active tile stays, and the error is logged
  (∀ (s : State) (nn t' : Nat) (v : Word),
    nn < 16 → t' < 4 → fld v 0 4 = 2 ^ t' → fld v 4 4 = 0 → s.tileRetired nn t' = false → s.lastActive nn t' = true →
    ∃ t, exec (.tileRetire nn v) s = .next t ∧ t.tileRetired nn t' = false ∧ t.getB (intK (clsPage nn)) 31 = true ∧
    Told s t) ∧
  -- TILE_RESTORE starts the self-test of the retired tiles it names
  (∀ (s : State) (nn : Nat) (v : Word),
    nn < 16 → fld v 0 4 = 0 → fld v 4 4 ≠ 0 → s.idleState = 0 →
    ∃ t, exec (.tileRestore nn v) s = .next t ∧ (∀ x ∈ List.range 4, t.tileTesting nn x = (s.tileTesting nn x || (bit v (4 + x) && s.tileRetired nn x)) ∧ t.tileRetired nn x = s.tileRetired nn x) ∧
    RegsBut [R.CLS_TILE_STATE nn] s t ∧ Only [.regs] s t) ∧
  -- in Z1 or Z2 the restores are held
  (∀ (s : State) (nn : Nat) (v : Word),
    nn < 16 → fld v 0 4 = 0 → fld v 4 4 ≠ 0 → s.idleState ≠ 0 →
    ∃ t, exec (.tileRestore nn v) s = .next t ∧ t.tiles.heldRestores = s.tiles.heldRestores ++ ((List.range 4).filter (fun x => bit v (4 + x) && s.tileRetired nn x)).map (fun x => 4 * nn + x) ∧
    RegsBut [] s t ∧ Only [.tiles] s t) ∧
  -- SELF_TEST_DONE of a tile that passed returns it to service without history, the cluster's clock within the new limit
  (∀ (s : State) (nn t' : Nat),
    nn < 16 → t' < 4 → s.tileTesting nn t' = true →
    ∃ t, exec (.selfTestDone nn t' true) s = .next t ∧ t.tileTesting nn t' = false ∧ t.tileRetired nn t' = false ∧
    t.getB (R.CLS_TILE_STATE nn) (4 * t' + 1) = false ∧ t.getB (R.CLS_TILE_STATE nn) 16 = false ∧ (t.tileAt nn t').mismatches = [] ∧
    t.clockOf nn ≤ t.clusterLimit nn ∧ t.getB (intK (clsPage nn)) 3 = true ∧ TellsIn [.tiles, .flash, .fwc, .pwr] [R.CLS_TILE_STATE nn, R.PWR_CLUSTER_CLOCK nn] s t) ∧
  -- of one that failed leaves it retired
  (∀ (s : State) (nn t' : Nat),
    nn < 16 → t' < 4 → s.tileTesting nn t' = true →
    ∃ t, exec (.selfTestDone nn t' false) s = .next t ∧ t.tileTesting nn t' = false ∧ t.tileRetired nn t' = s.tileRetired nn t' ∧
    t.getB (intK (clsPage nn)) 31 = true ∧ t.getB (intK (clsPage nn)) 3 = true ∧ TellsIn [] [R.CLS_TILE_STATE nn] s t) ∧
  -- CHECK_INJECT arms one corruption of a tile's check
  (∀ (s : State) (nn : Nat) (v : Word),
    nn < 16 → s.tileRetired nn (fld v 0 2) = false →
    ∃ t, exec (.checkInject nn v) s = .next t ∧ t.tileAt nn (fld v 0 2) = { s.tileAt nn (fld v 0 2) with inject := some (bit v 2, bit v 3) } ∧
    Only [.tiles] s t)

/-- Context operations: the headers, results, refusals, ordering points and share registers of the forms that each clause names (R283, R284, R286, R287, R288, R290, R291, R292, R293, R269, R273). -/
def Obligations.ContextOperations : Prop :=
  -- STRETCH_INIT copies the image to the header and nothing else, and reports its layers
  (∀ (s : State) (op : Nat) (o : Op) (hv : HostView) (p x : Nat),
    s.runnable op [0x20] = some o → s.op? op = some o → o.issued = false → o.st = .running → (farAddr (dQuad o.desc 0x10) || farAddr (dQuad o.desc 0x18)) = false →
    dQuad o.desc 0x10 % 256 = 0 → dQuad o.desc 0x18 % 64 = 0 → s.orderWait op o = false → dfld o.desc 0x20 0 1 = 0 →
    imgF (s.drams x 256) 4 17 1 = 0 → DevRange s hv o.fn (dQuad o.desc 0x10) p 256 true → DevRange s hv o.fn (dQuad o.desc 0x18) x 256 false →
    ((stretchInit hv op o).run s).1.isOk = true →
    ∃ t, exec (.stretchInit op hv) s = .next t ∧ (∀ i ∈ List.range 256, t.dram (p + i) = s.dram (x + i)) ∧ MemBut p 256 s t ∧
    Ended t op stOK (imgF (s.drams x 256) 8 0 16) ∧ Only (telling ++ [.mem, .msys, .ops, .tiles, .trn, .freeCtr, .par, .ydt]) s t) ∧
  -- an image that is not aligned is refused
  (∀ (s : State) (op : Nat) (o : Op) (hv : HostView),
    s.runnable op [0x20] = some o → s.op? op = some o → o.issued = false → o.st = .running → (farAddr (dQuad o.desc 0x10) || farAddr (dQuad o.desc 0x18)) = false →
    dQuad o.desc 0x10 % 256 = 0 → dQuad o.desc 0x18 % 64 ≠ 0 →
    ∃ t, exec (.stretchInit op hv) s = .next t ∧ Ended t op stInvalid (invalidAt 0x18) ∧ SameMem s t) ∧
  -- APPEND of no tokens is an ordering point that reports TOKEN_COUNT
  (∀ (s : State) (op : Nat) (o : Op) (hv : HostView) (r : Nat),
    s.runnable op [0x21] = some o → s.op? op = some o → o.issued = false → o.st = .running → (farAddr (dQuad o.desc 0x10) || farAddr (dQuad o.desc 0x18)) = false →
    dQuad o.desc 0x10 % 256 = 0 → dQuad o.desc 0x18 % 64 = 0 → (dfld o.desc 0x28 0 4 = 1 ∨ dfld o.desc 0x28 0 4 = 2 ∨ dfld o.desc 0x28 0 4 = 7 ∨ dfld o.desc 0x28 0 4 = 8) →
    o.progress = 0 → dfld o.desc 0x24 0 16 = 0 → s.orderPoint op o = false → ((do let x ← header ⟨hv, descTags o.desc⟩ o.fn (dQuad o.desc 0x10); let e ← layerEntry ⟨hv, descTags o.desc⟩ o.fn x (dfld o.desc 0x24 16 16) false; pure e.tokens : CtxM Nat).run s).1.toOption = some r →
    ∃ t, exec (.append op hv) s = .next t ∧ Ended t op stOK r ∧ SameMem s t ∧ Only (telling ++ [.mem, .msys, .ops, .tiles, .trn, .freeCtr, .par, .ydt]) s t) ∧
  -- with tokens it does what the plan of its reads and writes answers
  (∀ (s : State) (op : Nat) (o : Op) (hv : HostView),
    s.runnable op [0x21] = some o → s.op? op = some o → o.issued = false → o.st = .running → (farAddr (dQuad o.desc 0x10) || farAddr (dQuad o.desc 0x18)) = false →
    dQuad o.desc 0x10 % 256 = 0 → dQuad o.desc 0x18 % 64 = 0 → (dfld o.desc 0x28 0 4 = 1 ∨ dfld o.desc 0x28 0 4 = 2 ∨ dfld o.desc 0x28 0 4 = 7 ∨ dfld o.desc 0x28 0 4 = 8) →
    o.progress = 0 → dfld o.desc 0x24 0 16 ≠ 0 → s.orderWait op o = false →
    ∃ t, exec (.append op hv) s = .next t ∧ t = s.runCtx op o (append hv op o)) ∧
  -- past TOKEN_COUNT it logs CTX code 0x02 and ends INVALID
  (∀ (s : State) (op : Nat) (o : Op) (hv : HostView) (x : Stretch) (e : Layer),
    s.runnable op [0x21] = some o → s.op? op = some o → o.issued = false → o.st = .running → (farAddr (dQuad o.desc 0x10) || farAddr (dQuad o.desc 0x18)) = false →
    dQuad o.desc 0x10 % 256 = 0 → dQuad o.desc 0x18 % 64 = 0 → (dfld o.desc 0x28 0 4 = 1 ∨ dfld o.desc 0x28 0 4 = 2 ∨ dfld o.desc 0x28 0 4 = 7 ∨ dfld o.desc 0x28 0 4 = 8) →
    o.progress = 0 → dfld o.desc 0x24 0 16 ≠ 0 → s.orderWait op o = false → ((do let x ← header ⟨hv, descTags o.desc⟩ o.fn (dQuad o.desc 0x10); let e ← layerEntry ⟨hv, descTags o.desc⟩ o.fn x (dfld o.desc 0x24 16 16) false; pure (x, e) : CtxM (Stretch × Layer)).run s).1.toOption = some (x, e) →
    e.tokens < ((dfld o.desc 0x20 0 30 + 2 ^ 64 - x.firstPos) % 2 ^ 64) →
    ∃ t, exec (.append op hv) s = .next t ∧ t = (((((do let x ← header ⟨hv, descTags o.desc⟩ o.fn (dQuad o.desc 0x10); let e ← layerEntry ⟨hv, descTags o.desc⟩ o.fn x (dfld o.desc 0x24 16 16) false; pure (x, e) : CtxM (Stretch × Layer)).run s).2).ctxErr o 0x02 0).endCtx op stInvalid (invalidAt 0x20)) ∧
    SameMem s t) ∧
  -- of more tokens than the capacity holds it logs CTX code 0x03 and ends INVALID
  (∀ (s : State) (op : Nat) (o : Op) (hv : HostView) (x : Stretch) (e : Layer),
    s.runnable op [0x21] = some o → s.op? op = some o → o.issued = false → o.st = .running → (farAddr (dQuad o.desc 0x10) || farAddr (dQuad o.desc 0x18)) = false →
    dQuad o.desc 0x10 % 256 = 0 → dQuad o.desc 0x18 % 64 = 0 → (dfld o.desc 0x28 0 4 = 1 ∨ dfld o.desc 0x28 0 4 = 2 ∨ dfld o.desc 0x28 0 4 = 7 ∨ dfld o.desc 0x28 0 4 = 8) →
    o.progress = 0 → dfld o.desc 0x24 0 16 ≠ 0 → s.orderWait op o = false → ((do let x ← header ⟨hv, descTags o.desc⟩ o.fn (dQuad o.desc 0x10); let e ← layerEntry ⟨hv, descTags o.desc⟩ o.fn x (dfld o.desc 0x24 16 16) false; pure (x, e) : CtxM (Stretch × Layer)).run s).1.toOption = some (x, e) →
    (((dfld o.desc 0x20 0 30 + 2 ^ 64 - x.firstPos) % 2 ^ 64) ≤ e.tokens ∧ 64 * x.cap < ((dfld o.desc 0x20 0 30 + 2 ^ 64 - x.firstPos) % 2 ^ 64) + dfld o.desc 0x24 0 16) →
    ∃ t, exec (.append op hv) s = .next t ∧ t = (((((do let x ← header ⟨hv, descTags o.desc⟩ o.fn (dQuad o.desc 0x10); let e ← layerEntry ⟨hv, descTags o.desc⟩ o.fn x (dfld o.desc 0x24 16 16) false; pure (x, e) : CtxM (Stretch × Layer)).run s).2).ctxErr o 0x03 0).endCtx op stInvalid (invalidAt 0x24)) ∧
    SameMem s t) ∧
  -- ATTEND_DENSE of no query whose fields pass is an ordering point
  (∀ (s : State) (op : Nat) (o : Op) (hv : HostView) (j : Join),
    s.runnable op [0x22] = some o → s.op? op = some o → o.issued = false → o.st = .running → attendBad o.desc = none →
    toReduction o.desc = false → dfld o.desc 0x2C 0 16 = 0 → s.orderPoint op o = false → ((attendChecks ⟨hv, descTags o.desc⟩ o).run s).1.isOk = true →
    ∃ t, exec (.attendDense op hv j) s = .next t ∧ Ended t op stOK 0 ∧ SameMem s t ∧ Only (telling ++ [.mem, .msys, .ops, .tiles, .trn, .freeCtr, .par, .ydt]) s t) ∧
  -- with a query it attends, alone while packing is off, writes its OUTPUT alone, and reports the blocks read
  (∀ (s : State) (op : Nat) (o : Op) (hv : HostView) (j : Join) (q : Nat),
    s.runnable op [0x22] = some o → s.op? op = some o → o.issued = false → o.st = .running → attendBad o.desc = none →
    toReduction o.desc = false → dfld o.desc 0x2C 0 16 ≠ 0 → s.orderWait op o = false → s.packWaits op o = false →
    s.getB R.CTX_PACK_CTRL 0 = false → DevRange s hv o.fn (dQuad o.desc 0x20) q (s.outputBytes o) true →
    ∃ t, exec (.attendDense op hv j) s = .next t ∧ t = s.attendAll hv op o j ∧ MemBut q (s.outputBytes o) s t ∧
    ((attendPrep hv op o []).run s).1.toOption.all (fun a => decide ((t.op? op).map (fun y => (y.st, y.status)) = some (OpSt.done, stOK) → (t.op? op).map Op.result = some ((a.chosen.map (fun g => g.2.length)).sum))) = true) ∧
  -- ATTEND_SELECTED of no query whose fields pass is an ordering point
  (∀ (s : State) (op : Nat) (o : Op) (hv : HostView) (j : Join),
    s.runnable op [0x23] = some o → s.op? op = some o → o.issued = false → o.st = .running → attendBad o.desc = none →
    toReduction o.desc = false → dfld o.desc 0x2C 0 16 = 0 → s.orderPoint op o = false → ((attendChecks ⟨hv, descTags o.desc⟩ o).run s).1.isOk = true →
    ∃ t, exec (.attendSelected op hv j) s = .next t ∧ Ended t op stOK 0 ∧ SameMem s t ∧ Only (telling ++ [.mem, .msys, .ops, .tiles, .trn, .freeCtr, .par, .ydt]) s t) ∧
  -- with a query it attends, alone while packing is off, writes its OUTPUT alone, and reports the blocks read
  (∀ (s : State) (op : Nat) (o : Op) (hv : HostView) (j : Join) (q : Nat),
    s.runnable op [0x23] = some o → s.op? op = some o → o.issued = false → o.st = .running → attendBad o.desc = none →
    toReduction o.desc = false → dfld o.desc 0x2C 0 16 ≠ 0 → s.orderWait op o = false → s.packWaits op o = false →
    s.getB R.CTX_PACK_CTRL 0 = false → DevRange s hv o.fn (dQuad o.desc 0x20) q (s.outputBytes o) true →
    ∃ t, exec (.attendSelected op hv j) s = .next t ∧ t = s.attendAll hv op o j ∧ MemBut q (s.outputBytes o) s t ∧
    ((attendPrep hv op o []).run s).1.toOption.all (fun a => decide ((t.op? op).map (fun y => (y.st, y.status)) = some (OpSt.done, stOK) → (t.op? op).map Op.result = some ((a.chosen.map (fun g => g.2.length)).sum))) = true) ∧
  -- PACK_WAIT_EXPIRY lets it attend without waiting for further partners
  (∀ (s : State) (op : Nat) (o : Op) (hv : HostView) (j : Join),
    s.runnable op [0x22, 0x23] = some o → s.op? op = some o → attendBad o.desc = none → toReduction o.desc = false →
    dfld o.desc 0x2C 0 16 ≠ 0 → s.orderWait op { o with probe := 2 } = false → (s.putOp op { o with probe := 2 }).orderWait op { o with probe := 2 } = false →
    ∃ t, exec (.packWaitExpiry op hv j) s = .next t ∧ t = (s.putOp op { o with probe := 2 }).attendAll hv op { o with probe := 2 } j) ∧
  -- SUMMARISE of a stretch without landmarks writes none
  (∀ (s : State) (op : Nat) (o : Op) (hv : HostView),
    s.runnable op [0x24] = some o → s.op? op = some o → o.issued = false → o.st = .running → farAddr (dQuad o.desc 0x10) = false →
    dQuad o.desc 0x10 % 256 = 0 → s.orderWait op o = false → ((header ⟨hv, descTags o.desc⟩ o.fn (dQuad o.desc 0x10)).run s).1.toOption.map (fun x => (decide (dWord o.desc 0x18 + dWord o.desc 0x1C ≤ x.cap) && decide (dfld o.desc 0x20 0 16 + dfld o.desc 0x20 16 16 ≤ x.layers) && !x.landmarks)) = some true →
    ∃ t, exec (.summarise op hv) s = .next t ∧ Ended t op stOK 0 ∧ SameMem s t ∧ Only (telling ++ [.mem, .msys, .ops, .tiles, .trn, .freeCtr, .par, .ydt]) s t) ∧
  -- of blocks beyond the capacity it is INVALID
  (∀ (s : State) (op : Nat) (o : Op) (hv : HostView),
    s.runnable op [0x24] = some o → s.op? op = some o → o.issued = false → o.st = .running → farAddr (dQuad o.desc 0x10) = false →
    dQuad o.desc 0x10 % 256 = 0 → s.orderWait op o = false → dWord o.desc 0x1C ≠ 0 → dfld o.desc 0x20 16 16 ≠ 0 →
    ((header ⟨hv, descTags o.desc⟩ o.fn (dQuad o.desc 0x10)).run s).1.toOption.map (fun x => decide (x.cap < dWord o.desc 0x18 + dWord o.desc 0x1C)) = some true →
    ∃ t, exec (.summarise op hv) s = .next t ∧ Ended t op stInvalid (invalidAt 0x1C) ∧ SameMem s t) ∧
  -- of no block or no layer it writes none, wherever the range starts
  (∀ (s : State) (op : Nat) (o : Op) (hv : HostView),
    s.runnable op [0x24] = some o → s.op? op = some o → o.issued = false → o.st = .running → farAddr (dQuad o.desc 0x10) = false →
    dQuad o.desc 0x10 % 256 = 0 → s.orderWait op o = false → (dWord o.desc 0x1C = 0 ∨ dfld o.desc 0x20 16 16 = 0) →
    ((header ⟨hv, descTags o.desc⟩ o.fn (dQuad o.desc 0x10)).run s).1.isOk = true →
    ∃ t, exec (.summarise op hv) s = .next t ∧ Ended t op stOK 0 ∧ SameMem s t ∧ Only (telling ++ [.mem, .msys, .ops, .tiles, .trn, .freeCtr, .par, .ydt]) s t) ∧
  -- TRUNCATE of no layers removes nothing
  (∀ (s : State) (op : Nat) (o : Op) (hv : HostView),
    s.runnable op [0x25] = some o → s.op? op = some o → o.issued = false → o.st = .running → farAddr (dQuad o.desc 0x10) = false →
    dQuad o.desc 0x10 % 256 = 0 → s.orderWait op o = false → o.progress = 0 → dfld o.desc 0x1C 16 16 = 0 → ((header ⟨hv, descTags o.desc⟩ o.fn (dQuad o.desc 0x10)).run s).1.isOk = true →
    ∃ t, exec (.truncate op hv) s = .next t ∧ Ended t op stOK 0 ∧ SameMem s t ∧ Only (telling ++ [.mem, .msys, .ops, .tiles, .trn, .freeCtr, .par, .ydt]) s t) ∧
  -- and of a layer that is no longer than asked, nothing either
  (∀ (s : State) (op : Nat) (o : Op) (hv : HostView) (x : Stretch) (e : Layer),
    s.runnable op [0x25] = some o → s.op? op = some o → o.issued = false → o.st = .running → farAddr (dQuad o.desc 0x10) = false →
    dQuad o.desc 0x10 % 256 = 0 → s.orderWait op o = false → o.progress = 0 → dfld o.desc 0x1C 16 16 = 1 → ((do let x ← header ⟨hv, descTags o.desc⟩ o.fn (dQuad o.desc 0x10); let e ← layerEntry ⟨hv, descTags o.desc⟩ o.fn x (dfld o.desc 0x1C 0 16) false; pure (x, e) : CtxM (Stretch × Layer)).run s).1.toOption = some (x, e) →
    e.tokens ≤ dWord o.desc 0x18 → x.parity = false →
    ∃ t, exec (.truncate op hv) s = .next t ∧ Ended t op stOK 0 ∧ SameMem s t) ∧
  -- ATTEND_SELECTED without the landmarks that it needs logs CTX code 0x06 and ends INVALID
  (∀ (s : State) (op : Nat) (o : Op) (hv : HostView) (j : Join),
    s.runnable op [0x23] = some o → s.op? op = some o → o.issued = false → o.st = .running → attendBad o.desc = none →
    toReduction o.desc = false → dfld o.desc 0x2C 0 16 = 0 → s.orderPoint op o = false → (match ((attendChecks ⟨hv, descTags o.desc⟩ o).run s).1 with | .error e => decide (e = .bad 0x06 0 0) | .ok _ => false) = true →
    ∃ t, exec (.attendSelected op hv j) s = .next t ∧ t = ((((attendChecks ⟨hv, descTags o.desc⟩ o).run s).2).ctxErr o 0x06 0).endCtx op stInvalid 0) ∧
  -- CTX_SHARE_WRITE of a share is stored while the guarantees keep within 256
  (∀ (s : State) (fn : Nat) (v : Word),
    fn < 64 → (((List.range 64).filter (· ≠ fn)).map s.guarantee).sum + fld v 0 8 ≤ 256 →
    ∃ t, exec (.ctxShareWrite true fn v) s = .next t ∧ t.rd (R.CTX_FN_SHARE fn) = v &&& 0x1FFFF ∧ RegsBut [R.CTX_FN_SHARE fn] s t ∧
    Only [.regs] s t) ∧
  -- and refused and counted beyond it
  (∀ (s : State) (fn : Nat) (v : Word),
    fn < 64 → 256 < (((List.range 64).filter (· ≠ fn)).map s.guarantee).sum + fld v 0 8 →
    ∃ t, exec (.ctxShareWrite true fn v) s = .next t ∧ t.rd (R.CTX_FN_SHARE fn) = s.rd (R.CTX_FN_SHARE fn) ∧ t.rd R.CTX_REFUSE_COUNT = word (min 0xFFFFFFFF ((s.rd R.CTX_REFUSE_COUNT).toNat + 1)) ∧
    t.getB (intK pCTX) 2 = true ∧ TellsIn [] [R.CTX_REFUSE_COUNT] s t)

/-- COPY, NOP, TIMESTAMP and an unknown opcode: what each stores and reports, and that it stores nothing else (R294, R297, R278, R14). -/
def Obligations.CopiesAndStamps : Prop :=
  -- COPY between ranges of the device that do not overlap copies the bytes
  (∀ (s : State) (op : Nat) (o : Op) (hv : HostView) (p q : Nat),
    s.runnable op [0x01] = some o → s.op? op = some o → o.issued = false → 0 < dWord o.desc 0x20 → DevRange s hv o.fn (dQuad o.desc 0x10) p (dWord o.desc 0x20) false →
    DevRange s hv o.fn (dQuad o.desc 0x18) q (dWord o.desc 0x20) true → hv.ce = [] → (dQuad o.desc 0x10 + dWord o.desc 0x20 ≤ dQuad o.desc 0x18 ∨ dQuad o.desc 0x18 + dWord o.desc 0x20 ≤ dQuad o.desc 0x10) →
    ∃ t, exec (.copy op hv) s = .next t ∧ (∀ i ∈ List.range (dWord o.desc 0x20), t.dram (q + i) = s.dram (p + i)) ∧
    MemBut q (dWord o.desc 0x20) s t ∧ Ended t op stOK 0 ∧
    TellsIn [.mem, .msys, .ops, .freeCtr] [R.MEM00_CHECK_MISS, R.MEM00_CLASS_BYTES] s t) ∧
  -- between ranges that overlap it ends too, and changes the destination alone
  (∀ (s : State) (op : Nat) (o : Op) (hv : HostView) (p q : Nat),
    s.runnable op [0x01] = some o → s.op? op = some o → o.issued = false → 0 < dWord o.desc 0x20 → DevRange s hv o.fn (dQuad o.desc 0x10) p (dWord o.desc 0x20) false →
    DevRange s hv o.fn (dQuad o.desc 0x18) q (dWord o.desc 0x20) true → hv.ce = [] → (dQuad o.desc 0x10 < dQuad o.desc 0x18 + dWord o.desc 0x20 ∧ dQuad o.desc 0x18 < dQuad o.desc 0x10 + dWord o.desc 0x20) →
    ∃ t, exec (.copy op hv) s = .next t ∧ MemBut q (dWord o.desc 0x20) s t ∧ Ended t op stOK 0 ∧
    TellsIn [.mem, .msys, .ops, .freeCtr] [R.MEM00_CHECK_MISS, R.MEM00_CLASS_BYTES] s t) ∧
  -- a COPY of length 0 ends once the earlier copies of its queue have
  (∀ (s : State) (op : Nat) (o : Op) (hv : HostView),
    s.runnable op [0x01] = some o → s.op? op = some o → o.issued = false → dWord o.desc 0x20 = 0 → (farAddr (dQuad o.desc 0x10) || farAddr (dQuad o.desc 0x18)) = false →
    s.copyWaits op o = false →
    ∃ t, exec (.copy op hv) s = .next t ∧ Ended t op stOK 0 ∧ TellsIn [.ops] [] s t) ∧
  -- and waits for them
  (∀ (s : State) (op : Nat) (o : Op) (hv : HostView),
    s.runnable op [0x01] = some o → s.op? op = some o → o.issued = false → dWord o.desc 0x20 = 0 → (farAddr (dQuad o.desc 0x10) || farAddr (dQuad o.desc 0x18)) = false →
    s.copyWaits op o = true →
    ∃ t, exec (.copy op hv) s = .next t ∧ t = s) ∧
  -- NOP does nothing
  (∀ (s : State) (op : Nat) (o : Op),
    s.runnable op [0x70] = some o → s.op? op = some o → o.issued = false →
    ∃ t, exec (.nop op) s = .next t ∧ Ended t op stOK 0 ∧ TellsIn [.ops] [] s t) ∧
  -- TIMESTAMP stores device time as eight bytes, lowest first
  (∀ (s : State) (op : Nat) (o : Op) (hv : HostView) (p : Nat),
    s.runnable op [0x73] = some o → s.op? op = some o → o.issued = false → dQuad o.desc 0x10 % 8 = 0 → DevRange s hv o.fn (dQuad o.desc 0x10) p 8 true →
    hv.ce = [] →
    ∃ t, exec (.timestamp op hv) s = .next t ∧ t.drams p 8 = leBytes 8 s.devTime ∧ MemBut p 8 s t ∧ Ended t op stOK 0 ∧
    TellsIn [.mem, .msys, .ops, .freeCtr] [R.MEM00_CHECK_MISS, R.MEM00_CLASS_BYTES] s t) ∧
  -- at an address that is not aligned it is INVALID
  (∀ (s : State) (op : Nat) (o : Op) (hv : HostView),
    s.runnable op [0x73] = some o → s.op? op = some o → o.issued = false → dQuad o.desc 0x10 % 8 ≠ 0 →
    ∃ t, exec (.timestamp op hv) s = .next t ∧ Ended t op stInvalid (invalidAt 0x10) ∧ SameMem s t ∧ TellsIn [.ops, .chains] [] s t) ∧
  -- an opcode without a meaning ends INVALID with RESULT 0
  (∀ (s : State) (op : Nat) (o : Op),
    s.op? op = some o → o.st = .admitted → o.issued = false → dOpcode o.desc ∉ knownOpcodes → s.chainReady o = true →
    s.fenceReady op o = true →
    ∃ t, exec (.invalidOpcode op) s = .next t ∧ Ended t op stInvalid 0 ∧ SameMem s t)

/-- Trigger queues: owning, arming, admitting the oldest pending trigger's run and disarming, and the state that each leaves (R298, R299, R300, R301, R304, R305). -/
def Obligations.TriggerQueues : Prop :=
  -- TRIGGER_ARM of an idle queue of its own function copies a well-formed chain from the device
  (∀ (s : State) (op : Nat) (o : Op) (hv : HostView) (p : Nat),
    s.runnable op [0x71] = some o → s.op? op = some o → o.issued = false → o.progress = 0 → dQuad o.desc 0x10 % 64 = 0 →
    1 ≤ dfld o.desc 0x18 0 11 → dfld o.desc 0x18 0 11 ≤ 1024 → s.tqOwned (dfld o.desc 0x18 16 12) o.fn = true → s.tqState (dfld o.desc 0x18 16 12) = 0 →
    DevRange s hv o.fn (dQuad o.desc 0x10) p (64 * dfld o.desc 0x18 0 11) false → hv.ce = [] → chainBad (descsOf (dfld o.desc 0x18 0 11) (s.drams p (64 * dfld o.desc 0x18 0 11))) = none →
    (bitOf (dWord o.desc 0x20) 31 || bitOf (dWord o.desc 0x24) 31 || bitOf (dWord o.desc 0x28) 31 || bitOf (dWord o.desc 0x2C) 31) = false →
    1 ≤ dfld o.desc 0x1C 0 4 → s.getB (R.RNG_CQ_CTRL o.fn (dfld o.desc 0x1C 0 4)) 0 = true → s.storeUsed + dfld o.desc 0x18 0 11 ≤ 1048576 →
    ∃ t, exec (.triggerArm op hv) s = .next t ∧ t.tqState (dfld o.desc 0x18 16 12) = 3 ∧ (t.tq (dfld o.desc 0x18 16 12)).armed = descsOf (dfld o.desc 0x18 0 11) (s.drams p (64 * dfld o.desc 0x18 0 11)) ∧
    (t.tq (dfld o.desc 0x18 16 12)).patches = [] ∧ (t.tq (dfld o.desc 0x18 16 12)).armCq = dfld o.desc 0x1C 0 4 ∧
    (t.tq (dfld o.desc 0x18 16 12)).armOp = some op ∧
    (t.op? op).map Op.st = some .running ∧ SameMem s t) ∧
  -- of a queue that is not the function's own it is denied
  (∀ (s : State) (op : Nat) (o : Op) (hv : HostView),
    s.runnable op [0x71] = some o → s.op? op = some o → o.issued = false → o.progress = 0 → dQuad o.desc 0x10 % 64 = 0 →
    1 ≤ dfld o.desc 0x18 0 11 → dfld o.desc 0x18 0 11 ≤ 1024 → farAddr (dQuad o.desc 0x10) = false → s.tqOwned (dfld o.desc 0x18 16 12) o.fn = false →
    ∃ t, exec (.triggerArm op hv) s = .next t ∧ Ended t op stDenied 0 ∧ t.tqs = s.tqs ∧ SameMem s t) ∧
  -- TRIGGER_ARM_DONE makes the queue ARMED and reports the descriptors stored
  (∀ (s : State) (q i : Nat) (o : Op),
    q < 4096 → (s.tq q).armOp = some i → s.op? i = some o → o.issued = false →
    ∃ t, exec (.triggerArmDone q) s = .next t ∧ t.tqState q = 1 ∧ t.getB (R.CTX_TQ_STATUS q) 2 = decide (dfld o.desc 0x18 31 1 = 1) ∧
    (t.tq q).armOp = none ∧ (t.tq q).armed = (s.tq q).armed ∧ Ended t i stOK (s.tq q).armed.length ∧ SameMem s t) ∧
  -- TRIGGER_DISARM of an ARMED queue discards its pending triggers and begins to disarm
  (∀ (s : State) (op : Nat) (o : Op),
    s.runnable op [0x72] = some o → s.op? op = some o → o.issued = false → o.progress = 0 → s.tqOwned (dfld o.desc 0x18 16 12) o.fn = true →
    s.tqState (dfld o.desc 0x18 16 12) = 1 →
    ∃ t, exec (.triggerDisarm op) s = .next t ∧ t.tqState (dfld o.desc 0x18 16 12) = 2 ∧ (t.tq (dfld o.desc 0x18 16 12)).pending = [] ∧
    (t.tq (dfld o.desc 0x18 16 12)).disarms = [(op, (s.tq (dfld o.desc 0x18 16 12)).pending.length)] ∧ SameMem s t) ∧
  -- of an IDLE queue it ends at once
  (∀ (s : State) (op : Nat) (o : Op),
    s.runnable op [0x72] = some o → s.op? op = some o → o.issued = false → o.progress = 0 → s.tqOwned (dfld o.desc 0x18 16 12) o.fn = true →
    s.tqState (dfld o.desc 0x18 16 12) = 0 →
    ∃ t, exec (.triggerDisarm op) s = .next t ∧ Ended t op stOK 0 ∧ t.tqs = s.tqs ∧ SameMem s t) ∧
  -- TRIGGER_DISARM_DONE, once every run has ended, leaves the queue IDLE and reports what was discarded
  (∀ (s : State) (q i n : Nat) (o : Op),
    q < 4096 → s.tqState q = 2 → s.runsLeft q = false → (s.tq q).disarms = [(i, n)] → s.op? i = some o → o.issued = false →
    ∃ t, exec (.triggerDisarmDone q) s = .next t ∧ t.tqState q = 0 ∧ (t.tq q).armed = [] ∧ (t.tq q).disarms = [] ∧
    Ended t i stOK n ∧ SameMem s t) ∧
  -- and waits for the runs
  (∀ (s : State) (q : Nat),
    s.tqState q = 2 → s.runsLeft q = true →
    ∃ t, exec (.triggerDisarmDone q) s = .next t ∧ t = s) ∧
  -- TRIGGER_RUN_ADMIT admits the run of the oldest pending trigger
  (∀ (s : State) (q : Nat) (x : Trigger) (r : List Trigger) (d : Desc),
    q < 4096 → (s.tq q).pending = x :: r → x.chain = [d] → x.patches = [] → (dFirst d && dLast d) = true → dPhase d = 0 →
    (isContext d || ydtTransfer d) = false → (s.queue (.tq q)).cache = [] → (s.queue (.tq q)).chain = none → (s.queue (.tq q)).discarding = false →
    s.ops = [] → s.fnCtrl x.fn 0 = false → s.resetting x.fn = false → s.idleState = 0 → x.fn < 64 →
    ∃ t, exec (.triggerRunAdmit q) s = .next t ∧ (t.tq q).pending = r ∧ (t.tq q).cq = x.cq ∧ (t.tq q).fn = x.fn ∧
    (t.op? s.nextOp).map (fun o => (o.fn, o.desc, o.src, o.seq, o.st)) = some (x.fn, d, Source.tq q, word x.seq, OpSt.admitted) ∧
    SameMem s t) ∧
  -- TQ_OWNER_WRITE gives an IDLE queue to a function, with its count of SENDs at 0
  (∀ (s : State) (q : Nat) (v : Word),
    q < 4096 → s.tqState q = 0 → s.getB (R.CTX_TQ_OWNER q) 31 = false → bit v 31 = true →
    ∃ t, exec (.tqOwnerWrite q v) s = .next t ∧ t.tqOwned q (fld v 0 6) = true ∧ t.rd (R.CTX_TQ_SENDS q) = 0 ∧ RegsBut [R.CTX_TQ_OWNER q, R.CTX_TQ_SENDS q] s t ∧
    Only [.regs] s t) ∧
  -- and is ignored in any other state
  (∀ (s : State) (q : Nat) (v : Word),
    s.tqState q ≠ 0 →
    ∃ t, exec (.tqOwnerWrite q v) s = .next t ∧ t = s)

/-- Scrubbing, training, refresh, temperature reports, arbitration and poison of the DRAM channels, as each clause says (R317, R321, R322, R324, R325, R326, R328, R333, R334, R336, R337). -/
def Obligations.MemorySystem : Prop :=
  -- SCRUB_STEP reads one burst on every channel, and changes none that is sound
  (∀ (s : State) (hv : HostView),
    s.getF R.MEM00_SCRUB_CTRL 0 8 ≠ 0 → s.idle.selfRefresh = false → s.msys.scrubPos + 1 < scrubBursts → hv.ce = [] →
    hv.ue = [] →
    ∃ t, exec (.scrubStep hv) s = .next t ∧ t.msys.scrubPos = s.msys.scrubPos + 1 ∧ t.msys.poison = s.msys.poison ∧
    SameMem s t ∧ TellsIn [.msys] [R.MEM00_SCRUB_POS, R.MEM00_CLASS_BYTES] s t) ∧
  -- a burst it cannot correct is marked as poison and logged
  (∀ (s : State) (hv : HostView) (b : Nat),
    s.getF R.MEM00_SCRUB_CTRL 0 8 ≠ 0 → s.idle.selfRefresh = false → s.msys.scrubPos + 1 < scrubBursts → b ∈ scrubAt s.msys.scrubPos →
    hv.ue = [b] → s.poisoned b = false → s.chanState (chanOf (64 * b)) ≠ 5 →
    ∃ t, exec (.scrubStep hv) s = .next t ∧ t.poisoned b = true ∧ t.getB (intK (memPage (chanOf (64 * b) / 4))) 31 = true ∧
    SameMem s t) ∧
  -- the last step of a pass counts it and starts the next
  (∀ (s : State) (hv : HostView),
    s.getF R.MEM00_SCRUB_CTRL 0 8 ≠ 0 → s.idle.selfRefresh = false → s.msys.scrubPos + 1 = scrubBursts → hv.ce = [] →
    hv.ue = [] →
    ∃ t, exec (.scrubStep hv) s = .next t ∧ t.msys.scrubPos = 0 ∧ t.getF R.MEM00_SCRUB_POS 0 10 = 0 ∧ t.getF R.MEM00_SCRUB_POS 16 16 = (s.getF R.MEM00_SCRUB_POS 16 16 + 1) % 65536 ∧
    t.getB (intK (memPage 0)) 5 = true ∧ SameMem s t) ∧
  -- SCRUB_WAKE ends Z2 as a firmware wake
  (∀ (s : State),
    s.idleState = 2 → s.getF R.MEM00_SCRUB_CTRL 8 8 ≠ 0 → s.coreUp 4 = true → s.entering = false → s.exiting = false →
    ∃ t, exec .scrubWake s = .next t ∧ t.exiting = true ∧ t.idle.goal = 0 ∧ t.getB R.GLB_WAKE_CAUSE (wakeBit .firmware) = true ∧
    Told s t) ∧
  -- OSCILLATOR_READ of an active channel counts what its link code corrected
  (∀ (s : State) (c n : Nat),
    c < 80 → s.chanState c = 2 →
    ∃ t, exec (.oscillatorRead c n) s = .next t ∧ t.rd (R.MEM_LINK_ECC_COUNT (c / 4)) = word (min 0xFFFFFFFF ((s.rd (R.MEM_LINK_ECC_COUNT (c / 4))).toNat + n)) ∧
    RegsBut [R.MEM_LINK_ECC_COUNT (c / 4)] s t ∧ Only [.regs] s t) ∧
  -- CHANNEL_RETRAIN takes the channel out of service to retrain
  (∀ (s : State) (c : Nat),
    c < 80 → s.chanState c = 2 → s.msys.retraining = none → s.msys.retrainDue = [] →
    ∃ t, exec (.channelRetrain c) s = .next t ∧ t.chanState c = 4 ∧ t.msys.retraining = some c ∧ t.msys.retrainDue = [] ∧
    TellsIn [.msys] [R.MEM_CHAN_STATE (c / 4)] s t) ∧
  -- one at a time: while another retrains it is only due
  (∀ (s : State) (c d : Nat),
    c < 80 → s.chanState c = 2 → s.msys.retraining = some d → s.msys.retrainDue = [] →
    ∃ t, exec (.channelRetrain c) s = .next t ∧ t.msys = { s.msys with retrainDue := [c] } ∧ Only [.msys] s t) ∧
  -- MEM_RETRAIN_REQUEST asks for it
  (∀ (s : State) (nn c : Nat) (v : Word),
    nn < 20 → c < 4 → fld v 0 4 = 2 ^ c → s.chanState (4 * nn + c) = 2 → s.msys.retraining = none → s.msys.retrainDue = [] →
    ∃ t, exec (.memRetrainRequest nn v) s = .next t ∧ t.chanState (4 * nn + c) = 4 ∧ t.msys.retraining = some (4 * nn + c) ∧
    TellsIn [.msys] [R.MEM_CHAN_STATE nn] s t) ∧
  -- RETRAIN_DONE returns it, counted and timed
  (∀ (s : State) (c us : Nat),
    c < 80 → s.msys.retraining = some c → s.chanState c = 4 → s.msys.retrainDue = [] →
    ∃ t, exec (.retrainDone true us) s = .next t ∧ t.chanState c = 2 ∧ t.msys.retraining = none ∧ t.rd (R.MEM_TRAIN_TIME (c / 4)) = word us ∧
    t.rd (R.MEM_RETRAIN_COUNT (c / 4)) = word (min 0xFFFFFFFF ((s.rd (R.MEM_RETRAIN_COUNT (c / 4))).toNat + 1)) ∧
    t.getB (intK (memPage (c / 4))) 2 = true ∧ SameMem s t) ∧
  -- or, when it fails, takes the channel out of use
  (∀ (s : State) (c us : Nat),
    c < 80 → s.msys.retraining = some c → s.chanState c = 4 → s.msys.retrainDue = [] →
    ∃ t, exec (.retrainDone false us) s = .next t ∧ t.chanState c = 5 ∧ t.msys.retraining = none ∧ t.getB (intK (memPage (c / 4))) 3 = true ∧
    t.getB (intK (memPage (c / 4))) 31 = true ∧ SameMem s t) ∧
  -- REFRESH records the package's temperature
  (∀ (s : State) (nn x : Nat),
    nn < 20 → x ≤ 85 → s.idle.selfRefresh = false → (s.msys.trainedAt.look nn).getD x < x + 20 → x < (s.msys.trainedAt.look nn).getD x + 20 →
    ∃ t, exec (.refresh nn x) s = .next t ∧ t.getF (R.MEM_TEMP nn) 0 8 = x ∧ t.getB (R.MEM_TEMP nn) 8 = false ∧ RegsBut [R.MEM_TEMP nn] s t ∧
    Only [.regs] s t) ∧
  -- 20 °C from the last training every active channel of the package falls due
  (∀ (s : State) (nn x : Nat),
    nn < 20 → x ≤ 85 → s.idle.selfRefresh = false → (s.msys.trainedAt.look nn).getD x + 20 ≤ x → (∀ c ∈ List.range 4, s.chanState (4 * nn + c) = 2) →
    s.msys.retrainDue = [] → s.msys.retraining = some 79 →
    ∃ t, exec (.refresh nn x) s = .next t ∧ t.msys.retrainDue = [4 * nn, 4 * nn + 1, 4 * nn + 2, 4 * nn + 3] ∧ t.getF (R.MEM_TEMP nn) 0 8 = x) ∧
  -- MEM_TEMP_HOT above 85 °C sets HOT and tells the manager
  (∀ (s : State) (nn x : Nat),
    nn < 20 → 85 < x → x < 256 → s.idle.selfRefresh = false → s.getB (R.MEM_TEMP nn) 8 = false →
    ∃ t, exec (.memTempHot nn x) s = .next t ∧ t.getF (R.MEM_TEMP nn) 0 8 = x ∧ t.getB (R.MEM_TEMP nn) 8 = true ∧
    t.getB (intK (memPage nn)) 4 = true ∧ TellsIn [] [R.MEM_TEMP nn] s t) ∧
  -- MEM_TEMP_NORMAL clears it
  (∀ (s : State) (nn x : Nat),
    nn < 20 → x ≤ 85 →
    ∃ t, exec (.memTempNormal nn x) s = .next t ∧ t.getF (R.MEM_TEMP nn) 0 8 = x ∧ t.getB (R.MEM_TEMP nn) 8 = false ∧
    RegsBut [R.MEM_TEMP nn] s t ∧ Only [.regs] s t) ∧
  -- ARB_AGE_EXPIRY serves the oldest request, whatever its class
  (∀ (s : State) (ch c n : Nat),
    ch < 80 → c < 7 →
    ∃ t, exec (.arbAgeExpiry ch [(c, n)]) s = .next t ∧ t.out = .memServe ch c :: s.out ∧ (∀ d ∈ List.range 7, t.arbDeficit ch d = 0) ∧
    Only [.out, .msys] s t) ∧
  -- and then each class as its deficit allows
  (∀ (s : State) (ch c d n : Nat),
    ch < 80 → d < 7 → s.arbWeight d ≠ 0 → n ≤ s.arbDeficit ch d + s.arbQuantum ch d →
    ∃ t, exec (.arbAgeExpiry ch [(c, 64), (d, n)]) s = .next t ∧ t.out = .memServe ch d :: .memServe ch c :: s.out ∧
    Only [.out, .msys] s t) ∧
  -- CLASS_SEL_WRITE selects a class and clears its count
  (∀ (s : State) (v : Word),
    ∃ t, exec (.classSelWrite v) s = .next t ∧ t.rd R.MEM00_CLASS_SEL = v &&& 7 ∧ t.rd R.MEM00_CLASS_BYTES = 0 ∧ t.msys = { s.msys with classRem := 0 } ∧
    RegsBut [R.MEM00_CLASS_SEL, R.MEM00_CLASS_BYTES] s t ∧ Only [.regs, .msys] s t) ∧
  -- poison is never read as data: a COPY that meets it ends CHECK_FAILED and writes nothing
  (∀ (s : State) (op : Nat) (o : Op) (hv : HostView) (p : Nat),
    s.runnable op [0x01] = some o → s.op? op = some o → o.issued = false → dWord o.desc 0x20 = 64 → dQuad o.desc 0x10 % 64 = 0 →
    farAddr (dQuad o.desc 0x18) = false → s.access hv o.fn (dQuad o.desc 0x10) false = .dev p → s.poisoned (p / 64) = true →
    s.slotOf op = none →
    ∃ t, exec (.copy op hv) s = .next t ∧ Ended t op stCheck 0 ∧ SameMem s t ∧ t.msys.poison = s.msys.poison)

/-- WRITE, SEND and READ over YDT: the initiator slot that each takes, the refusals, and the message released after earlier WRITEs (R295, R296, R341, R348, R350, R352, R358, R367). -/
def Obligations.TransferStarts : Prop :=
  -- WRITE from device memory takes a slot and runs
  (∀ (s : State) (op : Nat) (o : Op) (hv : HostView) (p : Nat),
    s.runnable op [0x02] = some o → s.op? op = some o → o.issued = false → ydtTransfer o.desc = true → s.slotOf op = none →
    (moveOf o.desc).bad = none → s.getF (R.TRN_FN_YDT_OPS o.fn) 0 16 ≠ 0 → s.unreachable o.fn ((moveOf o.desc).peer / 64) = false →
    s.encrypts o.fn = false → s.ydt.xfers.length < 32768 → s.orderedWaits op o (moveOf o.desc) = false → 0 < (moveOf o.desc).len →
    DevRange s hv o.fn (moveOf o.desc).va p (moveOf o.desc).len false →
    ∃ t, exec (.write op hv) s = .next t ∧ (t.op? op).map (fun x => (x.st, x.desc)) = some (OpSt.running, o.desc) ∧
    (t.slotOf op).map (fun e => (e.2.kind, e.2.fn, e.2.dev, e.2.dfn)) = some ((moveOf o.desc).kind, o.fn, (moveOf o.desc).peer / 64, (moveOf o.desc).peer % 64) ∧
    (t.slotOf op).map (fun e => (e.2.window, e.2.off, e.2.va, e.2.len)) = some ((moveOf o.desc).window, (moveOf o.desc).off, (moveOf o.desc).va, (moveOf o.desc).len) ∧
    SameMem s t ∧ t.trn = s.trn) ∧
  -- WRITE to a device without a route ends UNREACHABLE
  (∀ (s : State) (op : Nat) (o : Op) (hv : HostView),
    s.runnable op [0x02] = some o → s.op? op = some o → o.issued = false → ydtTransfer o.desc = true → s.slotOf op = none →
    (moveOf o.desc).bad = none → s.getF (R.TRN_FN_YDT_OPS o.fn) 0 16 ≠ 0 → 0 < (moveOf o.desc).len → s.unreachable o.fn ((moveOf o.desc).peer / 64) = true →
    ∃ t, exec (.write op hv) s = .next t ∧ Ended t op stUnreachable 0 ∧ SameMem s t) ∧
  -- SEND from device memory takes a slot and runs
  (∀ (s : State) (op : Nat) (o : Op) (hv : HostView) (p : Nat),
    s.runnable op [0x03] = some o → s.op? op = some o → o.issued = false → ydtTransfer o.desc = true → s.slotOf op = none →
    (moveOf o.desc).bad = none → s.getF (R.TRN_FN_YDT_OPS o.fn) 0 16 ≠ 0 → s.unreachable o.fn ((moveOf o.desc).peer / 64) = false →
    s.encrypts o.fn = false → s.ydt.xfers.length < 32768 → s.orderedWaits op o (moveOf o.desc) = false → 0 < (moveOf o.desc).len →
    DevRange s hv o.fn (moveOf o.desc).va p (moveOf o.desc).len false →
    ∃ t, exec (.send op hv) s = .next t ∧ (t.op? op).map (fun x => (x.st, x.desc)) = some (OpSt.running, o.desc) ∧
    (t.slotOf op).map (fun e => (e.2.kind, e.2.fn, e.2.dev, e.2.dfn)) = some ((moveOf o.desc).kind, o.fn, (moveOf o.desc).peer / 64, (moveOf o.desc).peer % 64) ∧
    (t.slotOf op).map (fun e => (e.2.window, e.2.off, e.2.va, e.2.len)) = some ((moveOf o.desc).window, (moveOf o.desc).off, (moveOf o.desc).va, (moveOf o.desc).len) ∧
    SameMem s t ∧ t.trn = s.trn) ∧
  -- SEND to a device without a route ends UNREACHABLE
  (∀ (s : State) (op : Nat) (o : Op) (hv : HostView),
    s.runnable op [0x03] = some o → s.op? op = some o → o.issued = false → ydtTransfer o.desc = true → s.slotOf op = none →
    (moveOf o.desc).bad = none → s.getF (R.TRN_FN_YDT_OPS o.fn) 0 16 ≠ 0 → 0 < (moveOf o.desc).len → s.unreachable o.fn ((moveOf o.desc).peer / 64) = true →
    ∃ t, exec (.send op hv) s = .next t ∧ Ended t op stUnreachable 0 ∧ SameMem s t) ∧
  -- READ, whatever its length, does too
  (∀ (s : State) (op : Nat) (o : Op) (hv : HostView),
    s.runnable op [0x04] = some o → s.op? op = some o → o.issued = false → ydtTransfer o.desc = true → s.slotOf op = none →
    (moveOf o.desc).bad = none → s.getF (R.TRN_FN_YDT_OPS o.fn) 0 16 ≠ 0 → s.unreachable o.fn ((moveOf o.desc).peer / 64) = false →
    s.encrypts o.fn = false → s.ydt.xfers.length < 32768 → s.orderedWaits op o (moveOf o.desc) = false → 0 < (moveOf o.desc).len →
    ∃ t, exec (.read op hv) s = .next t ∧ (t.op? op).map (fun x => (x.st, x.desc)) = some (OpSt.running, o.desc) ∧
    (t.slotOf op).map (fun e => (e.2.kind, e.2.fn, e.2.dev, e.2.dfn)) = some ((moveOf o.desc).kind, o.fn, (moveOf o.desc).peer / 64, (moveOf o.desc).peer % 64) ∧
    (t.slotOf op).map (fun e => (e.2.window, e.2.off, e.2.va, e.2.len)) = some ((moveOf o.desc).window, (moveOf o.desc).off, (moveOf o.desc).va, (moveOf o.desc).len) ∧
    SameMem s t ∧ t.trn = s.trn) ∧
  -- WRITE of length 0 waits for its queue's earlier transfers to its peer only
  (∀ (s : State) (op : Nat) (o : Op) (hv : HostView),
    s.runnable op [0x02] = some o → s.op? op = some o → o.issued = false → ydtTransfer o.desc = true → s.slotOf op = none →
    (moveOf o.desc).bad = none → s.getF (R.TRN_FN_YDT_OPS o.fn) 0 16 ≠ 0 → (moveOf o.desc).len = 0 → s.zeroWaits op o (moveOf o.desc) = false →
    ∃ t, exec (.write op hv) s = .next t ∧ Ended t op stOK 0 ∧ TellsIn [.ops] [] s t) ∧
  -- with a quota of 0 WRITE is denied
  (∀ (s : State) (op : Nat) (o : Op) (hv : HostView),
    s.runnable op [0x02] = some o → s.op? op = some o → o.issued = false → ydtTransfer o.desc = true → s.slotOf op = none →
    (moveOf o.desc).bad = none → s.getF (R.TRN_FN_YDT_OPS o.fn) 0 16 = 0 →
    ∃ t, exec (.write op hv) s = .next t ∧ Ended t op stDenied 0 ∧ SameMem s t) ∧
  -- READ of length 0 waits for its queue's earlier transfers to its peer only
  (∀ (s : State) (op : Nat) (o : Op) (hv : HostView),
    s.runnable op [0x04] = some o → s.op? op = some o → o.issued = false → ydtTransfer o.desc = true → s.slotOf op = none →
    (moveOf o.desc).bad = none → s.getF (R.TRN_FN_YDT_OPS o.fn) 0 16 ≠ 0 → (moveOf o.desc).len = 0 → s.zeroWaits op o (moveOf o.desc) = false →
    ∃ t, exec (.read op hv) s = .next t ∧ Ended t op stOK 0 ∧ TellsIn [.ops] [] s t) ∧
  -- with a quota of 0 READ is denied
  (∀ (s : State) (op : Nat) (o : Op) (hv : HostView),
    s.runnable op [0x04] = some o → s.op? op = some o → o.issued = false → ydtTransfer o.desc = true → s.slotOf op = none →
    (moveOf o.desc).bad = none → s.getF (R.TRN_FN_YDT_OPS o.fn) 0 16 = 0 →
    ∃ t, exec (.read op hv) s = .next t ∧ Ended t op stDenied 0 ∧ SameMem s t) ∧
  -- ORDERED_SEND_RELEASE sends the message once the earlier WRITEs have been acknowledged
  (∀ (s : State) (i j : Nat) (hv : HostView) (x : Xfer) (o : Op) (p : Nat),
    s.ydt.xfers.look i = some x → x.owner = .op j → s.op? j = some o → x.started = false → s.orderedWaits j o (moveOf o.desc) = false →
    x.len ≤ 4096 → 0 < x.len → x.kind = tySend → x.data = none → x.holding = none → s.encrypts x.fn = false → DevRange s hv x.fn x.va p x.len false →
    ∃ t, exec (.orderedSendRelease i hv) s = .next t ∧ (t.ydt.xfers.look i).map (fun y => (y.started, y.sent.has 0, y.len)) = some (true, true, x.len) ∧
    SameMem s t ∧ t.ops = s.ops)

/-- WINDOW_SET, WINDOW_CLOSE and RECV_POST: the windows registered and revoked, the buffers posted, and what is denied (R342, R343, R349). -/
def Obligations.WindowsAndBuffers : Prop :=
  -- WINDOW_SET enters the window, replacing one only with REPLACE
  (∀ (s : State) (op : Nat) (o : Op),
    s.runnable op [0x05] = some o → s.op? op = some o → o.issued = false → dQuad o.desc 0x18 ≤ 2 ^ 48 → dQuad o.desc 0x10 + dQuad o.desc 0x18 ≤ 2 ^ 57 →
    dQuad o.desc 0x10 < 2 ^ 57 → dfld o.desc 0x20 0 16 / 1024 = o.fn → s.parityWindow o.fn (dfld o.desc 0x20 0 16) = false →
    (s.ydt.windows.has (dfld o.desc 0x20 0 16) = false ∨ dfld o.desc 0x24 18 1 = 1) →
    ∃ t, exec (.windowSet op) s = .next t ∧ t.ydt.windows.look (dfld o.desc 0x20 0 16) = some ⟨dQuad o.desc 0x10, dQuad o.desc 0x18, dfld o.desc 0x20 16 16, dfld o.desc 0x24 0 16, decide (dfld o.desc 0x24 16 1 = 1), decide (dfld o.desc 0x24 17 1 = 1)⟩ ∧
    (∀ i ∈ List.range 65536, i ≠ dfld o.desc 0x20 0 16 → t.ydt.windows.look i = s.ydt.windows.look i) ∧ Ended t op stOK 0 ∧
    TellsIn [.ops, .ydt] [] s t) ∧
  -- a window of another function is denied
  (∀ (s : State) (op : Nat) (o : Op),
    s.runnable op [0x05] = some o → s.op? op = some o → o.issued = false → dQuad o.desc 0x18 ≤ 2 ^ 48 → dQuad o.desc 0x10 + dQuad o.desc 0x18 ≤ 2 ^ 57 →
    dQuad o.desc 0x10 < 2 ^ 57 → dfld o.desc 0x20 0 16 / 1024 ≠ o.fn →
    ∃ t, exec (.windowSet op) s = .next t ∧ Ended t op stDenied 0 ∧ t.ydt = s.ydt ∧ SameMem s t) ∧
  -- WINDOW_CLOSE revokes it
  (∀ (s : State) (op : Nat) (o : Op),
    s.runnable op [0x06] = some o → s.op? op = some o → o.issued = false → dfld o.desc 0x10 0 16 / 1024 = o.fn → s.parityWindow o.fn (dfld o.desc 0x10 0 16) = false →
    ∃ t, exec (.windowClose op) s = .next t ∧ t.ydt.windows.look (dfld o.desc 0x10 0 16) = none ∧ Ended t op stOK 0 ∧
    TellsIn [.ops, .ydt] [] s t) ∧
  -- RECV_POST posts a buffer, and has not ended
  (∀ (s : State) (op : Nat) (o : Op),
    s.runnable op [0x07] = some o → s.op? op = some o → o.issued = false → dfld o.desc 0x1C 31 1 = 0 → o.progress = 0 →
    farAddr (dQuad o.desc 0x10) = false → dfld o.desc 0x18 0 25 ≤ 16777216 → dfld o.desc 0x1C 0 16 ≤ 4095 → s.getB (R.YDT_RQ_OWNER (dfld o.desc 0x1C 0 16)) 31 = true →
    s.getF (R.YDT_RQ_OWNER (dfld o.desc 0x1C 0 16)) 0 6 = o.fn → ((s.ydt.posts.look (dfld o.desc 0x1C 0 16)).getD []).length < 1024 →
    ∃ t, exec (.recvPost op) s = .next t ∧ t.ydt.posts.look (dfld o.desc 0x1C 0 16) = some ((s.ydt.posts.look (dfld o.desc 0x1C 0 16)).getD [] ++ [op]) ∧
    (t.op? op).map Op.st = some o.st ∧ SameMem s t ∧ TellsIn [.ops, .ydt] [] s t) ∧
  -- to another function's queue it is denied
  (∀ (s : State) (op : Nat) (o : Op),
    s.runnable op [0x07] = some o → s.op? op = some o → o.issued = false → dfld o.desc 0x1C 31 1 = 0 → o.progress = 0 →
    farAddr (dQuad o.desc 0x10) = false → dfld o.desc 0x18 0 25 ≤ 16777216 → dfld o.desc 0x1C 0 16 ≤ 4095 → s.getF (R.YDT_RQ_OWNER (dfld o.desc 0x1C 0 16)) 0 6 ≠ o.fn →
    ∃ t, exec (.recvPost op) s = .next t ∧ Ended t op stDenied 0 ∧ t.ydt = s.ydt)

/-- Arriving packets of YDT: WRITEs, READ requests and responses, one-packet SENDs and PROBEs placed, served, delivered or refused (R344, R349, R357, R360, R361, R363, R364, R459). -/
def Obligations.PacketsReceived : Prop :=
  -- WRITE_PACKET_RECEIVE of a one-packet WRITE that its window allows stores its payload there, and nothing else
  (∀ (s : State) (x : Rx) (hv : HostView) (va q : Nat),
    Oldest s tyWrite anyPkt x → x.pkt.shaped = true → single x.pkt = true → s.parityWindow x.pkt.dstFn (x.pkt.window % 65536) = false →
    (s.without x).windowCheck x.pkt true x.pkt.payload.length = .ok va → DevRange (s.without x) hv x.pkt.dstFn va q x.pkt.payload.length true →
    hv.ce = [] →
    ∃ t, exec (.writePacketReceive hv) s = .next t ∧ t.drams q x.pkt.payload.length = x.pkt.payload ∧ MemBut q x.pkt.payload.length s t ∧
    t.ydt.windows = s.ydt.windows ∧ t.ops = s.ops ∧ t.trn = s.trn) ∧
  -- one that the window refuses is answered by a NAK and stores nothing
  (∀ (s : State) (x : Rx) (hv : HostView) (r : Nat) (k : Bool),
    Oldest s tyWrite anyPkt x → x.pkt.shaped = true → s.parityWindow x.pkt.dstFn (x.pkt.window % 65536) = false →
    (s.without x).windowCheck x.pkt true x.pkt.payload.length = .nak r k →
    ∃ t, exec (.writePacketReceive hv) s = .next t ∧ SameMem s t ∧ t.rd R.YDT_NAK_SENT_COUNT = word (min 0xFFFFFFFF ((s.rd R.YDT_NAK_SENT_COUNT).toNat + 1)) ∧
    t.ops = s.ops) ∧
  -- one of a stale generation is counted and stores nothing
  (∀ (s : State) (x : Rx) (hv : HostView),
    Oldest s tyWrite anyPkt x → x.pkt.shaped = true → s.parityWindow x.pkt.dstFn (x.pkt.window % 65536) = false →
    (s.without x).windowCheck x.pkt true x.pkt.payload.length = .stale →
    ∃ t, exec (.writePacketReceive hv) s = .next t ∧ SameMem s t ∧ t.rd R.YDT_STALE_COUNT = word (min 0xFFFFFFFF ((s.rd R.YDT_STALE_COUNT).toNat + 1)) ∧
    t.getB (intK pYDT) 3 = true) ∧
  -- READ_REQUEST_RECEIVE takes a responder for a request that its window allows
  (∀ (s : State) (x : Rx) (hv : HostView) (va : Nat),
    Oldest s tyReadReq anyPkt x → 1 ≤ x.pkt.count → x.pkt.count ≤ 4096 → x.pkt.msgLen ≤ 16777216 → x.pkt.idx + x.pkt.count ≤ packetsOf x.pkt.msgLen →
    s.parityWindow x.pkt.dstFn (x.pkt.window % 65536) = false → (s.without x).windowCheck x.pkt false x.pkt.asked = .ok va →
    (s.without x).rangeFail hv x.pkt.dstFn va x.pkt.asked false = none → s.ydt.responders.length < 1024 →
    ∃ t, exec (.readRequestReceive hv) s = .next t ∧ t.ydt.responders.look s.ydt.nextResponder = some ⟨x.pkt, .mem va, x.pkt.idx, x.pkt.count⟩ ∧
    SameMem s t ∧ t.ops = s.ops) ∧
  -- READ_RESPONDER_SEND answers with the bytes of its window, one packet at a time
  (∀ (s : State) (i : Nat) (hv : HostView) (r : Responder) (va q : Nat),
    s.ydt.responders.look i = some r → r.src = .mem va → r.req.srcDev = s.devId → s.encrypts r.req.dstFn = false →
    r.idx = r.req.idx → DevRange s hv r.req.dstFn va q (min 4096 (r.req.msgLen - 4096 * r.idx)) false →
    ∃ t, exec (.readResponderSend i hv) s = .next t ∧ (t.ydt.rx.getLast?).map (fun y => (y.pkt.typ, y.pkt.opid, y.pkt.idx, y.pkt.payload)) = some (tyReadResp, r.req.opid % 2 ^ 32, r.idx % 4096, s.drams q (min 4096 (r.req.msgLen - 4096 * r.idx))) ∧
    t.ydt.responders.look i = (if r.left ≤ 1 then none else some { r with idx := r.idx + 1, left := r.left - 1 }) ∧
    SameMem s t) ∧
  -- READ_RESPONSE_RECEIVE stores the last packet of a READ at its address and ends it OK
  (∀ (s : State) (x : Rx) (hv : HostView) (i j : Nat) (f : Xfer) (o : Op) (q : Nat),
    Oldest s tyReadResp anyPkt x → s.xferOf x.pkt.opid = some (i, f) → f.owner = .op j → s.op? j = some o → o.issued = false →
    s.ydt.xfers.find? (fun e => e.2.owner = .op j) = some (i, f) → f.kind = tyReadReq → f.dev = x.pkt.srcDev → f.fn = x.pkt.dstFn →
    f.holding = none → f.lastRetrans = none → f.stale = false → f.len ≤ 4096 → x.pkt.idx = 0 → f.acked = [] → f.got = [] →
    x.pkt.payload.length = f.len → s.par.unsent = [] → DevRange (s.without x) hv f.fn f.va q f.len true → hv.ce = [] →
    ∃ t, exec (.readResponseReceive hv) s = .next t ∧ t.drams q f.len = x.pkt.payload ∧ MemBut q f.len s t ∧ Ended t j stOK (f.len + 2 ^ 25 * min 15 f.hi) ∧
    t.ydt.xfers.look i = none) ∧
  -- SEND_PACKET_RECEIVE delivers a message of one packet to the first posted buffer, ends its RECV_POST with the length and keeps a record of it
  (∀ (s : State) (x : Rx) (hv : HostView) (i : Nat) (l : List Nat) (o : Op) (q : Nat),
    Oldest s tySend anyPkt x → x.pkt.shaped = true → single x.pkt = true → bitOf x.pkt.window 16 = false → s.recorded x.pkt = false →
    s.recordsFull = false → x.pkt.window % 65536 < 4096 → s.getB (R.YDT_RQ_OWNER (x.pkt.window % 65536)) 31 = true →
    s.getF (R.YDT_RQ_OWNER (x.pkt.window % 65536)) 0 6 = x.pkt.dstFn → s.ydt.posts.look (x.pkt.window % 65536) = some (i :: l) →
    s.op? i = some o → o.issued = false → x.pkt.payload.length ≤ dfld o.desc 0x18 0 25 → s.slotOf i = none → DevRange (s.without x) hv o.fn (dQuad o.desc 0x10) q x.pkt.payload.length true →
    hv.ce = [] →
    ∃ t, exec (.sendPacketReceive hv) s = .next t ∧ t.drams q x.pkt.payload.length = x.pkt.payload ∧ MemBut q x.pkt.payload.length s t ∧
    Ended t i stOK x.pkt.payload.length ∧ t.recorded x.pkt = true ∧
    (t.ydt.posts.look (x.pkt.window % 65536)).getD [] = l) ∧
  -- a message already delivered is not delivered again
  (∀ (s : State) (x : Rx) (hv : HostView),
    Oldest s tySend anyPkt x → x.pkt.shaped = true → bitOf x.pkt.window 16 = false → s.recorded x.pkt = true →
    ∃ t, exec (.sendPacketReceive hv) s = .next t ∧ SameMem s t ∧ t.ops = s.ops ∧ t.rd R.YDT_DUP_COUNT = word (min 0xFFFFFFFF ((s.rd R.YDT_DUP_COUNT).toNat + 1))) ∧
  -- PROBE_RECEIVE answers a PROBE with an ACK
  (∀ (s : State) (x : Rx),
    Oldest s tyProbe anyPkt x → x.pkt.srcDev = s.devId →
    ∃ t, exec .probeReceive s = .next t ∧ (t.ydt.rx.getLast?).map (fun y => (y.pkt.typ, y.pkt.opid, y.pkt.dstFn)) = some (tyAck, x.pkt.opid % 2 ^ 32, x.pkt.srcFn) ∧
    SameMem s t ∧ t.ops = s.ops)

/-- Acknowledgements and refusals end, mark or leave an initiator's transfers (R345, R357, R360, R363, R365, R366, R379). -/
def Obligations.AnswersReceived : Prop :=
  -- ACK_RECEIVE with COMPLETE ends a WRITE that never retransmitted, and frees its slot
  (∀ (s : State) (x : Rx) (hv : HostView) (i j : Nat) (f : Xfer) (o : Op),
    Oldest s tyAck anyPkt x → s.probedPath x.pkt = none → s.xferOf x.pkt.opid = some (i, f) → f.owner = .op j → s.op? j = some o →
    o.issued = false → s.ydt.xfers.find? (fun e => e.2.owner = .op j) = some (i, f) → s.par.unsent = [] → f.kind = tyWrite →
    f.dev = x.pkt.srcDev → f.fn = x.pkt.dstFn → f.holding = none → f.lastRetrans = none → f.stale = false → f.len ≤ 4096 →
    f.acked = [] → bitOf (x.pkt.extWord 0) 0 = true → bitOf (x.pkt.extWord 0) 2 = false →
    ∃ t, exec (.ackReceive hv) s = .next t ∧ Ended t j stOK (f.len + 2 ^ 25 * min 15 f.hi) ∧ t.ydt.xfers.look i = none ∧
    SameMem s t) ∧
  -- with STALE the WRITE ends STALE
  (∀ (s : State) (x : Rx) (hv : HostView) (i j : Nat) (f : Xfer) (o : Op),
    Oldest s tyAck anyPkt x → s.probedPath x.pkt = none → s.xferOf x.pkt.opid = some (i, f) → f.owner = .op j → s.op? j = some o →
    o.issued = false → s.ydt.xfers.find? (fun e => e.2.owner = .op j) = some (i, f) → s.par.unsent = [] → f.kind = tyWrite →
    f.dev = x.pkt.srcDev → f.fn = x.pkt.dstFn → f.holding = none → f.lastRetrans = none → f.len ≤ 4096 → f.acked = [] →
    bitOf (x.pkt.extWord 0) 0 = true → bitOf (x.pkt.extWord 0) 2 = true →
    ∃ t, exec (.ackReceive hv) s = .next t ∧ (t.op? j).map (fun y => (y.st, y.status)) = some (OpSt.done, stStale) ∧
    SameMem s t) ∧
  -- NAK_RECEIVE of reason 3 ends the transfer with its status
  (∀ (s : State) (x : Rx) (w : Bool) (i j : Nat) (f : Xfer) (o : Op),
    Oldest s tyNak anyPkt x → s.xferOf x.pkt.opid = some (i, f) → f.owner = .op j → s.op? j = some o → o.issued = false →
    s.ydt.xfers.find? (fun e => e.2.owner = .op j) = some (i, f) → s.par.unsent = [] → f.dev = x.pkt.srcDev → f.fn = x.pkt.dstFn →
    f.holding = none → f.lastRetrans = none → bitsOf (x.pkt.extWord 0) 0 8 = 3 →
    ∃ t, exec (.nakReceive w) s = .next t ∧ (t.op? j).map (fun y => (y.st, y.status)) = some (OpSt.done, stDenied) ∧
    t.ydt.xfers.look i = none ∧ SameMem s t) ∧
  -- NAK_RECEIVE of reason 5 ends the transfer with its status
  (∀ (s : State) (x : Rx) (w : Bool) (i j : Nat) (f : Xfer) (o : Op),
    Oldest s tyNak anyPkt x → s.xferOf x.pkt.opid = some (i, f) → f.owner = .op j → s.op? j = some o → o.issued = false →
    s.ydt.xfers.find? (fun e => e.2.owner = .op j) = some (i, f) → s.par.unsent = [] → f.dev = x.pkt.srcDev → f.fn = x.pkt.dstFn →
    f.holding = none → f.lastRetrans = none → bitsOf (x.pkt.extWord 0) 0 8 = 5 →
    ∃ t, exec (.nakReceive w) s = .next t ∧ (t.op? j).map (fun y => (y.st, y.status)) = some (OpSt.done, stCheck) ∧
    t.ydt.xfers.look i = none ∧ SameMem s t) ∧
  -- NAK_RECEIVE of reason 6 ends the transfer with its status
  (∀ (s : State) (x : Rx) (w : Bool) (i j : Nat) (f : Xfer) (o : Op),
    Oldest s tyNak anyPkt x → s.xferOf x.pkt.opid = some (i, f) → f.owner = .op j → s.op? j = some o → o.issued = false →
    s.ydt.xfers.find? (fun e => e.2.owner = .op j) = some (i, f) → s.par.unsent = [] → f.dev = x.pkt.srcDev → f.fn = x.pkt.dstFn →
    f.holding = none → f.lastRetrans = none → bitsOf (x.pkt.extWord 0) 0 8 = 6 →
    ∃ t, exec (.nakReceive w) s = .next t ∧ (t.op? j).map (fun y => (y.st, y.status)) = some (OpSt.done, stInvalid) ∧
    t.ydt.xfers.look i = none ∧ SameMem s t) ∧
  -- one of NOT_READY or TARGET only marks the packet to be sent again
  (∀ (s : State) (x : Rx) (w : Bool) (i j : Nat) (f : Xfer) (o : Op),
    Oldest s tyNak anyPkt x → s.xferOf x.pkt.opid = some (i, f) → f.dev = x.pkt.srcDev → f.fn = x.pkt.dstFn → f.holding = none →
    (bitsOf (x.pkt.extWord 0) 0 8 = 1 ∨ bitsOf (x.pkt.extWord 0) 0 8 = 2) → f.nakked = [] →
    ∃ t, exec (.nakReceive w) s = .next t ∧ t.ydt.xfers.look i = some { f with answered := true, nakked := [x.pkt.idx] } ∧
    t.ops = s.ops ∧ SameMem s t)

/-- Timers acknowledge, retransmit, hold and free what has aged; rates, crew identity and staged reconstructions change as each clause says (R345, R360, R362, R363, R365, R366, R368, R379, R459, R575). -/
def Obligations.TransferTimers : Prop :=
  -- ACK_DELAY_TIMER acknowledges what a tracker has placed since the last ACK
  (∀ (s : State) (d fn n : Nat) (k : Tracker),
    s.ydt.trackers.find? (fun y => y.of d fn n) = some k → k.fresh ≠ [] →
    ∃ t, exec (.ackDelayTimer d fn n) s = .next t ∧ t.ydt.trackers.find? (fun y => y.of d fn n) = some { k with fresh := [], marked := 0 } ∧
    SameMem s t ∧ t.ops = s.ops) ∧
  -- TRACKER_EXPIRY frees a tracker, counts and tells it, and takes back nothing that was placed
  (∀ (s : State) (d fn n : Nat) (k : Tracker),
    s.ydt.trackers.find? (fun y => y.of d fn n) = some k → k.pkt.dstFn < 64 →
    ∃ t, exec (.trackerExpiry d fn n) s = .next t ∧ t.ydt.trackers.find? (fun y => y.of d fn n) = none ∧ t.rd R.YDT_TRACKER_EXPIRE_COUNT = word (min 0xFFFFFFFF ((s.rd R.YDT_TRACKER_EXPIRE_COUNT).toNat + 1)) ∧
    t.getB (intK pYDT) 1 = true ∧ t.getB (intK pYDT) 31 = true ∧
    TellsIn [.ydt] [R.YDT_TRACKERS, R.YDT_OPS_IN_FLIGHT, R.YDT_SEND_RECORDS, R.YDT_TRACKER_EXPIRE_COUNT] s t) ∧
  -- SEND_RECORD_EXPIRY frees a message's record
  (∀ (s : State) (d fn n : Nat),
    ∃ t, exec (.sendRecordExpiry d fn n) s = .next t ∧ t.ydt.records = s.ydt.records.filter (fun r => !(r.1 = d && r.2.1 = fn && r.2.2.1 = n)) ∧
    t.rd R.YDT_SEND_RECORDS = word t.ydt.records.length ∧ Only [.ydt, .regs] s t) ∧
  -- RETRANSMIT_TIMEOUT of a slot sends again what is unanswered, with the timeout doubled
  (∀ (s : State) (hv : HostView) (i j : Nat) (f : Xfer) (o : Op),
    s.ydt.xfers.look i = some f → f.kind = tyReadReq → f.dev = s.devId → s.encrypts f.fn = false → f.holding = none →
    f.started = true → f.acked = [] → f.sent ≠ [] → f.attempts + 1 ≤ s.getF R.YDT_TIMER 0 4 →
    ∃ t, exec (.retransmitTimeout false i hv) s = .next t ∧ (t.ydt.xfers.look i).map (fun y => (y.attempts, y.timeout, y.lastRetrans)) = some (f.attempts + 1, min 8000000 (2 * f.timeout), some s.uptime) ∧
    t.rd R.YDT_TIMEOUT_COUNT = word (min 0xFFFFFFFF ((s.rd R.YDT_TIMEOUT_COUNT).toNat + 1)) ∧ t.ops = s.ops ∧ SameMem s t) ∧
  -- after its last attempt the slot holds, for the packet lifetime, the status it will report
  (∀ (s : State) (hv : HostView) (i j : Nat) (f : Xfer) (o : Op),
    s.ydt.xfers.look i = some f → f.owner = .op j → s.op? j = some o → o.issued = false → s.ydt.xfers.find? (fun e => e.2.owner = .op j) = some (i, f) →
    s.par.unsent = [] → f.dev = s.devId → f.holding = none → f.started = true → f.acked = [] → f.sent ≠ [] → s.getF R.YDT_TIMER 0 4 < f.attempts + 1 →
    f.lastRetrans.isSome = true →
    ∃ t, exec (.retransmitTimeout false i hv) s = .next t ∧ (t.ydt.xfers.look i).map Xfer.holding = some (some (if f.answered then stRetry else stUnreachable)) ∧
    (t.op? j).map Op.st = some o.st ∧ SameMem s t) ∧
  -- HOLDING_END frees the slot and reports the status
  (∀ (s : State) (st : Nat) (i j : Nat) (f : Xfer) (o : Op),
    s.ydt.xfers.look i = some f → f.owner = .op j → s.op? j = some o → o.issued = false → s.ydt.xfers.find? (fun e => e.2.owner = .op j) = some (i, f) →
    s.par.unsent = [] → f.holding = some st →
    ∃ t, exec (.holdingEnd i) s = .next t ∧ t.ydt.xfers.look i = none ∧ (t.op? j).map (fun y => (y.st, y.status)) = some (OpSt.done, st) ∧
    SameMem s t) ∧
  -- PATH_PROBE sends a PROBE over an unhealthy path, which stays unhealthy until it is answered
  (∀ (s : State) (d n : Nat),
    n < 4 → (s.pathSt d n).down = true → n ∈ s.pathsTo d → (s.pathOf d n).1 = 1 → s.encrypts 0 = false → d ≠ s.devId →
    ∃ t, exec (.pathProbe d n) s = .next t ∧ t.crw.tx.length = s.crw.tx.length + 1 ∧ (t.pathSt d n).down = true ∧
    (t.pathSt d n).probe.isSome = true ∧ t.ops = s.ops ∧ SameMem s t) ∧
  -- CC_PERIOD ends the period of each entry that sent in it
  (∀ (s : State) (d : Nat) (r : Rate),
    s.ydt.rates = [(d, r)] → r.sentInPeriod = true → s.qpm.qps = [] →
    ∃ t, exec .ccPeriod s = .next t ∧ t = s.putRate d (s.ratePeriod (s.rateEntry d) (s.lineRate d))) ∧
  -- RATE_IDLE_RESET forgets the rate of an idle destination
  (∀ (s : State) (d : Nat),
    s.ydt.rates.has d = true →
    ∃ t, exec (.rateIdleReset false d) s = .next t ∧ t.ydt.rates = s.ydt.rates.del d ∧ t.rd (R.YDT_RATE d) = 0 ∧ RegsBut [R.YDT_RATE d] s t ∧
    Only [.ydt, .regs] s t) ∧
  -- and of an idle queue pair
  (∀ (s : State) (q : Nat) (y : Qp),
    q < 4096 → s.qpm.qps.look q = some y →
    ∃ t, exec (.rateIdleReset true q) s = .next t ∧ t.qpm.qps.look q = some { y with rate := none } ∧ t.rd (R.QPM_QP_RATE q) = 0 ∧
    RegsBut [R.QPM_QP_RATE q, R.QPM_QP_STATUS q] s t ∧ Only [.qpm, .regs] s t) ∧
  -- RATE_FLOOR tells the manager
  (∀ (s : State) (d : Nat) (r : Rate),
    s.ydt.rates.look d = some r → r.floorSince.isSome = true →
    ∃ t, exec (.rateFloor d) s = .next t ∧ t = s.event 0 pYDT 0x0016 0 clsPort 0 0 d 0) ∧
  -- CREW_ID_WRITE changes the crew while the device holds no YDT state
  (∀ (s : State) (v : Word),
    (∀ f ∈ List.range 64, s.endpointOn f = false) → s.ydt.xfers = [] → s.ydt.trackers = [] → s.ydt.records = [] →
    ∃ t, exec (.crewIdWrite v) s = .next t ∧ t.getF R.YDT_DEVICE_ID 3 9 = fld v 3 9 ∧ RegsBut [R.YDT_DEVICE_ID] s t ∧
    Only [.regs] s t) ∧
  -- and otherwise is refused and logged
  (∀ (s : State) (v : Word) (f : Nat),
    f < 64 → s.endpointOn f = true → fld v 3 9 ≠ s.getF R.YDT_DEVICE_ID 3 9 →
    ∃ t, exec (.crewIdWrite v) s = .next t ∧ t.rd R.YDT_DEVICE_ID = s.rd R.YDT_DEVICE_ID ∧ t.getB (intK pYDT) 31 = true ∧
    Told s t) ∧
  -- RECONSTRUCT_STAGED of images that could not all be read stages nothing
  (∀ (s : State) (k : Nat) (y : Stage) (hv : HostView),
    s.par.stages.look k = some y → y.key.isSome = true → y.staged = none → y.waits = [] → y.bad = true →
    ∃ t, exec (.reconstructStaged k hv) s = .next t ∧ t = { s with par := { s.par with stages := s.par.stages.del k } }) ∧
  -- and else stages their exclusive-or with the parity line
  (∀ (s : State) (k : Nat) (y : Stage) (hv : HostView) (p : Nat),
    s.par.stages.look k = some y → y.key.isSome = true → y.staged = none → y.waits = [] → y.bad = false → DevRange s hv 0 (s.parBase + 131072 * y.line) p 131072 false →
    ∃ t, exec (.reconstructStaged k hv) s = .next t ∧ t.par.stages.look k = some { y with acc := xorBytes y.acc (s.drams p 131072), staged := some s.uptime } ∧
    SameMem s t) ∧
  -- STAGE_EXPIRY frees a staged result
  (∀ (s : State) (k : Nat) (y : Stage),
    s.par.stages.look k = some y → y.staged.isSome = true →
    ∃ t, exec (.stageExpiry k) s = .next t ∧ t = { s with par := { s.par with stages := s.par.stages.del k } })

/-- QP_MODIFY moves a queue pair through its states, and its packets are placed, acknowledged or refused, as each clause says (R339, R341, R369, R370, R371, R372, R373, R378). -/
def Obligations.QueuePairs : Prop :=
  -- QP_MODIFY from RTR to RTS
  (∀ (s : State) (op : Nat) (o : Op) (hv : HostView),
    s.runnable op [0x08] = some o → s.op? op = some o → o.issued = false → s.qpOwned (dfld o.desc 0x18 0 12) o.fn = true →
    dfld o.desc 0x18 12 3 = 3 → s.qpState (dfld o.desc 0x18 0 12) = 2 → ((List.range 4096).filter (fun k => k ≠ dfld o.desc 0x18 0 12 && s.qpFn k = o.fn && s.qpState k ≠ 0)).length < s.getF (R.TRN_FN_QPS o.fn) 0 13 →
    ∃ t, exec (.qpModify op hv) s = .next t ∧ t.qpState (dfld o.desc 0x18 0 12) = 3 ∧ t.qpm = s.qpm ∧ Ended t op stOK 0 ∧
    SameMem s t) ∧
  -- to INIT and to RTR it takes the context image
  (∀ (s : State) (op : Nat) (o : Op) (hv : HostView) (p : Nat) (x : Qp) (sq rq : Nat),
    s.runnable op [0x08] = some o → s.op? op = some o → o.issued = false → s.qpOwned (dfld o.desc 0x18 0 12) o.fn = true →
    (dfld o.desc 0x18 12 3 = 1 ∨ dfld o.desc 0x18 12 3 = 2) → dfld o.desc 0x18 12 3 = s.qpState (dfld o.desc 0x18 0 12) + 1 →
    ((List.range 4096).filter (fun k => k ≠ dfld o.desc 0x18 0 12 && s.qpFn k = o.fn && s.qpState k ≠ 0)).length < s.getF (R.TRN_FN_QPS o.fn) 0 13 →
    DevRange s hv o.fn (dQuad o.desc 0x10) p 64 false → qpImage (portCount s) (s.drams p 64) = some (x, sq, rq) →
    ∃ t, exec (.qpModify op hv) s = .next t ∧ t.qpState (dfld o.desc 0x18 0 12) = dfld o.desc 0x18 12 3 ∧ t.qp (dfld o.desc 0x18 0 12) = { x with recvs := (s.qp (dfld o.desc 0x18 0 12)).recvs } ∧
    t.sqPsn (dfld o.desc 0x18 0 12) = sq % 2 ^ 24 ∧ t.rqPsn (dfld o.desc 0x18 0 12) = rq % 2 ^ 24 ∧ Ended t op stOK 0 ∧
    SameMem s t) ∧
  -- to RESET it ends what is outstanding FLUSHED
  (∀ (s : State) (op : Nat) (o : Op) (hv : HostView) (j : Nat) (w : Op),
    s.runnable op [0x08] = some o → s.op? op = some o → o.issued = false → s.qpOwned (dfld o.desc 0x18 0 12) o.fn = true →
    dfld o.desc 0x18 12 3 = 0 → s.qpState (dfld o.desc 0x18 0 12) ≠ 0 → (s.qp (dfld o.desc 0x18 0 12)).sq = [] →
    (s.qp (dfld o.desc 0x18 0 12)).recvs = [j] → s.op? j = some w → j ≠ op → w.st ≠ .done → w.issued = false → w.chain ≠ o.chain →
    ∃ t, exec (.qpModify op hv) s = .next t ∧ t.qpState (dfld o.desc 0x18 0 12) = 0 ∧ t.qpm.qps.look (dfld o.desc 0x18 0 12) = none ∧
    Ended t j stFlushed 0 ∧ Ended t op stOK 0 ∧ SameMem s t) ∧
  -- any other move up is INVALID
  (∀ (s : State) (op : Nat) (o : Op) (hv : HostView),
    s.runnable op [0x08] = some o → s.op? op = some o → o.issued = false → s.qpOwned (dfld o.desc 0x18 0 12) o.fn = true →
    1 ≤ dfld o.desc 0x18 12 3 → dfld o.desc 0x18 12 3 ≤ 3 → dfld o.desc 0x18 12 3 ≠ s.qpState (dfld o.desc 0x18 0 12) + 1 →
    ∃ t, exec (.qpModify op hv) s = .next t ∧ Ended t op stInvalid (invalidAt 0x18) ∧ t.qpm = s.qpm ∧ t.qpState (dfld o.desc 0x18 0 12) = s.qpState (dfld o.desc 0x18 0 12)) ∧
  -- another function's queue pair is denied
  (∀ (s : State) (op : Nat) (o : Op) (hv : HostView),
    s.runnable op [0x08] = some o → s.op? op = some o → o.issued = false → s.qpOwned (dfld o.desc 0x18 0 12) o.fn = false →
    ∃ t, exec (.qpModify op hv) s = .next t ∧ Ended t op stDenied 0 ∧ t.qpm = s.qpm) ∧
  -- QP_PACKET_RECEIVE of a WRITE in order that a window allows stores its payload and expects the next PSN
  (∀ (s : State) (hv : HostView) (y : RxQ) (va p : Nat),
    s.qpm.rx = [y] → y.port = none → y.link = none → y.pkt.icrcOk = true → y.pkt.qp < 4096 → y.pkt.pkey = (s.qp y.pkt.qp).pkey →
    y.pkt.cipher = none → s.encrypts (s.qpFn y.pkt.qp) = false → y.pkt.ce = false → s.idleState = 0 → s.idle.selfRefresh = false →
    (s.qpState y.pkt.qp = 2 ∨ s.qpState y.pkt.qp = 3) → y.pkt.op = .writeOnly → y.pkt.psn = s.rqPsn y.pkt.qp → s.qpWindow (s.qpFn y.pkt.qp) y.pkt.rkey y.pkt.va y.pkt.len true = some va →
    y.pkt.payload.length = y.pkt.len → DevRange s hv (s.qpFn y.pkt.qp) va p y.pkt.len true → hv.ce = [] →
    ∃ t, exec (.qpPacketReceive hv) s = .next t ∧ t.drams p y.pkt.len = y.pkt.payload ∧ MemBut p y.pkt.len s t ∧ t.rqPsn y.pkt.qp = (s.rqPsn y.pkt.qp + 1) % 2 ^ 24 ∧
    t.ops = s.ops) ∧
  -- a request past a gap is counted, answered once and stores nothing
  (∀ (s : State) (hv : HostView) (y : RxQ),
    s.qpm.rx = [y] → y.port = none → y.link = none → y.pkt.icrcOk = true → y.pkt.qp < 4096 → y.pkt.pkey = (s.qp y.pkt.qp).pkey →
    y.pkt.cipher = none → s.encrypts (s.qpFn y.pkt.qp) = false → y.pkt.ce = false → s.idleState = 0 → s.idle.selfRefresh = false →
    (s.qpState y.pkt.qp = 2 ∨ s.qpState y.pkt.qp = 3) → y.pkt.op = .writeOnly → 0 < psnDiff y.pkt.psn (s.rqPsn y.pkt.qp) →
    (s.qp y.pkt.qp).nakSent = false →
    ∃ t, exec (.qpPacketReceive hv) s = .next t ∧ SameMem s t ∧ t.rqPsn y.pkt.qp = s.rqPsn y.pkt.qp ∧ (t.qp y.pkt.qp).nakSent = true ∧
    t.rd R.QPM_SEQ_ERR_COUNT = word (min 0xFFFFFFFF ((s.rd R.QPM_SEQ_ERR_COUNT).toNat + 1))) ∧
  -- an ACK of a request ends it OK
  (∀ (s : State) (hv : HostView) (y : RxQ) (r : QpReq) (o : Op),
    s.qpm.rx = [y] → y.port = none → y.link = none → y.pkt.icrcOk = true → y.pkt.qp < 4096 → y.pkt.pkey = (s.qp y.pkt.qp).pkey →
    y.pkt.cipher = none → s.encrypts (s.qpFn y.pkt.qp) = false → y.pkt.ce = false → s.idleState = 0 → s.idle.selfRefresh = false →
    s.qpState y.pkt.qp = 3 → y.pkt.op = .ack → (s.qp y.pkt.qp).sq = [r] → (s.qp y.pkt.qp).una = r.psn → r.psn < 2 ^ 24 →
    r.packets = 1 → r.kind = tyWrite → y.pkt.psn = r.psn → s.op? r.op = some o → o.issued = false → s.slotOf r.op = none →
    ∃ t, exec (.qpPacketReceive hv) s = .next t ∧ Ended t r.op stOK (r.len % 2 ^ 25 + 2 ^ 25 * min 15 r.hi) ∧ (t.qp y.pkt.qp).sq = [] ∧
    SameMem s t) ∧
  -- a SEND without a posted receive is told to try again and changes nothing
  (∀ (s : State) (hv : HostView) (y : RxQ),
    s.qpm.rx = [y] → y.port = none → y.link = none → y.pkt.icrcOk = true → y.pkt.qp < 4096 → y.pkt.pkey = (s.qp y.pkt.qp).pkey →
    y.pkt.cipher = none → s.encrypts (s.qpFn y.pkt.qp) = false → y.pkt.ce = false → s.idleState = 0 → s.idle.selfRefresh = false →
    (s.qpState y.pkt.qp = 2 ∨ s.qpState y.pkt.qp = 3) → y.pkt.op = .sendOnly → y.pkt.target = none → y.pkt.psn = s.rqPsn y.pkt.qp →
    (s.qp y.pkt.qp).recvs = [] →
    ∃ t, exec (.qpPacketReceive hv) s = .next t ∧ SameMem s t ∧ t.rqPsn y.pkt.qp = s.rqPsn y.pkt.qp ∧ t.ops = s.ops ∧
    t.qpState y.pkt.qp = s.qpState y.pkt.qp) ∧
  -- one with a wrong CRC is counted and dropped
  (∀ (s : State) (hv : HostView) (y : RxQ),
    s.qpm.rx = [y] → y.pkt.icrcOk = false → y.port = none → y.link = none → s.idleState = 0 → s.idle.selfRefresh = false →
    ∃ t, exec (.qpPacketReceive hv) s = .next t ∧ t.qpm = { s.qpm with rx := [] } ∧ t.rd R.QPM_ICRC_ERR_COUNT = word (min 0xFFFFFFFF ((s.rd R.QPM_ICRC_ERR_COUNT).toNat + 1)) ∧
    TellsIn [.qpm] [R.QPM_ICRC_ERR_COUNT] s t) ∧
  -- RETRANSMIT_TIMEOUT of a queue pair after its last try ends the request and takes the queue pair to ERROR
  (∀ (s : State) (hv : HostView) (q : Nat) (r : QpReq) (l : List QpReq) (o : Op),
    q < 4096 → s.qpState q = 3 → (s.qp q).sq = r :: l → (s.qp q).rnrWait = false → (s.qp q).retryCnt < (s.qp q).attempts + 1 →
    s.op? r.op = some o → o.st ≠ .done → o.issued = false → s.slotOf r.op = none → l = [] → (s.qp q).recvs = [] →
    ∃ t, exec (.retransmitTimeout true q hv) s = .next t ∧ t.qpState q = 4 ∧ (t.op? r.op).map (fun y => (y.st, y.status)) = some (OpSt.done, if (s.qp q).answered then stRetry else stUnreachable) ∧
    SameMem s t)

/-- Ethernet ports: mode, training, faults, received frames, pauses, transmission and buffer shares, as each clause says (R382, R383, R387, R389, R390, R394, R395, R396, R414, R415). -/
def Obligations.EthernetPorts : Prop :=
  -- NET_MODE_WRITE sets the mode while no port is enabled
  (∀ (s : State) (v : Word),
    s.getF (ctrlK pNET) 8 8 = 0 → fld v 8 8 = 0 →
    ∃ t, exec (.netModeWrite v) s = .next t ∧ t.getF (ctrlK pNET) 0 2 = fld v 0 2 ∧ t.getF (ctrlK pNET) 8 8 = 0 ∧
    RegsBut [ctrlK pNET] s t ∧ Only [.regs] s t) ∧
  -- and is refused and logged while one is
  (∀ (s : State) (v : Word),
    s.getF (ctrlK pNET) 8 8 ≠ 0 → s.getF (ctrlK pNET) 8 8 < 2 ^ portCount s → fld v 0 2 ≠ s.getF (ctrlK pNET) 0 2 →
    fld v 8 8 = s.getF (ctrlK pNET) 8 8 →
    ∃ t, exec (.netModeWrite v) s = .next t ∧ t.getF (ctrlK pNET) 0 2 = s.getF (ctrlK pNET) 0 2 ∧ t.getF (ctrlK pNET) 8 8 = s.getF (ctrlK pNET) 8 8 ∧
    t.getB (intK pNET) 31 = true ∧ Told s t) ∧
  -- PORT_ENABLE starts the training of the port
  (∀ (s : State) (p : Nat) (v : Word),
    p < portCount s → s.getF (ctrlK pNET) 8 8 = 0 → fld v 8 8 = 2 ^ p → fld v 0 2 = s.getF (ctrlK pNET) 0 2 → s.portState p = 0 →
    s.portCage p ∉ s.hw.cageSuspended →
    ∃ t, exec (.portEnable v) s = .next t ∧ t.portState p = 1 ∧ t.portEnabled p = true ∧ t.out.head? = some (.train true p) ∧
    TellsIn [] [ctrlK pNET, R.NET_PORT_STATUS p] s t) ∧
  -- PORT_TRAIN_DONE without a failed lane brings it UP and lights its cage's LED
  (∀ (s : State) (p : Nat) (n : Nat),
    p < 8 → s.portState p = 1 → n % 2 ^ (16 / portCount s) = 0 →
    ∃ t, exec (.portTrainDone p n) s = .next t ∧ t.portState p = 2 ∧ t.getB (statusK pNET) p = true ∧ t.getB (intK pNET) 0 = true ∧
    s.portCage p ∈ t.hw.ledOn ∧ t.hw = { s.hw with ledOn := t.hw.ledOn } ∧ TellsIn [.hw] [R.NET_PORT_STATUS p] s t) ∧
  -- with one it stays DOWN, and the lanes are shown and logged
  (∀ (s : State) (p : Nat) (n : Nat),
    p < 8 → s.portState p = 1 → n % 2 ^ (16 / portCount s) ≠ 0 →
    ∃ t, exec (.portTrainDone p n) s = .next t ∧ t.portState p = 0 ∧ t.getF (R.NET_PORT_STATUS p) 8 8 = n % 2 ^ (16 / portCount s) ∧
    t.getB (intK pNET) 31 = true ∧ TellsIn [] [R.NET_PORT_STATUS p] s t) ∧
  -- PORT_DOWN of an UP port counts its codewords and trains it again
  (∀ (s : State) (p : Nat) (f : Fec),
    p < 8 → s.portState p = 2 → s.portCage p ∉ s.hw.cageSuspended →
    ∃ t, exec (.portDown p f) s = .next t ∧ t.portState p = 1 ∧ t.getB (statusK pNET) p = false ∧ t.rd (R.NET_PORT_FEC_UNCORR p) = word (min 0xFFFFFFFF ((s.rd (R.NET_PORT_FEC_UNCORR p)).toNat + f.uncorrectable)) ∧
    s.portCage p ∉ t.hw.ledOn ∧ t.hw = { s.hw with ledOn := t.hw.ledOn } ∧ TellsIn [.hw] [R.NET_PORT_STATUS p, R.NET_PORT_FEC_CORR p, R.NET_PORT_FEC_UNCORR p] s t) ∧
  -- LANE_FAULT_RETRY trains it again
  (∀ (s : State) (p : Nat),
    p < 8 → s.portEnabled p = true → s.portState p = 0 → s.getF (R.NET_PORT_STATUS p) 8 8 ≠ 0 → s.portCage p ∉ s.hw.cageSuspended →
    ∃ t, exec (.laneFaultRetry p) s = .next t ∧ t.portState p = 1 ∧ TellsIn [] [R.NET_PORT_STATUS p] s t) ∧
  -- FRAME_RECEIVE gives YDT a packet whose frame passes every step, held in its class's buffer
  (∀ (s : State) (p : Nat) (f : Frame) (x : Fec) (i : Ip) (k : Pkt),
    p < 8 → s.portState p = 2 → f.fcsOk = true → 64 ≤ f.len → f.len ≤ 9216 → f.body = .ip i → i.body = .ydt k → i.ecn ≠ 3 →
    s.macOk f.dst = true → s.tagsOk f = true → s.classHeld p (s.frameClass f) + f.len ≤ s.classShare p (s.frameClass f) →
    s.bodyOk f = true → s.portOk f = true → k.crcOk = true → k.formed = true → k.dstDev = s.devId → s.expired k = false →
    ∃ t, exec (.frameReceive p f x) s = .next t ∧ t.ydt.rx = s.ydt.rx ++ [⟨{ k with ce := false }, some (p, s.frameClass f, f.len), none⟩] ∧
    t.rd (R.NET_PORT_RX_FRAMES p) = word (min 0xFFFFFFFF ((s.rd (R.NET_PORT_RX_FRAMES p)).toNat + 1)) ∧ TellsIn [.ydt] [R.NET_PORT_RX_FRAMES p, R.NET_PORT_FEC_CORR p, R.NET_PORT_FEC_UNCORR p] s t) ∧
  -- a frame shorter than 64 bytes is counted and dropped
  (∀ (s : State) (p : Nat) (f : Frame) (x : Fec),
    p < 8 → s.portState p = 2 → f.len < 64 →
    ∃ t, exec (.frameReceive p f x) s = .next t ∧ t.rd (R.NET_PORT_RUNT p) = word (min 0xFFFFFFFF ((s.rd (R.NET_PORT_RUNT p)).toNat + 1)) ∧
    t.ydt = s.ydt ∧ TellsIn [] [R.NET_PORT_RUNT p, R.NET_PORT_FEC_CORR p, R.NET_PORT_FEC_UNCORR p] s t) ∧
  -- a frame with a wrong FCS is counted and dropped
  (∀ (s : State) (p : Nat) (f : Frame) (x : Fec),
    p < 8 → s.portState p = 2 → 64 ≤ f.len → f.fcsOk = false →
    ∃ t, exec (.frameReceive p f x) s = .next t ∧ t.rd (R.NET_PORT_FCS_ERR p) = word (min 0xFFFFFFFF ((s.rd (R.NET_PORT_FCS_ERR p)).toNat + 1)) ∧
    t.ydt = s.ydt ∧ TellsIn [] [R.NET_PORT_FCS_ERR p, R.NET_PORT_FEC_CORR p, R.NET_PORT_FEC_UNCORR p] s t) ∧
  -- a frame for another station is counted and dropped
  (∀ (s : State) (p : Nat) (f : Frame) (x : Fec),
    p < 8 → s.portState p = 2 → 64 ≤ f.len → f.len ≤ 9216 → f.fcsOk = true → f.body = .other → s.macOk f.dst = false →
    ∃ t, exec (.frameReceive p f x) s = .next t ∧ t.rd (R.NET_PORT_FILTERED p) = word (min 0xFFFFFFFF ((s.rd (R.NET_PORT_FILTERED p)).toNat + 1)) ∧
    t.ydt = s.ydt ∧ TellsIn [] [R.NET_PORT_FILTERED p, R.NET_PORT_FEC_CORR p, R.NET_PORT_FEC_UNCORR p] s t) ∧
  -- a pause stops its classes
  (∀ (s : State) (p : Nat) (f : Frame) (x : Fec) (cs q : Nat),
    p < 8 → s.portState p = 2 → 64 ≤ f.len → f.len ≤ 9216 → f.fcsOk = true → f.body = .pause cs q → q ≠ 0 →
    ∃ t, exec (.frameReceive p f x) s = .next t ∧ (∀ c ∈ List.range 8, bitOf cs c = true → 8 * p + c ∈ t.net.pausedBy) ∧
    t.rd (R.NET_PORT_PFC_RX p) = word (min 0xFFFFFFFF ((s.rd (R.NET_PORT_PFC_RX p)).toNat + 1)) ∧ TellsIn [] [R.NET_PORT_PFC_RX p, R.NET_PORT_FEC_CORR p, R.NET_PORT_FEC_UNCORR p] s t) ∧
  -- PAUSE_QUANTA_EXPIRY lets the class go on
  (∀ (s : State) (p c : Nat),
    ∃ t, exec (.pauseQuantaExpiry p c) s = .next t ∧ 8 * p + c ∉ t.net.pausedBy ∧ t = { s with net := { s.net with pausedBy := t.net.pausedBy } }) ∧
  -- PAUSE_REPEAT repeats the pause while the class holds more than its lower level
  (∀ (s : State) (p c : Nat),
    8 * p + c ∈ s.net.pausing → s.classShare p c < s.classHeld p c + 2 * s.pfcHeadroom p → s.z2Holds = false →
    ∃ t, exec (.pauseRepeat p c) s = .next t ∧ t = s.sendPause p (2 ^ c) 0xFFFF) ∧
  -- FRAME_TRANSMIT sends the frame whose turn it is, and blinks a lit LED
  (∀ (s : State) (p : Nat) (x : TxFrame),
    p < 8 → s.portState p = 2 → s.startable p = some x → x.frame.body = .other →
    ∃ t, exec (.frameTransmit p) s = .next t ∧ t.out = ((s.emit (.frame p x.frame.head x.frame)).ledBlink p).out ∧
    t.net.tx = s.net.tx.erase x ∧ t.rd (R.NET_PORT_TX_FRAMES p) = word (min 0xFFFFFFFF ((s.rd (R.NET_PORT_TX_FRAMES p)).toNat + 1)) ∧
    TellsIn [] [R.NET_PORT_TX_FRAMES p] s t) ∧
  -- no frame of a higher class that may start waits behind it, and a paused class does not send
  (∀ (s : State) (p : Nat) (x : TxFrame),
    s.startable p = some x →
    ∃ t, exec (.frameTransmit p) s = .next t ∧ (∀ y ∈ s.net.tx, y.port = p → 8 * p + y.cls ∉ s.net.pausedBy → s.plan? p = none → y.cls < 8 → y.who < 3 → y.cls ≤ x.cls) ∧
    8 * p + x.cls ∉ s.net.pausedBy) ∧
  -- SHARE_WRITE stores shares that sum to 256 at most
  (∀ (s : State) (p : Nat) (v : Word),
    p < 8 → (fun (w : Word) => fld w 0 8 + fld w 8 8 + fld w 16 8 + fld w 24 8) v + (fun (w : Word) => fld w 0 8 + fld w 8 8 + fld w 16 8 + fld w 24 8) (s.rd (R.NET_PORT_SHARE1 p)) ≤ 256 →
    ∃ t, exec (.shareWrite p false v) s = .next t ∧ t.rd (R.NET_PORT_SHARE0 p) = v ∧ RegsBut [R.NET_PORT_SHARE0 p] s t ∧
    Only [.regs] s t) ∧
  -- and refuses and logs others
  (∀ (s : State) (p : Nat) (v : Word),
    p < 8 → 256 < (fun (w : Word) => fld w 0 8 + fld w 8 8 + fld w 16 8 + fld w 24 8) v + (fun (w : Word) => fld w 0 8 + fld w 8 8 + fld w 16 8 + fld w 24 8) (s.rd (R.NET_PORT_SHARE0 p)) →
    ∃ t, exec (.shareWrite p true v) s = .next t ∧ t.rd (R.NET_PORT_SHARE1 p) = s.rd (R.NET_PORT_SHARE1 p) ∧ t.getB (intK pNET) 31 = true ∧
    Told s t)

/-- The crew's time, its sources and their loss, and the slot plans of the ports, as each clause says (R392, R393, R394, R395, R396, R413, R418). -/
def Obligations.DeviceTimeAndPlans : Prop :=
  -- TIME_SOURCE_TIMEOUT loses the lock and keeps the time
  (∀ (s : State),
    s.locked = true →
    ∃ t, exec .timeSourceTimeout s = .next t ∧ t.locked = false ∧ t.timeLocked = false ∧ t.rd R.NET_TIME_SOURCE = 0 ∧
    t.getB (intK pNET) 1 = true ∧ t.devTime = s.devTime ∧ TellsIn [] [R.NET_TIME_SOURCE] s t) ∧
  -- without a lock only the source goes
  (∀ (s : State),
    s.locked = false →
    ∃ t, exec .timeSourceTimeout s = .next t ∧ t.rd R.NET_TIME_SOURCE = 0 ∧ RegsBut [R.NET_TIME_SOURCE] s t ∧ Only [.regs] s t) ∧
  -- CREW_TIME_DRIVE of the crew's master drives the pulse and sends its time on each UP link
  (∀ (s : State),
    s.crewMaster = true → s.linksUp = [2] →
    ∃ t, exec .crewTimeDrive s = .next t ∧ t.out = .timeBlock 2 ⟨s.devTime / 1000000 * 1000000, 0⟩ :: .pin "CREW_TIME" true :: s.out ∧
    Only [.out] s t) ∧
  -- CREW_TIME_PULSE is captured by every other member
  (∀ (s : State),
    s.crewMaster = false →
    ∃ t, exec .crewTimePulse s = .next t ∧ t = { s with net := { s.net with pulseAt := some s.devTime } }) ∧
  -- TIME_BLOCK_RECEIVE relays the block with the link's delay added, and the master does not use it
  (∀ (s : State) (l : Nat) (b : TimeBlock) (m : Nat),
    s.crewMaster = true → s.linksUp = [m] → l ≠ m →
    ∃ t, exec (.timeBlockReceive l b) s = .next t ∧ t.out = .timeBlock m ⟨b.time + s.getF (R.CRW_LINK_DELAY l) 0 16, b.hops + 1⟩ :: s.out ∧
    Only [.out] s t) ∧
  -- before its first lock another member steps its time to the block's
  (∀ (s : State) (l : Nat) (b : TimeBlock) (m : Nat),
    s.crewMaster = false → s.linksUp = [] → s.net.block = none → s.net.firstLock = false → s.net.pulseAt = none →
    s.locked = false → s.net.inBand < 7 → b.hops < 8 → b.time + 65536 < 2 ^ 64 →
    ∃ t, exec (.timeBlockReceive l b) s = .next t ∧ t.devTime = (b.time + s.getF (R.CRW_LINK_DELAY l) 0 16) % 2 ^ 64 ∧
    t.net.block = some (b.time / 1000000, b.hops) ∧ t.rd R.NET_TIME_SOURCE = word (3 + 256 * b.hops) ∧ t.locked = false ∧
    RegsBut [R.NET_TIME_OFFSET, R.NET_TIME_SOURCE] s t ∧ Only [.regs, .devTime, .net] s t) ∧
  -- PLAN_SWITCH_ARM with a loaded other version arms the switch for its time
  (∀ (s : State) (p : Nat) (v : Word),
    p < 8 → s.getB (R.NET_PORT_PLAN_STATUS p) (3 - s.planVer p) = true → s.devTime < (s.rd (R.NET_PORT_PLAN_TIME_LO p)).toNat + 2 ^ 32 * v.toNat →
    ∃ t, exec (.planSwitchArm p v) s = .next t ∧ t.net.switchAt.look p = some ((s.rd (R.NET_PORT_PLAN_TIME_LO p)).toNat + 2 ^ 32 * v.toNat) ∧
    t.getB (R.NET_PORT_PLAN_STATUS p) 1 = true ∧ t.planVer p = s.planVer p ∧ RegsBut [R.NET_PORT_PLAN_STATUS p, R.NET_PORT_PLAN_TIME_HI p] s t ∧
    Only [.regs, .net] s t) ∧
  -- without one it is refused and logged
  (∀ (s : State) (p : Nat) (v : Word),
    p < 8 → s.getB (R.NET_PORT_PLAN_STATUS p) (3 - s.planVer p) = false →
    ∃ t, exec (.planSwitchArm p v) s = .next t ∧ t.net = s.net ∧ t.planVer p = s.planVer p ∧ t.getB (intK pNET) 31 = true) ∧
  -- PLAN_SWITCH makes the other version active
  (∀ (s : State) (p : Nat) (n : Nat),
    p < 8 → s.net.switchAt.look p = some n →
    ∃ t, exec (.planSwitch p) s = .next t ∧ t.planVer p = 1 - s.planVer p ∧ t.getB (R.NET_PORT_PLAN_STATUS p) 1 = false ∧
    t.net.switchAt.look p = none ∧ t.getB (intK pNET) 2 = true ∧ TellsIn [] [R.NET_PORT_PLAN_STATUS p] s t) ∧
  -- GATE_CHANGE shows the entry of the plan that device time lies in
  (∀ (s : State) (p : Nat) (x : Plan),
    p < 8 → s.plan? p = some x →
    ∃ t, exec (.gateChange p) s = .next t ∧ t.getF (R.NET_PORT_PLAN_STATUS p) 16 13 = (x.at_ s.devTime).1 % 2 ^ 13 ∧
    RegsBut [R.NET_PORT_PLAN_STATUS p] s t ∧ Only [.regs] s t)

/-- Ozmen links train, lose lanes, fail and return, and tell their state; epochs of the tables: as each clause says (R397, R398, R399, R400, R405, R411, R416, R417). -/
def Obligations.LinkStates : Prop :=
  -- LINK_ENABLE starts the training of a link
  (∀ (s : State) (l : Nat) (v : Word),
    l < 4 → s.getF (ctrlK pCRW) 0 4 = 0 → fld v 0 4 = 2 ^ l → s.linkState l = 0 →
    ∃ t, exec (.linkEnable v) s = .next t ∧ t.linkState l = 1 ∧ t.getF (ctrlK pCRW) 0 4 = 2 ^ l ∧ t.out.head? = some (.train false l) ∧
    TellsIn [] [R.CRW_LINK_STATUS l] s t) ∧
  -- with its bit cleared the link is DOWN
  (∀ (s : State) (l : Nat) (v : Word),
    l < 4 → fld v 0 4 = 0 → s.getF (ctrlK pCRW) 0 4 = 2 ^ l →
    ∃ t, exec (.linkEnable v) s = .next t ∧ t.linkState l = 0 ∧ t.getF (R.CRW_LINK_STATUS l) 4 3 = 0 ∧ t.getF (ctrlK pCRW) 0 4 = 0 ∧
    TellsIn [] [R.CRW_LINK_STATUS l] s t) ∧
  -- LINK_RETRAIN trains it fully
  (∀ (s : State) (l : Nat) (v : Word),
    l < 4 → bit v 0 = true →
    ∃ t, exec (.linkRetrain l v) s = .next t ∧ t.linkState l = 1 ∧ t.out.head? = some (.train false l) ∧ TellsIn [] [R.CRW_LINK_STATUS l] s t) ∧
  -- LINK_TRAIN_DONE with four good lanes brings the link UP, records its partner and takes the lower rate of the two ends
  (∀ (s : State) (l : Nat) (inv dev pl d : Nat) (r ph : Bool),
    l < 4 → s.linkState l = 1 → s.idle.selfRefresh = false → dev < 4096 → pl < 4 → d < 65536 → inv < 16 → 0 < s.xoffAt →
    (∀ v ∈ List.range 8, s.vlHeld l v = 0) →
    ∃ t, exec (.linkTrainDone l (.lanes 15 inv r ph dev pl d)) s = .next t ∧ t.linkState l = 2 ∧ t.getF (R.CRW_LINK_STATUS l) 4 3 = 4 ∧
    t.excludedLanes l = 0 ∧ t.getF (R.CRW_LINK_STATUS l) 12 4 = inv ∧ t.getB (R.CRW_LINK_STATUS l) 16 = r ∧ t.rd (R.CRW_LINK_PEER l) = word (dev + 4096 * pl + 32768) ∧
    t.rd (R.CRW_LINK_DELAY l) = word d ∧
    t.getB (statusK pCRW) l = true ∧ (l ∈ t.crw.halfRate ↔ ph = true ∨ s.reduced = true) ∧ t.crw = { s.crw with halfRate := t.crw.halfRate } ∧
    TellsIn [.crw] [R.CRW_LINK_STATUS l, R.CRW_LINK_PEER l, R.CRW_LINK_DELAY l, R.CRW_WIDTH_CHANGES] s t) ∧
  -- of a link wired wrongly it is MISWIRED and logged
  (∀ (s : State) (l : Nat),
    l < 4 → s.linkState l = 1 →
    ∃ t, exec (.linkTrainDone l .miswired) s = .next t ∧ t.linkState l = 4 ∧ t.rd (R.CRW_LINK_PEER l) = 0 ∧ t.getB (intK pCRW) 2 = true ∧
    t.getB (intK pCRW) 31 = true ∧ TellsIn [] [R.CRW_LINK_STATUS l, R.CRW_LINK_PEER l, R.CRW_WIDTH_CHANGES] s t) ∧
  -- LINK_TRAIN_RETRY of a link without a partner trains again
  (∀ (s : State) (l : Nat),
    l < 4 → s.getB (ctrlK pCRW) l = true → (s.linkState l = 0 ∨ s.linkState l = 4) →
    ∃ t, exec (.linkTrainRetry l) s = .next t ∧ t.linkState l = 1 ∧ t.out.head? = some (.train false l) ∧ TellsIn [] [R.CRW_LINK_STATUS l] s t) ∧
  -- LANE_EXCLUDE takes the lane out and changes width
  (∀ (s : State) (l : Nat) (k n : Nat) (f : Fec),
    l < 4 → k < 4 → s.linkState l = 2 → bitOf (s.excludedLanes l) k = false → 1 < widthOf (s.excludedLanes l) →
    ∃ t, exec (.laneExclude l k n f) s = .next t ∧ t.linkState l = 3 ∧ bitOf (t.excludedLanes l) k = true ∧ t.getF (R.CRW_LINK_STATUS l) 4 3 + 1 = widthOf (s.excludedLanes l) ∧
    t.getB (intK pCRW) 1 = true ∧ t.rd (R.CRW_LCRC_ERR) = word (min 0xFFFFFFFF ((s.rd (R.CRW_LCRC_ERR)).toNat + n)) ∧
    TellsIn [] [R.CRW_LINK_STATUS l, R.CRW_LCRC_ERR, R.CRW_FEC_CORR, R.CRW_FEC_UNCORR, R.CRW_WIDTH_CHANGES] s t) ∧
  -- WIDTH_CHANGE_DONE resumes the link
  (∀ (s : State) (l : Nat),
    l < 4 → s.linkState l = 3 →
    ∃ t, exec (.widthChangeDone l) s = .next t ∧ t.linkState l = 2 ∧ t.getB (statusK pCRW) l = true ∧ TellsIn [] [R.CRW_LINK_STATUS l] s t) ∧
  -- LINK_TIMEOUT takes the link down, logs it and trains it again
  (∀ (s : State) (l : Nat),
    l < 4 → (s.linkState l = 2 ∨ s.linkState l = 3) → s.crw.route = [] →
    ∃ t, exec (.linkTimeout l) s = .next t ∧ t.linkState l = 1 ∧ t.getF (R.CRW_LINK_STATUS l) 4 3 = 0 ∧ t.getB (intK pCRW) 31 = true ∧
    t.out.head? = some (.train false l) ∧ TellsIn [] [R.CRW_LINK_STATUS l] s t) ∧
  -- and every path over it becomes unhealthy
  (∀ (s : State) (l : Nat) (d n : Nat),
    l < 4 → s.linkState l = 2 → d < 4096 → n < 4 → s.routed d = true → (s.pathOf d n).1 = 1 → bitsOf (s.pathOf d n).2.2.1 15 3 = l →
    ∃ t, exec (.linkTimeout l) s = .next t ∧ (t.pathSt d n).down = true) ∧
  -- CONTROL_BLOCK_SEND sends a block on an UP link
  (∀ (s : State) (l : Nat),
    s.linkState l = 2 →
    ∃ t, exec (.controlBlockSend l) s = .next t ∧ t = s.emit (.idleBlock l)) ∧
  -- XOFF_REPEAT repeats an XOFF that holds
  (∀ (s : State) (l : Nat) (v : Nat),
    8 * l + v ∈ s.crw.xoffSent → s.linkState l = 2 →
    ∃ t, exec (.xoffRepeat l v) s = .next t ∧ t.out.head? = some (.control l v true) ∧ t.crw.xoffSent = s.crw.xoffSent ∧
    Told s t) ∧
  -- XOFF_RECEIVE stops or starts a VL
  (∀ (s : State) (l : Nat) (v : Nat) (x : Bool),
    v < 8 →
    ∃ t, exec (.xoffReceive l v x) s = .next t ∧ (8 * l + v ∈ t.crw.xoffReceived ↔ x = true) ∧ (∀ k ∈ s.crw.xoffReceived, k ≠ 8 * l + v → k ∈ t.crw.xoffReceived) ∧
    Only [.crw] s t) ∧
  -- EPOCH_WRITE makes a version valid whose tables are loaded
  (∀ (s : State) (v : Word),
    fld v 0 1 = s.getF R.CRW_EPOCH 0 1 → (bit v (1 + fld v 0 1) = true ∨ s.getB R.CRW_EPOCH (1 + fld v 0 1) = false) →
    (∀ i ∈ List.range 2, bit v (1 + i) = true → s.getB R.CRW_EPOCH (1 + i) = true ∨ (i ∈ s.crw.loaded ∧ 2 + i ∈ s.crw.loaded)) →
    ∃ t, exec (.epochWrite v) s = .next t ∧ t.rd R.CRW_EPOCH = v &&& 7 ∧ RegsBut [R.CRW_EPOCH] s t ∧ Only [.regs] s t) ∧
  -- and one whose tables are not is refused
  (∀ (s : State) (v : Word),
    bit v 2 = true → s.getB R.CRW_EPOCH 2 = false → 1 ∉ s.crw.loaded →
    ∃ t, exec (.epochWrite v) s = .next t ∧ t.rd R.CRW_EPOCH = s.rd R.CRW_EPOCH ∧ t.getB (intK pCRW) 3 = true ∧ t.getB (intK pCRW) 31 = true ∧
    Told s t)

/-- Ozmen packets are delivered, forwarded, dropped and sent, and tables are stored, loaded and saved, as each clause says (R401, R402, R403, R405, R407, R408, R410, R412, R413). -/
def Obligations.OzmenPacketsAndTables : Prop :=
  -- OZMEN_PACKET_RECEIVE gives YDT a packet that ends here and passes every step
  (∀ (s : State) (l : Nat) (p : OzPkt) (f : Fec) (k : Pkt),
    l < 4 → s.linkState l = 2 → s.boot.breach = 0 → p.hcrcOk = true → p.formed = true → s.vlHeld l p.vl + OzPkt.bytes p ≤ 20480 →
    p.hop + 1 = p.hops → p.dst = s.devId → s.epochValid p.epoch = true → s.partitionOk p.epoch p.partition l none = true →
    p.lcrc = .good → p.body = .ydt k → p.ce = false → s.vlHeld l p.vl < s.getF R.CRW_CE_THRESH 0 15 → k.crcOk = true →
    k.formed = true → k.dstDev = s.devId → s.expired k = false →
    ∃ t, exec (.ozmenPacketReceive l p f) s = .next t ∧ t.ydt.rx = s.ydt.rx ++ [⟨{ k with ce := false }, none, some (l, p.vl, OzPkt.bytes p)⟩] ∧
    t.rd (R.CRW_RX_PACKETS l) = word (min 0xFFFFFFFF ((s.rd (R.CRW_RX_PACKETS l)).toNat + 1)) ∧ TellsIn [.ydt] [R.CRW_RX_PACKETS l, R.CRW_FEC_CORR, R.CRW_FEC_UNCORR] s t) ∧
  -- a header that is wrong is counted and dropped
  (∀ (s : State) (l : Nat) (p : OzPkt) (f : Fec),
    l < 4 → s.linkState l = 2 → s.boot.breach = 0 → (p.hcrcOk = false ∨ p.formed = false) →
    ∃ t, exec (.ozmenPacketReceive l p f) s = .next t ∧ t.rd (R.CRW_HDR_ERR) = word (min 0xFFFFFFFF ((s.rd (R.CRW_HDR_ERR)).toNat + 1)) ∧
    t.ydt = s.ydt ∧ t.crw = s.crw ∧ TellsIn [] [R.CRW_HDR_ERR, R.CRW_RX_PACKETS l, R.CRW_FEC_CORR, R.CRW_FEC_UNCORR] s t) ∧
  -- one outside the link's partitions is too
  (∀ (s : State) (l : Nat) (p : OzPkt) (f : Fec),
    l < 4 → s.linkState l = 2 → s.boot.breach = 0 → p.hcrcOk = true → p.formed = true → s.vlHeld l p.vl + OzPkt.bytes p ≤ 20480 →
    p.hop + 1 = p.hops → p.dst = s.devId → s.epochValid p.epoch = true → s.partitionOk p.epoch p.partition l none = false →
    ∃ t, exec (.ozmenPacketReceive l p f) s = .next t ∧ t.rd (R.CRW_PARTITION_DROP) = word (min 0xFFFFFFFF ((s.rd (R.CRW_PARTITION_DROP)).toNat + 1)) ∧
    t.ydt = s.ydt ∧ TellsIn [] [R.CRW_PARTITION_DROP, R.CRW_RX_PACKETS l, R.CRW_FEC_CORR, R.CRW_FEC_UNCORR] s t) ∧
  -- one that goes on is forwarded at once over an idle link, with its hop counted
  (∀ (s : State) (l : Nat) (p : OzPkt) (f : Fec),
    l < 4 → s.linkState l = 2 → s.boot.breach = 0 → p.hcrcOk = true → p.formed = true → s.vlHeld l p.vl + OzPkt.bytes p ≤ 20480 →
    p.hop + 1 < p.hops → p.out (p.hop + 1) ≠ l → p.out (p.hop + 1) < 4 → s.linkState (p.out (p.hop + 1)) = 2 → s.epochValid p.epoch = true →
    s.partitionOk p.epoch p.partition l (some (p.out (p.hop + 1))) = true → p.lcrc = .good → p.ce = false → s.vlHeld l p.vl < s.getF R.CRW_CE_THRESH 0 15 →
    s.crw.tx = [] → 8 * p.out (p.hop + 1) + p.vl ∉ s.crw.xoffReceived →
    ∃ t, exec (.ozmenPacketReceive l p f) s = .next t ∧ t.out.head? = some (.ozmen (p.out (p.hop + 1)) (p.forwarded (p.hop + 1) false .good).head (p.forwarded (p.hop + 1) false .good)) ∧
    t.rd (R.CRW_CUT_THROUGH) = word (min 0xFFFFFFFF ((s.rd (R.CRW_CUT_THROUGH)).toNat + 1)) ∧ t.ydt = s.ydt ∧ t.crw.tx = [] ∧
    TellsIn [] [R.CRW_CUT_THROUGH, R.CRW_RX_PACKETS l, R.CRW_FEC_CORR, R.CRW_FEC_UNCORR] s t) ∧
  -- a member that has refused its crew accepts none
  (∀ (s : State) (l : Nat) (p : OzPkt) (f : Fec),
    s.boot.breach ≠ 0 →
    ∃ t, exec (.ozmenPacketReceive l p f) s = .next t ∧ t = s) ∧
  -- OZMEN_TRANSMIT sends a packet of a VL that holds XON
  (∀ (s : State) (l : Nat) (x : TxOz),
    s.linkState l = 2 → s.boot.breach = 0 → s.crw.tx = [x] → x.link = l → x.vl < 8 → x.input = 4 → 8 * l + x.vl ∉ s.crw.xoffReceived →
    ∃ t, exec (.ozmenTransmit l) s = .next t ∧ t.out = .ozmen l x.pkt.head x.pkt :: s.out ∧ t.crw.tx = [] ∧ Only [.out, .crw] s t) ∧
  -- and none of a VL that holds XOFF
  (∀ (s : State) (l : Nat),
    (∀ x ∈ s.crw.tx, x.link = l → 8 * l + x.vl ∈ s.crw.xoffReceived) →
    ∃ t, exec (.ozmenTransmit l) s = .next t ∧ t = s) ∧
  -- HEAD_DROP drops and counts a forwarded packet that has waited too long
  (∀ (s : State) (l v i : Nat) (x : TxOz),
    i < 4 → s.crw.tx = [x] → x.link = l → x.vl = v → x.input = i →
    ∃ t, exec (.headDrop l v i) s = .next t ∧ t.crw.tx = [] ∧ t.rd (R.CRW_HEAD_DROP) = word (min 0xFFFFFFFF ((s.rd (R.CRW_HEAD_DROP)).toNat + 1)) ∧
    t.ydt = s.ydt ∧ SameMem s t) ∧
  -- TABLE_XFER of a function that is not the manager is denied
  (∀ (s : State) (op : Nat) (o : Op) (hv : HostView),
    s.runnable op [0x74] = some o → s.op? op = some o → o.issued = false → s.coreUp coreTransport = true → o.fn ≠ 0 →
    ∃ t, exec (.tableXfer op hv) s = .next t ∧ Ended t op stDenied 0 ∧ t.crw = s.crw ∧ t.net = s.net ∧ SameMem s t) ∧
  -- a load of the partition table enters its entries
  (∀ (s : State) (op : Nat) (o : Op) (hv : HostView) (p : Nat),
    s.runnable op [0x74] = some o → s.op? op = some o → o.issued = false → s.coreUp coreTransport = true → o.fn = 0 →
    s.tableBad (tableArgs o.desc) = none → (tableArgs o.desc).table = tablePart → (tableArgs o.desc).store = false →
    0 < (tableArgs o.desc).count → DevRange s hv 0 (tableArgs o.desc).image p (4 * (tableArgs o.desc).count) false →
    hv.ce = [] →
    ∃ t, exec (.tableXfer op hv) s = .next t ∧ t.crw.part = putWords s.crw.part (256 * (tableArgs o.desc).ver + (tableArgs o.desc).first) 4 (tableArgs o.desc).count (s.drams p (4 * (tableArgs o.desc).count)) ∧
    t.crw.route = s.crw.route ∧ Ended t op stOK (tableArgs o.desc).count ∧ SameMem s t) ∧
  -- a store writes them out, and nothing else
  (∀ (s : State) (op : Nat) (o : Op) (hv : HostView) (p : Nat),
    s.runnable op [0x74] = some o → s.op? op = some o → o.issued = false → s.coreUp coreTransport = true → o.fn = 0 →
    s.tableBad (tableArgs o.desc) = none → (tableArgs o.desc).table = tablePart → (tableArgs o.desc).store = true →
    0 < (tableArgs o.desc).count → DevRange s hv 0 (tableArgs o.desc).image p (4 * (tableArgs o.desc).count) true →
    hv.ce = [] →
    ∃ t, exec (.tableXfer op hv) s = .next t ∧ t.drams p (4 * (tableArgs o.desc).count) = s.tableImage tablePart (tableArgs o.desc).ver (tableArgs o.desc).first (tableArgs o.desc).count ∧
    MemBut p (4 * (tableArgs o.desc).count) s t ∧ t.crw = s.crw ∧ Ended t op stOK (tableArgs o.desc).count) ∧
  -- TABLE_SAVE writes the tables that are due to flash
  (∀ (s : State),
    s.net.saveDue = [(0, 0)] → s.coreUp coreTransport = true → s.coreUp 0 = true →
    ∃ t, exec .tableSave s = .next t ∧ t.flash = { s.flash with route := versionOf s.crw.route 32768 s.sendEpoch, part := versionOf s.crw.part 256 s.sendEpoch } ∧
    t.net.saveDue = [] ∧ Only [.flash, .net] s t)

/-- Parity is synchronised, unbound, recovered and rescanned: what each ends with and leaves (R454, R458, R459, R461, R462, R463, R467, R469). -/
def Obligations.ParityOperations : Prop :=
  -- paritySync sends no granule whose holder is lost, counts each, and ends
  (∀ (s : State) (op : Nat) (o : Op) (k : Nat) (b : Binding) (hv : HostView) (ps : List Part),
    s.runnable op [0x75] = some o → s.op? op = some o → o.issued = false → o.st = .running → o.aux = [] → o.progress = 0 →
    parAction o.desc = 0 → farAddr (dQuad o.desc 0x10) = false → dQuad o.desc 0x10 % 256 = 0 → s.orderWait op o = false →
    s.opBinding o = some (k, b) → ((boundParts ⟨hv, descTags o.desc⟩ o.fn op b.st).run s).1.toOption = some ps →
    (∀ p ∈ ps, s.memberLost (holderOf s.parN s.member p.granule) = true) →
    ∃ t, exec (.paritySync op hv) s = .next t ∧ Ended t op stOK 0 ∧ t.rd (R.CTX_PAR_SKIP_COUNT) = word (min 0xFFFFFFFF ((s.rd (R.CTX_PAR_SKIP_COUNT)).toNat + ps.length)) ∧
    t.ydt = s.ydt ∧ t.par = s.par ∧ SameMem s t) ∧
  -- parityUnbind sends no granule whose holder is lost, counts each, and ends with the binding gone
  (∀ (s : State) (op : Nat) (o : Op) (k : Nat) (b : Binding) (hv : HostView) (ps : List Part),
    s.runnable op [0x75] = some o → s.op? op = some o → o.issued = false → o.st = .running → o.aux = [] → o.progress = 0 →
    parAction o.desc = 3 → farAddr (dQuad o.desc 0x10) = false → dQuad o.desc 0x10 % 256 = 0 → s.orderWait op o = false →
    s.opBinding o = some (k, b) → ((boundParts ⟨hv, descTags o.desc⟩ o.fn op b.st).run s).1.toOption = some ps →
    (∀ p ∈ ps, s.memberLost (holderOf s.parN s.member p.granule) = true) → s.headerPa o = some b.st.pa →
    ∃ t, exec (.parityUnbind op hv) s = .next t ∧ Ended t op stOK 0 ∧ t.rd (R.CTX_PAR_SKIP_COUNT) = word (min 0xFFFFFFFF ((s.rd (R.CTX_PAR_SKIP_COUNT)).toNat + ps.length)) ∧
    t.ydt = s.ydt ∧ (∀ e ∈ t.par.bindings, ¬ (e.2.fn = o.fn ∧ e.2.st.pa = b.st.pa))) ∧
  -- another ACTION is INVALID
  (∀ (s : State) (op : Nat) (o : Op) (hv : HostView),
    s.runnable op [0x75] = some o → s.op? op = some o → o.issued = false → 4 < parAction o.desc →
    ∃ t, exec (.paritySync op hv) s = .next t ∧ Ended t op stInvalid (invalidAt 0x18) ∧ t.par = s.par ∧ SameMem s t) ∧
  -- paritySync of a header that is not aligned is INVALID
  (∀ (s : State) (op : Nat) (o : Op) (hv : HostView),
    s.runnable op [0x75] = some o → s.op? op = some o → o.issued = false → parAction o.desc = 0 → farAddr (dQuad o.desc 0x10) = false →
    dQuad o.desc 0x10 % 256 ≠ 0 →
    ∃ t, exec (.paritySync op hv) s = .next t ∧ Ended t op stInvalid (invalidAt 0x10) ∧ t.par = s.par ∧ SameMem s t) ∧
  -- recoverLandmarks of a header that is not aligned is INVALID
  (∀ (s : State) (op : Nat) (o : Op) (hv : HostView),
    s.runnable op [0x75] = some o → s.op? op = some o → o.issued = false → parAction o.desc = 1 → farAddr (dQuad o.desc 0x10) = false →
    dQuad o.desc 0x10 % 256 ≠ 0 →
    ∃ t, exec (.recoverLandmarks op hv) s = .next t ∧ Ended t op stInvalid (invalidAt 0x10) ∧ t.par = s.par ∧ SameMem s t) ∧
  -- recoveryDone of a header that is not aligned is INVALID
  (∀ (s : State) (op : Nat) (o : Op) (hv : HostView),
    s.runnable op [0x75] = some o → s.op? op = some o → o.issued = false → parAction o.desc = 2 → farAddr (dQuad o.desc 0x10) = false →
    dQuad o.desc 0x10 % 256 ≠ 0 →
    ∃ t, exec (.recoveryDone op hv) s = .next t ∧ Ended t op stInvalid (invalidAt 0x10) ∧ t.par = s.par ∧ SameMem s t) ∧
  -- recoverBlocks of a header that is not aligned is INVALID
  (∀ (s : State) (op : Nat) (o : Op),
    s.runnable op [0x75] = some o → s.op? op = some o → o.issued = false → parAction o.desc = 2 → farAddr (dQuad o.desc 0x10) = false →
    dQuad o.desc 0x10 % 256 ≠ 0 →
    ∃ t, exec (.recoverBlocks op) s = .next t ∧ Ended t op stInvalid (invalidAt 0x10) ∧ t.par = s.par ∧ SameMem s t) ∧
  -- parityUnbind of a header that is not aligned is INVALID
  (∀ (s : State) (op : Nat) (o : Op) (hv : HostView),
    s.runnable op [0x75] = some o → s.op? op = some o → o.issued = false → parAction o.desc = 3 → farAddr (dQuad o.desc 0x10) = false →
    dQuad o.desc 0x10 % 256 ≠ 0 →
    ∃ t, exec (.parityUnbind op hv) s = .next t ∧ Ended t op stInvalid (invalidAt 0x10) ∧ t.par = s.par ∧ SameMem s t) ∧
  -- RECOVER_LANDMARKS of a stretch with nothing lost writes each layer's tail record as rebuilt from its open block
  (∀ (s : State) (op : Nat) (o : Op) (k : Nat) (b : Binding) (hv : HostView),
    s.runnable op [0x75] = some o → s.op? op = some o → o.issued = false → o.st = .running → o.aux = [] → o.progress = 0 →
    parAction o.desc = 1 → farAddr (dQuad o.desc 0x10) = false → dQuad o.desc 0x10 % 256 = 0 → s.orderWait op o = false →
    s.opBinding o = some (k, b) → b.st.recovery = false → ((do let es ← (List.range b.st.layers).mapM (fun l => layerEntry ⟨hv, descTags o.desc⟩ o.fn b.st l false); let ws ← tailWrites ⟨hv, descTags o.desc⟩ o.fn b.st es; commitWrites ⟨hv, descTags o.desc⟩ o.fn ws : CtxM Unit).run s).1.isOk = true →
    ∃ t, exec (.recoverLandmarks op hv) s = .next t ∧ Ended t op stOK 0 ∧ SameMem ((do let es ← (List.range b.st.layers).mapM (fun l => layerEntry ⟨hv, descTags o.desc⟩ o.fn b.st l false); let ws ← tailWrites ⟨hv, descTags o.desc⟩ o.fn b.st es; commitWrites ⟨hv, descTags o.desc⟩ o.fn ws : CtxM Unit).run s).2 t ∧
    t.par = s.par) ∧
  -- RECOVER_BLOCKS with no granule left asks for nothing
  (∀ (s : State) (op : Nat) (o : Op) (k : Nat) (b : Binding),
    s.runnable op [0x75] = some o → s.op? op = some o → o.issued = false → o.st = .running → o.aux = [] → o.progress = 0 →
    parAction o.desc = 2 → farAddr (dQuad o.desc 0x10) = false → dQuad o.desc 0x10 % 256 = 0 → s.orderWait op o = false →
    s.opBinding o = some (k, b) → b.blocksLeft = [] → 0 < s.getF R.CTX_PAR_REBUILD_RATE 0 16 →
    ∃ t, exec (.recoverBlocks op) s = .next t ∧ t.ops = s.ops ∧ t.ydt = s.ydt ∧ t.par = s.par ∧ SameMem s t) ∧
  -- else it asks the holder of the next granule for it
  (∀ (s : State) (op : Nat) (o : Op) (k : Nat) (b : Binding) (g : Nat) (r : List Nat),
    s.runnable op [0x75] = some o → s.op? op = some o → o.issued = false → o.st = .running → o.aux = [] → o.progress = 0 →
    parAction o.desc = 2 → farAddr (dQuad o.desc 0x10) = false → dQuad o.desc 0x10 % 256 = 0 → s.orderWait op o = false →
    s.opBinding o = some (k, b) → b.blocksLeft = g :: r → 0 < s.getF R.CTX_PAR_REBUILD_RATE 0 16 → s.par.bindings.look k = some b →
    s.ydt.xfers = [] → holderOf s.parN b.st.srcMember g ≠ s.member → s.memberLost (holderOf s.parN b.st.srcMember g) = false →
    s.endpointOn 0 = true → s.encrypts 0 = false → s.routed (s.memberDev (holderOf s.parN b.st.srcMember g)) = true →
    ∃ t, exec (.recoverBlocks op) s = .next t ∧ (t.ydt.xfers.vals.map (fun x => (x.owner, x.kind, x.dev, x.off))) = [(.repair op k g true, tyReadReq, s.memberDev (holderOf s.parN b.st.srcMember g), b.st.srcMember * 2 ^ 40 + g * 131072)] ∧
    t.ops = s.ops ∧ SameMem s t) ∧
  -- RECOVERY_DONE clears RECOVERY in the header and the binding and ends the operation
  (∀ (s : State) (op : Nat) (o : Op) (k : Nat) (b : Binding) (hv : HostView) (p : Nat),
    s.runnable op [0x75] = some o → s.op? op = some o → o.issued = false → o.st = .running → o.aux = [] → o.progress = 0 →
    parAction o.desc = 2 → farAddr (dQuad o.desc 0x10) = false → dQuad o.desc 0x10 % 256 = 0 → s.orderWait op o = false →
    s.opBinding o = some (k, b) → b.blocksLeft = [] → DevRange s hv o.fn (dQuad o.desc 0x10 + 0x48) p 4 true → DevRange s hv o.fn (dQuad o.desc 0x10 + 0x48) p 4 false →
    hv.ce = [] →
    ∃ t, exec (.recoveryDone op hv) s = .next t ∧ Ended t op stOK 0 ∧ t.drams p 4 = leBytes 4 (putBits (leNat (s.drams p 4)) 3 1 0) ∧
    MemBut p 4 s t ∧ (t.par.bindings.look k).map (fun y => y.st.recovery) = some false) ∧
  -- RESCAN of a function that is not the manager is denied
  (∀ (s : State) (op : Nat) (o : Op) (hv : HostView),
    s.runnable op [0x75] = some o → s.op? op = some o → o.issued = false → parAction o.desc = 4 → s.par.rescan = none →
    o.fn ≠ 0 →
    ∃ t, exec (.rescan op hv) s = .next t ∧ Ended t op stDenied 0 ∧ t.par = s.par ∧ SameMem s t) ∧
  -- of lines beyond CTX_PAR_LINES INVALID
  (∀ (s : State) (op : Nat) (o : Op) (hv : HostView),
    s.runnable op [0x75] = some o → s.op? op = some o → o.issued = false → parAction o.desc = 4 → s.par.rescan = none →
    o.fn = 0 → s.parLines < (dWord o.desc 0x1C + dWord o.desc 0x20) →
    ∃ t, exec (.rescan op hv) s = .next t ∧ Ended t op stInvalid (invalidAt 0x20) ∧ t.par = s.par ∧ SameMem s t) ∧
  -- of no line it ends at once
  (∀ (s : State) (op : Nat) (o : Op) (hv : HostView),
    s.runnable op [0x75] = some o → s.op? op = some o → o.issued = false → parAction o.desc = 4 → s.par.rescan = none →
    o.fn = 0 → (dWord o.desc 0x1C + dWord o.desc 0x20) ≤ s.parLines → dWord o.desc 0x20 = 0 →
    ∃ t, exec (.rescan op hv) s = .next t ∧ Ended t op stOK 0 ∧ t.par = s.par ∧ SameMem s t) ∧
  -- else it starts at its first line, and CTX_PAR_STATE says so
  (∀ (s : State) (op : Nat) (o : Op) (hv : HostView),
    s.runnable op [0x75] = some o → s.op? op = some o → o.issued = false → parAction o.desc = 4 → s.par.rescan = none →
    o.fn = 0 → (dWord o.desc 0x1C + dWord o.desc 0x20) ≤ s.parLines → 0 < dWord o.desc 0x20 → s.par.stages = [] →
    0 < s.getF R.CTX_PAR_REBUILD_RATE 0 16 → s.ydt.xfers = [] → s.rescanFrom = [] →
    ∃ t, exec (.rescan op hv) s = .next t ∧ t.par.rescan = some ⟨op, dWord o.desc 0x1C, dWord o.desc 0x20, 0, s.getF R.CTX_PAR_LOST 0 8⟩ ∧
    t.par.stages.vals.map Stage.line = [dWord o.desc 0x1C] ∧ t.getF R.CTX_PAR_STATE 0 2 = 3 ∧ t.getF R.CTX_PAR_RESCAN_POS 0 23 = 0 ∧
    SameMem s t) ∧
  -- RESCAN_DONE after the last line ends it
  (∀ (s : State) (x : Rescan) (o : Op),
    s.par.rescan = some x → s.op? x.op = some o → o.issued = false → x.count ≤ x.done →
    ∃ t, exec .rescanDone s = .next t ∧ Ended t x.op stOK 0 ∧ t.par.rescan = none ∧ t.getF R.CTX_PAR_STATE 0 2 ≠ 3 ∧
    SameMem s t) ∧
  -- over every line it marks the lost members RESCANNED
  (∀ (s : State) (x : Rescan) (m : Nat),
    s.par.rescan = some x → x.count ≤ x.done → x.first = 0 → x.count = s.parLines → m < 8 → bitOf x.lost m = true →
    ∃ t, exec .rescanDone s = .next t ∧ t.rescanned m = true)

/-- Members are lost and declared, parity is controlled, and DRAM and SRAM errors are repaired, as each clause says (R451, R452, R464, R465, R467, R468, R547). -/
def Obligations.LostMembersAndMemoryErrors : Prop :=
  -- MEMBER_LOSS_DETECT marks a member without link, packet or path LOST
  (∀ (s : State) (m : Nat),
    m < s.parN → m ≠ s.member → s.memberDev m ∉ s.peersUp → (s.healthyPaths (s.memberDev m)).isEmpty = true →
    ∃ t, exec (.memberLossDetect m) s = .next t ∧ t.memberLost m = true ∧ TellsIn [] [R.CTX_PAR_LOST, R.CTX_PAR_STATE, R.CTX_PAR_RECON_PENDING] s t) ∧
  -- PAR_DECLARE marks the members it names LOST; its bit 8 withdraws this one
  (∀ (s : State) (v : Word),
    ∃ t, exec (.parDeclare v) s = .next t ∧ (∀ m ∈ List.range 8, t.memberLost m = (s.memberLost m || bit v m)) ∧ t.par = { s.par with withdrawn := s.par.withdrawn || bit v 8 } ∧
    TellsIn [.par] [R.CTX_PAR_LOST, R.CTX_PAR_STATE, R.CTX_PAR_RECON_PENDING] s t) ∧
  -- PAR_WITHDRAW marks the members it names LOST; its bit 8 withdraws this one
  (∀ (s : State) (v : Word),
    ∃ t, exec (.parWithdraw v) s = .next t ∧ (∀ m ∈ List.range 8, t.memberLost m = (s.memberLost m || bit v m)) ∧
    t.par = { s.par with withdrawn := s.par.withdrawn || bit v 8 } ∧ TellsIn [.par] [R.CTX_PAR_LOST, R.CTX_PAR_STATE, R.CTX_PAR_RECON_PENDING] s t) ∧
  -- PAR_LOST_CLEAR clears the bits written, in RESCANNED too
  (∀ (s : State) (v : Word),
    ∃ t, exec (.parLostClear v) s = .next t ∧ (∀ m ∈ List.range 8, t.memberLost m = (s.memberLost m && !bit v m) ∧ t.rescanned m = (s.rescanned m && !bit v m)) ∧
    RegsBut [R.CTX_PAR_LOST, R.CTX_PAR_STATE, R.CTX_PAR_RECON_PENDING] s t ∧ Only [.regs] s t) ∧
  -- PAR_CTRL_WRITE enables parity over device pages
  (∀ (s : State) (v : Word),
    s.parOn = false → s.devicePages 0 s.parBase (131072 * s.parLines) = true →
    ∃ t, exec (.parCtrlWrite 0 v) s = .next t ∧ t.rd R.CTX_PAR_CTRL = v &&& 0xFFFF7F01 ∧ RegsBut [R.CTX_PAR_CTRL, R.CTX_PAR_STATE, R.CTX_PAR_RECON_PENDING] s t ∧
    Only [.regs] s t) ∧
  -- while a stretch is bound it stays enabled
  (∀ (s : State) (v : Word),
    s.parOn = true → bit v 0 = false →
    ∃ t, exec (.parCtrlWrite 0 v) s = .next t ∧ t.parOn = !s.par.bindings.isEmpty ∧ RegsBut [R.CTX_PAR_CTRL, R.CTX_PAR_STATE, R.CTX_PAR_RECON_PENDING] s t) ∧
  -- and its base and lines cannot be written then
  (∀ (s : State) (r : Nat) (v : Word),
    s.parOn = true → (r = 1 ∨ r = 2 ∨ r = 3) →
    ∃ t, exec (.parCtrlWrite r v) s = .next t ∧ t = s) ∧
  -- else they can
  (∀ (s : State) (v : Word),
    s.parOn = false →
    ∃ t, exec (.parCtrlWrite 3 v) s = .next t ∧ t.parLines = fld v 0 23 ∧ RegsBut [R.CTX_PAR_LINES] s t) ∧
  -- BURST_REWRITE of a burst corrected again and again writes its data back, so memory reads as before
  (∀ (s : State) (b : Nat),
    s.repeats b = true → s.coreUp 4 = true → s.badBurst b = false → s.idle.selfRefresh = false →
    ∃ t, exec (.burstRewrite b) s = .next t ∧ SameMem s t ∧ t.msys.poison = s.msys.poison ∧ t.msys.ceTrack = s.msys.ceTrack ∧
    TellsIn [.msys] [R.MEM00_CHECK_MISS, R.MEM00_CLASS_BYTES] s t) ∧
  -- and of another burst it does nothing
  (∀ (s : State) (b : Nat),
    s.repeats b = false →
    ∃ t, exec (.burstRewrite b) s = .next t ∧ t = s) ∧
  -- SRAM_PATROL counts a corrected word
  (∀ (s : State) (w : SramWord),
    ∃ t, exec (.sramPatrol w false) s = .next t ∧ t.rd (R.CNT_SRAM_CE_COUNT (sramCode w)) = word (min 0xFFFFFFFF ((s.rd (R.CNT_SRAM_CE_COUNT (sramCode w))).toNat + 1)) ∧
    RegsBut [R.CNT_SRAM_CE_COUNT (sramCode w)] s t ∧ Only [.regs] s t) ∧
  -- an uncorrectable TLB entry is dropped and counted as an error
  (∀ (s : State) (i : Nat),
    i < s.trn.tlb.length →
    ∃ t, exec (.sramPatrol (.tlb i) true) s = .next t ∧ t.trn = { s.trn with tlb := s.trn.tlb.eraseIdx i } ∧ t.rd (errCountK pTRN) = word (min 0xFFFFFFFF ((s.rd (errCountK pTRN)).toNat + 1)) ∧
    t.getB (intK pTRN) 31 = true ∧ TellsIn [.trn, .freeCtr] [errCountK pTRN] s t) ∧
  -- an uncorrectable key slot is erased
  (∀ (s : State) (i : Nat),
    s.slotState i = 1 →
    ∃ t, exec (.sramPatrol (.keySlot i) true) s = .next t ∧ t.slotState i = 2 ∧ t.sec.key.look i = none)

/-- Clocks move by steps below a rail that is high enough; the power model is made, trimmed and judged; points follow phases; maxima are tested (R472, R474, R475, R476, R478, R479, R482, R483, R492, R494). -/
def Obligations.ClocksAndModel : Prop :=
  -- CLOCK_STEP raises a clock by at most 50 MHz once the rail is at the new voltage
  (∀ (s : State) (n : Nat),
    n < 16 → s.pwr.stretched.contains n = false → s.clockOf n < s.targetOf n → voltFor (s.clusterLimit n) (s.targetOf n) ≤ s.getF R.PWR_VCORE 0 10 →
    ∃ t, exec (.clockStep n) s = .next t ∧ t.clockOf n = min (s.targetOf n) (s.clockOf n + 50) ∧ (∀ c ∈ List.range 16, c ≠ n → t.clockOf c = s.clockOf c) ∧
    TellsIn [.pwr] [R.PWR_CLUSTER_CLOCK n] s t) ∧
  -- it lowers one without a wait
  (∀ (s : State) (n : Nat),
    n < 16 → s.pwr.stretched.contains n = false → s.targetOf n < s.clockOf n →
    ∃ t, exec (.clockStep n) s = .next t ∧ t.clockOf n = max (s.targetOf n) (s.clockOf n - 50) ∧ TellsIn [.pwr] [R.PWR_CLUSTER_CLOCK n] s t) ∧
  -- a stretched clock, or one at its target, does not move
  (∀ (s : State) (n : Nat),
    (s.pwr.stretched.contains n = true ∨ s.clockOf n = s.targetOf n) →
    ∃ t, exec (.clockStep n) s = .next t ∧ t = s) ∧
  -- RAIL_REACHED shows the set point and what is measured
  (∀ (s : State) (mv : Nat),
    mv < 1024 → s.railGoal < 1024 →
    ∃ t, exec (.railReached mv) s = .next t ∧ t.getF R.PWR_VCORE 0 10 = s.railGoal ∧ t.getF R.PWR_VCORE 16 10 = mv ∧
    RegsBut [R.PWR_VCORE] s t ∧ Only [.regs] s t) ∧
  -- POWER_MODEL_TICK takes a measurement into the 1 ms means and shows both powers and their disagreement
  (∀ (s : State) (l : List Nat) (hot : Int) (mv w : Nat),
    mv < 1024 →
    ∃ t, exec (.powerModelTick l hot mv w) s = .next t ∧ t.pwr.window.getLast?.map Prod.fst = some w ∧ t.rd R.PWR_INPUT_POWER = word (min 0xFFFF (fround t.inputMeans.1 100) + 65536 * min 0xFFFF (fround t.inputMeans.2 100)) ∧
    t.getF R.PWR_MODEL_STATUS 8 8 = disagreement t.inputMeans.1 t.inputMeans.2 ∧ t.getF R.PWR_VCORE 16 10 = mv ∧
    RegsBut [R.PWR_INPUT_POWER, R.PWR_MODEL_STATUS, R.PWR_VCORE] s t ∧ Only [.pwr, .regs] s t) ∧
  -- TRIM_TICK above 60% of the cap scales each rail's coefficients by its error
  (∀ (s : State) (l : List Nat),
    s.coreUp corePwr = true → s.pwr.railCount ≠ 0 → flt (s.getF R.PWR_CAP_EFFECTIVE 0 8 * 600, 1) s.inputMeans.1 = true →
    ∃ t, exec (.trimTick l) s = .next t ∧ (∀ r ∈ List.range 6, ∀ p ∈ railParts r, t.coef p = fmul (s.coef p) (trimScale (l.getD r 0, 1) (frac ((s.pwr.railSum.look r).getD (0, 1)).1 (((s.pwr.railSum.look r).getD (0, 1)).2 * s.pwr.railCount)) s.stale)) ∧
    t.pwr.railSum = [] ∧ t.pwr.railCount = 0 ∧ Only [.pwr] s t) ∧
  -- below it the coefficients stay
  (∀ (s : State) (l : List Nat),
    s.coreUp corePwr = true → flt (s.getF R.PWR_CAP_EFFECTIVE 0 8 * 600, 1) s.inputMeans.1 = false →
    ∃ t, exec (.trimTick l) s = .next t ∧ t.pwr.coef = s.pwr.coef ∧ t.pwr.railCount = 0 ∧ Only [.pwr] s t) ∧
  -- COEFFICIENT_SAVE keeps coefficients and operating points in flash
  (∀ (s : State),
    s.coreUp corePwr = true → s.dieUp = true →
    ∃ t, exec .coefficientSave s = .next t ∧ t.flash = { s.flash with coef := s.pwr.coef, need := s.pwr.need } ∧ Only [.flash] s t) ∧
  -- MODEL_STALE marks and tells a model that is off by more than 15%
  (∀ (s : State) (p : Nat),
    15 < p → s.stale = false →
    ∃ t, exec (.modelStale p) s = .next t ∧ t.stale = true ∧ t.getF R.PWR_MODEL_STATUS 8 8 = min 255 p ∧ t.getB R.PWR_CAP_EFFECTIVE 11 = true ∧
    t.getB (intK pPWR) 0 = true ∧ t.getB (intK pPWR) 31 = true ∧ TellsIn [] [R.PWR_MODEL_STATUS, R.PWR_CAP_EFFECTIVE] s t) ∧
  -- MODEL_STALE_CLEAR ends it
  (∀ (s : State) (p : Nat),
    p ≤ 5 → s.stale = true →
    ∃ t, exec (.modelStaleClear p) s = .next t ∧ t.stale = false ∧ t.getF R.PWR_MODEL_STATUS 8 8 = p ∧ t.getB R.PWR_CAP_EFFECTIVE 11 = false ∧
    TellsIn [] [R.PWR_MODEL_STATUS, R.PWR_CAP_EFFECTIVE] s t) ∧
  -- PHASE_UPDATE moves a phase's point a quarter of the way to what its tiles needed
  (∀ (s : State) (b : PhaseObs),
    s.coreUp corePwr = true → b.phase < 6 → b.present ≠ 0 →
    ∃ t, exec (.phaseUpdate [b]) s = .next t ∧ t.needOf b.phase = needStep (s.needOf b.phase) b.clock b.busy b.present s.busyTarget ∧
    (∀ p ∈ List.range 6, p ≠ b.phase → t.needOf p = s.needOf p) ∧
    t.rd (R.PWR_PHASE_POINT b.phase) = word (t.needOf b.phase + 65536 * min 255 (100 * b.busy / b.present)) ∧ RegsBut [R.PWR_PHASE_POINT b.phase] s t ∧
    Only [.pwr, .regs] s t) ∧
  -- CAP_CONTROL_TICK gives every cluster the wanted clock scaled by the largest k that fits in the cap
  (∀ (s : State),
    s.stale = false → s.reduced = false →
    ∃ t, exec .capControlTick s = .next t ∧ (∀ c ∈ List.range 16, t.targetOf c = clockAt (s.wantOf c) ((s.fitK ((List.range 16).map (fun c => s.wantOf c)) (s.getF R.PWR_CAP_EFFECTIVE 0 8)).getD 0)) ∧
    t.getB R.PWR_CAP_EFFECTIVE 12 = (s.fitK ((List.range 16).map (fun c => s.wantOf c)) (s.getF R.PWR_CAP_EFFECTIVE 0 8)).isNone ∧
    t.ops = s.ops ∧ SameMem s t) ∧
  -- with a stale model k moves only at every fifth tick
  (∀ (s : State),
    s.stale = true → s.pwr.periods ≠ 4 →
    ∃ t, exec .capControlTick s = .next t ∧ t.pwr.k = s.pwr.k ∧ (∀ c ∈ List.range 16, t.targetOf c = clockAt (s.wantOf c) s.pwr.k)) ∧
  -- CLUSTER_IDLE_TIMER marks a cluster idle
  (∀ (s : State) (n : Nat),
    n < 16 → s.clusterOps n = [] → s.pwr.idle.contains n = false →
    ∃ t, exec (.clusterIdleTimer n) s = .next t ∧ t.pwr = { s.pwr with idle := s.pwr.idle ++ [n] } ∧ Only [.pwr] s t) ∧
  -- FMAX_RETRAIN makes every tile due and withholds the first for its test
  (∀ (s : State),
    s.getF R.PWR_FMAX_CTRL 0 8 ≠ 0 → s.dieUp = true → (((s.pwr.testing = none ∧ s.idleState = 0) ∧ s.coreUp corePwr = true)) →
    s.tileRetired 0 0 = false →
    ∃ t, exec .fmaxRetrain s = .next t ∧ t.pwr.testing = some 0 ∧ t.pwr.due = (List.range 64).drop 1 ∧ Only [.pwr] s t) ∧
  -- FMAX_START does too, and reads 1 meanwhile
  (∀ (s : State) (v : Word),
    bit v 31 = true → (((s.pwr.testing = none ∧ s.idleState = 0) ∧ s.coreUp corePwr = true)) → s.tileRetired 0 0 = false →
    ∃ t, exec (.fmaxStart v) s = .next t ∧ t.pwr.testing = some 0 ∧ t.getB R.PWR_FMAX_CTRL 31 = true ∧ t.getF R.PWR_FMAX_CTRL 0 8 = fld v 0 8 ∧
    RegsBut [R.PWR_FMAX_CTRL] s t ∧ Only [.pwr, .regs] s t) ∧
  -- without START it only sets the period
  (∀ (s : State) (v : Word),
    bit v 31 = false →
    ∃ t, exec (.fmaxStart v) s = .next t ∧ t.getF R.PWR_FMAX_CTRL 0 8 = fld v 0 8 ∧ t.pwr = s.pwr ∧ RegsBut [R.PWR_FMAX_CTRL] s t) ∧
  -- FMAX_TILE_TEST_DONE takes the tile's tested maximum and logs a fall
  (∀ (s : State) (i : Nat) (p : Option Nat),
    i < 64 → s.pwr.testing = some i → (s.tileAt (i / 4) (i % 4)).units = [] → s.coreUp corePwr = true → 950 ≤ fusedFmax i →
    ∃ t, exec (.fmaxTileTestDone i p) s = .next t ∧ t.tileFmax i = (clampNat 950 (fusedFmax i) (p.getD 950)) ∧ ((clampNat 950 (fusedFmax i) (p.getD 950)) < s.tileFmax i → t.getB (intK pPWR) 3 = true) ∧
    t.targetOf (i / 4) ≤ s.targetOf (i / 4) ∧ t.pwr.testing ≠ some i ∧ t.ops = s.ops ∧ SameMem s t)

/-- The cap follows its sources, droops stretch a clock, temperatures throttle, and pacing lapses, as each clause says (R480, R485, R487, R488, R489, R490, R492, R494). -/
def Obligations.CapDroopAndThermal : Prop :=
  -- CAP_WRITE sets the cap; a change of the effective one is told
  (∀ (s : State) (v : Word),
    ∃ t, exec (.capWrite v) s = .next t ∧ t.getF R.PWR_CAP 0 8 = fld v 0 8 ∧ t.getF R.PWR_CAP_EFFECTIVE 0 8 = t.capNow.1 ∧
    (t.rd R.PWR_CAP_EFFECTIVE ≠ s.rd R.PWR_CAP_EFFECTIVE → t.getB (intK pPWR) 2 = true) ∧ t.pwr = s.pwr ∧ SameMem s t) ∧
  -- MCTP_CAP bounds the effective cap by its own
  (∀ (s : State) (w : Nat),
    s.dieUp = true → 120 ≤ w → w ≤ 220 →
    ∃ t, exec (.mctpCap w) s = .next t ∧ t.pwr = { s.pwr with mctpCap := some w } ∧ t.getF R.PWR_CAP_EFFECTIVE 0 8 = t.capNow.1 ∧
    t.capNow.1 ≤ w) ∧
  -- DROOP_DETECT stretches a cluster's clock, shows and counts it
  (∀ (s : State) (n : Nat),
    n < 16 → s.getB R.PWR_DROOP_CTRL 16 = true → s.pwr.stretched.contains n = false →
    ∃ t, exec (.droopDetect n) s = .next t ∧ t.pwr = { s.pwr with stretched := s.pwr.stretched ++ [n] } ∧ t.rd (R.PWR_DROOP_COUNT n) = word (min 0xFFFFFFFF ((s.rd (R.PWR_DROOP_COUNT n)).toNat + 1)) ∧
    t.getB (R.PWR_CLUSTER_CLOCK n) 27 = true ∧ TellsIn [.pwr] [R.PWR_DROOP_COUNT n, R.PWR_CLUSTER_CLOCK n] s t) ∧
  -- DROOP_END ends the stretch
  (∀ (s : State) (n : Nat),
    s.pwr.stretched.contains n = true →
    ∃ t, exec (.droopEnd n) s = .next t ∧ t.pwr = { s.pwr with stretched := s.pwr.stretched.erase n } ∧ RegsBut [R.PWR_CLUSTER_CLOCK n] s t ∧
    Only [.pwr, .regs] s t) ∧
  -- DROOP_LONG tells one of 20 µs
  (∀ (s : State) (n : Nat),
    s.pwr.stretched.contains n = true →
    ∃ t, exec (.droopLong n) s = .next t ∧ t.pwr = s.pwr ∧ t.getB (intK pPWR) 4 = true ∧ Told s t) ∧
  -- THERMAL_CAP_TICK above the die's limit begins a throttle at the power drawn
  (∀ (s : State) (h v : Int) (w : Nat),
    s.dieLimit < h → s.pwr.thermal = none →
    ∃ t, exec (.thermalCapTick h v w) s = .next t ∧ t.pwr.thermal = some (w / 1000) ∧ t.getB R.PWR_THERM_STATUS 0 = true ∧
    t.getB (intK pPWR) 1 = true ∧ t.getB (intK pPWR) 31 = true ∧ t.rd (R.PWR_THROTTLE_TIME) = word (min 0xFFFFFFFF ((s.rd (R.PWR_THROTTLE_TIME)).toNat + 1000)) ∧
    t.getF R.PWR_CAP_EFFECTIVE 0 8 = t.capNow.1) ∧
  -- while it is hot the thermal cap falls by 2 W
  (∀ (s : State) (h v : Int) (w : Nat) (c : Nat),
    (s.dieLimit < h ∨ s.convLimit < v) → s.pwr.thermal = some c →
    ∃ t, exec (.thermalCapTick h v w) s = .next t ∧ t.pwr.thermal = some (c - 2) ∧ t.rd (R.PWR_THROTTLE_TIME) = word (min 0xFFFFFFFF ((s.rd (R.PWR_THROTTLE_TIME)).toNat + 1000))) ∧
  -- once 3 °C cooler it rises by 1 W, until it lapses at the module's maximum
  (∀ (s : State) (h v : Int) (w : Nat) (c : Nat),
    h ≤ s.dieLimit - 48 → v ≤ s.convLimit - 48 → s.pwr.thermal = some c →
    ∃ t, exec (.thermalCapTick h v w) s = .next t ∧ t.pwr.thermal = if 220 ≤ c + 1 then none else some (c + 1)) ∧
  -- below the limits nothing is throttled
  (∀ (s : State) (h v : Int) (w : Nat),
    h ≤ s.dieLimit → v ≤ s.convLimit → s.pwr.thermal = none → s.pwr.dramShare = [] →
    ∃ t, exec (.thermalCapTick h v w) s = .next t ∧ t.pwr = s.pwr ∧ t.rd R.PWR_THROTTLE_TIME = s.rd R.PWR_THROTTLE_TIME) ∧
  -- DRAM_THROTTLE_TICK above the limit leaves a package seven eighths of its accesses and tells it
  (∀ (s : State) (n : Nat) (x : Int),
    n < 20 → s.dramLimit < x → s.pwr.dramShare.look n = none →
    ∃ t, exec (.dramThrottleTick n x) s = .next t ∧ t.pwr.dramShare.look n = some 7 ∧ t.getB R.PWR_THERM_STATUS 1 = true ∧
    t.getB R.PWR_THERM_STATUS (8 + n) = true ∧ t.getB (intK pPWR) 1 = true ∧ TellsIn [.pwr] [R.PWR_THERM_STATUS] s t) ∧
  -- an eighth less each time, down to two
  (∀ (s : State) (n : Nat) (x : Int) (f : Nat),
    n < 20 → s.dramLimit < x → s.pwr.dramShare.look n = some f →
    ∃ t, exec (.dramThrottleTick n x) s = .next t ∧ t.pwr.dramShare.look n = some (max 2 (f - 1)) ∧ Only [.pwr] s t) ∧
  -- once 5 °C cooler an eighth more, until none is withheld
  (∀ (s : State) (n : Nat) (x : Int) (f : Nat),
    n < 20 → x ≤ s.dramLimit - 80 → s.pwr.dramShare.look n = some f →
    ∃ t, exec (.dramThrottleTick n x) s = .next t ∧ t.pwr.dramShare.look n = (if f + 1 < 8 then some (f + 1) else none) ∧
    (f + 1 < 8 ∨ t.getB R.PWR_THERM_STATUS (8 + n) = false) ∧ SameMem s t) ∧
  -- INLET_HOT is told and changes nothing else
  (∀ (s : State) (x : Int),
    45 * 16 < x → s.dieUp = true →
    ∃ t, exec (.inletHot x) s = .next t ∧ t.pwr = s.pwr ∧ Told s t) ∧
  -- PACE_LAPSE returns a group's clock fraction to 1
  (∀ (s : State) (g : Nat),
    g < 256 →
    ∃ t, exec (.paceLapse g) s = .next t ∧ t.paceOf g = (1, 1) ∧ (∀ i ∈ List.range 256, i ≠ g → t.paceOf i = s.paceOf i) ∧
    t.getF (R.PWR_PACE_STATUS g) 0 8 = 0 ∧ RegsBut [R.PWR_PACE_STATUS g] s t ∧ Only [.pwr, .regs] s t)

/-- Images are stored, checked, activated and committed, and messages and dumps handled, as each clause says (R58, R60, R61, R62, R504, R508, R510, R513, R517, R518). -/
def Obligations.FirmwareAndDumps : Prop :=
  -- MCTP_MESSAGE in ON goes to its core
  (∀ (s : State) (sm : Bool) (k : MctpKind) (l : List Byte),
    s.hw.power = .on → s.dieUp = true → ((sm = true ∧ s.hw.auxIn = true) ∨ (sm = false ∧ s.linkUp = true)) → s.coreUp (mctpCore k) = true →
    ∃ t, exec (.mctpMessage sm k l) s = .next t ∧ t = s.emit (.toCore (mctpCore k) k l)) ∧
  -- it is held while that core restarts
  (∀ (s : State) (sm : Bool) (k : MctpKind) (l : List Byte),
    s.hw.power = .on → s.dieUp = true → ((sm = true ∧ s.hw.auxIn = true) ∨ (sm = false ∧ s.linkUp = true)) → s.coreUp (mctpCore k) = false →
    ∃ t, exec (.mctpMessage sm k l) s = .next t ∧ t = { s with hw := { s.hw with mctpHeld := s.hw.mctpHeld ++ [(mctpCore k, .mctp k l)] } }) ∧
  -- in AUX and FAULT the management controller serves updates, monitoring and dumps
  (∀ (s : State) (sm : Bool) (k : MctpKind) (l : List Byte),
    (s.hw.power = .aux ∨ s.hw.power = .fault) → (k = .fwUpdate ∨ k = .monitoring ∨ k = .dump) →
    ∃ t, exec (.mctpMessage true k l) s = .next t ∧ t = s.emit (.toController k l)) ∧
  -- PLDM_FW_UPDATE in ON puts a part into the inactive bank
  (∀ (s : State) (sm : Bool) (i : Nat) (l : List Byte) (z : Bool),
    s.hw.power = .on → s.dieUp = true → i + l.length ≤ bankBytes → s.flash.active < 2 → s.coreUp 0 = true → s.fwc.writing = none →
    ((sm = true ∧ s.hw.auxIn = true) ∨ (sm = false ∧ s.linkUp = true)) →
    ∃ t, exec (.pldmFwUpdate sm i l z) s = .next t ∧ (t.bank s.spare).data = putBytes (if (s.bank s.spare).complete then [] else (s.bank s.spare).data) i l ∧
    (t.bank s.spare).complete = z ∧ (t.bank s.spare).valid = false ∧ t.flash.pending = none ∧ t.flash.active = s.flash.active ∧
    t.bank s.flash.active = s.bank s.flash.active ∧ (t.bank s.spare).unchecked = false ∧ SameMem s t) ∧
  -- in AUX and FAULT too, to be checked later
  (∀ (s : State) (sm : Bool) (i : Nat) (l : List Byte) (z : Bool),
    (s.hw.power = .aux ∨ s.hw.power = .fault) → i + l.length ≤ bankBytes → s.flash.active < 2 → s.hw.auxIn = true →
    ∃ t, exec (.pldmFwUpdate true i l z) s = .next t ∧ (t.bank s.spare).data = putBytes (if (s.bank s.spare).complete then [] else (s.bank s.spare).data) i l ∧
    (t.bank s.spare).complete = z ∧ (t.bank s.spare).valid = false ∧ t.flash.pending = none ∧ t.flash.active = s.flash.active ∧
    t.bank s.flash.active = s.bank s.flash.active ∧ (t.bank s.spare).unchecked = true) ∧
  -- BANK_CHECK of an image that passes makes its bank PENDING
  (∀ (s : State) (m : Image),
    s.dieUp = true → s.coreUp 0 = true → s.flash.active < 2 → (s.bank s.spare).complete = true → (s.bank s.spare).info = none →
    (s.bank s.spare).unchecked = false → s.imageOk m = true →
    ∃ t, exec (.bankCheck m) s = .next t ∧ t.flash.pending = some s.spare ∧ (t.bank s.spare).info = some m ∧ (t.bank s.spare).valid = true ∧
    t.flash.active = s.flash.active ∧ t.getB R.FWC_BANK 5 = true ∧ RegsBut [R.FWC_BANK] s t ∧ Only [.flash, .regs] s t) ∧
  -- one that fails is thrown away and logged
  (∀ (s : State) (m : Image),
    s.dieUp = true → s.coreUp 0 = true → s.flash.active < 2 → (s.bank s.spare).complete = true → (s.bank s.spare).info = none →
    (s.bank s.spare).unchecked = false → s.imageOk m = false →
    ∃ t, exec (.bankCheck m) s = .next t ∧ (t.bank s.spare).complete = false ∧ (t.bank s.spare).valid = false ∧ t.flash.pending = s.flash.pending ∧
    t.getB (intK pSEC) 31 = true ∧ TellsIn [.flash] [R.FWC_BANK] s t) ∧
  -- BANK_ACTIVATE makes the PENDING bank active in trial
  (∀ (s : State) (v : Word) (b : Nat),
    fld v 8 24 = 0xB88002 → bit v 0 = true → bit v 1 = false → s.flash.pending = some b →
    ∃ t, exec (.bankActivate v) s = .next t ∧ t.flash = { s.flash with active := b, trial := true, trialBooted := false, pending := none } ∧
    t.getB R.FWC_BANK 2 = true ∧ RegsBut [R.FWC_BANK] s t ∧ Only [.flash, .regs] s t) ∧
  -- without the key nothing happens
  (∀ (s : State) (v : Word),
    fld v 8 24 ≠ 0xB88002 →
    ∃ t, exec (.bankActivate v) s = .next t ∧ t = s) ∧
  -- nor does a commit
  (∀ (s : State) (v : Word),
    fld v 8 24 ≠ 0xB88002 →
    ∃ t, exec (.bankCommit v) s = .next t ∧ t = s) ∧
  -- BANK_COMMIT ends the trial and blows the SVN fuses up to the image's
  (∀ (s : State) (v : Word) (m : Image),
    fld v 8 24 = 0xB88002 → bit v 0 = false → bit v 1 = true → s.flash.trial = true → (s.bank s.flash.active).info = some m →
    max s.flash.svn m.svn < 256 →
    ∃ t, exec (.bankCommit v) s = .next t ∧ t.flash = { s.flash with trial := false, trialBooted := false, svn := max s.flash.svn m.svn, root0Revoked := s.flash.root0Revoked || (decide (m.root = 1) && m.revoke) } ∧
    t.getF R.SEC_SVN 16 8 = t.flash.svn ∧ RegsBut [R.FWC_BANK, R.SEC_SVN] s t ∧ Only [.flash, .regs] s t) ∧
  -- DUMP_WRITE starts in the invalid slot, or the older one
  (∀ (s : State) (d : Dump) (l : List Dump),
    s.coreUp 0 = true → s.dieUp = true → s.fwc.writing = none → s.fwc.staged = d :: l →
    ∃ t, exec (.dumpWrite false) s = .next t ∧ t.fwc = { s.fwc with writing := some s.dumpSlot } ∧ t.flash = { s.flash with dumps := s.flash.dumps.del s.dumpSlot } ∧
    RegsBut [R.FWC_DUMP_STATUS] s t ∧ Only [.fwc, .flash, .regs] s t) ∧
  -- and ends with the next sequence number, told by DUMP_WRITTEN and over SMB_ALERT#
  (∀ (s : State) (d : Dump) (l : List Dump) (k : Nat),
    s.coreUp 0 = true → s.dieUp = true → s.fwc.writing = some k → s.fwc.staged = d :: l → s.fwc.inq.look 0 = none →
    ∃ t, exec (.dumpWrite true) s = .next t ∧ t.flash.dumps.look k = some { d with seq := s.flash.dumpSeq + 1 } ∧
    t.flash.dumpSeq = s.flash.dumpSeq + 1 ∧ t.fwc.staged = l ∧ t.fwc.writing = none ∧ t.getB (intK pFWC) 2 = true ∧
    .dump k ∈ t.hw.alerts ∧ t.hw = { s.hw with alerts := t.hw.alerts } ∧ TellsIn [.fwc, .flash, .hw] [R.FWC_DUMP_STATUS] s t) ∧
  -- DUMP_CLEAR clears the slots it names
  (∀ (s : State) (v : Word),
    ∃ t, exec (.dumpClear v) s = .next t ∧ (∀ i ∈ List.range 2, t.flash.dumps.look i = if bit v i then none else s.flash.dumps.look i) ∧
    t.fwc = s.fwc ∧ RegsBut [R.FWC_DUMP_STATUS] s t ∧ Only [.flash, .regs] s t) ∧
  -- DUMP_READ is the manager's
  (∀ (s : State) (op : Nat) (o : Op) (hv : HostView),
    s.runnable op [0x76] = some o → s.op? op = some o → o.issued = false → s.coreUp 5 = true → o.fn ≠ 0 →
    ∃ t, exec (.dumpRead op hv) s = .next t ∧ Ended t op stDenied 0 ∧ SameMem s t) ∧
  -- of an empty slot it answers 0
  (∀ (s : State) (op : Nat) (o : Op) (hv : HostView),
    s.runnable op [0x76] = some o → s.op? op = some o → o.issued = false → s.coreUp 5 = true → o.fn = 0 → farAddr (dQuad o.desc 0x10) = false →
    dQuad o.desc 0x10 % 64 = 0 → s.flash.dumps.look (dfld o.desc 0x18 0 1) = none →
    ∃ t, exec (.dumpRead op hv) s = .next t ∧ Ended t op stOK 0 ∧ SameMem s t) ∧
  -- else it writes the slot's 2 MiB and answers its sequence number
  (∀ (s : State) (op : Nat) (o : Op) (hv : HostView) (p : Nat) (d : Dump),
    s.runnable op [0x76] = some o → s.op? op = some o → o.issued = false → s.coreUp 5 = true → o.fn = 0 → farAddr (dQuad o.desc 0x10) = false →
    dQuad o.desc 0x10 % 64 = 0 → s.flash.dumps.look (dfld o.desc 0x18 0 1) = some d → DevRange s hv o.fn (dQuad o.desc 0x10) p 0x200000 true →
    ∃ t, exec (.dumpRead op hv) s = .next t ∧ Ended t op stOK d.seq ∧ t.drams p 0x200000 = dumpImage d ∧ MemBut p 0x200000 s t) ∧
  -- MCTP_DUMP_READ answers the fault log, in ON, AUX and FAULT, which SMB_ALERT# then announces no more
  (∀ (s : State),
    (s.hw.power = .aux ∨ s.hw.power = .fault ∨ (s.hw.power = .on ∧ s.dieUp = true ∧ s.coreUp 5 = true)) →
    ∃ t, exec (.mctpDumpRead .faultLog) s = .next t ∧ t = (s.emit (.faultLog s.hw.faultLog)).collect .faultLog) ∧
  -- or a slot
  (∀ (s : State) (i : Nat),
    (s.hw.power = .aux ∨ s.hw.power = .fault ∨ (s.hw.power = .on ∧ s.dieUp = true ∧ s.coreUp 5 = true)) →
    ∃ t, exec (.mctpDumpRead (.slot i)) s = .next t ∧ t = (s.emit (.dump (s.flash.dumps.look i))).collect (.dump i))

/-- Boathouse's cores crash, restart, fail and hand over, as each clause says (R498, R499, R505, R507, R508, R511, R512, R513, R514, R515). -/
def Obligations.CoresAndHandover : Prop :=
  -- CORE_CRASH restarts the core alone and stages a dump
  (∀ (s : State) (c : Nat) (k : Nat) (m : Option (Nat × Nat)),
    s.dieUp = true → c < 6 → s.coreState c = 0 → k < 16 → s.fwc.handover = none → ((s.fwc.crashes.look c).getD []).length < s.getF R.FWC_ESCALATE 0 8 →
    m.any (fun a => s.mpuAllows c a.1 a.2) = false →
    ∃ t, exec (.coreCrash c k m) s = .next t ∧ t.coreState c = 1 ∧ t.fwc.cause.look c = some k ∧ t.fwc.lastCrash = s.devTime ∧
    t.fwc.staged.map (fun d => (d.core, d.cause)) = s.fwc.staged.map (fun d => (d.core, d.cause)) ++ [(c, k)] ∧ t.flash = s.flash ∧
    SameMem s t ∧ ∀ i ∈ List.range 6, i ≠ c → t.coreState i = s.coreState i) ∧
  -- one crash too many leaves it FAILED
  (∀ (s : State) (c : Nat) (k : Nat),
    s.dieUp = true → c < 6 → s.coreState c = 0 → k < 16 → s.fwc.handover = none → s.getF R.FWC_ESCALATE 0 8 = 0 →
    s.getB R.FWC_ESCALATE 31 = false →
    ∃ t, exec (.coreCrash c k none) s = .next t ∧ t.coreState c = 2 ∧ t.getB (intK pFWC) 1 = true ∧ t.getB (intK pFWC) 31 = true ∧
    SameMem s t) ∧
  -- WATCHDOG_EXPIRY does the same to a core that hangs
  (∀ (s : State) (c : Nat),
    s.dieUp = true → c < 6 → s.coreState c = 0 → s.coreUp c = true → s.fwc.handover = none → ((s.fwc.crashes.look c).getD []).length < s.getF R.FWC_ESCALATE 0 8 →
    ∃ t, exec (.watchdogExpiry c) s = .next t ∧ t.coreState c = 1 ∧ t.fwc.cause.look c = some 2 ∧ t.fwc.lastCrash = s.devTime ∧
    t.fwc.staged.map (fun d => (d.core, d.cause)) = s.fwc.staged.map (fun d => (d.core, d.cause)) ++ [(c, 2)] ∧ t.flash = s.flash ∧
    SameMem s t) ∧
  -- but not to a halted one
  (∀ (s : State) (c : Nat),
    s.fwc.halted.contains c = true → s.coreUp c = false →
    ∃ t, exec (.watchdogExpiry c) s = .next t ∧ t = s) ∧
  -- CORE_RESTART_DONE counts the restart and tells it by CORE_RESTARTED
  (∀ (s : State) (c : Nat) (k : Nat),
    s.dieUp = true → c < 6 → s.coreState c = 1 → s.fwc.cause.look c = some k → s.fwc.back = [] → c ≠ 0 →
    ∃ t, exec (.coreRestartDone c) s = .next t ∧ t.coreState c = 0 ∧ t.fwc.cause = s.fwc.cause.del c ∧ t.rd (R.FWC_RESTART_COUNT c) = word (min 0xFFFFFFFF ((s.rd (R.FWC_RESTART_COUNT c)).toNat + 1)) ∧
    t.getB (intK pFWC) 0 = true ∧ t.getB (intK pFWC) 31 = true ∧ t.flash = s.flash ∧ SameMem s t) ∧
  -- CORE_RESTART_WRITE restarts the core it names
  (∀ (s : State) (c : Nat) (v : Word),
    v = BitVec.ofNat 32 (0xB8800100 + c) → c < 6 → s.coreState c ≠ 1 → s.fwc.handover = none →
    ∃ t, exec (.coreRestartWrite v) s = .next t ∧ t.coreState c = 1 ∧ t.fwc.cause.look c = some 5 ∧ t.fwc.lastCrash = s.devTime ∧
    t.fwc.staged.map (fun d => (d.core, d.cause)) = s.fwc.staged.map (fun d => (d.core, d.cause)) ++ [(c, 5)] ∧ t.flash = s.flash ∧
    SameMem s t) ∧
  -- unless it already restarts, which is an error
  (∀ (s : State) (c : Nat) (v : Word),
    v = BitVec.ofNat 32 (0xB8800100 + c) → c < 6 → s.coreState c = 1 →
    ∃ t, exec (.coreRestartWrite v) s = .next t ∧ t.rd (errCountK pFWC) = word (min 0xFFFFFFFF ((s.rd (errCountK pFWC)).toNat + 1)) ∧
    t.getB (intK pFWC) 31 = true ∧ t.fwc.cause = s.fwc.cause ∧ TellsIn [.freeCtr] [errCountK pFWC] s t) ∧
  -- HANDOVER_START with its conditions restarts core 5 first
  (∀ (s : State),
    s.handoverTo.isSome = true →
    ∃ t, exec (.handoverStart 0xB8800300) s = .next t ∧ t.fwc.handover = some [] ∧ t.coreState 5 = 1 ∧ t.rd R.FWC_HANDOVER_STATUS = word (1 + 16 * 5) ∧
    t.flash = s.flash ∧ SameMem s t) ∧
  -- without them it is refused and logged
  (∀ (s : State),
    s.handoverTo = none →
    ∃ t, exec (.handoverStart 0xB8800300) s = .next t ∧ t.fwc = s.fwc ∧ t.flash = s.flash ∧ t.getB (intK pFWC) 31 = true ∧
    Told s t) ∧
  -- HANDOVER_CORE_DONE goes on to the next core
  (∀ (s : State) (l : List Nat),
    s.fwc.handover = some l → l.length < 5 → s.coreState (4 - l.length) = 0 → s.coreState (5 - l.length) = 1 →
    ∃ t, exec (.handoverCoreDone true) s = .next t ∧ t.fwc.handover = some (l ++ [5 - l.length]) ∧ t.coreState (5 - l.length) = 0 ∧
    t.coreState (4 - l.length) = 1 ∧ t.rd R.FWC_HANDOVER_STATUS = word (1 + 16 * (4 - l.length)) ∧ t.flash = s.flash ∧
    SameMem s t) ∧
  -- a core that cannot convert its state rolls the handover back
  (∀ (s : State) (l : List Nat),
    s.fwc.handover = some l → l.length < 5 → l.head? = some 5 → l.getLast? ≠ none →
    ∃ t, exec (.handoverCoreDone false) s = .next t ∧ t.fwc.handover = none ∧ t.fwc.back = l.reverse ∧ t.getF R.FWC_HANDOVER_STATUS 0 3 = 4 ∧
    t.flash = s.flash ∧ t.getB (intK pFWC) 31 = true ∧ SameMem s t) ∧
  -- after core 0 the new image runs, in trial
  (∀ (s : State) (b : Nat) (m : Image),
    s.fwc.handover = some [5, 4, 3, 2, 1] → s.flash.pending = some b → (s.bank b).info = some m →
    ∃ t, exec (.handoverCoreDone true) s = .next t ∧ t.flash.active = b ∧ t.flash.trial = true ∧ t.flash.trialBooted = true ∧
    t.flash.pending = none ∧ t.fwc.running = some m ∧ t.fwc.handover = none ∧ t.rd R.FWC_HANDOVER_STATUS = 2 ∧ t.rd R.FWC_FW_VERSION = word m.fw ∧
    t.rd R.FWC_IF_VERSION = word m.ifv ∧ t.getB (intK pFWC) 3 = true ∧ SameMem s t)

/-- SPDM sessions and key requests are served, held or refused: the answer and the keys that each leaves (R519, R521, R522, R523, R525, R526, R537, R538). -/
def Obligations.SessionsAndKeys : Prop :=
  -- SPDM_REQUEST for a measurement answers it
  (∀ (s : State) (d : Bool) (i : Nat),
    s.dieUp = true → s.boot.internal = true → (d = false ∨ s.linkUp = true) → s.coreUp 0 = true → s.entropyBad = false →
    1 ≤ i → i ≤ 11 →
    ∃ t, exec (.spdmRequest d (.getMeasurements i false)) s = .next t ∧ t = s.emit (.spdm .ok [s.measureOf i])) ∧
  -- KEY_EXCHANGE opens a session, of which there are at most four
  (∀ (s : State) (d : Bool),
    s.dieUp = true → s.boot.internal = true → (d = false ∨ s.linkUp = true) → s.coreUp 0 = true → s.entropyBad = false →
    s.sec.sessions.length < 4 → s.getB R.SEC_BOOT_STATUS 8 = true →
    ∃ t, exec (.spdmRequest d .keyExchange) s = .next t ∧ t.sec.sessions = s.sec.sessions ++ [⟨s.sec.lastSession + 1, d, none⟩] ∧
    t.out = .spdm .ok [s.sec.lastSession + 1] :: s.out ∧ t.getF R.SEC_REQ_STATUS 8 8 = t.sec.sessions.length ∧ RegsBut [R.SEC_REQ_STATUS] s t ∧
    Only [.sec, .out, .regs] s t) ∧
  -- a fifth is refused
  (∀ (s : State) (d : Bool),
    s.dieUp = true → s.boot.internal = true → (d = false ∨ s.linkUp = true) → s.coreUp 0 = true → s.entropyBad = false →
    4 ≤ s.sec.sessions.length → s.getB R.SEC_BOOT_STATUS 8 = true →
    ∃ t, exec (.spdmRequest d .keyExchange) s = .next t ∧ t = s.emit (.spdm .refused [])) ∧
  -- what needs a signature answers ResponseNotReady until the key is ready
  (∀ (s : State) (d : Bool),
    s.dieUp = true → s.boot.internal = true → (d = false ∨ s.linkUp = true) → (s.coreUp 0 = false ∨ s.getB R.SEC_BOOT_STATUS 8 = false) →
    ∃ t, exec (.spdmRequest d .challenge) s = .next t ∧ t = s.emit (.spdm .responseNotReady [16])) ∧
  -- while core 0 restarts a request waits
  (∀ (s : State) (d : Bool),
    s.dieUp = true → s.boot.internal = true → (d = false ∨ s.linkUp = true) → s.coreUp 0 = false →
    ∃ t, exec (.spdmRequest d .getVersion) s = .next t ∧ t.sec = { s.sec with waitSpdm := s.sec.waitSpdm ++ [(d, .getVersion)] } ∧
    Only [.sec] s t) ∧
  -- KEY_SET loads an empty slot of a function within its quota
  (∀ (s : State) (i : Nat) (k f id key : Nat),
    s.dieUp = true → s.boot.internal = true → (s.session? i).isSome = true → s.coreUp 0 = true → s.entropyBad = false →
    k < 1024 → f < 64 → s.slotState k ≠ 1 → ((List.range 1024).filter (fun i => i ≠ k && s.slotState i = 1 && s.getF (R.SEC_SLOT_STATUS i) 8 6 = f)).length < s.getF (R.TRN_FN_KEYS f) 0 11 →
    s.sec.alarms = [] → s.sec.wasOpen = false →
    ∃ t, exec (.keySet (some i) k f id key) s = .next t ∧ t.slotState k = 1 ∧ t.getF (R.SEC_SLOT_STATUS k) 8 6 = f ∧
    t.rd (R.SEC_SLOT_KEY_ID k) = word id ∧ t.sec.key.look k = some key ∧ t.sec.pn.look k = none ∧ t.sec.sessions = s.sec.sessions ∧
    t.out.head? = some (.spdm .ok [Config.crypto key 0 % 2 ^ 32]) ∧ Only [.sec, .out, .regs] s t ∧ RegsBut [R.SEC_SLOT_STATUS k, R.SEC_SLOT_KEY_ID k, R.SEC_REQ_STATUS] s t) ∧
  -- a loaded slot is refused and logged
  (∀ (s : State) (i : Nat) (k f id key : Nat),
    s.dieUp = true → s.boot.internal = true → (s.session? i).isSome = true → s.coreUp 0 = true → s.entropyBad = false →
    s.slotState k = 1 →
    ∃ t, exec (.keySet (some i) k f id key) s = .next t ∧ t.sec = s.sec ∧ t.out.head? = some (.spdm .refused []) ∧
    t.getB (intK pSEC) 31 = true ∧ ToldBut [R.SEC_REQ_STATUS] s t) ∧
  -- outside a session keySet is answered UnexpectedRequest
  (∀ (s : State),
    s.dieUp = true → s.boot.internal = true →
    ∃ t, exec (.keySet none 1 2 3 4) s = .next t ∧ t = s.emit (.spdm .unexpected [])) ∧
  -- outside a session keyErase is answered UnexpectedRequest
  (∀ (s : State),
    s.dieUp = true → s.boot.internal = true →
    ∃ t, exec (.keyErase none 1) s = .next t ∧ t = s.emit (.spdm .unexpected [])) ∧
  -- outside a session keyQuery is answered UnexpectedRequest
  (∀ (s : State),
    s.dieUp = true → s.boot.internal = true →
    ∃ t, exec (.keyQuery none 1) s = .next t ∧ t = s.emit (.spdm .unexpected [])) ∧
  -- KEY_ERASE erases a slot and its key
  (∀ (s : State) (i : Nat) (k : Nat),
    s.dieUp = true → s.boot.internal = true → (s.session? i).isSome = true → s.coreUp 0 = true → s.entropyBad = false →
    k < 1024 →
    ∃ t, exec (.keyErase (some i) k) s = .next t ∧ t.slotState k = 2 ∧ t.getF (R.SEC_SLOT_STATUS k) 20 4 = 1 ∧ t.sec.key.look k = none ∧
    t.out.head? = some (.spdm .ok []) ∧ Only [.sec, .out, .regs] s t ∧ RegsBut [R.SEC_SLOT_STATUS k, R.SEC_REQ_STATUS] s t) ∧
  -- or every slot
  (∀ (s : State) (i : Nat),
    s.dieUp = true → s.boot.internal = true → (s.session? i).isSome = true → s.coreUp 0 = true → s.entropyBad = false →
    ∃ t, exec (.keyErase (some i) 0xFFFF) s = .next t ∧ (∀ k ∈ List.range 1024, t.slotState k = 2 ∧ t.getF (R.SEC_SLOT_STATUS k) 20 4 = 1 ∧ t.sec.key.look k = none) ∧
    SameMem s t) ∧
  -- KEY_QUERY tells of a slot, but not its key
  (∀ (s : State) (i : Nat) (k : Nat),
    s.dieUp = true → s.boot.internal = true → (s.session? i).isSome = true → s.coreUp 0 = true → s.entropyBad = false →
    ∃ t, exec (.keyQuery (some i) k) s = .next t ∧ t.out.head? = some (.spdm .ok [s.slotState k, s.getF (R.SEC_SLOT_STATUS k) 8 6, (s.rd (R.SEC_SLOT_KEY_ID k)).toNat, (s.sec.pn.look k).getD 0]) ∧
    t.sec = s.sec ∧ RegsBut [R.SEC_REQ_STATUS] s t ∧ Only [.out, .regs] s t) ∧
  -- ATTEST_CERT_READY for the current key sets ATTEST_READY
  (∀ (s : State),
    s.boot.internal = true → s.coreUp 0 = true → s.getB R.SEC_BOOT_STATUS 8 = false →
    ∃ t, exec (.attestCertReady s.sec.attest) s = .next t ∧ t.getB R.SEC_BOOT_STATUS 8 = true ∧ t.flash = { s.flash with cert := some s.sec.attest } ∧
    t.getB (intK pSEC) 3 = true ∧ TellsIn [.flash] [R.SEC_BOOT_STATUS] s t) ∧
  -- SEC_ERASE_WRITE of the key erases every slot
  (∀ (s : State),
    ∃ t, exec (.secEraseWrite 0xB8800400) s = .next t ∧ (∀ k ∈ List.range 1024, t.slotState k = 2 ∧ t.sec.key.look k = none) ∧
    SameMem s t) ∧
  -- of another value nothing
  (∀ (s : State) (v : Word),
    v ≠ 0xB8800400 →
    ∃ t, exec (.secEraseWrite v) s = .next t ∧ t = s)

/-- Debug opens and closes, alarms erase keys, and bindings are written or refused (R524, R526, R528, R536, R537). -/
def Obligations.DebugUnlockAlarmsAndBindings : Prop :=
  -- outside a session debugNonce is answered UnexpectedRequest
  (∀ (s : State),
    s.dieUp = true → s.boot.internal = true →
    ∃ t, exec (.debugNonce none) s = .next t ∧ t = s.emit (.spdm .unexpected [])) ∧
  -- outside a session debugUnlock is answered UnexpectedRequest
  (∀ (s : State),
    s.dieUp = true → s.boot.internal = true →
    ∃ t, exec (.debugUnlock none 1 2 0 true) s = .next t ∧ t = s.emit (.spdm .unexpected [])) ∧
  -- outside a session debugLock is answered UnexpectedRequest
  (∀ (s : State),
    s.dieUp = true → s.boot.internal = true →
    ∃ t, exec (.debugLock none) s = .next t ∧ t = s.emit (.spdm .unexpected [])) ∧
  -- DEBUG_NONCE gives the session a fresh nonce
  (∀ (s : State) (i : Nat),
    s.dieUp = true → s.boot.internal = true → (s.session? i).isSome = true → s.coreUp 0 = true → s.entropyBad = false →
    ∃ t, exec (.debugNonce (some i)) s = .next t ∧ (t.session? i).map Session.nonce = some (some (Config.freeNat s.freeCtr)) ∧
    t.out.head? = some (.spdm .ok [Config.freeNat s.freeCtr]) ∧ t.freeCtr = s.freeCtr + 1 ∧ Only [.sec, .out, .regs, .freeCtr] s t) ∧
  -- DEBUG_UNLOCK with the serial, the session's nonce and a good signature opens debug and erases every key
  (∀ (s : State) (i : Nat) (x : Session) (n r : Nat),
    s.dieUp = true → s.boot.internal = true → (s.session? i).isSome = true → s.coreUp 0 = true → s.entropyBad = false →
    s.session? i = some x → x.nonce = some n → (r = 1 ∨ (r = 0 ∧ s.flash.root0Revoked = false)) →
    ∃ t, exec (.debugUnlock (some i) Config.serial n r true) s = .next t ∧ t.debugOpen = true ∧ (s.debugOpen = false → t.sec.wasOpen = true ∧ t.getB R.SEC_BOOT_STATUS 8 = (s.getB R.SEC_BOOT_STATUS 8 && decide (t.sec.attest = s.sec.attest)) ∧ ∀ k ∈ List.range 1024, t.sec.key.look k = none) ∧
    t.out.head? = some (.spdm .ok []) ∧ SameMem s t) ∧
  -- with another nonce it is refused and logged
  (∀ (s : State) (i : Nat) (x : Session) (se n r : Nat),
    s.dieUp = true → s.boot.internal = true → (s.session? i).isSome = true → s.coreUp 0 = true → s.entropyBad = false →
    s.session? i = some x → x.nonce ≠ some n →
    ∃ t, exec (.debugUnlock (some i) se n r true) s = .next t ∧ t.sec = s.sec ∧ t.debugOpen = s.debugOpen ∧ t.out.head? = some (.spdm .refused []) ∧
    t.getB (intK pSEC) 31 = true ∧ ToldBut [R.SEC_REQ_STATUS] s t) ∧
  -- DEBUG_LOCK closes debug and lets halted cores go
  (∀ (s : State) (i : Nat),
    s.dieUp = true → s.boot.internal = true → (s.session? i).isSome = true → s.coreUp 0 = true → s.entropyBad = false →
    s.debugOpen = true →
    ∃ t, exec (.debugLock (some i)) s = .next t ∧ t.debugOpen = false ∧ t.fwc.halted = [] ∧ t.out.head? = some (.spdm .ok []) ∧
    SameMem s t) ∧
  -- DEBUG_MODULE_ACCESS is refused while debug is closed
  (∀ (s : State) (c k a : Nat),
    s.dieUp = true → c < 6 → s.debugOpen = false →
    ∃ t, exec (.debugModuleAccess c k a) s = .next t ∧ t = s.emit (.debugModule c k a false)) ∧
  -- else it halts a core
  (∀ (s : State) (c k a : Nat),
    s.dieUp = true → c < 6 → s.debugOpen = true → s.fwc.halted.contains c = false →
    ∃ t, exec (.debugModuleAccess c 0 a) s = .next t ∧ t.fwc = { s.fwc with halted := s.fwc.halted ++ [c] } ∧ t.out = .debugModule c 0 a true :: s.out ∧
    Only [.fwc, .out] s t) ∧
  -- and resumes it
  (∀ (s : State) (c k a : Nat),
    s.dieUp = true → c < 6 → s.debugOpen = true → c ≠ 0 →
    ∃ t, exec (.debugModuleAccess c 2 a) s = .next t ∧ t.fwc = { s.fwc with halted := s.fwc.halted.erase c } ∧ t.out = .debugModule c 2 a true :: s.out ∧
    Only [.fwc, .out] s t) ∧
  -- SECURITY_ALARM erases every loaded key, ends every session and is told
  (∀ (s : State) (a : Nat),
    a < 5 → s.dieUp = true → s.sec.alarms.contains a = false →
    ∃ t, exec (.securityAlarm a) s = .next t ∧ t.sec.alarms = s.sec.alarms ++ [a] ∧ t.sec.sessions = [] ∧ t.getB R.SEC_ALARM_STATUS a = true ∧
    t.getB (intK pSEC) 0 = true ∧ t.getB (intK pSEC) 31 = true ∧
    (∀ k ∈ List.range 1024, s.slotState k = 1 → t.slotState k = 2 ∧ t.getF (R.SEC_SLOT_STATUS k) 20 4 = 2 ∧ t.sec.key.look k = none) ∧
    SameMem s t) ∧
  -- ALARM_CLEAR ends the condition; its status bit stays
  (∀ (s : State) (a : Nat),
    a ≠ 4 → s.sec.alarms.contains a = true →
    ∃ t, exec (.alarmClear a) s = .next t ∧ t.sec = { s.sec with alarms := s.sec.alarms.erase a } ∧ Only [.sec] s t) ∧
  -- BINDING_WRITE binds a partition key and marks its slots BOUND
  (∀ (s : State) (i : Nat) (v : Word),
    i < 256 → (s.wr (R.SEC_PART_KEY i) v).bindingClash i = false →
    ∃ t, exec (.bindingWrite false i v) s = .next t ∧ t.getF (R.SEC_PART_KEY i) 0 16 = fld v 0 16 ∧ t.getB (R.SEC_PART_KEY i) 31 = bit v 31 ∧
    t.sec = s.sec ∧ (∀ k ∈ t.partSlots i, bit v 31 = true → t.getB (R.SEC_SLOT_STATUS k) 16 = true) ∧ Only [.regs] s t) ∧
  -- a key or slot that another valid entry holds is refused, which is an error
  (∀ (s : State) (i : Nat) (v : Word),
    i < 256 → (s.wr (R.SEC_PART_KEY i) v).bindingClash i = true → bit v 31 = true →
    ∃ t, exec (.bindingWrite false i v) s = .next t ∧ t.rd (errCountK pSEC) = word (min 0xFFFFFFFF ((s.rd (errCountK pSEC)).toNat + 1)) ∧
    t.getB (intK pSEC) 31 = true ∧ t.rd (R.SEC_PART_KEY i) = s.rd (R.SEC_PART_KEY i) ∧ t.sec = s.sec ∧ TellsIn [.freeCtr] [errCountK pSEC] s t)

/-- Counters clear, and freezes begin and end, inside the device and over the module's pin (R63, R548, R549, R550, R551, R552, R561). -/
def Obligations.CountersAndFreezes : Prop :=
  -- CNT_CLEAR_ALL zeroes every counter
  (∀ (s : State),
    ∃ t, exec (.cntClearAll 0xB8800600) s = .next t ∧ (∀ i ∈ List.range 64, t.counter i = 0) ∧ Only [.dbg] s t) ∧
  -- CNT_CLEAR_ONE zeroes the one it names
  (∀ (s : State) (i : Nat) (v : Word),
    i < 64 → v = BitVec.ofNat 32 (0xB8800700 + i) →
    ∃ t, exec (.cntClearOne v) s = .next t ∧ (∀ j ∈ List.range 64, t.counter j = if j = i then 0 else s.counter j) ∧
    Only [.dbg] s t) ∧
  -- another value is an error and clears nothing
  (∀ (s : State) (v : Word),
    v ≠ 0xB8800600 → (v.toNat < 0xB8800700 ∨ 0xB8800740 ≤ v.toNat) →
    ∃ t, exec (.cntClearAll v) s = .next t ∧ (∀ i ∈ List.range 64, s.counter i ≤ t.counter i) ∧ t.rd (errCountK pCNT) = word (min 0xFFFFFFFF ((s.rd (errCountK pCNT)).toNat + 1)) ∧
    t.getB (intK pCNT) 31 = true ∧ TellsIn [.freeCtr] [errCountK pCNT] s t) ∧
  -- another value is an error and clears nothing
  (∀ (s : State) (v : Word),
    v ≠ 0xB8800600 → (v.toNat < 0xB8800700 ∨ 0xB8800740 ≤ v.toNat) →
    ∃ t, exec (.cntClearOne v) s = .next t ∧ (∀ i ∈ List.range 64, s.counter i ≤ t.counter i) ∧ t.rd (errCountK pCNT) = word (min 0xFFFFFFFF ((s.rd (errCountK pCNT)).toNat + 1)) ∧
    t.getB (intK pCNT) 31 = true ∧ TellsIn [.freeCtr] [errCountK pCNT] s t) ∧
  -- FREEZE records the time and stops the trace after POST_COUNT more records
  (∀ (s : State),
    s.frozen = false →
    ∃ t, exec (.freeze 0xB8800500) s = .next t ∧ t.frozen = true ∧ t.getB R.DBG_FREEZE_CAUSE 0 = true ∧ t.dbg.freezeTime = s.devTime ∧
    t.rd R.DBG_FREEZE_TIME_LO = word s.devTime ∧ t.dbg.postLeft = some (s.getF R.DBG_TRACE_CTRL 16 16) ∧ t.getB (intK pDBG) 0 = true ∧
    t.ops = s.ops ∧ SameMem s t ∧
    (s.getB R.DBG_FREEZE_ENABLE 16 = true → t.dbg.crewDriven = true)) ∧
  -- while frozen only its cause bit is set
  (∀ (s : State),
    s.frozen = true →
    ∃ t, exec (.freeze 0xB8800500) s = .next t ∧ t.dbg = s.dbg ∧ t.getB R.DBG_FREEZE_CAUSE 0 = true ∧ RegsBut [R.DBG_FREEZE_CAUSE] s t ∧
    Only [.regs] s t) ∧
  -- FREEZE_RELEASE ends it
  (∀ (s : State),
    ∃ t, exec (.freezeRelease 0xB8800501) s = .next t ∧ t.frozen = false ∧ t.dbg = { s.dbg with postLeft := none } ∧
    RegsBut [statusK pDBG] s t ∧ Only [.dbg, .regs] s t) ∧
  -- any other value ends no freeze, and is logged
  (∀ (s : State) (v : Word),
    v ≠ 0xB8800500 → v ≠ 0xB8800501 →
    ∃ t, exec (.freezeRelease v) s = .next t ∧ (s.frozen = true → t.frozen = true) ∧ (s.rd R.DBG_FREEZE_ENABLE = 0 → t.frozen = s.frozen) ∧
    t.getB (intK pDBG) 31 = true ∧ Told s t) ∧
  -- CREW_FREEZE_FALL freezes where it is enabled, and is not driven on
  (∀ (s : State),
    s.frozen = false → s.dieUp = true → s.hw.freezeIgnored = false → s.getB R.DBG_FREEZE_ENABLE 1 = true →
    ∃ t, exec .crewFreezeFall s = .next t ∧ t.frozen = true ∧ t.getB R.DBG_FREEZE_CAUSE 1 = true ∧ t.dbg.freezeTime = s.devTime ∧
    t.rd R.DBG_FREEZE_TIME_LO = word s.devTime ∧ t.dbg.postLeft = some (s.getF R.DBG_TRACE_CTRL 16 16) ∧ t.getB (intK pDBG) 0 = true ∧
    t.ops = s.ops ∧ SameMem s t ∧
    (s.getB R.DBG_FREEZE_ENABLE 16 = true → t.dbg.crewDriven = s.dbg.crewDriven)) ∧
  -- where it is not, nothing
  (∀ (s : State),
    s.getB R.DBG_FREEZE_ENABLE 1 = false →
    ∃ t, exec .crewFreezeFall s = .next t ∧ t = s) ∧
  -- MCTP_FREEZE freezes whatever is enabled
  (∀ (s : State),
    s.frozen = false → s.dieUp = true → s.coreUp 5 = true →
    ∃ t, exec .mctpFreeze s = .next t ∧ t.frozen = true ∧ t.getB R.DBG_FREEZE_CAUSE 7 = true ∧ t.dbg.freezeTime = s.devTime ∧
    t.rd R.DBG_FREEZE_TIME_LO = word s.devTime ∧ t.dbg.postLeft = some (s.getF R.DBG_TRACE_CTRL 16 16) ∧ t.getB (intK pDBG) 0 = true ∧
    t.ops = s.ops ∧ SameMem s t ∧
    (s.getB R.DBG_FREEZE_ENABLE 16 = true → t.dbg.crewDriven = true)) ∧
  -- CREW_FREEZE_PULSE_END releases CREW_FREEZE#
  (∀ (s : State),
    s.dbg.crewDriven = true →
    ∃ t, exec .crewFreezePulseEnd s = .next t ∧ t.dbg = { s.dbg with crewDriven := false } ∧ t.out = .pin "CREW_FREEZE#" true :: s.out ∧
    Only [.dbg, .out] s t)

/-- Trace spills, Belvedere captures, hangs are found and debug data is read (R549, R555, R556, R557, R558, R560, R561). -/
def Obligations.TraceSnapshotsAndDebugReads : Prop :=
  -- TRACE_SPILL moves the oldest 4 KiB of the trace to the spill region
  (∀ (s : State) (hv : HostView) (p : Nat),
    s.dieUp = true → s.getB R.DBG_TRACE_CTRL 2 = true → s.getF R.DBG_SPILL_SIZE 0 16 ≠ 0 → s.dbg.spillStopped = false →
    128 ≤ s.dbg.trace.length → s.allDevice 0 (s.pair R.DBG_SPILL_BASE_LO R.DBG_SPILL_BASE_HI + s.dbg.spillPos % (s.getF R.DBG_SPILL_SIZE 0 16 * 2 ^ 20)) 4096 = true →
    DevRange s hv 0 (s.pair R.DBG_SPILL_BASE_LO R.DBG_SPILL_BASE_HI + s.dbg.spillPos % (s.getF R.DBG_SPILL_SIZE 0 16 * 2 ^ 20)) p 4096 true →
    ∃ t, exec (.traceSpill hv) s = .next t ∧ t.drams p 4096 = (s.dbg.trace.take 128).flatMap TraceRec.bytes ∧ MemBut p 4096 s t ∧
    t.dbg.trace = s.dbg.trace.drop 128 ∧ t.dbg.spillPos = (s.dbg.spillPos + 4096) % (s.getF R.DBG_SPILL_SIZE 0 16 * 2 ^ 20)) ∧
  -- a region that is not in device memory ends spilling and is logged
  (∀ (s : State) (hv : HostView),
    s.dieUp = true → s.getB R.DBG_TRACE_CTRL 2 = true → s.getF R.DBG_SPILL_SIZE 0 16 ≠ 0 → s.dbg.spillStopped = false →
    128 ≤ s.dbg.trace.length → s.allDevice 0 (s.pair R.DBG_SPILL_BASE_LO R.DBG_SPILL_BASE_HI + s.dbg.spillPos % (s.getF R.DBG_SPILL_SIZE 0 16 * 2 ^ 20)) 4096 = false →
    ∃ t, exec (.traceSpill hv) s = .next t ∧ t.dbg.spillStopped = true ∧ t.dbg.trace = s.dbg.trace ∧ t.getB (intK pDBG) 31 = true ∧
    SameMem s t) ∧
  -- BELVEDERE_CAPTURE starts a capture, in slot 0 while neither is valid
  (∀ (s : State) (v : Word),
    bit v 0 = true → s.dbg.capturing = none → fld (s.rd R.DBG_BELV_STATUS) 0 2 = 0 →
    ∃ t, exec (.belvedereCapture v) s = .next t ∧ t.dbg.capturing = some (0, 1, s.devTime) ∧ t.getB R.DBG_BELV_CTRL 0 = true ∧
    t.getB (statusK pDBG) 2 = true ∧ SameMem s t) ∧
  -- during another it is refused and counted
  (∀ (s : State) (v : Word) (x : Nat × Nat × Nat),
    bit v 0 = true → s.dbg.capturing = some x →
    ∃ t, exec (.belvedereCapture v) s = .next t ∧ t.dbg.capturing = some x ∧ t.dbg.slots = s.dbg.slots ∧ t.rd (R.DBG_BELV_REFUSED) = word (min 0xFFFFFFFF ((s.rd (R.DBG_BELV_REFUSED)).toNat + 1))) ∧
  -- CAPTURE_DONE makes the snapshot valid and the newest
  (∀ (s : State) (k c a : Nat),
    s.dbg.capturing = some (k, c, a) → k < 2 →
    ∃ t, exec .captureDone s = .next t ∧ (t.dbg.slots.look k).map (fun b => (b.seq, b.cause, b.sections.map Prod.fst)) = some (t.getF R.DBG_BELV_STATUS 16 16, c, [1, 2, 3, 4, 5, 6, 7, 8, 9, 10]) ∧
    t.getB R.DBG_BELV_STATUS k = true ∧ t.getF R.DBG_BELV_STATUS 2 1 = k ∧
    t.getF R.DBG_BELV_STATUS 16 16 = (s.getF R.DBG_BELV_STATUS 16 16 + 1) % 65536 ∧ t.dbg.capturing = none ∧ t.getB R.DBG_BELV_CTRL 0 = false ∧
    t.getB (intK pDBG) 1 = true ∧ t.ops = s.ops ∧ SameMem s t) ∧
  -- HANG_DETECT captures, with the condition, and freezes where that is enabled
  (∀ (s : State) (c : Nat),
    s.dieUp = true → s.getB R.DBG_BELV_CTRL 1 = true → s.getF R.DBG_BELV_CTRL 16 16 ≠ 0 → s.hangSign c ≠ [] → s.dbg.hangFired.look c = none →
    s.dbg.capturing = none → fld (s.rd R.DBG_BELV_STATUS) 0 2 = 0 →
    ∃ t, exec (.hangDetect c) s = .next t ∧ t.dbg.capturing = some (0, 3 + 16 * c, s.devTime) ∧ t.dbg.hangFired.look c = some (s.hangSign c) ∧
    (s.getB R.DBG_FREEZE_ENABLE 5 = true → t.frozen = true) ∧ t.ops = s.ops ∧ SameMem s t) ∧
  -- without a sign of it nothing happens
  (∀ (s : State) (c : Nat),
    s.hangSign c = [] →
    ∃ t, exec (.hangDetect c) s = .next t ∧ t = s) ∧
  -- DEBUG_READ is the manager's
  (∀ (s : State) (op : Nat) (o : Op) (hv : HostView),
    s.runnable op [0x77] = some o → s.op? op = some o → o.issued = false → s.coreUp 5 = true → o.fn ≠ 0 →
    ∃ t, exec (.debugRead op hv) s = .next t ∧ Ended t op stDenied 0 ∧ SameMem s t) ∧
  -- of no bytes it answers how many there are
  (∀ (s : State) (op : Nat) (o : Op) (hv : HostView) (bs : List Byte),
    s.runnable op [0x77] = some o → s.op? op = some o → o.issued = false → s.coreUp 5 = true → o.fn = 0 → farAddr (dQuad o.desc 0x10) = false →
    dQuad o.desc 0x10 % 64 = 0 → dfld o.desc 0x18 0 2 ≠ 3 → (s.debugSource (dfld o.desc 0x18 0 2) (dfld o.desc 0x18 2 1)) = some bs →
    dWord o.desc 0x1C = 0 →
    ∃ t, exec (.debugRead op hv) s = .next t ∧ Ended t op stOK bs.length ∧ SameMem s t) ∧
  -- else it writes them
  (∀ (s : State) (op : Nat) (o : Op) (hv : HostView) (bs : List Byte) (p : Nat),
    s.runnable op [0x77] = some o → s.op? op = some o → o.issued = false → s.coreUp 5 = true → o.fn = 0 → farAddr (dQuad o.desc 0x10) = false →
    dQuad o.desc 0x10 % 64 = 0 → dfld o.desc 0x18 0 2 ≠ 3 → (s.debugSource (dfld o.desc 0x18 0 2) (dfld o.desc 0x18 2 1)) = some bs →
    0 < dWord o.desc 0x1C → DevRange s hv o.fn (dQuad o.desc 0x10) p (min (dWord o.desc 0x1C) bs.length) true →
    ∃ t, exec (.debugRead op hv) s = .next t ∧ Ended t op stOK (min (dWord o.desc 0x1C) bs.length) ∧ t.drams p (min (dWord o.desc 0x1C) bs.length) = bs.take (dWord o.desc 0x1C) ∧
    MemBut p (min (dWord o.desc 0x1C) bs.length) s t)

/-- The boot chooses an image, and the stages of bring-up end with the status that each clause gives (R308, R320, R331, R413, R477, R503, R504, R517, R563, R564, R565, R566). -/
def Obligations.BringUpStages : Prop :=
  -- INTERNAL_BOOT_DONE starts the active bank's image where its bytes verify
  (∀ (s : State) (m : Image),
    s.dieUp = true → s.boot.internal = false → s.flash.trial = false → (s.bank s.flash.active).info = some m → (s.bank s.flash.active).valid = true →
    s.imageOk m = true → s.flash.active = 0 →
    ∃ t, exec (.internalBootDone true false) s = .next t ∧ t.boot.internal = true ∧ t.boot.recovery = false ∧ t.flash.active = 0 ∧
    t.fwc.running = some m ∧ t.rd R.FWC_FW_VERSION = word m.fw ∧ t.rd R.FWC_IF_VERSION = word m.ifv ∧ t.getB R.SEC_BOOT_STATUS 0 = true ∧
    t.pwr.coef = s.flash.coef ∧ SameMem s t) ∧
  -- with neither bank good the recovery image runs
  (∀ (s : State),
    s.dieUp = true → s.boot.internal = false → s.flash.trial = false → s.flash.active = 0 → s.bankBoots 0 false = none →
    ∃ t, exec (.internalBootDone false false) s = .next t ∧ t.boot.internal = true ∧ t.boot.recovery = true ∧ (t.bank 0).valid = false ∧
    (t.bank 1).valid = false ∧ t.getB R.FWC_BANK 1 = true ∧ t.getB (intK pFWC) 31 = true ∧ t.getB (intK pSEC) 31 = true) ∧
  -- after a trial boot without COMMIT the other bank boots, told by BANK_FALLBACK
  (∀ (s : State) (m : Image),
    s.dieUp = true → s.boot.internal = false → s.flash.trial = true → s.flash.trialBooted = true → s.flash.active = 1 →
    (s.bank 0).info = some m → (s.bank 0).valid = true → s.imageOk m = true →
    ∃ t, exec (.internalBootDone true true) s = .next t ∧ t.flash.active = 0 ∧ t.flash.trial = false ∧ t.fwc.running = some m ∧
    t.getB R.FWC_BANK 6 = true ∧ t.getB (intK pFWC) 4 = true) ∧
  -- MEMORY_TRAINING_DONE brings every channel up at a speed
  (∀ (s : State) (f : Bool),
    s.booting = true → s.boot.mem = none →
    ∃ t, exec (.memoryTrainingDone f []) s = .next t ∧ t.boot.mem = some f ∧ (∀ n ∈ List.range 20, (t.rd (R.MEM_SPEED n)).toNat = if f then 9600 else 6400) ∧
    (∀ c ∈ List.range 80, t.chanState c = 2) ∧ t.idle.selfRefresh = false ∧ SameMem s t) ∧
  -- a channel that failed is FAILED, and stage 2 did not pass
  (∀ (s : State) (f : Bool) (c : Nat),
    s.booting = true → s.boot.mem = none → c < 80 →
    ∃ t, exec (.memoryTrainingDone f [c]) s = .next t ∧ t.boot.mem = some false ∧ t.chanState c = 5) ∧
  -- SERDES_CAL_DONE keeps how stage 3 went
  (∀ (s : State) (f : Bool),
    s.booting = true → s.boot.serdes = none →
    ∃ t, exec (.serdesCalDone f) s = .next t ∧ t.boot = { s.boot with serdes := some f } ∧ Only [.boot] s t) ∧
  -- TILE_SELFTEST_DONE does of stage 4
  (∀ (s : State),
    s.booting = true → s.boot.tiles = none →
    ∃ t, exec (.tileSelftestDone [] []) s = .next t ∧ t.boot = { s.boot with tiles := some true } ∧ t.tiles = s.tiles ∧
    t.flash = s.flash ∧ SameMem s t) ∧
  -- DRAM_INIT_DONE makes every byte of DRAM read as zero
  (∀ (s : State),
    s.booting = true → s.boot.mem.isSome = true → s.dramInit = false →
    ∃ t, exec .dramInitDone s = .next t ∧ t.dramInit = true ∧ (∀ p, t.dram p = 0) ∧ Only [.mem, .dramInit] s t) ∧
  -- CALIBRATION_DONE takes the fitted coefficients
  (∀ (s : State) (l : List (Nat × Nat)),
    s.booting = true → s.boot.mem.isSome = true → s.dramInit = true → s.boot.calib = false →
    ∃ t, exec (.calibrationDone (some l)) s = .next t ∧ t.boot = { s.boot with calib := true } ∧ (∀ i ∈ List.range l.length, t.pwr.coef.look i = l[i]?) ∧
    t.flash.coef = t.pwr.coef ∧ t.getB R.PWR_MODEL_STATUS 1 = true ∧ RegsBut [R.PWR_MODEL_STATUS] s t ∧ Only [.boot, .pwr, .flash, .regs] s t) ∧
  -- or keeps the old ones where the fit fails, and logs it
  (∀ (s : State),
    s.booting = true → s.boot.mem.isSome = true → s.dramInit = true → s.boot.calib = false →
    ∃ t, exec (.calibrationDone none) s = .next t ∧ t.boot = { s.boot with calib := true } ∧ t.pwr.coef = s.pwr.coef ∧
    t.getB R.PWR_MODEL_STATUS 1 = false ∧ t.getB (intK pPWR) 31 = true ∧ TellsIn [.boot] [R.PWR_MODEL_STATUS] s t) ∧
  -- RESTORE_DONE loads what was saved and sets BOOT_DONE, and FULL_SERVICE where every condition is met
  (∀ (s : State),
    s.booting = true → s.boot.mem.isSome = true → s.boot.serdes.isSome = true → s.boot.tiles.isSome = true → s.boot.calib = true →
    s.dramInit = true → s.flash.config = [] → s.flash.plan = [] →
    ∃ t, exec .restoreDone s = .next t ∧ t.getB (statusK pGLB) 0 = true ∧ t.getB (statusK pGLB) 1 = decide (s.unmet = 0) ∧
    t.rd R.GLB_SERIAL_LO = word Config.serial ∧ t.crw.route = s.flash.route ∧ t.crw.part = s.flash.part ∧ t.net.fnAddr = s.flash.fnAddr ∧
    (s.unmet ≠ 0 → ∀ n ∈ List.range 20, (t.rd (R.MEM_SPEED n)).toNat = 6400) ∧ SameMem s t)

/-- SERVICE_CTL commands and the crew's roster: what each stores, starts or refuses (R565, R566, R568, R569, R570, R571, R572). -/
def Obligations.ServiceAndRoster : Prop :=
  -- SERVICE_CTL 0 is the manager's
  (∀ (s : State) (op : Nat) (o : Op),
    s.runnable op [0x78] = some o → s.op? op = some o → o.issued = false → dfld o.desc 0x10 0 2 = 0 → s.coreUp 0 = true →
    o.fn ≠ 0 →
    ∃ t, exec (.serviceQuery op) s = .next t ∧ Ended t op stDenied 0 ∧ t.flash = s.flash ∧ SameMem s t) ∧
  -- SERVICE_CTL 1 is the manager's
  (∀ (s : State) (op : Nat) (o : Op),
    s.runnable op [0x78] = some o → s.op? op = some o → o.issued = false → dfld o.desc 0x10 0 2 = 1 → s.coreUp 0 = true →
    o.fn ≠ 0 →
    ∃ t, exec (.serviceRequestFull op true true [] true) s = .next t ∧ Ended t op stDenied 0 ∧ t.flash = s.flash ∧
    SameMem s t) ∧
  -- SERVICE_CTL 2 is the manager's
  (∀ (s : State) (op : Nat) (o : Op),
    s.runnable op [0x78] = some o → s.op? op = some o → o.issued = false → dfld o.desc 0x10 0 2 = 2 → s.coreUp 0 = true →
    o.fn ≠ 0 →
    ∃ t, exec (.serviceHoldReduced op) s = .next t ∧ Ended t op stDenied 0 ∧ t.flash = s.flash ∧ SameMem s t) ∧
  -- SERVICE_CTL 3 is the manager's
  (∀ (s : State) (op : Nat) (o : Op),
    s.runnable op [0x78] = some o → s.op? op = some o → o.issued = false → dfld o.desc 0x10 0 2 = 3 → s.coreUp 0 = true →
    o.fn ≠ 0 →
    ∃ t, exec (.serviceSaveConfig op) s = .next t ∧ Ended t op stDenied 0 ∧ t.flash = s.flash ∧ SameMem s t) ∧
  -- SERVICE_QUERY answers the unmet conditions
  (∀ (s : State) (op : Nat) (o : Op),
    s.runnable op [0x78] = some o → s.op? op = some o → o.issued = false → dfld o.desc 0x10 0 2 = 0 → s.coreUp 0 = true →
    o.fn = 0 →
    ∃ t, exec (.serviceQuery op) s = .next t ∧ Ended t op stOK s.serviceResult ∧ t.boot = s.boot ∧ t.flash = s.flash ∧
    SameMem s t) ∧
  -- while the device is not quiet SERVICE_CTL 1 is INVALID
  (∀ (s : State) (op : Nat) (o : Op),
    s.runnable op [0x78] = some o → s.op? op = some o → o.issued = false → dfld o.desc 0x10 0 2 = 1 → s.coreUp 0 = true →
    o.fn = 0 → s.quietBut op o = false →
    ∃ t, exec (.serviceRequestFull op true true [] true) s = .next t ∧ Ended t op stInvalid (invalidAt 0x10) ∧ t.flash = s.flash ∧
    t.boot = s.boot ∧ SameMem s t) ∧
  -- while the device is not quiet SERVICE_CTL 2 is INVALID
  (∀ (s : State) (op : Nat) (o : Op),
    s.runnable op [0x78] = some o → s.op? op = some o → o.issued = false → dfld o.desc 0x10 0 2 = 2 → s.coreUp 0 = true →
    o.fn = 0 → s.quietBut op o = false →
    ∃ t, exec (.serviceHoldReduced op) s = .next t ∧ Ended t op stInvalid (invalidAt 0x10) ∧ t.flash = s.flash ∧ t.boot = s.boot ∧
    SameMem s t) ∧
  -- SERVICE_REQUEST_FULL with every check passed gives full service
  (∀ (s : State) (op : Nat) (o : Op),
    s.runnable op [0x78] = some o → s.op? op = some o → o.issued = false → dfld o.desc 0x10 0 2 = 1 → s.coreUp 0 = true →
    o.fn = 0 → s.quietBut op o = true → s.getB (statusK pGLB) 1 = false →
    ∃ t, exec (.serviceRequestFull op true true [] true) s = .next t ∧ (t.op? op).map (fun y => (y.st, y.status)) = some (OpSt.done, stOK) ∧
    t.getB (statusK pGLB) 1 = true ∧ t.flash = { s.flash with hold := false } ∧ t.boot.mem = some true ∧ t.boot.tiles = some true ∧
    t.getB R.PWR_MODEL_STATUS 1 = true ∧ SameMem s t) ∧
  -- SERVICE_HOLD_REDUCED leaves it and holds it off
  (∀ (s : State) (op : Nat) (o : Op),
    s.runnable op [0x78] = some o → s.op? op = some o → o.issued = false → dfld o.desc 0x10 0 2 = 2 → s.coreUp 0 = true →
    o.fn = 0 → s.quietBut op o = true → s.getB (statusK pGLB) 1 = true →
    ∃ t, exec (.serviceHoldReduced op) s = .next t ∧ (t.op? op).map (fun y => (y.st, y.status)) = some (OpSt.done, stOK) ∧
    t.getB (statusK pGLB) 1 = false ∧ t.flash = { s.flash with hold := true } ∧ (∀ n ∈ List.range 20, (t.rd (R.MEM_SPEED n)).toNat = 6400) ∧
    SameMem s t) ∧
  -- SERVICE_SAVE_CONFIG keeps the registers of R568 in flash
  (∀ (s : State) (op : Nat) (o : Op),
    s.runnable op [0x78] = some o → s.op? op = some o → o.issued = false → dfld o.desc 0x10 0 2 = 3 → s.coreUp 0 = true →
    o.fn = 0 →
    ∃ t, exec (.serviceSaveConfig op) s = .next t ∧ Ended t op stOK s.serviceResult ∧ (t.flash.config.look R.PWR_CAP).getD (regDefault R.PWR_CAP) = s.rd R.PWR_CAP ∧
    t.flash.coef = s.flash.coef ∧ t.flash.route = s.flash.route ∧ SameMem s t) ∧
  -- ROSTER_SEND sends this member's record on every UP link and drops records not heard for 10 ms
  (∀ (s : State),
    ∃ t, exec .rosterSend s = .next t ∧ (∀ e ∈ t.boot.roster, s.uptime < e.2 + 10000000) ∧ t.out = (s.linksUp.map (fun l => Out.roster l t.ownRoster)).reverse ++ s.out ∧
    Only [.boot, .out] s t) ∧
  -- ROSTER_RECEIVE takes a new record into the roster, and relays none beyond six hops
  (∀ (s : State) (l : Nat) (r : Roster),
    s.linkState l = 2 → (¬ (s.ownRoster.dev = r.dev ∧ s.ownRoster.serial = r.serial)) → s.boot.roster = [] → r.dev / 8 = s.ownRoster.dev / 8 →
    r.dev ≠ s.ownRoster.dev → r.master = false →
    ∃ t, exec (.rosterReceive l r) s = .next t ∧ t.boot.roster = [(r, s.uptime)] ∧ t.boot.breach = s.boot.breach ∧
    (r.hops + 1 = 6 → t.out = s.out) ∧ Only [.boot, .out] s t) ∧
  -- another module with this device's ID is a breach
  (∀ (s : State) (l : Nat) (r : Roster),
    s.linkState l = 2 → s.boot.roster = [] → r.dev = s.ownRoster.dev → r.serial ≠ s.ownRoster.serial → s.boot.breach ≠ 1 →
    ∃ t, exec (.rosterReceive l r) s = .next t ∧ t.boot.breach = 1 ∧ t.getB (statusK pGLB) 2 = false) ∧
  -- CREW_JOIN joins a crew whose roster has no breach
  (∀ (s : State),
    s.dieUp = true → s.linksUp ≠ [] → s.rosterBreach.1 = 0 →
    ∃ t, exec .crewJoin s = .next t ∧ t.boot = { s.boot with breach := 0 } ∧ t.getB (statusK pGLB) 2 = true ∧ RegsBut [statusK pGLB] s t ∧
    Only [.boot, .regs] s t)
end

