-- ==== Sys2Proof/Laws/Tab.lean ====
section
/-! SUPPORT. Sys2Proof/Laws/Tab.lean: what a write of a table leaves for a read, and that every operation keeps the canonical form. -/

namespace Sys2Proof.Machine.Tab
variable {β : Type}

@[simp] theorem look_nil (k : Nat) : look ([] : Tab β) k = none := rfl

@[simp] theorem look_put_self (t : Tab β) (k : Nat) (v : β) : look (put t k v) k = some v := by
  induction t with
  | nil => simp [put, look]
  | cons e r ih =>
    obtain ⟨j, w⟩ := e
    simp only [put]
    split
    · simp [look]
    · split
      · simp [look]
      · next h => simp [look, ih, Ne.symm h]

theorem look_put_ne (t : Tab β) {k j : Nat} (v : β) (h : j ≠ k) : look (put t k v) j = look t j := by
  induction t with
  | nil => simp [put, look, Ne.symm h]
  | cons e r ih =>
    obtain ⟨i, w⟩ := e
    simp only [put]
    split
    · simp [look, Ne.symm h]
    · split
      · next e => subst e; simp [look, Ne.symm h]
      · simp [look, ih]

theorem look_filter (t : Tab β) (p : Nat → Bool) (j : Nat) :
    look (t.filter (fun e => p e.1)) j = if p j then look t j else none := by
  induction t with
  | nil => simp [look]
  | cons e r ih =>
    obtain ⟨i, w⟩ := e
    by_cases hi : p i <;> simp [look, hi, ih]
    · by_cases hj : i = j
      · subst hj; simp [hi]
      · simp [hj]
    · by_cases hj : i = j
      · subst hj; simp [hi]
      · simp [hj]

@[simp] theorem look_del_self (t : Tab β) (k : Nat) : look (del t k) k = none := by
  have h := look_filter t (fun j => decide (j ≠ k)) k
  simpa [del] using h

theorem look_del_ne (t : Tab β) {k j : Nat} (h : j ≠ k) : look (del t k) j = look t j := by
  have h' := look_filter t (fun i => decide (i ≠ k)) j
  simpa [del, h] using h'

theorem look_upd (t : Tab β) (k j : Nat) (f : β → β) :
    look (upd t k f) j = if j = k then (look t j).map f else look t j := by
  induction t with
  | nil => simp [upd, look]
  | cons e r ih =>
    obtain ⟨i, w⟩ := e
    by_cases hik : i = k
    · subst hik
      have hu : upd ((i, w) :: r) i f = (i, f w) :: upd r i f := by simp [upd]
      by_cases hij : i = j
      · subst hij; simp [hu, look]
      · rw [hu]; simp only [look, hij, if_false, ih]
    · have hu : upd ((i, w) :: r) k f = (i, w) :: upd r k f := by simp [upd, hik]
      by_cases hij : i = j
      · subst hij; simp [hu, look, hik]
      · rw [hu]; simp only [look, hij, if_false, ih]

@[simp] theorem look_mapv (t : Tab β) (f : Nat → β → β) (j : Nat) : look (mapv t f) j = (look t j).map (f j) := by
  induction t with
  | nil => simp [mapv, look]
  | cons e r ih =>
    obtain ⟨i, w⟩ := e
    have hu : mapv ((i, w) :: r) f = (i, f i w) :: mapv r f := rfl
    by_cases hij : i = j
    · subst hij; simp [hu, look]
    · simp [hu, look, hij, ih]

@[simp] theorem getD_nil (d : Nat → β) (k : Nat) : getD d [] k = d k := rfl

@[simp] theorem getD_setD_self [DecidableEq β] (d : Nat → β) (t : Tab β) (k : Nat) (v : β) : getD d (setD d t k v) k = v := by
  by_cases h : v = d k <;> simp [getD, setD, h]

theorem getD_setD_ne [DecidableEq β] (d : Nat → β) (t : Tab β) {k j : Nat} (v : β) (h : j ≠ k) :
    getD d (setD d t k v) j = getD d t j := by
  by_cases hv : v = d k <;> simp [getD, setD, hv, look_del_ne t h, look_put_ne t v h]

/-! ## The canonical form -/

/-- A lower bound of the keys can be lowered. -/
theorem risingFrom_mono {i j : Nat} (h : i ≤ j) (t : Tab β) (ht : risingFrom (some j) t = true) : risingFrom (some i) t = true := by
  cases t with
  | nil => rfl
  | cons e r =>
    simp only [risingFrom, Bool.and_eq_true, decide_eq_true_eq] at ht ⊢
    exact ⟨by omega, ht.2⟩

theorem rising_of_risingFrom (o : Option Nat) (t : Tab β) (h : risingFrom o t = true) : rising t = true := by
  cases t with
  | nil => rfl
  | cons e r =>
    cases o with
    | none => exact h
    | some j =>
      simp only [risingFrom, Bool.and_eq_true] at h
      exact h.2

theorem risingFrom_put (t : Tab β) (k : Nat) (v : β) :
    ∀ o : Option Nat, (∀ j, o = some j → j < k) → risingFrom o t = true → risingFrom o (put t k v) = true := by
  induction t with
  | nil => intro o ho _; cases o <;> simp [put, risingFrom]; exact ho _ rfl
  | cons e r ih =>
    obtain ⟨i, w⟩ := e
    intro o ho h
    have hr : risingFrom (some i) r = true := by cases o <;> simp [risingFrom] at h <;> simp [h]
    have hlow : ∀ j, o = some j → j < i := by intro j hj; subst hj; simp [risingFrom] at h; exact h.1
    simp only [put]
    split
    · next hk => cases o <;> simp [risingFrom, hk, hr]; exact ho _ rfl
    · split
      · next hk => subst hk; cases o <;> simp [risingFrom, hr]; exact ho _ rfl
      · next h1 h2 =>
        have := ih (some i) (by intro j hj; simp at hj; omega) hr
        cases o <;> simp [risingFrom, this]; exact hlow _ rfl

theorem rising_put (t : Tab β) (k : Nat) (v : β) (h : rising t = true) : rising (put t k v) = true :=
  risingFrom_put t k v none (by simp) h

theorem risingFrom_filter (p : Nat × β → Bool) (t : Tab β) :
    ∀ o : Option Nat, risingFrom o t = true → risingFrom o (t.filter p) = true := by
  induction t with
  | nil => intro o h; simpa using h
  | cons e r ih =>
    obtain ⟨i, w⟩ := e
    intro o h
    have hr : risingFrom (some i) r = true := by cases o <;> simp [risingFrom] at h <;> simp [h]
    rw [List.filter_cons]
    split
    · cases o with
      | none => simpa [risingFrom] using ih _ hr
      | some j => simp [risingFrom] at h; simpa [risingFrom, h.1] using ih _ hr
    · cases o with
      | none => exact rising_of_risingFrom (some i) _ (ih _ hr)
      | some j => simp [risingFrom] at h; exact risingFrom_mono (by omega) _ (ih _ hr)

theorem rising_filter (p : Nat × β → Bool) (t : Tab β) (h : rising t = true) : rising (t.filter p) = true :=
  risingFrom_filter p t none h

theorem mem_put {t : Tab β} {k : Nat} {v : β} {e : Nat × β} (h : e ∈ put t k v) : e = (k, v) ∨ e ∈ t := by
  induction t with
  | nil => simp [put] at h; exact .inl h
  | cons x r ih =>
    obtain ⟨i, w⟩ := x
    simp only [put] at h
    split at h
    · simpa using h
    · split at h
      · rcases List.mem_cons.1 h with h | h
        · exact .inl h
        · exact .inr (List.mem_cons_of_mem _ h)
      · rcases List.mem_cons.1 h with h | h
        · exact .inr (by simp [h])
        · exact (ih h).imp id (List.mem_cons_of_mem _)

/-- A filter keeps the canonical form. -/
theorem wf_filter [DecidableEq β] (d : Nat → β) (p : Nat × β → Bool) (t : Tab β) (h : wf d t = true) : wf d (t.filter p) = true := by
  simp only [wf, Bool.and_eq_true, List.all_eq_true] at h ⊢
  exact ⟨rising_filter p t h.1, fun e he => h.2 e (List.mem_filter.1 he).1⟩

/-- A write keeps the canonical form. -/
theorem wf_setD [DecidableEq β] (d : Nat → β) (t : Tab β) (k : Nat) (v : β) (h : wf d t = true) : wf d (setD d t k v) = true := by
  unfold setD
  split
  · exact wf_filter d _ t h
  · next hv =>
    simp only [wf, Bool.and_eq_true, List.all_eq_true] at h ⊢
    refine ⟨rising_put t k v h.1, fun e he => ?_⟩
    rcases mem_put he with rfl | he
    · simpa using hv
    · exact h.2 e he

@[simp] theorem wf_nil [DecidableEq β] (d : Nat → β) : wf d ([] : Tab β) = true := rfl

end Sys2Proof.Machine.Tab
end

