-- ==== Sys2Proof/Laws/Ops.lean ====
section
/-! SUPPORT. Sys2Proof/Laws/Ops.lean: what the shared operations do to registers, and that telling about an event (errors, events, interrupts, counters, trace,
freeze, wake) touches nothing but what `Told` names. -/

namespace Sys2Proof.Machine
open Sys2Proof

/-! ## Registers -/

@[simp] theorem State.rd_wr_self (s : State) (k : Nat) (v : Word) : (s.wr k v).rd k = v := Tab.getD_setD_self _ _ _ _

theorem State.rd_wr_ne (s : State) {k j : Nat} (v : Word) (h : j ≠ k) : (s.wr k v).rd j = s.rd j := Tab.getD_setD_ne _ _ _ h

theorem State.rd_wr (s : State) (k j : Nat) (v : Word) : (s.wr k v).rd j = if j = k then v else s.rd j := by
  split
  · next h => subst h; simp
  · next h => exact s.rd_wr_ne v h

/-- Reading registers depends on the registers alone. -/
theorem State.rd_congr {s t : State} (h : t.regs = s.regs) (k : Nat) : t.rd k = s.rd k := by simp [State.rd, h]

/-- Reading DRAM depends on memory and on whether it is initialised. -/
theorem State.dram_congr {s t : State} (h : t.mem = s.mem) (h' : t.dramInit = s.dramInit) (p : Nat) : t.dram p = s.dram p := by
  have hd : t.memDefault = s.memDefault := by funext q; simp [State.memDefault, h']
  simp [State.dram, h, hd]

@[simp] theorem State.dram_setDram_self (s : State) (p : Nat) (b : Byte) : (s.setDram p b).dram p = b := Tab.getD_setD_self _ _ _ _

theorem State.dram_setDram_ne (s : State) {p q : Nat} (b : Byte) (h : q ≠ p) : (s.setDram p b).dram q = s.dram q := Tab.getD_setD_ne _ _ _ h

theorem State.dram_setDrams_out (s : State) (p q : Nat) (l : List Byte) (h : q < p ∨ p + l.length ≤ q) :
    (s.setDrams p l).dram q = s.dram q := by
  induction l generalizing s p with
  | nil => rfl
  | cons b r ih =>
    simp only [List.length_cons] at h
    rw [State.setDrams, ih _ _ (by omega)]
    exact s.dram_setDram_ne b (by omega)

theorem State.dram_setDrams_in (s : State) (p : Nat) (l : List Byte) (i : Nat) (h : i < l.length) :
    (s.setDrams p l).dram (p + i) = l[i] := by
  induction l generalizing s p i with
  | nil => simp at h
  | cons b r ih =>
    rw [State.setDrams]
    cases i with
    | zero => rw [Nat.add_zero, State.dram_setDrams_out _ _ _ _ (by omega)]; simp
    | succ i =>
      have := ih (s.setDram p b) (p + 1) i (by simpa using h)
      rw [show p + (i + 1) = p + 1 + i by omega, this]; simp

/-! ## Frames -/

theorem Field.same_refl (p : Field) (s : State) : p.Same s s := by cases p <;> first | rfl | (intro _; rfl)

theorem Field.same_trans {p : Field} {a b c : State} (h : p.Same a b) (h' : p.Same b c) : p.Same a c := by
  cases p <;> first | exact Eq.trans h' h | exact fun k => (h' k).trans (h k)

theorem Only.refl (l : List Field) (s : State) : Only l s s := ⟨rfl, fun p _ => p.same_refl s⟩

theorem Only.trans {l : List Field} {a b c : State} (h : Only l a b) (h' : Only l b c) : Only l a c :=
  ⟨h'.1.trans h.1, fun p hp => Field.same_trans (h.2 p hp) (h'.2 p hp)⟩

theorem Only.mono {l m : List Field} {a b : State} (h : Only l a b) (hm : ∀ p, p ∈ l → p ∈ m) : Only m a b :=
  ⟨h.1, fun p hp => h.2 p (fun hl => hp (hm p hl))⟩

theorem Told.refl (s : State) : Told s s := ⟨Only.refl _ s, fun _ _ => rfl⟩

theorem Told.trans {a b c : State} (h : Told a b) (h' : Told b c) : Told a c :=
  ⟨h.1.trans h'.1, fun k hk => (h'.2 k hk).trans (h.2 k hk)⟩

/-- A change of the told fields that leaves the registers. -/
theorem Told.of_only {s t : State} (h : Only [.out, .hif, .events, .idle, .net, .crw, .inbox, .dbg] s t) : Told s t :=
  ⟨h.mono (by decide), fun k _ => h.2 .regs (by decide) k⟩

theorem Told.wr (s : State) {k : Nat} (v : Word) (h : tellKey k = true) : Told s (s.wr k v) := by
  refine ⟨⟨rfl, fun p hp => ?_⟩, fun j hj => s.rd_wr_ne v (by rintro rfl; simp [h] at hj)⟩
  cases p <;> first | exact absurd (by decide) hp | rfl | (intro _; rfl)

theorem Told.setF (s : State) {k : Nat} (lo w x : Nat) (h : tellKey k = true) : Told s (s.setF k lo w x) := Told.wr s _ h
theorem Told.setB (s : State) {k : Nat} (i : Nat) (b : Bool) (h : tellKey k = true) : Told s (s.setB k i b) := Told.wr s _ h
theorem Told.bump (s : State) {k : Nat} (n : Nat) (h : tellKey k = true) : Told s (s.bump k n) := Told.wr s _ h

/-- Fold of a function that only tells. -/
theorem Told.foldl {α : Type} (f : State → α → State) (l : List α) (hf : ∀ s a, Told s (f s a)) (s : State) : Told s (l.foldl f s) := by
  induction l generalizing s with
  | nil => exact Told.refl s
  | cons a r ih => exact (hf s a).trans (ih _)

theorem keyOff_rkey (page off idx : Nat) (h : off < 4096) : keyOff (rkey page off idx) = off := by
  simp only [keyOff, rkey]; omega

theorem keyPage_rkey (page off idx : Nat) (h : off < 4096) (hp : page < 4096) : keyPage (rkey page off idx) = page := by
  simp only [keyPage, rkey]; omega

theorem tellKey_common (page off idx : Nat) (h : off < 0x40) : tellKey (rkey page off idx) = true := by
  simp [tellKey, keyOff_rkey page off idx (by omega), h]

@[simp] theorem tellKey_intK (page : Nat) : tellKey (intK page) = true := tellKey_common _ _ _ (by decide)
@[simp] theorem tellKey_statusK (page : Nat) : tellKey (statusK page) = true := tellKey_common _ _ _ (by decide)
@[simp] theorem tellKey_errCountK (page : Nat) : tellKey (errCountK page) = true := tellKey_common _ _ _ (by decide)
theorem tellKey_errLogK (page j : Nat) (h : j < 8) : tellKey (errLogK page j) = true := tellKey_common _ _ _ (by omega)

theorem Told.emit (s : State) (o : Out) : Told s (s.emit o) :=
  Told.of_only ⟨rfl, fun p hp => by cases p <;> first | exact absurd (by decide) hp | rfl | (intro _; rfl)⟩

theorem Told.putMsix (s : State) (fn v : Nat) (m : Msix) : Told s (s.putMsix fn v m) :=
  Told.of_only ⟨rfl, fun p hp => by cases p <;> first | exact absurd (by decide) hp | rfl | (intro _; rfl)⟩

theorem Told.msix (s : State) (fn v : Nat) : Told s (s.msix fn v) := by
  simp only [State.msix]
  split
  · exact Told.putMsix ..
  · split
    · exact Told.emit ..
    · exact Told.refl s

theorem Told.pageMsg (s : State) (page : Nat) : Told s (s.pageMsg page) := Told.msix ..

theorem Told.raiseInts (s : State) (page : Nat) (m : Word) : Told s (s.raiseInts page m) := by
  simp only [State.raiseInts]
  split
  · exact (Told.wr s _ (tellKey_intK page)).trans (Told.pageMsg ..)
  · exact Told.wr s _ (tellKey_intK page)

theorem Told.raiseInt (s : State) (page b : Nat) : Told s (s.raiseInt page b) := Told.raiseInts ..

theorem Told.afterIntWrite (s : State) (page : Nat) : Told s (s.afterIntWrite page) := by
  simp only [State.afterIntWrite]
  split
  · exact Told.pageMsg ..
  · exact Told.refl s

theorem Told.queueFrame (s : State) (t : TxFrame) : Told s (s.queueFrame t) :=
  Told.of_only ⟨rfl, fun p hp => by cases p <;> first | exact absurd (by decide) hp | rfl | (intro _; rfl)⟩

theorem Told.sendPause (s : State) (port c q : Nat) : Told s (s.sendPause port c q) := Told.queueFrame ..

theorem Told.z2Hold (s : State) : Told s s.z2Hold := by
  simp only [State.z2Hold]
  refine Told.trans (Told.foldl _ _ (fun s p => ?_) s) (Told.foldl _ _ (fun s k => ?_) _)
  · split
    · refine Told.trans ?_ (Told.sendPause ..)
      exact Told.of_only ⟨rfl, fun p hp => by cases p <;> first | exact absurd (by decide) hp | rfl | (intro _; rfl)⟩
    · exact Told.refl s
  · split
    · refine Told.trans ?_ (Told.emit ..)
      exact Told.of_only ⟨rfl, fun p hp => by cases p <;> first | exact absurd (by decide) hp | rfl | (intro _; rfl)⟩
    · exact Told.refl s

/-- A change of the idle part of the state only tells. -/
theorem Told.idle (s : State) (x : Idle) : Told s { s with idle := x } :=
  Told.of_only ⟨rfl, fun p hp => by cases p <;> first | exact absurd (by decide) hp | rfl | (intro _; rfl)⟩

/-- A change of the debug part of the state only tells. -/
theorem Told.dbg (s : State) (x : Dbg) : Told s { s with dbg := x } :=
  Told.of_only ⟨rfl, fun p hp => by cases p <;> first | exact absurd (by decide) hp | rfl | (intro _; rfl)⟩

theorem Told.events (s : State) (x : Tab FnEvents) : Told s { s with events := x } :=
  Told.of_only ⟨rfl, fun p hp => by cases p <;> first | exact absurd (by decide) hp | rfl | (intro _; rfl)⟩

theorem Told.wake (s : State) (w : WakeSource) : Told s (s.wake w) := by
  have h1 : tellKey R.GLB_WAKE_CAUSE = true := by decide
  have h2 : tellKey R.GLB_IDLE_STATUS = true := by decide
  simp only [State.wake]
  split
  · exact (Told.setB s _ _ h1).trans (Told.idle ..)
  · split
    · split
      · exact Told.refl s
      · exact (Told.setB s _ _ h1).trans (Told.idle ..)
    · split
      · exact Told.refl s
      · have h := ((Told.setB s (wakeBit w) true h1).trans (Told.setB _ 3 true h2)).trans
          (Told.idle _ { (((s.setB R.GLB_WAKE_CAUSE (wakeBit w) true).setB R.GLB_IDLE_STATUS 3 true)).idle with goal := 0 })
        split
        · exact h.trans (Told.z2Hold _)
        · exact h

theorem Told.logOnly (s : State) (page code cls fn : Nat) (t : Tags) (addr detail : Nat) : Told s (s.logOnly page code cls fn t addr detail) := by
  simp only [State.logOnly]
  refine Told.trans ?_ (Told.raiseInt ..)
  refine (Told.bump s 1 (tellKey_errCountK page)).trans ?_
  split
  · exact Told.refl _
  · exact ((((((((Told.wr _ _ (tellKey_errLogK page 0 (by decide))).trans (Told.wr _ _ (tellKey_errLogK page 1 (by decide)))).trans
      (Told.wr _ _ (tellKey_errLogK page 2 (by decide)))).trans (Told.wr _ _ (tellKey_errLogK page 3 (by decide)))).trans
      (Told.wr _ _ (tellKey_errLogK page 4 (by decide)))).trans (Told.wr _ _ (tellKey_errLogK page 5 (by decide)))).trans
      (Told.wr _ _ (tellKey_errLogK page 6 (by decide)))).trans (Told.wr _ _ (tellKey_errLogK page 7 (by decide)))).trans
      (Told.setB _ _ _ (tellKey_statusK page))

theorem Told.startCapture (s : State) (cause : Nat) : Told s (s.startCapture cause) := by
  have h1 : tellKey R.DBG_BELV_STATUS = true := by decide
  have h2 : tellKey R.DBG_BELV_REFUSED = true := by decide
  unfold State.startCapture
  extract_lets st newest slot u
  split
  · exact (Told.bump s 1 h2).trans (Told.logOnly ..)
  · exact ((Told.dbg s _).trans (Told.setB _ _ _ h1)).trans (Told.setB _ _ _ (tellKey_statusK pDBG))

theorem Told.freeze (s : State) (src : Nat) : Told s (s.freeze src) := by
  have h1 : tellKey R.DBG_FREEZE_CAUSE = true := by decide
  have h2 : tellKey R.DBG_FREEZE_TIME_LO = true := by decide
  unfold State.freeze
  extract_lets en s1 s2 d s3 s4 d1 d2 s5
  have e1 : Told s s1 := Told.setB s _ _ h1
  have e2 : Told s s2 := e1.trans (((Told.setB _ _ _ (tellKey_statusK pDBG)).trans (Told.wr _ _ h2)).trans (Told.raiseInt ..))
  have e3 : Told s s3 := e2.trans (Told.dbg ..)
  have e4 : Told s s4 := by
    simp only [s4]; split
    · exact e3.trans (Told.startCapture ..)
    · exact e3
  have e5 : Told s s5 := by
    simp only [s5]; split
    · exact e4.trans ((Told.emit ..).trans (Told.dbg ..))
    · exact e4
  split
  · exact Told.refl s
  · split
    · exact e1
    · exact e5.trans (Told.wake ..)

theorem Told.trace (s : State) (block inst event fn : Nat) (t : Option Tags) (a b : Nat) : Told s (s.trace block inst event fn t a b) := by
  have h1 : tellKey R.DBG_TRACE_LOST = true := by decide
  have h2 : tellKey R.DBG_TRACE_COUNT = true := by decide
  unfold State.trace
  extract_lets full tg r keep d s1 s2 g
  have e1 : Told s s1 := Told.dbg ..
  have e2 : Told s s2 := e1.trans (Told.wr _ _ h2)
  split
  · exact Told.refl s
  · split
    · exact (Told.bump s 1 h1).trans (Told.raiseInt ..)
    · split
      · exact e2.trans (Told.freeze ..)
      · exact e2

theorem Told.count (s : State) (block inst event fn : Nat) (t : Option Tags) (n : Nat) : Told s (s.count block inst event fn t n) := by
  unfold State.count
  split
  · exact Told.refl s
  · refine Told.foldl _ _ (fun s c => ?_) s
    split
    · extract_lets old v d s1 cmp s2
      have e1 : Told s s1 := Told.dbg ..
      have e2 : Told s s2 := e1.trans (Told.raiseInt ..)
      split
      · split
        · exact e2.trans (Told.freeze ..)
        · exact e2
      · exact e1
    · exact Told.refl s

theorem Told.logErr (s : State) (page code cls fn : Nat) (t : Tags) (addr detail : Nat) : Told s (s.logErr page code cls fn t addr detail) := by
  unfold State.logErr
  extract_lets captured s1 s2
  have e1 : Told s s1 := Told.logOnly ..
  have e2 : Told s s2 := e1.trans (Told.trace ..)
  split
  · split
    · exact e2.trans (Told.freeze ..)
    · exact e2
  · exact e1

/-- A message that waits for a core. -/
theorem Told.toInbox (s : State) (c : Nat) (m : CoreMsg) : Told s (s.toInbox c m) :=
  Told.of_only ⟨rfl, fun p hp => by cases p <;> first | exact absurd (by decide) hp | rfl | (intro _; rfl)⟩

theorem Told.queueEvent (s : State) (dest : Nat) (e : EvRec) (h : dest < 64) : Told s (s.queueEvent dest e) := by
  have hk : tellKey (R.MBX_EVQ_LOST dest) = true := by
    have hp : keyPage (R.MBX_EVQ_LOST dest) = 64 + 16 * dest := keyPage_rkey _ _ _ (by decide) (by simp [pavPage]; omega)
    have ho : keyOff (R.MBX_EVQ_LOST dest) = 0x06C := keyOff_rkey _ _ _ (by decide)
    simp [tellKey, hp, ho]
  unfold State.queueEvent
  extract_lets f
  split
  · exact Told.events ..
  · exact (Told.events ..).trans (Told.bump _ 1 hk)

theorem Told.raiseTo (s : State) (dest : Nat) (e : EvRec) (h : dest < 64) : Told s (s.raiseTo dest e) := by
  unfold State.raiseTo
  extract_lets s1
  have e1 : Told s s1 := Told.trace ..
  split
  · split
    · exact e1.trans (Told.queueEvent _ _ _ h)
    · exact e1.trans (Told.toInbox ..)
  · exact e1.trans (Told.queueEvent _ _ _ h)

theorem Told.event (s : State) (dest page event code cls inst fn detail addr : Nat) (h : dest < 64) :
    Told s (s.event dest page event code cls inst fn detail addr) := Told.raiseTo _ _ _ h

theorem Told.logEvent (s : State) (dest page code cls inst fn : Nat) (t : Tags) (addr detail event : Nat) (h : dest < 64) :
    Told s (s.logEvent dest page code cls inst fn t addr detail event) := (Told.logErr ..).trans (Told.event _ _ _ _ _ _ _ _ _ _ h)

theorem Told.intEvent (s : State) (page b cls inst detail addr : Nat) : Told s (s.intEvent page b cls inst detail addr) :=
  (Told.raiseInt ..).trans (Told.event _ _ _ _ _ _ _ _ _ _ (by decide))

end Sys2Proof.Machine
end

