-- ==== Sys2Proof/Laws/Memory.lean ====
section
/-! SUPPORT. Sys2Proof/Laws/Memory.lean: every operation over memory keeps its canonical form, and every register write the registers'. -/

namespace Sys2Proof.Machine
open Sys2Proof

/-! ## The operations that write bytes -/

theorem Memory.wf_congr {s t : State} (h : t.mem = s.mem) (h' : t.dramInit = s.dramInit) : Memory.wf t = Memory.wf s := by
  have hd : t.memDefault = s.memDefault := by funext q; simp [State.memDefault, h']
  simp [Memory.wf, h, hd]

theorem Memory.wf_setDram (s : State) (p : Nat) (b : Byte) (h : Memory.wf s = true) : Memory.wf (s.setDram p b) = true :=
  Tab.wf_setD s.memDefault s.mem p b h

theorem Memory.wf_setDrams (s : State) (p : Nat) (l : List Byte) (h : Memory.wf s = true) : Memory.wf (s.setDrams p l) = true := by
  induction l generalizing s p with
  | nil => exact h
  | cons b r ih => exact ih _ _ (wf_setDram s p b h)

theorem Memory.wf_zeroRange (s : State) (p n : Nat) (h : Memory.wf s = true) : Memory.wf (s.zeroRange p n) = true := by
  show Tab.wf s.memDefault (if s.dramInit then s.mem.filter _ else s.mem) = true
  split
  · exact Tab.wf_filter _ _ _ h
  · exact h

theorem Memory.wf_copyIn (s : State) (hv : HostView) (va p n : Nat) (h : Memory.wf s = true) : Memory.wf (s.copyIn hv va p n) = true := by
  have fold : ∀ (l : List (Nat × Byte)) (t : State), Memory.wf t = true →
      Memory.wf (l.foldl (fun s b => s.setDram (p + (b.1 - va)) b.2) t) = true := by
    intro l
    induction l with
    | nil => exact fun _ h => h
    | cons a r ih => exact fun t ht => ih _ (wf_setDram t _ _ ht)
  exact fold _ _ (wf_zeroRange s p n h)

/-! ## What telling and addressing leave -/

theorem Memory.wf_told {s t : State} (hm : t.mem = s.mem) (hd : t.dramInit = s.dramInit) (h : Memory.wf s = true) : Memory.wf t = true :=
  (wf_congr hm hd).trans h

/-- No DRAM is listed right after reset. -/
theorem Memory.wf_reset : Memory.wf State.reset = true := rfl

/-! ## What the memory reads as after each -/

/-- A byte inside a zero fill of initialised DRAM reads 0, one outside it as before (R188, R320). -/
theorem State.dram_zeroRange (s : State) (p n q : Nat) (hi : s.dramInit = true) :
    (s.zeroRange p n).dram q = if p ≤ q ∧ q < p + n then 0 else s.dram q := by
  have hl := Tab.look_filter s.mem (fun a => decide (a < p) || decide (p + n ≤ a)) q
  simp only [State.dram, Tab.getD, State.zeroRange, State.memDefault, hi, if_true]
  rw [hl]
  by_cases h : p ≤ q ∧ q < p + n
  · have : ¬ (q < p ∨ p + n ≤ q) := by omega
    simp [h, this]
  · have : q < p ∨ p + n ≤ q := by omega
    rw [if_neg h, if_pos (by simpa using this)]

/-- Before bring-up has initialised DRAM a zero fill leaves it undefined (R126). -/
theorem State.dram_zeroRange_undef (s : State) (p n q : Nat) (hi : s.dramInit = false) : (s.zeroRange p n).dram q = s.dram q :=
  State.dram_congr (s := s) (t := s.zeroRange p n) (by simp [State.zeroRange, hi]) rfl q

/-! ## Walks -/

theorem walkIndex_congr {a b : Nat} (h : a / 2 ^ 25 = b / 2 ^ 25) (lvl : Nat) (hl : lvl ≤ 3) : walkIndex a lvl = walkIndex b lvl := by
  have key : ∀ k, a / 2 ^ (25 + k) = b / 2 ^ (25 + k) := fun k => by
    rw [Nat.pow_add, ← Nat.div_div_eq_div_mul, ← Nat.div_div_eq_div_mul, h]
  simp only [walkIndex, bitsOf]
  split
  · rw [h]
  · have : 48 - 9 * lvl = 25 + (23 - 9 * lvl) := by omega
    rw [this, key]

theorem State.walkFrom_congr (s : State) {a b : Nat} (h : a / 2 ^ 25 = b / 2 ^ 25) (n lvl t : Nat) (hl : n + lvl ≤ 4) :
    s.walkFrom a n lvl t = s.walkFrom b n lvl t := by
  induction n generalizing lvl t with
  | zero => rfl
  | succ n ih =>
    simp only [State.walkFrom, walkIndex_congr h lvl (by omega)]
    rw [ih _ _ (by omega)]

/-- R167, R171: a walk goes by the 32 MiB range of an address. -/
theorem State.walk_congr (s : State) (fn : Nat) {a b : Nat} (h : a / 2 ^ 25 = b / 2 ^ 25) : s.walk fn a = s.walk fn b := by
  simp only [State.walk, State.walkEnd]
  cases s.trn.roots.look fn with
  | none => rfl
  | some t => simp only [s.walkFrom_congr h 4 0 t (by omega)]

/-! ## Registers -/

theorem Registers.wf_wr (s : State) (k : Nat) (v : Word) (h : Registers.wf s = true) : Registers.wf (s.wr k v) = true :=
  Tab.wf_setD regDefault s.regs k v h

theorem Registers.wf_regEvent (s : State) (ev : Nat) (h : Registers.wf s = true) : Registers.wf (s.regEvent ev) = true :=
  Tab.wf_filter regDefault _ s.regs h

theorem Registers.wf_reset : Registers.wf State.reset = true := rfl

end Sys2Proof.Machine
end

