-- ==== Sys2Proof/Laws/State.lean ====
section
/-! SUPPORT. Sys2Proof/Laws/State.lean: each update of the state beside each field that it leaves as it was. -/

namespace Sys2Proof.Machine
open Sys2Proof

/-! A register write changes the registers alone. -/

@[simp] theorem State.wr_pending (s : State) (k : Nat) (v : Word) : (s.wr k v).pending = s.pending := rfl
@[simp] theorem State.wr_out (s : State) (k : Nat) (v : Word) : (s.wr k v).out = s.out := rfl
@[simp] theorem State.wr_freeCtr (s : State) (k : Nat) (v : Word) : (s.wr k v).freeCtr = s.freeCtr := rfl
@[simp] theorem State.wr_uptime (s : State) (k : Nat) (v : Word) : (s.wr k v).uptime = s.uptime := rfl
@[simp] theorem State.wr_devTime (s : State) (k : Nat) (v : Word) : (s.wr k v).devTime = s.devTime := rfl
@[simp] theorem State.wr_mem (s : State) (k : Nat) (v : Word) : (s.wr k v).mem = s.mem := rfl
@[simp] theorem State.wr_dramInit (s : State) (k : Nat) (v : Word) : (s.wr k v).dramInit = s.dramInit := rfl
@[simp] theorem State.wr_hw (s : State) (k : Nat) (v : Word) : (s.wr k v).hw = s.hw := rfl
@[simp] theorem State.wr_hif (s : State) (k : Nat) (v : Word) : (s.wr k v).hif = s.hif := rfl
@[simp] theorem State.wr_events (s : State) (k : Nat) (v : Word) : (s.wr k v).events = s.events := rfl
@[simp] theorem State.wr_idle (s : State) (k : Nat) (v : Word) : (s.wr k v).idle = s.idle := rfl
@[simp] theorem State.wr_ops (s : State) (k : Nat) (v : Word) : (s.wr k v).ops = s.ops := rfl
@[simp] theorem State.wr_chains (s : State) (k : Nat) (v : Word) : (s.wr k v).chains = s.chains := rfl
@[simp] theorem State.wr_nextOp (s : State) (k : Nat) (v : Word) : (s.wr k v).nextOp = s.nextOp := rfl
@[simp] theorem State.wr_nextChain (s : State) (k : Nat) (v : Word) : (s.wr k v).nextChain = s.nextChain := rfl
@[simp] theorem State.wr_queues (s : State) (k : Nat) (v : Word) : (s.wr k v).queues = s.queues := rfl
@[simp] theorem State.wr_lastTag (s : State) (k : Nat) (v : Word) : (s.wr k v).lastTag = s.lastTag := rfl
@[simp] theorem State.wr_trn (s : State) (k : Nat) (v : Word) : (s.wr k v).trn = s.trn := rfl
@[simp] theorem State.wr_tiles (s : State) (k : Nat) (v : Word) : (s.wr k v).tiles = s.tiles := rfl
@[simp] theorem State.wr_tqs (s : State) (k : Nat) (v : Word) : (s.wr k v).tqs = s.tqs := rfl
@[simp] theorem State.wr_msys (s : State) (k : Nat) (v : Word) : (s.wr k v).msys = s.msys := rfl
@[simp] theorem State.wr_ydt (s : State) (k : Nat) (v : Word) : (s.wr k v).ydt = s.ydt := rfl
@[simp] theorem State.wr_qpm (s : State) (k : Nat) (v : Word) : (s.wr k v).qpm = s.qpm := rfl
@[simp] theorem State.wr_net (s : State) (k : Nat) (v : Word) : (s.wr k v).net = s.net := rfl
@[simp] theorem State.wr_crw (s : State) (k : Nat) (v : Word) : (s.wr k v).crw = s.crw := rfl
@[simp] theorem State.wr_groups (s : State) (k : Nat) (v : Word) : (s.wr k v).groups = s.groups := rfl
@[simp] theorem State.wr_par (s : State) (k : Nat) (v : Word) : (s.wr k v).par = s.par := rfl
@[simp] theorem State.wr_pwr (s : State) (k : Nat) (v : Word) : (s.wr k v).pwr = s.pwr := rfl
@[simp] theorem State.wr_flash (s : State) (k : Nat) (v : Word) : (s.wr k v).flash = s.flash := rfl
@[simp] theorem State.wr_fwc (s : State) (k : Nat) (v : Word) : (s.wr k v).fwc = s.fwc := rfl
@[simp] theorem State.wr_boot (s : State) (k : Nat) (v : Word) : (s.wr k v).boot = s.boot := rfl
@[simp] theorem State.wr_sec (s : State) (k : Nat) (v : Word) : (s.wr k v).sec = s.sec := rfl
@[simp] theorem State.wr_dbg (s : State) (k : Nat) (v : Word) : (s.wr k v).dbg = s.dbg := rfl

/-! A write of a register's field changes the registers alone. -/

@[simp] theorem State.setF_pending (s : State) (k lo w x : Nat) : (s.setF k lo w x).pending = s.pending := rfl
@[simp] theorem State.setF_out (s : State) (k lo w x : Nat) : (s.setF k lo w x).out = s.out := rfl
@[simp] theorem State.setF_freeCtr (s : State) (k lo w x : Nat) : (s.setF k lo w x).freeCtr = s.freeCtr := rfl
@[simp] theorem State.setF_uptime (s : State) (k lo w x : Nat) : (s.setF k lo w x).uptime = s.uptime := rfl
@[simp] theorem State.setF_devTime (s : State) (k lo w x : Nat) : (s.setF k lo w x).devTime = s.devTime := rfl
@[simp] theorem State.setF_mem (s : State) (k lo w x : Nat) : (s.setF k lo w x).mem = s.mem := rfl
@[simp] theorem State.setF_dramInit (s : State) (k lo w x : Nat) : (s.setF k lo w x).dramInit = s.dramInit := rfl
@[simp] theorem State.setF_hw (s : State) (k lo w x : Nat) : (s.setF k lo w x).hw = s.hw := rfl
@[simp] theorem State.setF_hif (s : State) (k lo w x : Nat) : (s.setF k lo w x).hif = s.hif := rfl
@[simp] theorem State.setF_events (s : State) (k lo w x : Nat) : (s.setF k lo w x).events = s.events := rfl
@[simp] theorem State.setF_idle (s : State) (k lo w x : Nat) : (s.setF k lo w x).idle = s.idle := rfl
@[simp] theorem State.setF_ops (s : State) (k lo w x : Nat) : (s.setF k lo w x).ops = s.ops := rfl
@[simp] theorem State.setF_chains (s : State) (k lo w x : Nat) : (s.setF k lo w x).chains = s.chains := rfl
@[simp] theorem State.setF_nextOp (s : State) (k lo w x : Nat) : (s.setF k lo w x).nextOp = s.nextOp := rfl
@[simp] theorem State.setF_nextChain (s : State) (k lo w x : Nat) : (s.setF k lo w x).nextChain = s.nextChain := rfl
@[simp] theorem State.setF_queues (s : State) (k lo w x : Nat) : (s.setF k lo w x).queues = s.queues := rfl
@[simp] theorem State.setF_lastTag (s : State) (k lo w x : Nat) : (s.setF k lo w x).lastTag = s.lastTag := rfl
@[simp] theorem State.setF_trn (s : State) (k lo w x : Nat) : (s.setF k lo w x).trn = s.trn := rfl
@[simp] theorem State.setF_tiles (s : State) (k lo w x : Nat) : (s.setF k lo w x).tiles = s.tiles := rfl
@[simp] theorem State.setF_tqs (s : State) (k lo w x : Nat) : (s.setF k lo w x).tqs = s.tqs := rfl
@[simp] theorem State.setF_msys (s : State) (k lo w x : Nat) : (s.setF k lo w x).msys = s.msys := rfl
@[simp] theorem State.setF_ydt (s : State) (k lo w x : Nat) : (s.setF k lo w x).ydt = s.ydt := rfl
@[simp] theorem State.setF_qpm (s : State) (k lo w x : Nat) : (s.setF k lo w x).qpm = s.qpm := rfl
@[simp] theorem State.setF_net (s : State) (k lo w x : Nat) : (s.setF k lo w x).net = s.net := rfl
@[simp] theorem State.setF_crw (s : State) (k lo w x : Nat) : (s.setF k lo w x).crw = s.crw := rfl
@[simp] theorem State.setF_groups (s : State) (k lo w x : Nat) : (s.setF k lo w x).groups = s.groups := rfl
@[simp] theorem State.setF_par (s : State) (k lo w x : Nat) : (s.setF k lo w x).par = s.par := rfl
@[simp] theorem State.setF_pwr (s : State) (k lo w x : Nat) : (s.setF k lo w x).pwr = s.pwr := rfl
@[simp] theorem State.setF_flash (s : State) (k lo w x : Nat) : (s.setF k lo w x).flash = s.flash := rfl
@[simp] theorem State.setF_fwc (s : State) (k lo w x : Nat) : (s.setF k lo w x).fwc = s.fwc := rfl
@[simp] theorem State.setF_boot (s : State) (k lo w x : Nat) : (s.setF k lo w x).boot = s.boot := rfl
@[simp] theorem State.setF_sec (s : State) (k lo w x : Nat) : (s.setF k lo w x).sec = s.sec := rfl
@[simp] theorem State.setF_dbg (s : State) (k lo w x : Nat) : (s.setF k lo w x).dbg = s.dbg := rfl

/-! A write of a register's bit changes the registers alone. -/

@[simp] theorem State.setB_pending (s : State) (k i : Nat) (b : Bool) : (s.setB k i b).pending = s.pending := rfl
@[simp] theorem State.setB_out (s : State) (k i : Nat) (b : Bool) : (s.setB k i b).out = s.out := rfl
@[simp] theorem State.setB_freeCtr (s : State) (k i : Nat) (b : Bool) : (s.setB k i b).freeCtr = s.freeCtr := rfl
@[simp] theorem State.setB_uptime (s : State) (k i : Nat) (b : Bool) : (s.setB k i b).uptime = s.uptime := rfl
@[simp] theorem State.setB_devTime (s : State) (k i : Nat) (b : Bool) : (s.setB k i b).devTime = s.devTime := rfl
@[simp] theorem State.setB_mem (s : State) (k i : Nat) (b : Bool) : (s.setB k i b).mem = s.mem := rfl
@[simp] theorem State.setB_dramInit (s : State) (k i : Nat) (b : Bool) : (s.setB k i b).dramInit = s.dramInit := rfl
@[simp] theorem State.setB_hw (s : State) (k i : Nat) (b : Bool) : (s.setB k i b).hw = s.hw := rfl
@[simp] theorem State.setB_hif (s : State) (k i : Nat) (b : Bool) : (s.setB k i b).hif = s.hif := rfl
@[simp] theorem State.setB_events (s : State) (k i : Nat) (b : Bool) : (s.setB k i b).events = s.events := rfl
@[simp] theorem State.setB_idle (s : State) (k i : Nat) (b : Bool) : (s.setB k i b).idle = s.idle := rfl
@[simp] theorem State.setB_ops (s : State) (k i : Nat) (b : Bool) : (s.setB k i b).ops = s.ops := rfl
@[simp] theorem State.setB_chains (s : State) (k i : Nat) (b : Bool) : (s.setB k i b).chains = s.chains := rfl
@[simp] theorem State.setB_nextOp (s : State) (k i : Nat) (b : Bool) : (s.setB k i b).nextOp = s.nextOp := rfl
@[simp] theorem State.setB_nextChain (s : State) (k i : Nat) (b : Bool) : (s.setB k i b).nextChain = s.nextChain := rfl
@[simp] theorem State.setB_queues (s : State) (k i : Nat) (b : Bool) : (s.setB k i b).queues = s.queues := rfl
@[simp] theorem State.setB_lastTag (s : State) (k i : Nat) (b : Bool) : (s.setB k i b).lastTag = s.lastTag := rfl
@[simp] theorem State.setB_trn (s : State) (k i : Nat) (b : Bool) : (s.setB k i b).trn = s.trn := rfl
@[simp] theorem State.setB_tiles (s : State) (k i : Nat) (b : Bool) : (s.setB k i b).tiles = s.tiles := rfl
@[simp] theorem State.setB_tqs (s : State) (k i : Nat) (b : Bool) : (s.setB k i b).tqs = s.tqs := rfl
@[simp] theorem State.setB_msys (s : State) (k i : Nat) (b : Bool) : (s.setB k i b).msys = s.msys := rfl
@[simp] theorem State.setB_ydt (s : State) (k i : Nat) (b : Bool) : (s.setB k i b).ydt = s.ydt := rfl
@[simp] theorem State.setB_qpm (s : State) (k i : Nat) (b : Bool) : (s.setB k i b).qpm = s.qpm := rfl
@[simp] theorem State.setB_net (s : State) (k i : Nat) (b : Bool) : (s.setB k i b).net = s.net := rfl
@[simp] theorem State.setB_crw (s : State) (k i : Nat) (b : Bool) : (s.setB k i b).crw = s.crw := rfl
@[simp] theorem State.setB_groups (s : State) (k i : Nat) (b : Bool) : (s.setB k i b).groups = s.groups := rfl
@[simp] theorem State.setB_par (s : State) (k i : Nat) (b : Bool) : (s.setB k i b).par = s.par := rfl
@[simp] theorem State.setB_pwr (s : State) (k i : Nat) (b : Bool) : (s.setB k i b).pwr = s.pwr := rfl
@[simp] theorem State.setB_flash (s : State) (k i : Nat) (b : Bool) : (s.setB k i b).flash = s.flash := rfl
@[simp] theorem State.setB_fwc (s : State) (k i : Nat) (b : Bool) : (s.setB k i b).fwc = s.fwc := rfl
@[simp] theorem State.setB_boot (s : State) (k i : Nat) (b : Bool) : (s.setB k i b).boot = s.boot := rfl
@[simp] theorem State.setB_sec (s : State) (k i : Nat) (b : Bool) : (s.setB k i b).sec = s.sec := rfl
@[simp] theorem State.setB_dbg (s : State) (k i : Nat) (b : Bool) : (s.setB k i b).dbg = s.dbg := rfl

/-! A count changes the registers alone. -/

@[simp] theorem State.bump_pending (s : State) (k n : Nat) : (s.bump k n).pending = s.pending := rfl
@[simp] theorem State.bump_out (s : State) (k n : Nat) : (s.bump k n).out = s.out := rfl
@[simp] theorem State.bump_freeCtr (s : State) (k n : Nat) : (s.bump k n).freeCtr = s.freeCtr := rfl
@[simp] theorem State.bump_uptime (s : State) (k n : Nat) : (s.bump k n).uptime = s.uptime := rfl
@[simp] theorem State.bump_devTime (s : State) (k n : Nat) : (s.bump k n).devTime = s.devTime := rfl
@[simp] theorem State.bump_mem (s : State) (k n : Nat) : (s.bump k n).mem = s.mem := rfl
@[simp] theorem State.bump_dramInit (s : State) (k n : Nat) : (s.bump k n).dramInit = s.dramInit := rfl
@[simp] theorem State.bump_hw (s : State) (k n : Nat) : (s.bump k n).hw = s.hw := rfl
@[simp] theorem State.bump_hif (s : State) (k n : Nat) : (s.bump k n).hif = s.hif := rfl
@[simp] theorem State.bump_events (s : State) (k n : Nat) : (s.bump k n).events = s.events := rfl
@[simp] theorem State.bump_idle (s : State) (k n : Nat) : (s.bump k n).idle = s.idle := rfl
@[simp] theorem State.bump_ops (s : State) (k n : Nat) : (s.bump k n).ops = s.ops := rfl
@[simp] theorem State.bump_chains (s : State) (k n : Nat) : (s.bump k n).chains = s.chains := rfl
@[simp] theorem State.bump_nextOp (s : State) (k n : Nat) : (s.bump k n).nextOp = s.nextOp := rfl
@[simp] theorem State.bump_nextChain (s : State) (k n : Nat) : (s.bump k n).nextChain = s.nextChain := rfl
@[simp] theorem State.bump_queues (s : State) (k n : Nat) : (s.bump k n).queues = s.queues := rfl
@[simp] theorem State.bump_lastTag (s : State) (k n : Nat) : (s.bump k n).lastTag = s.lastTag := rfl
@[simp] theorem State.bump_trn (s : State) (k n : Nat) : (s.bump k n).trn = s.trn := rfl
@[simp] theorem State.bump_tiles (s : State) (k n : Nat) : (s.bump k n).tiles = s.tiles := rfl
@[simp] theorem State.bump_tqs (s : State) (k n : Nat) : (s.bump k n).tqs = s.tqs := rfl
@[simp] theorem State.bump_msys (s : State) (k n : Nat) : (s.bump k n).msys = s.msys := rfl
@[simp] theorem State.bump_ydt (s : State) (k n : Nat) : (s.bump k n).ydt = s.ydt := rfl
@[simp] theorem State.bump_qpm (s : State) (k n : Nat) : (s.bump k n).qpm = s.qpm := rfl
@[simp] theorem State.bump_net (s : State) (k n : Nat) : (s.bump k n).net = s.net := rfl
@[simp] theorem State.bump_crw (s : State) (k n : Nat) : (s.bump k n).crw = s.crw := rfl
@[simp] theorem State.bump_groups (s : State) (k n : Nat) : (s.bump k n).groups = s.groups := rfl
@[simp] theorem State.bump_par (s : State) (k n : Nat) : (s.bump k n).par = s.par := rfl
@[simp] theorem State.bump_pwr (s : State) (k n : Nat) : (s.bump k n).pwr = s.pwr := rfl
@[simp] theorem State.bump_flash (s : State) (k n : Nat) : (s.bump k n).flash = s.flash := rfl
@[simp] theorem State.bump_fwc (s : State) (k n : Nat) : (s.bump k n).fwc = s.fwc := rfl
@[simp] theorem State.bump_boot (s : State) (k n : Nat) : (s.bump k n).boot = s.boot := rfl
@[simp] theorem State.bump_sec (s : State) (k n : Nat) : (s.bump k n).sec = s.sec := rfl
@[simp] theorem State.bump_dbg (s : State) (k n : Nat) : (s.bump k n).dbg = s.dbg := rfl

/-! What the device puts out changes nothing else. -/

@[simp] theorem State.emit_pending (s : State) (o : Out) : (s.emit o).pending = s.pending := rfl
@[simp] theorem State.emit_freeCtr (s : State) (o : Out) : (s.emit o).freeCtr = s.freeCtr := rfl
@[simp] theorem State.emit_uptime (s : State) (o : Out) : (s.emit o).uptime = s.uptime := rfl
@[simp] theorem State.emit_devTime (s : State) (o : Out) : (s.emit o).devTime = s.devTime := rfl
@[simp] theorem State.emit_regs (s : State) (o : Out) : (s.emit o).regs = s.regs := rfl
@[simp] theorem State.emit_mem (s : State) (o : Out) : (s.emit o).mem = s.mem := rfl
@[simp] theorem State.emit_dramInit (s : State) (o : Out) : (s.emit o).dramInit = s.dramInit := rfl
@[simp] theorem State.emit_hw (s : State) (o : Out) : (s.emit o).hw = s.hw := rfl
@[simp] theorem State.emit_hif (s : State) (o : Out) : (s.emit o).hif = s.hif := rfl
@[simp] theorem State.emit_events (s : State) (o : Out) : (s.emit o).events = s.events := rfl
@[simp] theorem State.emit_idle (s : State) (o : Out) : (s.emit o).idle = s.idle := rfl
@[simp] theorem State.emit_ops (s : State) (o : Out) : (s.emit o).ops = s.ops := rfl
@[simp] theorem State.emit_chains (s : State) (o : Out) : (s.emit o).chains = s.chains := rfl
@[simp] theorem State.emit_nextOp (s : State) (o : Out) : (s.emit o).nextOp = s.nextOp := rfl
@[simp] theorem State.emit_nextChain (s : State) (o : Out) : (s.emit o).nextChain = s.nextChain := rfl
@[simp] theorem State.emit_queues (s : State) (o : Out) : (s.emit o).queues = s.queues := rfl
@[simp] theorem State.emit_lastTag (s : State) (o : Out) : (s.emit o).lastTag = s.lastTag := rfl
@[simp] theorem State.emit_trn (s : State) (o : Out) : (s.emit o).trn = s.trn := rfl
@[simp] theorem State.emit_tiles (s : State) (o : Out) : (s.emit o).tiles = s.tiles := rfl
@[simp] theorem State.emit_tqs (s : State) (o : Out) : (s.emit o).tqs = s.tqs := rfl
@[simp] theorem State.emit_msys (s : State) (o : Out) : (s.emit o).msys = s.msys := rfl
@[simp] theorem State.emit_ydt (s : State) (o : Out) : (s.emit o).ydt = s.ydt := rfl
@[simp] theorem State.emit_qpm (s : State) (o : Out) : (s.emit o).qpm = s.qpm := rfl
@[simp] theorem State.emit_net (s : State) (o : Out) : (s.emit o).net = s.net := rfl
@[simp] theorem State.emit_crw (s : State) (o : Out) : (s.emit o).crw = s.crw := rfl
@[simp] theorem State.emit_groups (s : State) (o : Out) : (s.emit o).groups = s.groups := rfl
@[simp] theorem State.emit_par (s : State) (o : Out) : (s.emit o).par = s.par := rfl
@[simp] theorem State.emit_pwr (s : State) (o : Out) : (s.emit o).pwr = s.pwr := rfl
@[simp] theorem State.emit_flash (s : State) (o : Out) : (s.emit o).flash = s.flash := rfl
@[simp] theorem State.emit_fwc (s : State) (o : Out) : (s.emit o).fwc = s.fwc := rfl
@[simp] theorem State.emit_boot (s : State) (o : Out) : (s.emit o).boot = s.boot := rfl
@[simp] theorem State.emit_sec (s : State) (o : Out) : (s.emit o).sec = s.sec := rfl
@[simp] theorem State.emit_dbg (s : State) (o : Out) : (s.emit o).dbg = s.dbg := rfl

/-! An MSI-X entry lies in the host interface. -/

@[simp] theorem State.putMsix_pending (s : State) (fn v : Nat) (m : Msix) : (s.putMsix fn v m).pending = s.pending := rfl
@[simp] theorem State.putMsix_out (s : State) (fn v : Nat) (m : Msix) : (s.putMsix fn v m).out = s.out := rfl
@[simp] theorem State.putMsix_freeCtr (s : State) (fn v : Nat) (m : Msix) : (s.putMsix fn v m).freeCtr = s.freeCtr := rfl
@[simp] theorem State.putMsix_uptime (s : State) (fn v : Nat) (m : Msix) : (s.putMsix fn v m).uptime = s.uptime := rfl
@[simp] theorem State.putMsix_devTime (s : State) (fn v : Nat) (m : Msix) : (s.putMsix fn v m).devTime = s.devTime := rfl
@[simp] theorem State.putMsix_regs (s : State) (fn v : Nat) (m : Msix) : (s.putMsix fn v m).regs = s.regs := rfl
@[simp] theorem State.putMsix_mem (s : State) (fn v : Nat) (m : Msix) : (s.putMsix fn v m).mem = s.mem := rfl
@[simp] theorem State.putMsix_dramInit (s : State) (fn v : Nat) (m : Msix) : (s.putMsix fn v m).dramInit = s.dramInit := rfl
@[simp] theorem State.putMsix_hw (s : State) (fn v : Nat) (m : Msix) : (s.putMsix fn v m).hw = s.hw := rfl
@[simp] theorem State.putMsix_events (s : State) (fn v : Nat) (m : Msix) : (s.putMsix fn v m).events = s.events := rfl
@[simp] theorem State.putMsix_idle (s : State) (fn v : Nat) (m : Msix) : (s.putMsix fn v m).idle = s.idle := rfl
@[simp] theorem State.putMsix_ops (s : State) (fn v : Nat) (m : Msix) : (s.putMsix fn v m).ops = s.ops := rfl
@[simp] theorem State.putMsix_chains (s : State) (fn v : Nat) (m : Msix) : (s.putMsix fn v m).chains = s.chains := rfl
@[simp] theorem State.putMsix_nextOp (s : State) (fn v : Nat) (m : Msix) : (s.putMsix fn v m).nextOp = s.nextOp := rfl
@[simp] theorem State.putMsix_nextChain (s : State) (fn v : Nat) (m : Msix) : (s.putMsix fn v m).nextChain = s.nextChain := rfl
@[simp] theorem State.putMsix_queues (s : State) (fn v : Nat) (m : Msix) : (s.putMsix fn v m).queues = s.queues := rfl
@[simp] theorem State.putMsix_lastTag (s : State) (fn v : Nat) (m : Msix) : (s.putMsix fn v m).lastTag = s.lastTag := rfl
@[simp] theorem State.putMsix_trn (s : State) (fn v : Nat) (m : Msix) : (s.putMsix fn v m).trn = s.trn := rfl
@[simp] theorem State.putMsix_tiles (s : State) (fn v : Nat) (m : Msix) : (s.putMsix fn v m).tiles = s.tiles := rfl
@[simp] theorem State.putMsix_tqs (s : State) (fn v : Nat) (m : Msix) : (s.putMsix fn v m).tqs = s.tqs := rfl
@[simp] theorem State.putMsix_msys (s : State) (fn v : Nat) (m : Msix) : (s.putMsix fn v m).msys = s.msys := rfl
@[simp] theorem State.putMsix_ydt (s : State) (fn v : Nat) (m : Msix) : (s.putMsix fn v m).ydt = s.ydt := rfl
@[simp] theorem State.putMsix_qpm (s : State) (fn v : Nat) (m : Msix) : (s.putMsix fn v m).qpm = s.qpm := rfl
@[simp] theorem State.putMsix_net (s : State) (fn v : Nat) (m : Msix) : (s.putMsix fn v m).net = s.net := rfl
@[simp] theorem State.putMsix_crw (s : State) (fn v : Nat) (m : Msix) : (s.putMsix fn v m).crw = s.crw := rfl
@[simp] theorem State.putMsix_groups (s : State) (fn v : Nat) (m : Msix) : (s.putMsix fn v m).groups = s.groups := rfl
@[simp] theorem State.putMsix_par (s : State) (fn v : Nat) (m : Msix) : (s.putMsix fn v m).par = s.par := rfl
@[simp] theorem State.putMsix_pwr (s : State) (fn v : Nat) (m : Msix) : (s.putMsix fn v m).pwr = s.pwr := rfl
@[simp] theorem State.putMsix_flash (s : State) (fn v : Nat) (m : Msix) : (s.putMsix fn v m).flash = s.flash := rfl
@[simp] theorem State.putMsix_fwc (s : State) (fn v : Nat) (m : Msix) : (s.putMsix fn v m).fwc = s.fwc := rfl
@[simp] theorem State.putMsix_boot (s : State) (fn v : Nat) (m : Msix) : (s.putMsix fn v m).boot = s.boot := rfl
@[simp] theorem State.putMsix_sec (s : State) (fn v : Nat) (m : Msix) : (s.putMsix fn v m).sec = s.sec := rfl
@[simp] theorem State.putMsix_dbg (s : State) (fn v : Nat) (m : Msix) : (s.putMsix fn v m).dbg = s.dbg := rfl

/-! A source's queue. -/

@[simp] theorem State.putQueue_pending (s : State) (q : Source) (x : Queue) : (s.putQueue q x).pending = s.pending := rfl
@[simp] theorem State.putQueue_out (s : State) (q : Source) (x : Queue) : (s.putQueue q x).out = s.out := rfl
@[simp] theorem State.putQueue_freeCtr (s : State) (q : Source) (x : Queue) : (s.putQueue q x).freeCtr = s.freeCtr := rfl
@[simp] theorem State.putQueue_uptime (s : State) (q : Source) (x : Queue) : (s.putQueue q x).uptime = s.uptime := rfl
@[simp] theorem State.putQueue_devTime (s : State) (q : Source) (x : Queue) : (s.putQueue q x).devTime = s.devTime := rfl
@[simp] theorem State.putQueue_regs (s : State) (q : Source) (x : Queue) : (s.putQueue q x).regs = s.regs := rfl
@[simp] theorem State.putQueue_mem (s : State) (q : Source) (x : Queue) : (s.putQueue q x).mem = s.mem := rfl
@[simp] theorem State.putQueue_dramInit (s : State) (q : Source) (x : Queue) : (s.putQueue q x).dramInit = s.dramInit := rfl
@[simp] theorem State.putQueue_hw (s : State) (q : Source) (x : Queue) : (s.putQueue q x).hw = s.hw := rfl
@[simp] theorem State.putQueue_hif (s : State) (q : Source) (x : Queue) : (s.putQueue q x).hif = s.hif := rfl
@[simp] theorem State.putQueue_events (s : State) (q : Source) (x : Queue) : (s.putQueue q x).events = s.events := rfl
@[simp] theorem State.putQueue_idle (s : State) (q : Source) (x : Queue) : (s.putQueue q x).idle = s.idle := rfl
@[simp] theorem State.putQueue_ops (s : State) (q : Source) (x : Queue) : (s.putQueue q x).ops = s.ops := rfl
@[simp] theorem State.putQueue_chains (s : State) (q : Source) (x : Queue) : (s.putQueue q x).chains = s.chains := rfl
@[simp] theorem State.putQueue_nextOp (s : State) (q : Source) (x : Queue) : (s.putQueue q x).nextOp = s.nextOp := rfl
@[simp] theorem State.putQueue_nextChain (s : State) (q : Source) (x : Queue) : (s.putQueue q x).nextChain = s.nextChain := rfl
@[simp] theorem State.putQueue_lastTag (s : State) (q : Source) (x : Queue) : (s.putQueue q x).lastTag = s.lastTag := rfl
@[simp] theorem State.putQueue_trn (s : State) (q : Source) (x : Queue) : (s.putQueue q x).trn = s.trn := rfl
@[simp] theorem State.putQueue_tiles (s : State) (q : Source) (x : Queue) : (s.putQueue q x).tiles = s.tiles := rfl
@[simp] theorem State.putQueue_tqs (s : State) (q : Source) (x : Queue) : (s.putQueue q x).tqs = s.tqs := rfl
@[simp] theorem State.putQueue_msys (s : State) (q : Source) (x : Queue) : (s.putQueue q x).msys = s.msys := rfl
@[simp] theorem State.putQueue_ydt (s : State) (q : Source) (x : Queue) : (s.putQueue q x).ydt = s.ydt := rfl
@[simp] theorem State.putQueue_qpm (s : State) (q : Source) (x : Queue) : (s.putQueue q x).qpm = s.qpm := rfl
@[simp] theorem State.putQueue_net (s : State) (q : Source) (x : Queue) : (s.putQueue q x).net = s.net := rfl
@[simp] theorem State.putQueue_crw (s : State) (q : Source) (x : Queue) : (s.putQueue q x).crw = s.crw := rfl
@[simp] theorem State.putQueue_groups (s : State) (q : Source) (x : Queue) : (s.putQueue q x).groups = s.groups := rfl
@[simp] theorem State.putQueue_par (s : State) (q : Source) (x : Queue) : (s.putQueue q x).par = s.par := rfl
@[simp] theorem State.putQueue_pwr (s : State) (q : Source) (x : Queue) : (s.putQueue q x).pwr = s.pwr := rfl
@[simp] theorem State.putQueue_flash (s : State) (q : Source) (x : Queue) : (s.putQueue q x).flash = s.flash := rfl
@[simp] theorem State.putQueue_fwc (s : State) (q : Source) (x : Queue) : (s.putQueue q x).fwc = s.fwc := rfl
@[simp] theorem State.putQueue_boot (s : State) (q : Source) (x : Queue) : (s.putQueue q x).boot = s.boot := rfl
@[simp] theorem State.putQueue_sec (s : State) (q : Source) (x : Queue) : (s.putQueue q x).sec = s.sec := rfl
@[simp] theorem State.putQueue_dbg (s : State) (q : Source) (x : Queue) : (s.putQueue q x).dbg = s.dbg := rfl

/-! A descriptor in hand. -/

@[simp] theorem State.putOp_pending (s : State) (i : Nat) (o : Op) : (s.putOp i o).pending = s.pending := rfl
@[simp] theorem State.putOp_out (s : State) (i : Nat) (o : Op) : (s.putOp i o).out = s.out := rfl
@[simp] theorem State.putOp_freeCtr (s : State) (i : Nat) (o : Op) : (s.putOp i o).freeCtr = s.freeCtr := rfl
@[simp] theorem State.putOp_uptime (s : State) (i : Nat) (o : Op) : (s.putOp i o).uptime = s.uptime := rfl
@[simp] theorem State.putOp_devTime (s : State) (i : Nat) (o : Op) : (s.putOp i o).devTime = s.devTime := rfl
@[simp] theorem State.putOp_regs (s : State) (i : Nat) (o : Op) : (s.putOp i o).regs = s.regs := rfl
@[simp] theorem State.putOp_mem (s : State) (i : Nat) (o : Op) : (s.putOp i o).mem = s.mem := rfl
@[simp] theorem State.putOp_dramInit (s : State) (i : Nat) (o : Op) : (s.putOp i o).dramInit = s.dramInit := rfl
@[simp] theorem State.putOp_hw (s : State) (i : Nat) (o : Op) : (s.putOp i o).hw = s.hw := rfl
@[simp] theorem State.putOp_hif (s : State) (i : Nat) (o : Op) : (s.putOp i o).hif = s.hif := rfl
@[simp] theorem State.putOp_events (s : State) (i : Nat) (o : Op) : (s.putOp i o).events = s.events := rfl
@[simp] theorem State.putOp_idle (s : State) (i : Nat) (o : Op) : (s.putOp i o).idle = s.idle := rfl
@[simp] theorem State.putOp_chains (s : State) (i : Nat) (o : Op) : (s.putOp i o).chains = s.chains := rfl
@[simp] theorem State.putOp_nextOp (s : State) (i : Nat) (o : Op) : (s.putOp i o).nextOp = s.nextOp := rfl
@[simp] theorem State.putOp_nextChain (s : State) (i : Nat) (o : Op) : (s.putOp i o).nextChain = s.nextChain := rfl
@[simp] theorem State.putOp_queues (s : State) (i : Nat) (o : Op) : (s.putOp i o).queues = s.queues := rfl
@[simp] theorem State.putOp_lastTag (s : State) (i : Nat) (o : Op) : (s.putOp i o).lastTag = s.lastTag := rfl
@[simp] theorem State.putOp_trn (s : State) (i : Nat) (o : Op) : (s.putOp i o).trn = s.trn := rfl
@[simp] theorem State.putOp_tiles (s : State) (i : Nat) (o : Op) : (s.putOp i o).tiles = s.tiles := rfl
@[simp] theorem State.putOp_tqs (s : State) (i : Nat) (o : Op) : (s.putOp i o).tqs = s.tqs := rfl
@[simp] theorem State.putOp_msys (s : State) (i : Nat) (o : Op) : (s.putOp i o).msys = s.msys := rfl
@[simp] theorem State.putOp_ydt (s : State) (i : Nat) (o : Op) : (s.putOp i o).ydt = s.ydt := rfl
@[simp] theorem State.putOp_qpm (s : State) (i : Nat) (o : Op) : (s.putOp i o).qpm = s.qpm := rfl
@[simp] theorem State.putOp_net (s : State) (i : Nat) (o : Op) : (s.putOp i o).net = s.net := rfl
@[simp] theorem State.putOp_crw (s : State) (i : Nat) (o : Op) : (s.putOp i o).crw = s.crw := rfl
@[simp] theorem State.putOp_groups (s : State) (i : Nat) (o : Op) : (s.putOp i o).groups = s.groups := rfl
@[simp] theorem State.putOp_par (s : State) (i : Nat) (o : Op) : (s.putOp i o).par = s.par := rfl
@[simp] theorem State.putOp_pwr (s : State) (i : Nat) (o : Op) : (s.putOp i o).pwr = s.pwr := rfl
@[simp] theorem State.putOp_flash (s : State) (i : Nat) (o : Op) : (s.putOp i o).flash = s.flash := rfl
@[simp] theorem State.putOp_fwc (s : State) (i : Nat) (o : Op) : (s.putOp i o).fwc = s.fwc := rfl
@[simp] theorem State.putOp_boot (s : State) (i : Nat) (o : Op) : (s.putOp i o).boot = s.boot := rfl
@[simp] theorem State.putOp_sec (s : State) (i : Nat) (o : Op) : (s.putOp i o).sec = s.sec := rfl
@[simp] theorem State.putOp_dbg (s : State) (i : Nat) (o : Op) : (s.putOp i o).dbg = s.dbg := rfl

/-! A byte of DRAM. -/

@[simp] theorem State.setDram_pending (s : State) (p : Nat) (b : Byte) : (s.setDram p b).pending = s.pending := rfl
@[simp] theorem State.setDram_out (s : State) (p : Nat) (b : Byte) : (s.setDram p b).out = s.out := rfl
@[simp] theorem State.setDram_freeCtr (s : State) (p : Nat) (b : Byte) : (s.setDram p b).freeCtr = s.freeCtr := rfl
@[simp] theorem State.setDram_uptime (s : State) (p : Nat) (b : Byte) : (s.setDram p b).uptime = s.uptime := rfl
@[simp] theorem State.setDram_devTime (s : State) (p : Nat) (b : Byte) : (s.setDram p b).devTime = s.devTime := rfl
@[simp] theorem State.setDram_regs (s : State) (p : Nat) (b : Byte) : (s.setDram p b).regs = s.regs := rfl
@[simp] theorem State.setDram_dramInit (s : State) (p : Nat) (b : Byte) : (s.setDram p b).dramInit = s.dramInit := rfl
@[simp] theorem State.setDram_hw (s : State) (p : Nat) (b : Byte) : (s.setDram p b).hw = s.hw := rfl
@[simp] theorem State.setDram_hif (s : State) (p : Nat) (b : Byte) : (s.setDram p b).hif = s.hif := rfl
@[simp] theorem State.setDram_events (s : State) (p : Nat) (b : Byte) : (s.setDram p b).events = s.events := rfl
@[simp] theorem State.setDram_idle (s : State) (p : Nat) (b : Byte) : (s.setDram p b).idle = s.idle := rfl
@[simp] theorem State.setDram_ops (s : State) (p : Nat) (b : Byte) : (s.setDram p b).ops = s.ops := rfl
@[simp] theorem State.setDram_chains (s : State) (p : Nat) (b : Byte) : (s.setDram p b).chains = s.chains := rfl
@[simp] theorem State.setDram_nextOp (s : State) (p : Nat) (b : Byte) : (s.setDram p b).nextOp = s.nextOp := rfl
@[simp] theorem State.setDram_nextChain (s : State) (p : Nat) (b : Byte) : (s.setDram p b).nextChain = s.nextChain := rfl
@[simp] theorem State.setDram_queues (s : State) (p : Nat) (b : Byte) : (s.setDram p b).queues = s.queues := rfl
@[simp] theorem State.setDram_lastTag (s : State) (p : Nat) (b : Byte) : (s.setDram p b).lastTag = s.lastTag := rfl
@[simp] theorem State.setDram_trn (s : State) (p : Nat) (b : Byte) : (s.setDram p b).trn = s.trn := rfl
@[simp] theorem State.setDram_tiles (s : State) (p : Nat) (b : Byte) : (s.setDram p b).tiles = s.tiles := rfl
@[simp] theorem State.setDram_tqs (s : State) (p : Nat) (b : Byte) : (s.setDram p b).tqs = s.tqs := rfl
@[simp] theorem State.setDram_msys (s : State) (p : Nat) (b : Byte) : (s.setDram p b).msys = s.msys := rfl
@[simp] theorem State.setDram_ydt (s : State) (p : Nat) (b : Byte) : (s.setDram p b).ydt = s.ydt := rfl
@[simp] theorem State.setDram_qpm (s : State) (p : Nat) (b : Byte) : (s.setDram p b).qpm = s.qpm := rfl
@[simp] theorem State.setDram_net (s : State) (p : Nat) (b : Byte) : (s.setDram p b).net = s.net := rfl
@[simp] theorem State.setDram_crw (s : State) (p : Nat) (b : Byte) : (s.setDram p b).crw = s.crw := rfl
@[simp] theorem State.setDram_groups (s : State) (p : Nat) (b : Byte) : (s.setDram p b).groups = s.groups := rfl
@[simp] theorem State.setDram_par (s : State) (p : Nat) (b : Byte) : (s.setDram p b).par = s.par := rfl
@[simp] theorem State.setDram_pwr (s : State) (p : Nat) (b : Byte) : (s.setDram p b).pwr = s.pwr := rfl
@[simp] theorem State.setDram_flash (s : State) (p : Nat) (b : Byte) : (s.setDram p b).flash = s.flash := rfl
@[simp] theorem State.setDram_fwc (s : State) (p : Nat) (b : Byte) : (s.setDram p b).fwc = s.fwc := rfl
@[simp] theorem State.setDram_boot (s : State) (p : Nat) (b : Byte) : (s.setDram p b).boot = s.boot := rfl
@[simp] theorem State.setDram_sec (s : State) (p : Nat) (b : Byte) : (s.setDram p b).sec = s.sec := rfl
@[simp] theorem State.setDram_dbg (s : State) (p : Nat) (b : Byte) : (s.setDram p b).dbg = s.dbg := rfl

/-! A zero fill replaces poison as well. -/

@[simp] theorem State.zeroRange_pending (s : State) (p n : Nat) : (s.zeroRange p n).pending = s.pending := rfl
@[simp] theorem State.zeroRange_out (s : State) (p n : Nat) : (s.zeroRange p n).out = s.out := rfl
@[simp] theorem State.zeroRange_freeCtr (s : State) (p n : Nat) : (s.zeroRange p n).freeCtr = s.freeCtr := rfl
@[simp] theorem State.zeroRange_uptime (s : State) (p n : Nat) : (s.zeroRange p n).uptime = s.uptime := rfl
@[simp] theorem State.zeroRange_devTime (s : State) (p n : Nat) : (s.zeroRange p n).devTime = s.devTime := rfl
@[simp] theorem State.zeroRange_regs (s : State) (p n : Nat) : (s.zeroRange p n).regs = s.regs := rfl
@[simp] theorem State.zeroRange_dramInit (s : State) (p n : Nat) : (s.zeroRange p n).dramInit = s.dramInit := rfl
@[simp] theorem State.zeroRange_hw (s : State) (p n : Nat) : (s.zeroRange p n).hw = s.hw := rfl
@[simp] theorem State.zeroRange_hif (s : State) (p n : Nat) : (s.zeroRange p n).hif = s.hif := rfl
@[simp] theorem State.zeroRange_events (s : State) (p n : Nat) : (s.zeroRange p n).events = s.events := rfl
@[simp] theorem State.zeroRange_idle (s : State) (p n : Nat) : (s.zeroRange p n).idle = s.idle := rfl
@[simp] theorem State.zeroRange_ops (s : State) (p n : Nat) : (s.zeroRange p n).ops = s.ops := rfl
@[simp] theorem State.zeroRange_chains (s : State) (p n : Nat) : (s.zeroRange p n).chains = s.chains := rfl
@[simp] theorem State.zeroRange_nextOp (s : State) (p n : Nat) : (s.zeroRange p n).nextOp = s.nextOp := rfl
@[simp] theorem State.zeroRange_nextChain (s : State) (p n : Nat) : (s.zeroRange p n).nextChain = s.nextChain := rfl
@[simp] theorem State.zeroRange_queues (s : State) (p n : Nat) : (s.zeroRange p n).queues = s.queues := rfl
@[simp] theorem State.zeroRange_lastTag (s : State) (p n : Nat) : (s.zeroRange p n).lastTag = s.lastTag := rfl
@[simp] theorem State.zeroRange_trn (s : State) (p n : Nat) : (s.zeroRange p n).trn = s.trn := rfl
@[simp] theorem State.zeroRange_tiles (s : State) (p n : Nat) : (s.zeroRange p n).tiles = s.tiles := rfl
@[simp] theorem State.zeroRange_tqs (s : State) (p n : Nat) : (s.zeroRange p n).tqs = s.tqs := rfl
@[simp] theorem State.zeroRange_ydt (s : State) (p n : Nat) : (s.zeroRange p n).ydt = s.ydt := rfl
@[simp] theorem State.zeroRange_qpm (s : State) (p n : Nat) : (s.zeroRange p n).qpm = s.qpm := rfl
@[simp] theorem State.zeroRange_net (s : State) (p n : Nat) : (s.zeroRange p n).net = s.net := rfl
@[simp] theorem State.zeroRange_crw (s : State) (p n : Nat) : (s.zeroRange p n).crw = s.crw := rfl
@[simp] theorem State.zeroRange_groups (s : State) (p n : Nat) : (s.zeroRange p n).groups = s.groups := rfl
@[simp] theorem State.zeroRange_par (s : State) (p n : Nat) : (s.zeroRange p n).par = s.par := rfl
@[simp] theorem State.zeroRange_pwr (s : State) (p n : Nat) : (s.zeroRange p n).pwr = s.pwr := rfl
@[simp] theorem State.zeroRange_flash (s : State) (p n : Nat) : (s.zeroRange p n).flash = s.flash := rfl
@[simp] theorem State.zeroRange_fwc (s : State) (p n : Nat) : (s.zeroRange p n).fwc = s.fwc := rfl
@[simp] theorem State.zeroRange_boot (s : State) (p n : Nat) : (s.zeroRange p n).boot = s.boot := rfl
@[simp] theorem State.zeroRange_sec (s : State) (p n : Nat) : (s.zeroRange p n).sec = s.sec := rfl
@[simp] theorem State.zeroRange_dbg (s : State) (p n : Nat) : (s.zeroRange p n).dbg = s.dbg := rfl

/-! A tile. -/

@[simp] theorem State.putTile_pending (s : State) (nn t : Nat) (x : Tile) : (s.putTile nn t x).pending = s.pending := rfl
@[simp] theorem State.putTile_out (s : State) (nn t : Nat) (x : Tile) : (s.putTile nn t x).out = s.out := rfl
@[simp] theorem State.putTile_freeCtr (s : State) (nn t : Nat) (x : Tile) : (s.putTile nn t x).freeCtr = s.freeCtr := rfl
@[simp] theorem State.putTile_uptime (s : State) (nn t : Nat) (x : Tile) : (s.putTile nn t x).uptime = s.uptime := rfl
@[simp] theorem State.putTile_devTime (s : State) (nn t : Nat) (x : Tile) : (s.putTile nn t x).devTime = s.devTime := rfl
@[simp] theorem State.putTile_regs (s : State) (nn t : Nat) (x : Tile) : (s.putTile nn t x).regs = s.regs := rfl
@[simp] theorem State.putTile_mem (s : State) (nn t : Nat) (x : Tile) : (s.putTile nn t x).mem = s.mem := rfl
@[simp] theorem State.putTile_dramInit (s : State) (nn t : Nat) (x : Tile) : (s.putTile nn t x).dramInit = s.dramInit := rfl
@[simp] theorem State.putTile_hw (s : State) (nn t : Nat) (x : Tile) : (s.putTile nn t x).hw = s.hw := rfl
@[simp] theorem State.putTile_hif (s : State) (nn t : Nat) (x : Tile) : (s.putTile nn t x).hif = s.hif := rfl
@[simp] theorem State.putTile_events (s : State) (nn t : Nat) (x : Tile) : (s.putTile nn t x).events = s.events := rfl
@[simp] theorem State.putTile_idle (s : State) (nn t : Nat) (x : Tile) : (s.putTile nn t x).idle = s.idle := rfl
@[simp] theorem State.putTile_ops (s : State) (nn t : Nat) (x : Tile) : (s.putTile nn t x).ops = s.ops := rfl
@[simp] theorem State.putTile_chains (s : State) (nn t : Nat) (x : Tile) : (s.putTile nn t x).chains = s.chains := rfl
@[simp] theorem State.putTile_nextOp (s : State) (nn t : Nat) (x : Tile) : (s.putTile nn t x).nextOp = s.nextOp := rfl
@[simp] theorem State.putTile_nextChain (s : State) (nn t : Nat) (x : Tile) : (s.putTile nn t x).nextChain = s.nextChain := rfl
@[simp] theorem State.putTile_queues (s : State) (nn t : Nat) (x : Tile) : (s.putTile nn t x).queues = s.queues := rfl
@[simp] theorem State.putTile_lastTag (s : State) (nn t : Nat) (x : Tile) : (s.putTile nn t x).lastTag = s.lastTag := rfl
@[simp] theorem State.putTile_trn (s : State) (nn t : Nat) (x : Tile) : (s.putTile nn t x).trn = s.trn := rfl
@[simp] theorem State.putTile_tqs (s : State) (nn t : Nat) (x : Tile) : (s.putTile nn t x).tqs = s.tqs := rfl
@[simp] theorem State.putTile_msys (s : State) (nn t : Nat) (x : Tile) : (s.putTile nn t x).msys = s.msys := rfl
@[simp] theorem State.putTile_ydt (s : State) (nn t : Nat) (x : Tile) : (s.putTile nn t x).ydt = s.ydt := rfl
@[simp] theorem State.putTile_qpm (s : State) (nn t : Nat) (x : Tile) : (s.putTile nn t x).qpm = s.qpm := rfl
@[simp] theorem State.putTile_net (s : State) (nn t : Nat) (x : Tile) : (s.putTile nn t x).net = s.net := rfl
@[simp] theorem State.putTile_crw (s : State) (nn t : Nat) (x : Tile) : (s.putTile nn t x).crw = s.crw := rfl
@[simp] theorem State.putTile_groups (s : State) (nn t : Nat) (x : Tile) : (s.putTile nn t x).groups = s.groups := rfl
@[simp] theorem State.putTile_par (s : State) (nn t : Nat) (x : Tile) : (s.putTile nn t x).par = s.par := rfl
@[simp] theorem State.putTile_pwr (s : State) (nn t : Nat) (x : Tile) : (s.putTile nn t x).pwr = s.pwr := rfl
@[simp] theorem State.putTile_flash (s : State) (nn t : Nat) (x : Tile) : (s.putTile nn t x).flash = s.flash := rfl
@[simp] theorem State.putTile_fwc (s : State) (nn t : Nat) (x : Tile) : (s.putTile nn t x).fwc = s.fwc := rfl
@[simp] theorem State.putTile_boot (s : State) (nn t : Nat) (x : Tile) : (s.putTile nn t x).boot = s.boot := rfl
@[simp] theorem State.putTile_sec (s : State) (nn t : Nat) (x : Tile) : (s.putTile nn t x).sec = s.sec := rfl
@[simp] theorem State.putTile_dbg (s : State) (nn t : Nat) (x : Tile) : (s.putTile nn t x).dbg = s.dbg := rfl

/-! A transfer. -/

@[simp] theorem State.putXfer_pending (s : State) (i : Nat) (x : Xfer) : (s.putXfer i x).pending = s.pending := rfl
@[simp] theorem State.putXfer_out (s : State) (i : Nat) (x : Xfer) : (s.putXfer i x).out = s.out := rfl
@[simp] theorem State.putXfer_freeCtr (s : State) (i : Nat) (x : Xfer) : (s.putXfer i x).freeCtr = s.freeCtr := rfl
@[simp] theorem State.putXfer_uptime (s : State) (i : Nat) (x : Xfer) : (s.putXfer i x).uptime = s.uptime := rfl
@[simp] theorem State.putXfer_devTime (s : State) (i : Nat) (x : Xfer) : (s.putXfer i x).devTime = s.devTime := rfl
@[simp] theorem State.putXfer_regs (s : State) (i : Nat) (x : Xfer) : (s.putXfer i x).regs = s.regs := rfl
@[simp] theorem State.putXfer_mem (s : State) (i : Nat) (x : Xfer) : (s.putXfer i x).mem = s.mem := rfl
@[simp] theorem State.putXfer_dramInit (s : State) (i : Nat) (x : Xfer) : (s.putXfer i x).dramInit = s.dramInit := rfl
@[simp] theorem State.putXfer_hw (s : State) (i : Nat) (x : Xfer) : (s.putXfer i x).hw = s.hw := rfl
@[simp] theorem State.putXfer_hif (s : State) (i : Nat) (x : Xfer) : (s.putXfer i x).hif = s.hif := rfl
@[simp] theorem State.putXfer_events (s : State) (i : Nat) (x : Xfer) : (s.putXfer i x).events = s.events := rfl
@[simp] theorem State.putXfer_idle (s : State) (i : Nat) (x : Xfer) : (s.putXfer i x).idle = s.idle := rfl
@[simp] theorem State.putXfer_ops (s : State) (i : Nat) (x : Xfer) : (s.putXfer i x).ops = s.ops := rfl
@[simp] theorem State.putXfer_chains (s : State) (i : Nat) (x : Xfer) : (s.putXfer i x).chains = s.chains := rfl
@[simp] theorem State.putXfer_nextOp (s : State) (i : Nat) (x : Xfer) : (s.putXfer i x).nextOp = s.nextOp := rfl
@[simp] theorem State.putXfer_nextChain (s : State) (i : Nat) (x : Xfer) : (s.putXfer i x).nextChain = s.nextChain := rfl
@[simp] theorem State.putXfer_queues (s : State) (i : Nat) (x : Xfer) : (s.putXfer i x).queues = s.queues := rfl
@[simp] theorem State.putXfer_lastTag (s : State) (i : Nat) (x : Xfer) : (s.putXfer i x).lastTag = s.lastTag := rfl
@[simp] theorem State.putXfer_trn (s : State) (i : Nat) (x : Xfer) : (s.putXfer i x).trn = s.trn := rfl
@[simp] theorem State.putXfer_tiles (s : State) (i : Nat) (x : Xfer) : (s.putXfer i x).tiles = s.tiles := rfl
@[simp] theorem State.putXfer_tqs (s : State) (i : Nat) (x : Xfer) : (s.putXfer i x).tqs = s.tqs := rfl
@[simp] theorem State.putXfer_msys (s : State) (i : Nat) (x : Xfer) : (s.putXfer i x).msys = s.msys := rfl
@[simp] theorem State.putXfer_qpm (s : State) (i : Nat) (x : Xfer) : (s.putXfer i x).qpm = s.qpm := rfl
@[simp] theorem State.putXfer_net (s : State) (i : Nat) (x : Xfer) : (s.putXfer i x).net = s.net := rfl
@[simp] theorem State.putXfer_crw (s : State) (i : Nat) (x : Xfer) : (s.putXfer i x).crw = s.crw := rfl
@[simp] theorem State.putXfer_groups (s : State) (i : Nat) (x : Xfer) : (s.putXfer i x).groups = s.groups := rfl
@[simp] theorem State.putXfer_par (s : State) (i : Nat) (x : Xfer) : (s.putXfer i x).par = s.par := rfl
@[simp] theorem State.putXfer_pwr (s : State) (i : Nat) (x : Xfer) : (s.putXfer i x).pwr = s.pwr := rfl
@[simp] theorem State.putXfer_flash (s : State) (i : Nat) (x : Xfer) : (s.putXfer i x).flash = s.flash := rfl
@[simp] theorem State.putXfer_fwc (s : State) (i : Nat) (x : Xfer) : (s.putXfer i x).fwc = s.fwc := rfl
@[simp] theorem State.putXfer_boot (s : State) (i : Nat) (x : Xfer) : (s.putXfer i x).boot = s.boot := rfl
@[simp] theorem State.putXfer_sec (s : State) (i : Nat) (x : Xfer) : (s.putXfer i x).sec = s.sec := rfl
@[simp] theorem State.putXfer_dbg (s : State) (i : Nat) (x : Xfer) : (s.putXfer i x).dbg = s.dbg := rfl

/-! A path. -/

@[simp] theorem State.putPath_pending (s : State) (d n : Nat) (x : PathSt) : (s.putPath d n x).pending = s.pending := rfl
@[simp] theorem State.putPath_out (s : State) (d n : Nat) (x : PathSt) : (s.putPath d n x).out = s.out := rfl
@[simp] theorem State.putPath_freeCtr (s : State) (d n : Nat) (x : PathSt) : (s.putPath d n x).freeCtr = s.freeCtr := rfl
@[simp] theorem State.putPath_uptime (s : State) (d n : Nat) (x : PathSt) : (s.putPath d n x).uptime = s.uptime := rfl
@[simp] theorem State.putPath_devTime (s : State) (d n : Nat) (x : PathSt) : (s.putPath d n x).devTime = s.devTime := rfl
@[simp] theorem State.putPath_regs (s : State) (d n : Nat) (x : PathSt) : (s.putPath d n x).regs = s.regs := rfl
@[simp] theorem State.putPath_mem (s : State) (d n : Nat) (x : PathSt) : (s.putPath d n x).mem = s.mem := rfl
@[simp] theorem State.putPath_dramInit (s : State) (d n : Nat) (x : PathSt) : (s.putPath d n x).dramInit = s.dramInit := rfl
@[simp] theorem State.putPath_hw (s : State) (d n : Nat) (x : PathSt) : (s.putPath d n x).hw = s.hw := rfl
@[simp] theorem State.putPath_hif (s : State) (d n : Nat) (x : PathSt) : (s.putPath d n x).hif = s.hif := rfl
@[simp] theorem State.putPath_events (s : State) (d n : Nat) (x : PathSt) : (s.putPath d n x).events = s.events := rfl
@[simp] theorem State.putPath_idle (s : State) (d n : Nat) (x : PathSt) : (s.putPath d n x).idle = s.idle := rfl
@[simp] theorem State.putPath_ops (s : State) (d n : Nat) (x : PathSt) : (s.putPath d n x).ops = s.ops := rfl
@[simp] theorem State.putPath_chains (s : State) (d n : Nat) (x : PathSt) : (s.putPath d n x).chains = s.chains := rfl
@[simp] theorem State.putPath_nextOp (s : State) (d n : Nat) (x : PathSt) : (s.putPath d n x).nextOp = s.nextOp := rfl
@[simp] theorem State.putPath_nextChain (s : State) (d n : Nat) (x : PathSt) : (s.putPath d n x).nextChain = s.nextChain := rfl
@[simp] theorem State.putPath_queues (s : State) (d n : Nat) (x : PathSt) : (s.putPath d n x).queues = s.queues := rfl
@[simp] theorem State.putPath_lastTag (s : State) (d n : Nat) (x : PathSt) : (s.putPath d n x).lastTag = s.lastTag := rfl
@[simp] theorem State.putPath_trn (s : State) (d n : Nat) (x : PathSt) : (s.putPath d n x).trn = s.trn := rfl
@[simp] theorem State.putPath_tiles (s : State) (d n : Nat) (x : PathSt) : (s.putPath d n x).tiles = s.tiles := rfl
@[simp] theorem State.putPath_tqs (s : State) (d n : Nat) (x : PathSt) : (s.putPath d n x).tqs = s.tqs := rfl
@[simp] theorem State.putPath_msys (s : State) (d n : Nat) (x : PathSt) : (s.putPath d n x).msys = s.msys := rfl
@[simp] theorem State.putPath_qpm (s : State) (d n : Nat) (x : PathSt) : (s.putPath d n x).qpm = s.qpm := rfl
@[simp] theorem State.putPath_net (s : State) (d n : Nat) (x : PathSt) : (s.putPath d n x).net = s.net := rfl
@[simp] theorem State.putPath_crw (s : State) (d n : Nat) (x : PathSt) : (s.putPath d n x).crw = s.crw := rfl
@[simp] theorem State.putPath_groups (s : State) (d n : Nat) (x : PathSt) : (s.putPath d n x).groups = s.groups := rfl
@[simp] theorem State.putPath_par (s : State) (d n : Nat) (x : PathSt) : (s.putPath d n x).par = s.par := rfl
@[simp] theorem State.putPath_pwr (s : State) (d n : Nat) (x : PathSt) : (s.putPath d n x).pwr = s.pwr := rfl
@[simp] theorem State.putPath_flash (s : State) (d n : Nat) (x : PathSt) : (s.putPath d n x).flash = s.flash := rfl
@[simp] theorem State.putPath_fwc (s : State) (d n : Nat) (x : PathSt) : (s.putPath d n x).fwc = s.fwc := rfl
@[simp] theorem State.putPath_boot (s : State) (d n : Nat) (x : PathSt) : (s.putPath d n x).boot = s.boot := rfl
@[simp] theorem State.putPath_sec (s : State) (d n : Nat) (x : PathSt) : (s.putPath d n x).sec = s.sec := rfl
@[simp] theorem State.putPath_dbg (s : State) (d n : Nat) (x : PathSt) : (s.putPath d n x).dbg = s.dbg := rfl

/-! A stage of a reconstruction. -/

@[simp] theorem State.putStage_pending (s : State) (j : Nat) (x : Stage) : (s.putStage j x).pending = s.pending := rfl
@[simp] theorem State.putStage_out (s : State) (j : Nat) (x : Stage) : (s.putStage j x).out = s.out := rfl
@[simp] theorem State.putStage_freeCtr (s : State) (j : Nat) (x : Stage) : (s.putStage j x).freeCtr = s.freeCtr := rfl
@[simp] theorem State.putStage_uptime (s : State) (j : Nat) (x : Stage) : (s.putStage j x).uptime = s.uptime := rfl
@[simp] theorem State.putStage_devTime (s : State) (j : Nat) (x : Stage) : (s.putStage j x).devTime = s.devTime := rfl
@[simp] theorem State.putStage_regs (s : State) (j : Nat) (x : Stage) : (s.putStage j x).regs = s.regs := rfl
@[simp] theorem State.putStage_mem (s : State) (j : Nat) (x : Stage) : (s.putStage j x).mem = s.mem := rfl
@[simp] theorem State.putStage_dramInit (s : State) (j : Nat) (x : Stage) : (s.putStage j x).dramInit = s.dramInit := rfl
@[simp] theorem State.putStage_hw (s : State) (j : Nat) (x : Stage) : (s.putStage j x).hw = s.hw := rfl
@[simp] theorem State.putStage_hif (s : State) (j : Nat) (x : Stage) : (s.putStage j x).hif = s.hif := rfl
@[simp] theorem State.putStage_events (s : State) (j : Nat) (x : Stage) : (s.putStage j x).events = s.events := rfl
@[simp] theorem State.putStage_idle (s : State) (j : Nat) (x : Stage) : (s.putStage j x).idle = s.idle := rfl
@[simp] theorem State.putStage_ops (s : State) (j : Nat) (x : Stage) : (s.putStage j x).ops = s.ops := rfl
@[simp] theorem State.putStage_chains (s : State) (j : Nat) (x : Stage) : (s.putStage j x).chains = s.chains := rfl
@[simp] theorem State.putStage_nextOp (s : State) (j : Nat) (x : Stage) : (s.putStage j x).nextOp = s.nextOp := rfl
@[simp] theorem State.putStage_nextChain (s : State) (j : Nat) (x : Stage) : (s.putStage j x).nextChain = s.nextChain := rfl
@[simp] theorem State.putStage_queues (s : State) (j : Nat) (x : Stage) : (s.putStage j x).queues = s.queues := rfl
@[simp] theorem State.putStage_lastTag (s : State) (j : Nat) (x : Stage) : (s.putStage j x).lastTag = s.lastTag := rfl
@[simp] theorem State.putStage_trn (s : State) (j : Nat) (x : Stage) : (s.putStage j x).trn = s.trn := rfl
@[simp] theorem State.putStage_tiles (s : State) (j : Nat) (x : Stage) : (s.putStage j x).tiles = s.tiles := rfl
@[simp] theorem State.putStage_tqs (s : State) (j : Nat) (x : Stage) : (s.putStage j x).tqs = s.tqs := rfl
@[simp] theorem State.putStage_msys (s : State) (j : Nat) (x : Stage) : (s.putStage j x).msys = s.msys := rfl
@[simp] theorem State.putStage_ydt (s : State) (j : Nat) (x : Stage) : (s.putStage j x).ydt = s.ydt := rfl
@[simp] theorem State.putStage_qpm (s : State) (j : Nat) (x : Stage) : (s.putStage j x).qpm = s.qpm := rfl
@[simp] theorem State.putStage_net (s : State) (j : Nat) (x : Stage) : (s.putStage j x).net = s.net := rfl
@[simp] theorem State.putStage_crw (s : State) (j : Nat) (x : Stage) : (s.putStage j x).crw = s.crw := rfl
@[simp] theorem State.putStage_groups (s : State) (j : Nat) (x : Stage) : (s.putStage j x).groups = s.groups := rfl
@[simp] theorem State.putStage_pwr (s : State) (j : Nat) (x : Stage) : (s.putStage j x).pwr = s.pwr := rfl
@[simp] theorem State.putStage_flash (s : State) (j : Nat) (x : Stage) : (s.putStage j x).flash = s.flash := rfl
@[simp] theorem State.putStage_fwc (s : State) (j : Nat) (x : Stage) : (s.putStage j x).fwc = s.fwc := rfl
@[simp] theorem State.putStage_boot (s : State) (j : Nat) (x : Stage) : (s.putStage j x).boot = s.boot := rfl
@[simp] theorem State.putStage_sec (s : State) (j : Nat) (x : Stage) : (s.putStage j x).sec = s.sec := rfl
@[simp] theorem State.putStage_dbg (s : State) (j : Nat) (x : Stage) : (s.putStage j x).dbg = s.dbg := rfl

/-! A firmware bank. -/

@[simp] theorem State.putBank_pending (s : State) (b : Nat) (x : Bank) : (s.putBank b x).pending = s.pending := rfl
@[simp] theorem State.putBank_out (s : State) (b : Nat) (x : Bank) : (s.putBank b x).out = s.out := rfl
@[simp] theorem State.putBank_freeCtr (s : State) (b : Nat) (x : Bank) : (s.putBank b x).freeCtr = s.freeCtr := rfl
@[simp] theorem State.putBank_uptime (s : State) (b : Nat) (x : Bank) : (s.putBank b x).uptime = s.uptime := rfl
@[simp] theorem State.putBank_devTime (s : State) (b : Nat) (x : Bank) : (s.putBank b x).devTime = s.devTime := rfl
@[simp] theorem State.putBank_regs (s : State) (b : Nat) (x : Bank) : (s.putBank b x).regs = s.regs := rfl
@[simp] theorem State.putBank_mem (s : State) (b : Nat) (x : Bank) : (s.putBank b x).mem = s.mem := rfl
@[simp] theorem State.putBank_dramInit (s : State) (b : Nat) (x : Bank) : (s.putBank b x).dramInit = s.dramInit := rfl
@[simp] theorem State.putBank_hw (s : State) (b : Nat) (x : Bank) : (s.putBank b x).hw = s.hw := rfl
@[simp] theorem State.putBank_hif (s : State) (b : Nat) (x : Bank) : (s.putBank b x).hif = s.hif := rfl
@[simp] theorem State.putBank_events (s : State) (b : Nat) (x : Bank) : (s.putBank b x).events = s.events := rfl
@[simp] theorem State.putBank_idle (s : State) (b : Nat) (x : Bank) : (s.putBank b x).idle = s.idle := rfl
@[simp] theorem State.putBank_ops (s : State) (b : Nat) (x : Bank) : (s.putBank b x).ops = s.ops := rfl
@[simp] theorem State.putBank_chains (s : State) (b : Nat) (x : Bank) : (s.putBank b x).chains = s.chains := rfl
@[simp] theorem State.putBank_nextOp (s : State) (b : Nat) (x : Bank) : (s.putBank b x).nextOp = s.nextOp := rfl
@[simp] theorem State.putBank_nextChain (s : State) (b : Nat) (x : Bank) : (s.putBank b x).nextChain = s.nextChain := rfl
@[simp] theorem State.putBank_queues (s : State) (b : Nat) (x : Bank) : (s.putBank b x).queues = s.queues := rfl
@[simp] theorem State.putBank_lastTag (s : State) (b : Nat) (x : Bank) : (s.putBank b x).lastTag = s.lastTag := rfl
@[simp] theorem State.putBank_trn (s : State) (b : Nat) (x : Bank) : (s.putBank b x).trn = s.trn := rfl
@[simp] theorem State.putBank_tiles (s : State) (b : Nat) (x : Bank) : (s.putBank b x).tiles = s.tiles := rfl
@[simp] theorem State.putBank_tqs (s : State) (b : Nat) (x : Bank) : (s.putBank b x).tqs = s.tqs := rfl
@[simp] theorem State.putBank_msys (s : State) (b : Nat) (x : Bank) : (s.putBank b x).msys = s.msys := rfl
@[simp] theorem State.putBank_ydt (s : State) (b : Nat) (x : Bank) : (s.putBank b x).ydt = s.ydt := rfl
@[simp] theorem State.putBank_qpm (s : State) (b : Nat) (x : Bank) : (s.putBank b x).qpm = s.qpm := rfl
@[simp] theorem State.putBank_net (s : State) (b : Nat) (x : Bank) : (s.putBank b x).net = s.net := rfl
@[simp] theorem State.putBank_crw (s : State) (b : Nat) (x : Bank) : (s.putBank b x).crw = s.crw := rfl
@[simp] theorem State.putBank_groups (s : State) (b : Nat) (x : Bank) : (s.putBank b x).groups = s.groups := rfl
@[simp] theorem State.putBank_par (s : State) (b : Nat) (x : Bank) : (s.putBank b x).par = s.par := rfl
@[simp] theorem State.putBank_pwr (s : State) (b : Nat) (x : Bank) : (s.putBank b x).pwr = s.pwr := rfl
@[simp] theorem State.putBank_fwc (s : State) (b : Nat) (x : Bank) : (s.putBank b x).fwc = s.fwc := rfl
@[simp] theorem State.putBank_boot (s : State) (b : Nat) (x : Bank) : (s.putBank b x).boot = s.boot := rfl
@[simp] theorem State.putBank_sec (s : State) (b : Nat) (x : Bank) : (s.putBank b x).sec = s.sec := rfl
@[simp] theorem State.putBank_dbg (s : State) (b : Nat) (x : Bank) : (s.putBank b x).dbg = s.dbg := rfl

/-! What an update leaves to read. -/

@[simp] theorem State.op?_putOp_self (s : State) (i : Nat) (o : Op) : (s.putOp i o).op? i = some o := Tab.look_put_self _ _ _

theorem State.op?_putOp_ne (s : State) {i j : Nat} (o : Op) (h : j ≠ i) : (s.putOp i o).op? j = s.op? j := Tab.look_put_ne _ _ h

@[simp] theorem State.queue_putQueue_self (s : State) (q : Source) (x : Queue) : (s.putQueue q x).queue q = x := by
  simp [State.queue, State.putQueue]

theorem State.queue_putQueue_ne (s : State) {p q : Source} (x : Queue) (h : srcKey p ≠ srcKey q) : (s.putQueue q x).queue p = s.queue p := by
  simp [State.queue, State.putQueue, Tab.look_put_ne _ _ h]

end Sys2Proof.Machine
end

