-- ==== Sys2Proof/WellFormed.lean ====
section
/-! DEFINITION. Sys2Proof/WellFormed.lean: which commands the device's parts allow: functions, rings, clusters, tiles, ports, links, cores, queues and groups that
exist, packets whose header words have 32 bits. A command outside these ranges names a part that the device does not have, so nothing sends it. -/

namespace Sys2Proof

/-- R167: 64 functions. -/
def fnOk (fn : Nat) : Bool := fn < 64

/-- R72: rings 1 to 15 of a function. -/
def ringOk (fn r : Nat) : Bool := fnOk fn && 1 ≤ r && r < 16

/-- R22: 16 clusters of 4 tiles. -/
def clusterOk (nn : Nat) : Bool := nn < 16
def tileOk (nn t : Nat) : Bool := clusterOk nn && t < 4

/-- R308: 20 packages of 4 channels. -/
def packageOk (nn : Nat) : Bool := nn < 20
def chanOk (c : Nat) : Bool := c < 80

/-- R381, R387: 8 ports of 8 classes; R397, R405: 4 links of 8 virtual lanes. -/
def portOk (p : Nat) : Bool := p < 8
def classOk (c : Nat) : Bool := c < 8
def linkOk (l : Nat) : Bool := l < 4
def vlOk (v : Nat) : Bool := v < 8

/-- R496: 6 management cores. -/
def coreOk (c : Nat) : Bool := c < 6

/-- R302: 4,096 trigger queues; R420: 256 groups. -/
def tqOk (q : Nat) : Bool := q < 4096
def groupOk (g : Nat) : Bool := g < 256

/-- R50: ten rails; R56: sensors 0 to 37. -/
def railOk (r : Nat) : Bool := r < 10
def sensorOk (i : Nat) : Bool := i < 38

/-- R358: 32,768 initiator slots; R369: 4,096 queue pairs. -/
def slotOk (queuePair : Bool) (i : Nat) : Bool := if queuePair then i < 4096 else i < 32768

/-- R338: 4,096 device IDs. -/
def devOk (d : Nat) : Bool := d < 4096

/-- R12, R86: an offset in the slot area of a Pavilion page. -/
def slotArea? (off n : Nat) : Bool := 0x400 ≤ off && off + n ≤ 0x600

def Source.wf : Source → Bool
  | .ring f r => ringOk f r
  | .pav f => fnOk f
  | .tq q => tqOk q

def allBelow (bound : Nat) (l : List Nat) : Bool := l.all (fun x => x < bound)

/-- R354: the base header is eight 32-bit words. -/
def Pkt.wf (p : Pkt) : Bool := p.words.length = 8 && allBelow (2 ^ 32) p.words && allBelow (2 ^ 64) p.ext

/-- R401: the Ozmen header is four 32-bit words. -/
def OzPkt.wf (p : OzPkt) : Bool :=
  p.words.length = 4 && allBelow (2 ^ 32) p.words && (match p.body with | .ydt q => q.wf | .ip _ => true)

def Frame.wf (f : Frame) : Bool :=
  f.dst < 2 ^ 48 && f.src < 2 ^ 48 && f.tags.all (fun (t : Nat × Nat × Nat) => t.2.1 < 8 && t.2.2 < 4096) &&
  (match f.body with | .ip p => (match p.body with | .ydt q => q.wf | _ => true) | _ => true)

/-- A function virtual address has 57 bits (R167). -/
def vaOk (va : Nat) : Bool := va < 2 ^ 57

/-- The commands that name only parts which exist. -/
def Instr.wf : Instr → Bool
  | .railGoodLost rail => railOk rail
  | .hardwareTrip i | .tripClear i | .pldmSensorRead i _ => sensorOk i
  | .mbxDoorbell fn _ | .pavilionTake fn | .evqEnable fn _ | .evqDisable fn _ | .evqSeenWrite fn _ | .eventRecordWrite fn _
  | .visibleTimeRead fn _ | .quiesceStart fn _ | .quiesceFlushEscalate fn _ | .quiesceEnd fn _ | .quiesced fn | .instanceReset fn _
  | .instanceResetDone fn | .ctxShareWrite _ fn _ | .quotaWrite _ fn _ => fnOk fn
  | .mbxGo fn off d | .mbxSlotWrite fn off d => fnOk fn && slotArea? off d.length
  | .snoop fn line _ => fnOk fn && line < 2 ^ 51
  | .rngDoorbell f r _ | .ringEnable f r _ | .ringDisable f r _ | .cqEnable f r _ | .cqDisable f r _ | .ringPause f r _ | .ringResume f r _
  | .dcacheInv f r _ | .descriptorFetch f r | .fetchReturn f r _ => ringOk f r
  | .hostSeenWrite f r _ | .cqResync f r _ | .resyncSeqWrite f r _ | .cqModTimer f r => fnOk f && r < 16
  | .descriptorAdmit q | .completionIssue q _ => q.wf
  | .tlbMiss f va | .tlbFill f va _ _ | .atsCompletion f va _ _ _ | .priRequest f va | .priResponse f va _ | .priTimeout f va
  | .migrateOnFaultDone f va _ => fnOk f && vaOk va
  | .atsInvalidation f va _ => fnOk f && vaOk va
  | .workUnitDispatch nn t n => tileOk nn t && n ≤ 16
  | .tileBlock nn t _ _ _ _ a b _ => tileOk nn t && a.length ≤ 64 && b.length ≤ 32
  | .selfTestDone nn t _ => tileOk nn t
  | .tileRetire nn _ | .tileRestore nn _ | .checkInject nn _ | .clusterPowerUp nn | .clockStep nn | .clusterIdleTimer nn | .droopDetect nn
  | .droopEnd nn | .droopLong nn => clusterOk nn
  | .triggerArmDone q | .triggerDisarmDone q | .triggerRunAdmit q | .tqOwnerWrite q _ => tqOk q
  | .oscillatorRead c _ | .channelRetrain c => chanOk c
  | .arbAgeExpiry c w => chanOk c && w.all (fun (e : Nat × Nat) => classOk e.1)
  | .memRetrainRequest nn _ | .refresh nn _ | .memTempHot nn _ | .memTempNormal nn _ | .dramThrottleTick nn _ => packageOk nn
  | .ackDelayTimer d f _ | .trackerExpiry d f _ | .sendRecordExpiry d f _ => devOk d && fnOk f
  | .retransmitTimeout q i _ | .rateIdleReset q i => slotOk q i
  | .holdingEnd i | .orderedSendRelease i _ => slotOk false i
  | .pathProbe d p => devOk d && p < 4
  | .rateFloor d => devOk d
  | .portTrainDone p _ | .portDown p _ | .laneFaultRetry p | .frameTransmit p | .shareWrite p _ _ | .planSwitchArm p _ | .planSwitch p
  | .gateChange p => portOk p
  | .frameReceive p f _ => portOk p && f.wf
  | .pauseRepeat p c | .pauseQuantaExpiry p c => portOk p && classOk c
  | .linkRetrain l _ | .linkTrainDone l _ | .linkTrainRetry l | .widthChangeDone l | .linkTimeout l | .controlBlockSend l | .ozmenTransmit l => linkOk l
  | .timeBlockReceive l b => linkOk l && b.time < 2 ^ 64 && b.hops < 256
  | .laneExclude l lane _ _ => linkOk l && lane < 4
  | .ozmenPacketReceive l p _ => linkOk l && p.wf
  | .xoffRepeat l v | .xoffReceive l v _ => linkOk l && vlOk v
  | .headDrop l v i => linkOk l && vlOk v && i < 5
  | .rosterReceive l r => linkOk l && devOk r.dev
  | .chunkSend g _ _ | .chunkMerge g _ _ _ _ _ | .heatTimeout g | .paceLapse g => groupOk g
  | .memberLossDetect m => m < 16
  | .fmaxTileTestDone t _ => t < 64
  | .coreCrash c _ _ | .watchdogExpiry c | .coreRestartDone c | .debugModuleAccess c _ _ => coreOk c
  | .tileSelftestDone r f => allBelow 64 r && allBelow 64 f
  | .memoryTrainingDone _ f => allBelow 80 f
  | .keySet _ slot owner keyId key => slot < 1024 && owner < 64 && keyId < 2 ^ 32 && key < 2 ^ 256
  | .keyErase _ slot => slot < 1024 || slot = 0xFFFF
  | .keyQuery _ slot => slot < 1024
  | .bindingWrite _ i _ => i < 256
  | .securityAlarm a | .alarmClear a => a < 5
  | .cagePresentChange c _ | .cageI2cTimeout c => c < 8
  | .msiXUnmask fn v => fnOk fn && v < 32
  | .intStatusW1c p _ | .intSet p _ | .intEnableWrite p _ => p < 52 || (64 ≤ p && p < 1088)
  | .rcRead p off _ | .loRead p off _ | .registerWrite p off _ => (p < 52 || (64 ≤ p && p < 1152)) && off < 4096
  | .auxEntry _ _ | .inputAccept | .bulkCharged | .railGood | .onEntry _ | .inputRelease | .inputLockout | .inputLockoutEnd | .pwrdisRise
  | .pwrdisFall _ | .auxLoss _ | .auxRestore _ | .lowInput _ | .lowInputEnd _ | .modResetAssert | .modResetRelease | .perstAssert _ | .perstRelease
  | .smbusTimeout | .crewFreezeStuck | .crewFreezeClear | .crewTimeLoss | .crewTimeRestored | .mctpMessage _ _ _ | .pldmFwUpdate _ _ _ _
  | .mctpDumpRead _ | .mctpWarmReset | .hostLinkReset _ | .linkTrained _ _ _ _ | .refclkRetry | .linkRecovery | .ccDisable _ | .ccWbInv _
  | .ccWritebackDone | .probePeriodic | .probeReturn _ | .unimplementedAccess _ _ | .glbWarmReset _ | .warmResetRelease | .idleRequestZ1 _
  | .idleRequestZ2 _ | .idleExitRequest _ | .idleMove _ | .idleAuto | .idleEntryDone | .wake _ | .idleExitDone | .selfRefreshExit
  | .faultStallRelease | .map _ | .unmap _ | .protect _ | .migrate _ _ | .advise _ | .vfRemove _ | .stretchInit _ _ | .append _ _
  | .attendDense _ _ _ | .attendSelected _ _ _ | .summarise _ _ | .truncate _ _ | .packWaitExpiry _ _ _ | .copy _ _ | .write _ _ | .send _ _
  | .read _ _ | .windowSet _ | .windowClose _ | .recvPost _ | .qpModify _ _ | .nop _ | .timestamp _ _ | .invalidOpcode _ | .triggerArm _ _
  | .triggerDisarm _ | .scrubStep _ | .scrubWake | .retrainDone _ _ | .classSelWrite _ | .writePacketReceive _ | .readRequestReceive _
  | .reconstructStaged _ _ | .stageExpiry _ | .readResponderSend _ _ | .readResponseReceive _ | .sendPacketReceive _ | .ackReceive _
  | .nakReceive _ | .probeReceive | .ccPeriod | .crewIdWrite _ | .qpPacketReceive _ | .netModeWrite _ | .portEnable _ | .timeSourceTimeout
  | .crewTimeDrive | .crewTimePulse | .linkEnable _ | .epochWrite _ | .tableXfer _ _ | .tableSave | .groupSet _ _ | .groupDelete _ | .heat _ _
  | .heatAbort _ | .heatDataReceive | .creditReceive | .abortReceive | .paritySync _ _ | .parityUnbind _ _ | .recoverLandmarks _ _
  | .recoverBlocks _ | .recoveryDone _ _ | .rescan _ _ | .rescanDone | .parDeclare _ | .parWithdraw _ | .parLostClear _ | .parCtrlWrite _ _
  | .burstRewrite _ | .sramPatrol _ _ | .powerModelTick _ _ _ _ | .capControlTick | .railReached _ | .trimTick _ | .modelStale _
  | .modelStaleClear _ | .phaseUpdate _ | .fmaxRetrain | .fmaxStart _ | .thermalCapTick _ _ _ | .capWrite _ | .mctpCap _ | .inletHot _
  | .coreRestartWrite _ | .bankActivate _ | .bankCommit _ | .bankCheck _ | .handoverStart _ | .handoverCoreDone _ | .dumpWrite _ | .dumpRead _ _
  | .dumpClear _ | .spdmRequest _ _ | .debugNonce _ | .debugUnlock _ _ _ _ _ | .debugLock _ | .attestCertReady _ | .secEraseWrite _
  | .cntClearAll _ | .cntClearOne _ | .freeze _ | .freezeRelease _ | .crewFreezeFall | .mctpFreeze | .crewFreezePulseEnd | .traceSpill _
  | .belvedereCapture _ | .captureDone | .hangDetect _ | .debugRead _ _ | .internalBootDone _ _ | .serdesCalDone _ | .dramInitDone
  | .calibrationDone _ | .restoreDone | .serviceQuery _ | .serviceRequestFull _ _ _ _ _ | .serviceHoldReduced _ | .serviceSaveConfig _
  | .rosterSend | .crewJoin | .inputReversed | .coefficientSave => true

end Sys2Proof
end

