-- ==== Sys2Proof/Tests/Slice0.lean ====
section
/-! SUPPORT. Sys2Proof/Tests/Slice0.lean: the well-formedness smoke, small tests of single commands against worked values of the spec, and for every statement
with hypotheses a state and operands that meet them. -/

namespace Sys2Proof
open Sys2Proof Machine
set_option Elab.async false
set_option linter.unusedVariables false

namespace Tests

/-- An access to a writable 32 MiB page of device memory, served. -/
theorem access_mapped {s : Machine.State} {fn va a b : Nat} {wr : Bool} (hm : s.trn.misses = []) (hc : s.coreUp Machine.coreTrn = true)
    (hr : s.idle.selfRefresh = false) (h57 : va < 2 ^ 57) (hw : s.walk fn b = some (false, ⟨false, true, true, false, false, false, a⟩))
    (hb : va / 2 ^ 25 = b / 2 ^ 25) : s.access ⟨[], [], [], []⟩ fn va wr = .dev (a + va % 2 ^ 25) := by
  have h1 : ¬ 2 ^ 57 ≤ va := by omega
  have h2 : ¬ s.tlbWaits fn va = true := by simp [Machine.State.tlbWaits, hm, hc]
  unfold Machine.State.access
  rw [if_neg h1, if_neg h2, s.walk_congr fn hb, hw]
  simp [hr, Machine.pageBytes, Machine.mib32]

/-- The device at reset with its module hardware changed. -/
def withHw (f : Machine.ModuleHw → Machine.ModuleHw) : Machine.State := { Machine.State.reset with hw := f Machine.ModuleHw.reset }

/-- The module while its rails ramp, and in AUX. -/
def ramping : Machine.State := withHw (fun h => { h with power := .ramp, pwrgd := false, railsGood := 3 })
def railsUp : Machine.State := withHw (fun h => { h with power := .ramp, pwrgd := false, railsGood := 10 })
def inAux : Machine.State := withHw (fun h => { h with power := .aux, pwrgd := false, railsGood := 0, inputOk := false })
def darkHw : Machine.State := withHw (fun h => { h with power := .dark, pwrgd := false, auxIn := false })


/-- The device as State.reset, running, with registers set and the link up or down. -/
def withRegs (l : List (Nat × Nat)) : Machine.State := l.foldl (fun s e => s.wr e.1 (Machine.word e.2)) Machine.State.reset


/-- A descriptor of an opcode, alone in its chain (FIRST and LAST). -/
def oneOp (code : Nat) : Desc := BitVec.ofNat 512 (code + 256 + 512)

/-- Host memory that answers zero everywhere. -/
def noHost : HostView := ⟨[], [], [], []⟩

/-- Function 1's Pavilion page open onto its completion queue 1; and with a NOP waiting. -/
def pavReady : Machine.State := withRegs [(Machine.R.MBX_CQ 1, 0x80000001), (Machine.R.RNG_CQ_CTRL 1 1, 0x0801)]
def pavWaiting : Machine.State :=
  pavReady.putQueue (.pav 1) { cache := [⟨0, 5, oneOp 1, true⟩], fetch := none, chain := none, discarding := false, submits := 1, unannounced := 0, stalled := none }

/-- A page of function fn at 32 MiB, on the device's frame at 0. -/
def pageLeaf : Machine.Leaf := ⟨false, true, true, false, false, false, 0⟩
def mapped (fn : Nat) (s : Machine.State) : Machine.State := { s.putLeaf fn false 1 pageLeaf with dramInit := true }

/-- Function 2 with its event queue at 32 MiB and one record held. -/
def evRec : Machine.EvRec := ⟨3, 0, 2, 2, 0, 0, 4, 0, 9⟩
def evqReady : Machine.State :=
  { (mapped 2 (withRegs [(Machine.R.MBX_EVQ_CTRL 2, 0x0801), (Machine.R.HIF_LINK_STATUS, 0x100), (Machine.R.MBX_EVQ_BASE_LO 2 + Machine.pairKey, 0x2000000)])) with
    events := [(2, ⟨[evRec], false⟩)] }


/-- Function 1's ring 2 enabled onto its own completion queue, RUNNING, both of depth 256, with both based at 32 MiB, and in another STATE. -/
def ringReady : Machine.State :=
  (mapped 1 (withRegs [(Machine.R.RNG_RING_CTRL 1 2, 0x0801), (Machine.R.RNG_CQ_CTRL 1 2, 0x0801), (Machine.statusK (Machine.ringPage 1 2), 0x21),
    (Machine.R.RNG_RING_BASE_LO 1 2 + Machine.pairKey, 0x2000000), (Machine.R.RNG_CQ_BASE_LO 1 2 + Machine.pairKey, 0x2010000)])).cqLatch 1 2
def ringIn (x : Nat) : Machine.State := ringReady.setRingState 1 2 x

def waitQueue (w : List Machine.Waiting) (f : Option Nat) : Machine.Queue :=
  { cache := w, fetch := f, chain := none, discarding := false, submits := 0, unannounced := 0, stalled := none }
def fetching : Machine.State := ringReady.putQueue (.ring 1 2) (waitQueue [] (some 1))
def ringWaiting : Machine.State := ringReady.putQueue (.ring 1 2) (waitQueue [⟨0, 2, oneOp 1, false⟩] none)

/-- A descriptor of function fn in chain 0, alone in it. -/
def opOf (fn : Nat) (d : Desc) (st : Machine.OpSt) : Machine.Op :=
  { fn := fn, src := .ring 1 2, seq := 0, queue := 2, desc := d, chain := 0, pos := 0, st := st, status := 0, result := 7, issued := false, progress := 0,
    waitFault := false, nonSnoop := false, cached := false, probe := 0, early := false, est := (0, 0), fresh := false, store := false, aux := [] }
def chainOf (fn : Nat) : Machine.Chain :=
  { fn := fn, src := .ring 1 2, coalesce := false, count := 1, lastSeen := true, cut := none, cutStatus := 2, fail := none, alone := false, start := 0, last := none }
def withOp (fn : Nat) (d : Desc) (s : Machine.State) : Machine.State :=
  { s with ops := [(0, opOf fn d .admitted)], chains := [(0, chainOf fn)], nextOp := 1, nextChain := 1 }
def opDoneIn (x : Nat) : Machine.State := { (ringIn x) with ops := [(0, opOf 1 (oneOp 1) .done)], chains := [(0, chainOf 1)], nextOp := 1, nextChain := 1 }


/-- A descriptor of an opcode with body fields, as (byte offset, value) pairs, alone in its chain. -/
def descOf (code : Nat) (l : List (Nat × Nat)) : Desc := BitVec.ofNat 512 (code + 768 + (l.map (fun e => e.2 * 2 ^ (8 * e.1))).sum)

/-- The device in Z1 or Z2, entering or leaving an idle state. -/
def idleIn (st : Nat) (f : Machine.Idle → Machine.Idle) : Machine.State :=
  { (withRegs [(Machine.R.GLB_IDLE_STATUS, st)]) with idle := f Machine.Idle.reset }

/-- Function 1 with a waiting TLB miss, and with a fault of page 1 in a state. -/
def missing (fn : Nat) (s : Machine.State) : Machine.State := { s with trn := { s.trn with misses := [(fn, s.tlbPage fn 0x2000000)] } }
def faultIn (x : Machine.FaultSt) (prefer : Bool) : Machine.FaultQ := ⟨1, 1, false, 0x2000040, true, prefer, x, [.op 0], 5⟩
def faulted (x : Machine.FaultSt) (prefer : Bool) (s : Machine.State) : Machine.State :=
  { s with trn := { s.trn with faults := [faultIn x prefer] }, ops := [(0, { opOf 1 (oneOp 1) .running with waitFault := true })], chains := [(0, chainOf 1)] }

/-- A HOST leaf of page 1 of function fn. -/
def hostMapped (fn leaf : Nat) (s : Machine.State) : Machine.State :=
  match Machine.Leaf.dec leaf with
  | some l => { s.putLeaf fn false 1 l with dramInit := true }
  | none => s
def linkedUp : Machine.State := withRegs [(Machine.R.HIF_LINK_STATUS, 0x100)]


/-- A small stretch of function 1 at 32 MiB + 256: one layer, one key-value head of dimension 64, FP8, one block; its layer table, weights, norm, rotary
table and tail record in the same page, of device frame 0. n: TOKEN_COUNT; the header image stands at 32 MiB + 0x800 as well. -/
def headerCells (base : Nat) : List (Nat × Nat) :=
  [(0, 0x43), (1, 0x48), (2, 0x54), (3, 0x53), (4, 1), (8, 1), (10, 1), (11, 1), (12, 64), (14, 0x11), (16, 1), (21, 2), (34, 1), (35, 2),
    (49, 0x10), (51, 2), (58, 0x80), (59, 0x3F)].map (fun e => (base + e.1, e.2))
def layerCells (n : Nat) : List (Nat × Nat) :=
  [(0, n), (9, 0x20), (11, 2), (17, 0xA0), (19, 2), (34, 2), (35, 2), (50, 4), (51, 2), (58, 3), (59, 2)].map (fun e => (0x1000 + e.1, e.2))
def stretchAt (n : Nat) (s : Machine.State) : Machine.State :=
  let s := mapped 1 s
  { s with mem := ((headerCells 0x100 ++ headerCells 0x800 ++ layerCells n).filter (fun e => e.2 ≠ 0)).map (fun e => (e.1, BitVec.ofNat 8 e.2)) }

/-- A context operation of function 1 on it, running. -/
def ctxOp (code : Nat) (l : List (Nat × Nat)) : Op := opOf 1 (descOf code ((0x10, 0x2000100) :: l)) .running
def ctxIn (n code : Nat) (l : List (Nat × Nat)) : Machine.State :=
  { (stretchAt n Machine.State.reset) with ops := [(0, ctxOp code l)], chains := [(0, chainOf 1)], nextOp := 1, nextChain := 1 }

/-- Tile 0 of cluster 0 with a unit of descriptor 0. -/
def unitIn : Machine.State :=
  { (ctxIn 0 0x22 []) with tiles := { Machine.Tiles.reset with tile := [(0, ⟨[], none, [(0, 0)], false, [], 0⟩)] } }
def rowOf (l : List Byte) : Row := ⟨l.length, l, []⟩


/-- Function 1 with one descriptor admitted, on its page of frame 0, with memory cells. -/
def memOp (d : Desc) (cells : List (Nat × Byte)) : Machine.State := { withOp 1 d (mapped 1 Machine.State.reset) with mem := cells }

/-- Trigger queue 3 of function 1, with a value of its STATUS and content. -/
def tqIn (st : Nat) (x : Machine.Tq) (s : Machine.State) : Machine.State :=
  { ((s.wr (Machine.R.CTX_TQ_OWNER 3) 0x80000001).wr (Machine.R.CTX_TQ_STATUS 3) (Machine.word st)) with tqs := [(3, x)] }
def emptyTq : Machine.Tq := ⟨0, 0, [], [], 0, [], none, []⟩
def nopTrigger : Machine.Trigger := ⟨1, 4, List.replicate 8 9, [oneOp 0x70], [], 2, false⟩
def addOp (d : Desc) (s : Machine.State) : Machine.State := { s with ops := [(0, opOf 1 d .admitted)], chains := [(0, chainOf 1)], nextOp := 1, nextChain := 1 }


/-- A packet of device 0 and function 1, partition 5, to function 1 of device 0, which is this device at reset. -/
def pktOf (typ : Nat) (last : Bool) (opid msgLen idx window : Nat) (ext : List Nat) (payload : List Byte) : Pkt :=
  ⟨(Machine.Hdr.mk typ last false 0 0 0 1 0 1 opid msgLen idx 0 window).words 0 5 0 false, ext, payload, true, false, none⟩
def rxOf (p : Pkt) : Machine.Rx := ⟨p, none, none⟩

/-- Function 1 with its endpoint enabled in partition 5, 16 transfers allowed, a page, a window of it, receive queue 3; and with a packet that waits. -/
def ydtReady : Machine.State :=
  let s := mapped 1 (withRegs [(Machine.R.YDT_FN_PKEY 1, 0x80000005), (Machine.R.TRN_FN_YDT_OPS 1, 16), (Machine.R.YDT_RQ_OWNER 3, 0x80000001)])
  { s with ydt := { s.ydt with windows := [(1024, ⟨0x2000000, 4096, 9, 0, true, true⟩)] } }
def waiting (p : Pkt) (s : Machine.State) : Machine.State := { s with ydt := { s.ydt with rx := [rxOf p] } }
def arrived (p : Pkt) : Machine.State := waiting p ydtReady
def slotFor (kind len : Nat) (x : Machine.XOwner) : Machine.Xfer := Machine.newXfer x kind 1 0 1 0 0 0 0x2000000 len 0 none
def inSlot (x : Machine.Xfer) (s : Machine.State) : Machine.State := { s with ydt := { s.ydt with xfers := [(7, x)] } }
def running (code : Nat) (s : Machine.State) : Machine.State := { s with ops := [(0, opOf 1 (oneOp code) .running)], chains := [(0, chainOf 1)] }
def trackerOf (fresh : List Nat) : Machine.Tracker :=
  { dev := 0, fn := 1, opid := 7, typ := 0, placed := fresh, expected := none, fresh := fresh, marked := 0, data := [], hash := 0, crc := 0,
    pkt := pktOf 0 false 7 0 0 0x90400 [0] [], last := 0 }
def routeTo9 (s : Machine.State) : Machine.State :=
  { s with crw := { s.crw with route := [(72, 1), (75, 1), (76, 1 + 32 * 2 ^ 15)] } }

open Machine
/-- Function 0's page at 0 on the frame 0, and a stage of line 5. -/
def stageOf : Machine.Stage := ⟨some (2, 5), 5, [], [], false, none, []⟩
def staging : Machine.State :=
  { Machine.State.reset with dramInit := true, trn := (Machine.State.reset.putLeaf 0 false 0 pageLeaf).trn,
                             par := { Machine.Par.reset with stages := [(4, stageOf)] } }

theorem chanOf_lt (p : Nat) : chanOf p < 80 := by
  have h : ∀ i, i < 80 → 4 * (5 * (i % 4) + (i / 4) % 5) + i / 20 < 80 := by decide
  exact h _ (Nat.mod_lt _ (by decide))

theorem staging_chan (c : Nat) (h : c < 80) : staging.chanState c = 0 := by
  revert c; decide +kernel

theorem staging_range : DevRange staging noHost 0 (staging.parBase + 131072 * stageOf.line) 655360 131072 false := by
  intro i hi
  have hb : staging.parBase + 131072 * stageOf.line = 655360 := by decide +kernel
  rw [hb]
  refine ⟨?_, ?_, by simp [noHost]⟩
  · rw [noHost, access_mapped (s := staging) (b := 655360) (a := 0) (by decide +kernel) (by decide +kernel) (by decide +kernel) (by omega) (by decide +kernel) (by omega)]
    congr 1; omega
  · simp [State.badBurst, State.poisoned, staging_chan _ (chanOf_lt _)]
    simp [staging, Machine.State.reset, Machine.MemSys.reset, Tab.has]

/-- Queue pair 5 of function 1 in a STATE, with a port UP and its peer's address; a packet for it in clear. -/
def qpOf : Machine.Qp := { Machine.emptyQp with destIp := 0xFFFF0A000001, remote := 6, mtu := 1024, retryCnt := 3, rnrRetry := 2, maxReads := 4, maxDest := 4 }
def qpIn (st : Nat) (x : Machine.Qp) (s : Machine.State) : Machine.State :=
  { (((s.wr (Machine.R.QPM_QP_OWNER 5) 0x80000001).wr (Machine.R.QPM_QP_STATUS 5) (Machine.word st)).wr (Machine.R.NET_PORT_STATUS 0) 2) with
    qpm := { Machine.Qpm.reset with qps := [(5, x)] } }
def roceTo5 (op : RoceOp) (psn va rkey len : Nat) (payload : List Byte) : Roce := ⟨op, 5, psn, 0, va, rkey, len, none, payload, true, false, none⟩
def roceIn (p : Roce) (s : Machine.State) : Machine.State := { s with qpm := { s.qpm with rx := [⟨p, none, none⟩] } }
def qpSpace : Machine.State := (ydtReady.wr (Machine.R.TRN_FN_QPS 1) 8).wr (Machine.R.YDT_FN_PKEY 1) 0x80000005


/-- Functions 1 (and 2) of device 0 as a group of one and of two members, at rank 0; a heat of one running in it. -/
def heatOf (elements : Nat) (xs : List Nat) : Machine.Heat :=
  { op := 0, lse := false, dtype := 9, ring := false, rowLen := 0, elements := elements, output := 0x2000000, chunks := [(0, xs)],
    done := [], truncated := false, progressAt := 0, begun := 0, firstIn := 0, waits := [] }
def groupOf (list : List (Nat × Nat)) (credits granted : Machine.Tab Nat) (h : Option Machine.Heat) : Machine.Group :=
  { owner := 1, list := list, rank := 0, reserve := 3, standing := 1, tclass := 0, timeoutMs := 1000, seq := 6, crc := 9,
    running := h, waiting := [], credits := credits, granted := granted, further := [], pool := [], partials := [], abortNext := none }
def inGroup (x : Machine.Group) (s : Machine.State) : Machine.State := { s with groups := [(3, x)] }
def pair : List (Nat × Nat) := [(0, 1), (0, 2)]
def pairIdle : Machine.Group := groupOf pair [(1, 1)] [(1, 1)] none
def pairRuns (xs : List Nat) : Machine.Group := groupOf pair [(1, 1)] [(1, 1)] (some (heatOf xs.length xs))
/-- A HEAT packet of the pair's rank 1: kind, low sequence bits, value, data. -/
def heatPkt (kind seqLo v : Nat) (data : List Byte) : Pkt := ⟨(Machine.Hdr.mk 6 true false 0 0 0 2 0 1 7 0 0 0 0).words 0 5 0 false, [2 ^ 32 * (2 ^ 24 * 3 + 2 ^ 22 * kind + 2 ^ 17 * seqLo) + v], data, true, false, none⟩
def ownHeat (s : Machine.State) : Machine.State := s.wr (Machine.R.TRN_FN_HEAT 1) 0x0201


/-- The stretch of stretchAt as a binding of function 1, and a PARITY_CTL on it. -/
def boundX (recovery : Bool) : Machine.Stretch :=
  { va := 0x2000100, pa := 256, landmarks := false, parity := true, layers := 1, kvHeads := 1, groupHeads := 1, dim := 64, keyFmt := 1, valueFmt := 1, cap := 1, width := 512,
    firstPos := 0, blockBase := 0x2010000, landmarkBase := 0, layerTable := 0x2001000, scale := 0x3F800000, blockGranule := 0, landmarkGranule := 0, srcMember := 2,
    recovery := recovery, srcBlockGranule := 0, srcLandmarkGranule := 0, srcCap := 1, srcFirst := 0 }
def boundOf (recovery : Bool) (got : List Nat) : Machine.Binding := ⟨1, boundX recovery, got⟩
def parIn (act lost : Nat) (b : Machine.Binding) : Machine.State :=
  let s := Tests.ctxIn 0 0x75 [(0x18, act)]
  { (s.wr Machine.R.CTX_PAR_LOST (Machine.word lost)) with par := { Machine.Par.reset with bindings := [(0, b)] } }
def parOp (act : Nat) : Op := ctxOp 0x75 [(0x18, act)]
def recoverOp (fn : Nat) (l : List (Nat × Nat)) : Op := opOf fn (descOf 0x75 ((0x18, 4) :: l)) .admitted
def rescanIn (fn : Nat) (l : List (Nat × Nat)) (lines : Nat) : Machine.State :=
  { (withRegs [(Machine.R.CTX_PAR_LINES, lines), (Machine.R.CTX_PAR_LOST, 0xFE), (Machine.R.CTX_PAR_REBUILD_RATE, 100)]) with ops := [(0, recoverOp fn l)], chains := [(0, chainOf fn)] }

open Machine

/-- The device at reset with function 0's page 1 on the frame 0, and a dump in flash slot 0; a DUMP_READ of function fn. -/
def dumpOf (seq core cause : Nat) : Machine.Dump := ⟨seq, 5, core, cause, 1, 2, false⟩
def dumpOp (fn slot : Nat) : Op := opOf fn (descOf 0x76 [(0x10, 0x2000000), (0x18, slot)]) .admitted
def dumping (fn slot : Nat) : Machine.State :=
  { Machine.State.reset with
    dramInit := true, trn := (mapped fn Machine.State.reset).trn,
    ops := [(0, dumpOp fn slot)], chains := [(0, chainOf fn)], nextOp := 1, nextChain := 1,
    flash := { Machine.State.reset.flash with dumps := [(0, dumpOf 3 2 1)] } }

theorem dumping_chan (c : Nat) (h : c < 80) : (dumping 0 0).chanState c = 0 := by
  revert c; decide +kernel

theorem dumping_range : DevRange (dumping 0 0) noHost 0 33554432 0 2097152 true := by
  intro i hi
  refine ⟨?_, ?_, by simp [noHost]⟩
  · rw [noHost, access_mapped (s := dumping 0 0) (b := 33554432) (a := 0) (by decide +kernel) (by decide +kernel) (by decide +kernel) (by omega) (by decide +kernel) (by omega)]
    congr 1; omega
  · simp [State.badBurst, State.poisoned, dumping_chan _ (chanOf_lt _)]
    simp [dumping, Machine.State.reset, Machine.MemSys.reset, Tab.has]

/-- An image, and the device with it as the PENDING bank, active and idle. -/
def imageOf (fw ifv : Nat) : Image := ⟨0, true, true, true, true, 3, fw, ifv, [Machine.State.reset.rd Machine.R.FWC_FW_VERSION |>.toNat], false, 77⟩
def spareBank (x : Machine.Bank) : Machine.State := Machine.State.reset.putBank Machine.State.reset.spare x
def wholeBank (m : Option Image) (v : Bool) : Machine.Bank := ⟨[(0, 1)], true, false, m, v⟩
def pendingBank : Machine.State :=
  let s := spareBank (wholeBank (some (imageOf 9 ((Machine.State.reset.rd Machine.R.FWC_IF_VERSION).toNat))) true)
  { s with flash := { s.flash with pending := some s.spare } }
def handing (moved : List Nat) : Machine.State :=
  let s := pendingBank.wr (Machine.R.FWC_CORE_STATUS (5 - moved.length)) 1
  { s with fwc := { s.fwc with handover := some moved } }


/-- The device with its internal boot done, the certificate ready, session 1 open; and registers set. -/
def secured (l : List (Nat × Nat)) : Machine.State :=
  let s := (withRegs l).setB Machine.R.SEC_BOOT_STATUS 8 true
  { s with boot := { s.boot with internal := true }, sec := { s.sec with sessions := [⟨1, false, some 44⟩], lastSession := 1 } }


/-- A DEBUG_READ of function fn on a mapped page; the device with 128 trace records that spill to it; a booting device. -/
def debugOp (fn : Nat) (l : List (Nat × Nat)) : Op := opOf fn (descOf 0x77 ((0x10, 0x2000000) :: l)) .admitted
def debugIn (fn : Nat) (l : List (Nat × Nat)) : Machine.State :=
  { (mapped fn Machine.State.reset) with
    ops := [(0, debugOp fn l)], chains := [(0, chainOf fn)], nextOp := 1, nextChain := 1, dbg := { Machine.Dbg.reset with counters := [(0, 5), (3, 7)], freezeTime := 9 } }
def traceRec : Machine.TraceRec := ⟨5, 1, 2, 3, 4, false, 6, 7, 8, 9, 10⟩
def bootIn (f : Machine.Boot → Machine.Boot) : Machine.State := { Machine.State.reset with boot := f { Machine.Boot.reset with internal := true } }
def svcOp (fn action : Nat) : Op := opOf fn (descOf 0x78 [(0x10, action)]) .admitted
def svcIn (fn action : Nat) (l : List (Nat × Nat)) : Machine.State :=
  { (withRegs l) with ops := [(0, svcOp fn action)], chains := [(0, chainOf fn)], nextOp := 1, nextChain := 1 }

open Machine

def spilling (base : Nat) : Machine.State :=
  { Machine.State.reset with
    regs := (withRegs [(Machine.R.DBG_TRACE_CTRL, 4), (Machine.R.DBG_SPILL_SIZE, 1), (Machine.R.DBG_SPILL_BASE_LO + Machine.pairKey, base)]).regs,
    dramInit := true, trn := (mapped 0 Machine.State.reset).trn,
    dbg := { Machine.Dbg.reset with trace := List.replicate 130 traceRec } }

theorem spilling_chan (c : Nat) (h : c < 80) : (spilling 33554432).chanState c = 0 := by
  revert c; decide +kernel

theorem spilling_range : DevRange (spilling 33554432) noHost 0 33554432 0 4096 true := by
  intro i hi
  refine ⟨?_, ?_, by simp [noHost]⟩
  · rw [noHost, access_mapped (s := spilling 33554432) (b := 33554432) (a := 0) (by decide +kernel) (by decide +kernel) (by decide +kernel) (by omega) (by decide +kernel) (by omega)]
    congr 1; omega
  · simp [State.badBurst, State.poisoned, spilling_chan _ (chanOf_lt _)]
    simp [spilling, Machine.State.reset, Machine.MemSys.reset, Tab.has]

end Tests

namespace Tests

/-! ## Well-formedness: an ill-formed command for each check -/

def noPacket : Pkt := ⟨[], [], [], true, false, none⟩
def shortOz : OzPkt := ⟨[0, 0, 0], true, .ydt (pktOf 0 true 1 0 0 0 [] []), .good⟩
def longFrame (dst : Nat) (tags : List (Nat × Nat × Nat)) : Frame := { len := 64, fcsOk := true, dst := dst, src := 1, tags := tags, body := .pause 0 0 }

/-- Functions, rings, addresses and slots that do not exist. -/
theorem test_wf_refuses_functions : ([.mbxDoorbell 64 0, .rngDoorbell 1 0 0, .ringEnable 1 16 0, .hostSeenWrite 64 1 0, .descriptorAdmit (.pav 64),
    .descriptorAdmit (.tq 4096), .tlbMiss 1 (2 ^ 57), .atsInvalidation 64 0 1, .mbxGo 1 0x3C0 [0], .snoop 1 (2 ^ 51) true, .msiXUnmask 1 32,
    .cqModTimer 1 16, .triggerArmDone 4096, .tqOwnerWrite 4096 0] : List Instr).all (fun c => !c.wf) = true := by decide

/-- Parts of the die that do not exist. -/
theorem test_wf_refuses_parts : ([.workUnitDispatch 16 0 1, .tileBlock 0 4 1 1 ⟨false, true⟩ none [] [] [], .selfTestDone 0 4 true, .clockStep 16,
    .oscillatorRead 80 0, .arbAgeExpiry 0 [(8, 1)], .refresh 20 0, .fmaxTileTestDone 64 none, .coreCrash 6 1 none, .tileSelftestDone [64] [],
    .memoryTrainingDone true [80], .securityAlarm 5, .railGoodLost 10, .hardwareTrip 38, .cageI2cTimeout 8] : List Instr).all (fun c => !c.wf) = true := by
  decide

/-- Ports, links, lanes, slots, devices and groups that do not exist. -/
theorem test_wf_refuses_links : ([.portDown 8 ⟨0, 0⟩, .pauseRepeat 0 8, .linkTimeout 4, .laneExclude 0 4 0 ⟨0, 0⟩, .xoffRepeat 0 8, .headDrop 0 0 5,
    .timeBlockReceive 0 ⟨0, 256⟩, .rosterReceive 0 ⟨4096, 0, false, false, 0⟩, .ackDelayTimer 4096 0 0, .retransmitTimeout true 4096 noHost,
    .holdingEnd 32768, .pathProbe 0 4, .rateFloor 4096, .chunkSend 256 0 noHost, .memberLossDetect 16] : List Instr).all (fun c => !c.wf) = true := by decide

/-- Header words, frames, registers, slots and bindings that do not exist. -/
theorem test_wf_refuses_fields : ([.ozmenPacketReceive 0 shortOz ⟨0, 0⟩, .frameReceive 0 (longFrame (2 ^ 48) []) ⟨0, 0⟩,
    .frameReceive 0 (longFrame 1 [(0, 8, 0)]) ⟨0, 0⟩, .intStatusW1c 52 0, .rcRead 0 4096 1, .registerWrite 60 0 [], .keySet none 1024 0 0 0,
    .keySet none 0 64 0 0, .keyErase none 1024, .bindingWrite true 256 0] : List Instr).all (fun c => !c.wf) = true ∧ noPacket.wf = false := by decide

/-- And well-formed ones pass. -/
theorem test_wf_accepts : ([.mbxDoorbell 63 0, .rngDoorbell 1 15 0, .keyErase none 0xFFFF, .clockStep 15, .oscillatorRead 79 0, .pathProbe 4095 3,
    .registerWrite 64 0x48 [some 1]] : List Instr).all (fun c => c.wf) = true := by decide

/-! ## Single values that the spec works out -/

/-- R213: 450 and 464 round to 448 in E4M3 and do not count; 470 saturates. -/
theorem test_e4m3_saturation : [0x43E10000, 0x43E80000, 0x43EB0000].map (fun x => fromF32 1 x) = [(0x7E, false), (0x7E, false), (0x7E, true)] := by
  decide +kernel

/-- R207, R212: the smallest subnormal of E4M3 is 2^−9. -/
theorem test_e4m3_smallest : toF32 1 1 = 0x3B000000 := by decide +kernel

/-- R208: every NaN is canonical. -/
theorem test_nan_canonical : (add32 0x7F800000 0xFF800000, mul32 0 0x7F800000, fromF32 8 0xFFC12345) = (0x7FC00000, 0x7FC00000, (0x7E00, false)) := by
  decide +kernel

/-- R454: the granules of member 0 of a set of 4 lie with holders 1, 2, 3 in turn. -/
theorem test_parity_holders : (List.range 6).map (fun g => (holderOf 4 0 g, lineOf 4 g)) = [(1, 0), (2, 0), (3, 0), (1, 1), (2, 1), (3, 1)] := by decide

/-- R428: with 5 members rank 4 sends to rank 0 and copies the result from it. -/
theorem test_exchange_rank4 : exchangeActs 5 4 = [.send 0 false, .copy 0 false] := by decide

/-- R27: the front command runs, and leaves the queue. -/
theorem test_step_front : (match step { State.reset with pending := [.classSelWrite 5, .crewJoin] } with
    | .next t => decide (t.pending = [Instr.crewJoin] ∧ t.getF R.MEM00_CLASS_SEL 0 3 = 5) | _ => false) = true := by decide +kernel

/-- R14, R153: an opcode that no chapter gives completes INVALID. -/
theorem test_unlisted_opcode : (match exec (.invalidOpcode 0) { (withOp 1 (oneOp 0x50) State.reset) with pending := [] } with
    | .next t => decide (Ended t 0 stInvalid 0) | _ => false) = true := by decide +kernel

end Tests

/-! Witnesses of IdleStepLetsTimePass. -/

theorem witness_IdleStepLetsTimePass_1 : ∃ (s : State), s.pending = [] :=
  ⟨State.reset, by decide +kernel⟩

/-! Witnesses of StepKeepsCanonical. -/

theorem witness_StepKeepsCanonical_1 : ∃ (s t : State), s.Canonical ∧ step s = .next t :=
  ⟨State.reset, State.reset.tick, by exact ⟨by decide +kernel, by decide +kernel⟩, rfl⟩

/-! Witnesses of FusesOnlyAdvance. -/

theorem witness_FusesOnlyAdvance_1 : ∃ (s t : State), step s = .next t :=
  ⟨State.reset, State.reset.tick, by exact rfl⟩

/-! Witnesses of EveryNaNIsCanonical. -/

theorem witness_EveryNaNIsCanonical_1 : ∃ (a b c : Nat), a < 2 ^ 32 ∧ b < 2 ^ 32 ∧ c < 2 ^ 32 :=
  ⟨0x7F800000, 0xFF800000, 1, by decide +kernel⟩

/-! Witnesses of StorageFormatsAreExact. -/

theorem witness_StorageFormatsAreExact_1 : ∃ (f x : Nat), f ∈ [1, 2, 6, 7, 8, 9] ∧ x < 256 ^ elemBytes f ∧ isNan32 (toF32 f x) = false :=
  ⟨7, 0x4049, by decide +kernel⟩

/-! Witnesses of FreezeRelease. -/

theorem witness_FreezeRelease_2 : ∃ (s : State) (v : Word), v ≠ 0xB8800500 ∧ v ≠ 0xB8800501 :=
  ⟨State.reset, 7, by decide +kernel⟩

/-! Witnesses of SvnAdvance. -/

theorem witness_SvnAdvance_1 : ∃ (s : State) (v : Word) (m : Image), fld v 8 24 = 0xB88002 ∧ bit v 0 = false ∧ bit v 1 = true ∧ s.flash.trial = true ∧ (s.bank s.flash.active).info = some m :=
  ⟨let s := (State.reset.putBank 0 (Tests.wholeBank (some (Tests.imageOf 9 5)) true)); { s with flash := { s.flash with active := 0, trial := true } }, 0xB8800202, Tests.imageOf 9 5, by decide +kernel⟩

theorem witness_SvnAdvance_2 : ∃ (s : State) (v : Word), bit v 1 = false :=
  ⟨Tests.pendingBank, 0xB8800201, by decide +kernel⟩

/-! Witnesses of GroupsAndHeats. -/

theorem witness_GroupsAndHeats_1 : ∃ (s : State) (op : Nat) (o : Op) (hv : HostView) (p : Nat), s.runnable op [0x40] = some o ∧ s.op? op = some o ∧ o.issued = false ∧ s.coreUp coreHea = true ∧ (groupArgs o.desc).list % 4 = 0 ∧ (groupArgs o.desc).list < 2 ^ 57 ∧ 0 < (groupArgs o.desc).members ∧ (groupArgs o.desc).members ≤ 4096 ∧ DevRange s hv o.fn (groupArgs o.desc).list p (4 * (groupArgs o.desc).members) false ∧ hv.ce = [] ∧ s.groupCheck o.fn (groupArgs o.desc) (((wordsOf (s.drams p (4 * (groupArgs o.desc).members)) (groupArgs o.desc).members).map (· % 2 ^ 18)).map (fun w => (w % 4096, w / 4096))) = none :=
  ⟨Tests.addOp (Tests.descOf 0x40 [(0x10, 0x2000000), (0x18, 196610), (0x1C, 196608)]) ({ (Tests.mapped 1 (Tests.withRegs [(R.TRN_FN_HEAT 1, 0x0201)])) with mem := [(1, 0x10), (5, 0x20)] }), 0, Tests.opOf 1 (Tests.descOf 0x40 [(0x10, 0x2000000), (0x18, 196610), (0x1C, 196608)]) .admitted, Tests.noHost, 0, by decide +kernel⟩

theorem witness_GroupsAndHeats_2 : ∃ (s : State) (op : Nat) (o : Op) (hv : HostView), s.runnable op [0x40] = some o ∧ s.op? op = some o ∧ o.issued = false ∧ s.coreUp coreHea = true ∧ (groupArgs o.desc).list % 4 = 0 ∧ (groupArgs o.desc).list < 2 ^ 57 ∧ (groupArgs o.desc).members = 0 :=
  ⟨Tests.addOp (Tests.descOf 0x40 [(0x10, 0x2000000), (0x18, 196608), (0x1C, 196608)]) (Tests.mapped 1 (Tests.withRegs [])), 0, Tests.opOf 1 (Tests.descOf 0x40 [(0x10, 0x2000000), (0x18, 196608), (0x1C, 196608)]) .admitted, Tests.noHost, by decide +kernel⟩

theorem witness_GroupsAndHeats_3 : ∃ (s : State) (op : Nat) (o : Op) (hv : HostView) (off : Nat), s.runnable op [0x42] = some o ∧ s.op? op = some o ∧ o.issued = false ∧ o.progress = 0 ∧ s.heatBad o (heatArgs o.desc) = some off :=
  ⟨Tests.addOp (Tests.descOf 0x42 [(0x10, 0x2000000), (0x20, 16), (0x28, 0x2403)]) (Tests.mapped 1 (Tests.withRegs [])), 0, Tests.opOf 1 (Tests.descOf 0x42 [(0x10, 0x2000000), (0x20, 16), (0x28, 0x2403)]) .admitted, Tests.noHost, 0x28, by decide +kernel⟩

theorem witness_GroupsAndHeats_4 : ∃ (s : State) (op : Nat) (o : Op) (hv : HostView) (x : Group), s.runnable op [0x42] = some o ∧ s.op? op = some o ∧ o.issued = false ∧ o.progress = 0 ∧ s.heatBad o (heatArgs o.desc) = none ∧ s.group? (heatArgs o.desc).group = some x ∧ (x.owner ≠ o.fn ∨ s.getF (R.TRN_FN_HEAT o.fn) 0 8 = 0) :=
  ⟨Tests.addOp (Tests.descOf 0x42 [(0x28, 0x2403)]) (Tests.inGroup { Tests.pairIdle with owner := 2 } (Tests.mapped 1 (Tests.withRegs [(R.TRN_FN_HEAT 1, 0x0201)]))), 0, Tests.opOf 1 (Tests.descOf 0x42 [(0x28, 0x2403)]) .admitted, Tests.noHost, { Tests.pairIdle with owner := 2 }, by decide +kernel⟩

theorem witness_GroupsAndHeats_5 : ∃ (s : State) (op : Nat) (o : Op) (hv : HostView) (x : Group), s.runnable op [0x42] = some o ∧ s.op? op = some o ∧ o.issued = false ∧ o.progress = 0 ∧ s.heatBad o (heatArgs o.desc) = none ∧ s.group? (heatArgs o.desc).group = some x ∧ x.owner = o.fn ∧ s.getF (R.TRN_FN_HEAT o.fn) 0 8 ≠ 0 ∧ x.running = none ∧ x.waiting = [] ∧ x.abortNext = none ∧ x.pool = [] ∧ (heatArgs o.desc).fromStore = false ∧ (heatArgs o.desc).elements = 0 ∧ x.list.length = 1 ∧ x.rank = 0 :=
  ⟨Tests.addOp (Tests.descOf 0x42 [(0x28, 0x2403)]) (Tests.inGroup (Tests.groupOf [(0, 1)] [] [] none) (Tests.mapped 1 (Tests.withRegs [(R.TRN_FN_HEAT 1, 0x0201)]))), 0, Tests.opOf 1 (Tests.descOf 0x42 [(0x28, 0x2403)]) .admitted, Tests.noHost, Tests.groupOf [(0, 1)] [] [] none, by decide +kernel⟩

theorem witness_GroupsAndHeats_6 : ∃ (s : State) (op : Nat) (o : Op) (hv : HostView) (x : Group) (p : Nat), s.runnable op [0x42] = some o ∧ s.op? op = some o ∧ o.issued = false ∧ o.progress = 0 ∧ s.heatBad o (heatArgs o.desc) = none ∧ s.group? (heatArgs o.desc).group = some x ∧ x.owner = o.fn ∧ s.getF (R.TRN_FN_HEAT o.fn) 0 8 ≠ 0 ∧ x.running = none ∧ x.waiting = [] ∧ x.abortNext = none ∧ x.pool = [] ∧ (heatArgs o.desc).fromStore = false ∧ (heatArgs o.desc).lse = false ∧ 0 < (heatArgs o.desc).elements ∧ (heatArgs o.desc).contrib = (heatArgs o.desc).elements ∧ x.list.length = 2 ∧ x.rank < 2 ∧ s.allDevice o.fn (heatArgs o.desc).output (heatArgs o.desc).bytes = true ∧ DevRange s hv o.fn (heatArgs o.desc).src p (heatArgs o.desc).bytes false ∧ hv.ce = [] :=
  ⟨Tests.addOp (Tests.descOf 0x42 [(0x10, 0x2000000), (0x18, 0x2000100), (0x20, 2), (0x24, 2), (0x28, 0x2403)]) ({ (Tests.inGroup Tests.pairIdle (Tests.mapped 1 (Tests.withRegs [(R.TRN_FN_HEAT 1, 0x0201)]))) with mem := [(2, 0x80), (3, 0x3F)] }), 0, Tests.opOf 1 (Tests.descOf 0x42 [(0x10, 0x2000000), (0x18, 0x2000100), (0x20, 2), (0x24, 2), (0x28, 0x2403)]) .admitted, Tests.noHost, Tests.pairIdle, 0, by decide +kernel⟩

theorem witness_GroupsAndHeats_7 : ∃ (s : State) (op : Nat) (o : Op), s.runnable op [0x43] = some o ∧ s.op? op = some o ∧ o.issued = false ∧ s.group? (dfld o.desc 0x10 0 8) = none :=
  ⟨Tests.addOp (Tests.descOf 0x43 [(0x10, 3)]) (Tests.mapped 1 (Tests.withRegs [])), 0, Tests.opOf 1 (Tests.descOf 0x43 [(0x10, 3)]) .admitted, by decide +kernel⟩

theorem witness_GroupsAndHeats_8 : ∃ (s : State) (op : Nat) (o : Op) (x : Group) (h : Heat) (p : Op), s.runnable op [0x43] = some o ∧ s.op? op = some o ∧ o.issued = false ∧ s.group? (dfld o.desc 0x10 0 8) = some x ∧ x.owner = o.fn ∧ x.running = some h ∧ h.op ≠ op ∧ s.op? h.op = some p ∧ p.issued = false :=
  ⟨{ (Tests.inGroup (Tests.pairRuns [1, 2]) (Tests.mapped 1 (Tests.withRegs []))) with ops := [(0, Tests.opOf 1 (Tests.oneOp 0x42) .running), (1, Tests.opOf 1 (Tests.descOf 0x43 [(0x10, 3)]) .admitted)], chains := [(0, Tests.chainOf 1)] }, 1, Tests.opOf 1 (Tests.descOf 0x43 [(0x10, 3)]) .admitted, Tests.pairRuns [1, 2], Tests.heatOf 2 [1, 2], Tests.opOf 1 (Tests.oneOp 0x42) .running, by decide +kernel⟩

theorem witness_GroupsAndHeats_9 : ∃ (s : State) (g : Nat) (x : Group) (h : Heat) (p : Op), s.group? g = some x ∧ x.running = some h ∧ s.op? h.op = some p ∧ p.issued = false :=
  ⟨{ (Tests.inGroup (Tests.pairRuns [1, 2]) Tests.ydtReady) with ops := [(0, Tests.opOf 1 (Tests.oneOp 0x42) .running)], chains := [(0, Tests.chainOf 1)] }, 3, Tests.pairRuns [1, 2], Tests.heatOf 2 [1, 2], Tests.opOf 1 (Tests.oneOp 0x42) .running, by decide +kernel⟩

/-! Witnesses of ChunksAndCredits. -/

theorem witness_ChunksAndCredits_1 : ∃ (s : State) (g c : Nat) (hv : HostView) (x : Group) (h : Heat) (q n : Nat) (ga : Bool) (xs : List Nat), s.group? g = some x ∧ x.running = some h ∧ h.next x c = some (.send q ga) ∧ h.chunks.look c = some xs ∧ x.credits.look q = some (n + 1) ∧ s.endpointOn x.owner = true ∧ (x.list.getD q (0, 0)).1 = s.devId ∧ s.encrypts x.owner = false ∧ s.ydt.xfers.length < 32768 ∧ (h.advance c 0).isOver x = false :=
  ⟨{ (Tests.inGroup (Tests.pairRuns [1, 2]) Tests.ydtReady) with ops := [(0, Tests.opOf 1 (Tests.oneOp 0x42) .running)], chains := [(0, Tests.chainOf 1)] }, 3, 0, Tests.noHost, Tests.pairRuns [1, 2], Tests.heatOf 2 [1, 2], 1, 0, false, [1, 2], by decide +kernel⟩

theorem witness_ChunksAndCredits_2 : ∃ (s : State) (g c : Nat) (hv : HostView) (x : Group) (h : Heat) (q : Nat) (ga : Bool) (xs : List Nat), s.group? g = some x ∧ x.running = some h ∧ h.next x c = some (.send q ga) ∧ h.chunks.look c = some xs ∧ x.credits.look q = none :=
  ⟨{ (Tests.inGroup ({ Tests.pairRuns [1, 2] with credits := [] }) Tests.ydtReady) with ops := [(0, Tests.opOf 1 (Tests.oneOp 0x42) .running)], chains := [(0, Tests.chainOf 1)] }, 3, 0, Tests.noHost, { Tests.pairRuns [1, 2] with credits := [] }, Tests.heatOf 2 [1, 2], 1, false, [1, 2], by decide +kernel⟩

theorem witness_ChunksAndCredits_3 : ∃ (s : State) (g c : Nat) (hv : HostView) (x : Group) (h : Heat) (q : Nat) (xs : List Nat) (a : Arrived), s.group? g = some x ∧ x.running = some h ∧ h.next x c = some (.merge q) ∧ h.chunks.look c = some xs ∧ x.pool.find? (fun y => y.rank = q && y.chunk = c && y.gather = false && y.seqLo = x.seq % 16) = some a ∧ (h.advance c 0).isOver x = false ∧ a.standing = true :=
  ⟨{ (Tests.inGroup ({ Tests.pairRuns [] with running := some ({ Tests.heatOf 4 [0x3F800000, 0x3F800000] with done := [(0, 1)], chunks := [(0, [0x3F800000, 0x3F800000]), (1, [7])] }), pool := [⟨1, 0, false, 6, true, 5, [0x3F800000, 0x3F800000], 0⟩], granted := [(1, 0)] }) Tests.ydtReady) with ops := [(0, Tests.opOf 1 (Tests.oneOp 0x42) .running)], chains := [(0, Tests.chainOf 1)] }, 3, 0, Tests.noHost, { Tests.pairRuns [] with running := some ({ Tests.heatOf 4 [0x3F800000, 0x3F800000] with done := [(0, 1)], chunks := [(0, [0x3F800000, 0x3F800000]), (1, [7])] }), pool := [⟨1, 0, false, 6, true, 5, [0x3F800000, 0x3F800000], 0⟩], granted := [(1, 0)] }, { Tests.heatOf 4 [0x3F800000, 0x3F800000] with done := [(0, 1)], chunks := [(0, [0x3F800000, 0x3F800000]), (1, [7])] }, 1, [0x3F800000, 0x3F800000], ⟨1, 0, false, 6, true, 5, [0x3F800000, 0x3F800000], 0⟩, by decide +kernel⟩

theorem witness_ChunksAndCredits_4 : ∃ (s : State) (g c : Nat) (hv : HostView) (x : Group) (h : Heat) (q : Nat) (xs : List Nat) (a : Arrived) (p : Op), s.group? g = some x ∧ x.running = some h ∧ s.op? h.op = some p ∧ p.issued = false ∧ h.next x c = some (.merge q) ∧ h.chunks.look c = some xs ∧ x.pool.find? (fun y => y.rank = q && y.chunk = c && y.gather = false && y.seqLo = x.seq % 16) = some a :=
  ⟨{ (Tests.inGroup ({ Tests.pairRuns [] with running := some ({ Tests.heatOf 4 [0x3F800000, 0x3F800000] with done := [(0, 1)], chunks := [(0, [0x3F800000, 0x3F800000]), (1, [7])] }), pool := [⟨1, 0, false, 6, true, 5, [0x3F800000, 0x3F800000], 0⟩], granted := [(1, 0)] }) Tests.ydtReady) with ops := [(0, Tests.opOf 1 (Tests.oneOp 0x42) .running)], chains := [(0, Tests.chainOf 1)] }, 3, 0, Tests.noHost, { Tests.pairRuns [] with running := some ({ Tests.heatOf 4 [0x3F800000, 0x3F800000] with done := [(0, 1)], chunks := [(0, [0x3F800000, 0x3F800000]), (1, [7])] }), pool := [⟨1, 0, false, 6, true, 5, [0x3F800000, 0x3F800000], 0⟩], granted := [(1, 0)] }, { Tests.heatOf 4 [0x3F800000, 0x3F800000] with done := [(0, 1)], chunks := [(0, [0x3F800000, 0x3F800000]), (1, [7])] }, 1, [0x3F800000, 0x3F800000], ⟨1, 0, false, 6, true, 5, [0x3F800000, 0x3F800000], 0⟩, Tests.opOf 1 (Tests.oneOp 0x42) .running, by decide +kernel⟩

theorem witness_ChunksAndCredits_5 : ∃ (s : State) (x : Rx) (y : Group) (r : Nat), Oldest s tyHeat (fun p => p.heatKind = 1) x ∧ s.heatFrom x.pkt = some (y, r) :=
  ⟨Tests.waiting (Tests.heatPkt 1 6 2 []) (Tests.inGroup (Tests.pairRuns [1, 2]) (Tests.running 0x42 Tests.ydtReady)), Tests.rxOf (Tests.heatPkt 1 6 2 []), Tests.pairRuns [1, 2], 1, by decide +kernel⟩

theorem witness_ChunksAndCredits_6 : ∃ (s : State) (x : Rx) (y : Group) (r : Nat) (h : Heat) (p : Op), Oldest s tyHeat (fun p => p.heatKind = 2) x ∧ s.heatFrom x.pkt = some (y, r) ∧ y.running = some h ∧ s.op? h.op = some p ∧ p.issued = false ∧ bitsOf x.pkt.heatWord 17 4 = y.seq % 16 ∧ x.pkt.heatValue % 256 ≠ stMismatch :=
  ⟨Tests.waiting (Tests.heatPkt 2 6 0x15 []) (Tests.inGroup (Tests.pairRuns [1, 2]) (Tests.running 0x42 Tests.ydtReady)), Tests.rxOf (Tests.heatPkt 2 6 0x15 []), Tests.pairRuns [1, 2], 1, Tests.heatOf 2 [1, 2], Tests.opOf 1 (Tests.oneOp 0x42) .running, by decide +kernel⟩

theorem witness_ChunksAndCredits_7 : ∃ (s : State) (x : Rx) (y : Group) (r : Nat), Oldest s tyHeat (fun p => p.heatKind = 2) x ∧ s.heatFrom x.pkt = some (y, r) ∧ y.running = none ∧ bitsOf x.pkt.heatWord 17 4 = y.seq % 16 ∧ x.pkt.heatValue % 256 = stMismatch :=
  ⟨Tests.waiting (Tests.heatPkt 2 6 0x30 []) (Tests.inGroup (Tests.pairIdle) (Tests.running 0x42 Tests.ydtReady)), Tests.rxOf (Tests.heatPkt 2 6 0x30 []), Tests.pairIdle, 1, by decide +kernel⟩

theorem witness_ChunksAndCredits_8 : ∃ (s : State) (x : Rx) (y : Group) (r : Nat), Oldest s tyHeat (fun p => p.heatKind = 0) x ∧ s.heatFrom x.pkt = some (y, r) ∧ single x.pkt = true ∧ s.recorded x.pkt = false ∧ s.recordsFull = false ∧ 0 < (y.granted.look r).getD 0 ∧ bitsOf x.pkt.heatWord 17 4 = y.seq % 16 ∧ y.running = none :=
  ⟨Tests.waiting (Tests.heatPkt 0 6 5 [0, 0, 0x80, 0x3F]) (Tests.inGroup (Tests.pairIdle) (Tests.running 0x42 Tests.ydtReady)), Tests.rxOf (Tests.heatPkt 0 6 5 [0, 0, 0x80, 0x3F]), Tests.pairIdle, 1, by decide +kernel⟩

theorem witness_ChunksAndCredits_9 : ∃ (s : State) (x : Rx) (y : Group) (r : Nat) (h : Heat) (p : Op), Oldest s tyHeat (fun p => p.heatKind = 0) x ∧ s.heatFrom x.pkt = some (y, r) ∧ single x.pkt = true ∧ s.recorded x.pkt = false ∧ s.recordsFull = false ∧ 0 < (y.granted.look r).getD 0 ∧ bitsOf x.pkt.heatWord 17 4 = y.seq % 16 ∧ y.running = some h ∧ x.pkt.heatValue ≠ h.hash y ∧ s.op? h.op = some p ∧ p.issued = false :=
  ⟨Tests.waiting (Tests.heatPkt 0 6 5 [0, 0, 0x80, 0x3F]) (Tests.inGroup (Tests.pairRuns [1, 2]) (Tests.running 0x42 Tests.ydtReady)), Tests.rxOf (Tests.heatPkt 0 6 5 [0, 0, 0x80, 0x3F]), Tests.pairRuns [1, 2], 1, Tests.heatOf 2 [1, 2], Tests.opOf 1 (Tests.oneOp 0x42) .running, by decide +kernel⟩

/-! Witnesses of GroupDeletion. -/

theorem witness_GroupDeletion_1 : ∃ (s : State) (op : Nat) (o : Op), s.runnable op [0x41] = some o ∧ s.op? op = some o ∧ o.issued = false ∧ s.coreUp coreHea = true ∧ s.group? (dfld o.desc 0x10 0 8) = none :=
  ⟨Tests.addOp (Tests.descOf 0x41 [(0x10, 3)]) (Tests.mapped 1 (Tests.withRegs [])), 0, Tests.opOf 1 (Tests.descOf 0x41 [(0x10, 3)]) .admitted, by decide +kernel⟩

theorem witness_GroupDeletion_2 : ∃ (s : State) (op : Nat) (o : Op) (x : Group), s.runnable op [0x41] = some o ∧ s.op? op = some o ∧ o.issued = false ∧ s.coreUp coreHea = true ∧ s.group? (dfld o.desc 0x10 0 8) = some x ∧ x.owner ≠ o.fn :=
  ⟨Tests.addOp (Tests.descOf 0x41 [(0x10, 3)]) (Tests.inGroup ({ Tests.pairIdle with owner := 2 }) (Tests.mapped 1 (Tests.withRegs []))), 0, Tests.opOf 1 (Tests.descOf 0x41 [(0x10, 3)]) .admitted, { Tests.pairIdle with owner := 2 }, by decide +kernel⟩

theorem witness_GroupDeletion_3 : ∃ (s : State) (op : Nat) (o : Op) (x : Group), s.runnable op [0x41] = some o ∧ s.op? op = some o ∧ o.issued = false ∧ s.coreUp coreHea = true ∧ s.group? (dfld o.desc 0x10 0 8) = some x ∧ (x.owner = o.fn ∧ x.busy = true) :=
  ⟨Tests.addOp (Tests.descOf 0x41 [(0x10, 3)]) (Tests.inGroup ({ Tests.pairIdle with waiting := [5] }) (Tests.mapped 1 (Tests.withRegs []))), 0, Tests.opOf 1 (Tests.descOf 0x41 [(0x10, 3)]) .admitted, { Tests.pairIdle with waiting := [5] }, by decide +kernel⟩

theorem witness_GroupDeletion_4 : ∃ (s : State) (op : Nat) (o : Op) (x : Group), s.runnable op [0x41] = some o ∧ s.op? op = some o ∧ o.issued = false ∧ s.coreUp coreHea = true ∧ s.group? (dfld o.desc 0x10 0 8) = some x ∧ (x.owner = o.fn ∧ x.busy = false) :=
  ⟨Tests.addOp (Tests.descOf 0x41 [(0x10, 3)]) (Tests.inGroup (Tests.pairIdle) (Tests.mapped 1 (Tests.withRegs []))), 0, Tests.opOf 1 (Tests.descOf 0x41 [(0x10, 3)]) .admitted, Tests.pairIdle, by decide +kernel⟩

theorem witness_GroupDeletion_5 : ∃ (s : State) (fn : Nat), fn < 64 ∧ fn ≠ 0 ∧ s.resetting fn = true ∧ s.coreUp coreTrn = true ∧ s.idleState = 0 :=
  ⟨Tests.inGroup Tests.pairIdle (Tests.withRegs [(R.TRN_FN_CTRL 1, 4), (R.TRN_FN_STATUS 1, 3)]), 1, by decide +kernel⟩

theorem witness_GroupDeletion_6 : ∃ (s : State), s.hw.power = .on ∧ s.hw.dieHeld = false ∧ s.hw.warm = none ∧ s.linkUp = false :=
  ⟨Tests.inGroup Tests.pairIdle State.reset, by decide +kernel⟩

/-! Witnesses of PowerUpSequence. -/

theorem witness_PowerUpSequence_1 : ∃ (s : State) (a1 a0 : Bool), s.hw.power = .dark :=
  ⟨Tests.darkHw, true, false, by decide +kernel⟩

theorem witness_PowerUpSequence_2 : ∃ (s : State), s.hw.lockout = false :=
  ⟨Tests.inAux, by decide +kernel⟩

theorem witness_PowerUpSequence_3 : ∃ (s : State), s.hw.power = .ramp :=
  ⟨Tests.ramping, by decide +kernel⟩

theorem witness_PowerUpSequence_4 : ∃ (s : State), s.hw.power = .ramp ∧ s.hw.bulk = true ∧ s.hw.railsGood < 10 :=
  ⟨Tests.ramping, by decide +kernel⟩

theorem witness_PowerUpSequence_5 : ∃ (s : State) (straps : Nat), s.hw.power = .ramp ∧ s.hw.railsGood = 10 :=
  ⟨Tests.railsUp, 5, by decide +kernel⟩

theorem witness_PowerUpSequence_6 : ∃ (s : State), s.hw.lockout = true :=
  ⟨{ Tests.inAux with hw := { Tests.inAux.hw with lockout := true } }, by decide +kernel⟩

theorem witness_PowerUpSequence_7 : ∃ (s : State) (sensor : Nat), sensor ∈ s.hw.thermalLatch ∧ s.hw.power ≠ .aux :=
  ⟨{ State.reset with hw := { State.reset.hw with power := .fault, thermalLatch := [3, 26] } }, 26, by decide +kernel⟩

theorem witness_PowerUpSequence_8 : ∃ (s : State) (ms : Nat), s.hw.pwrdis = true :=
  ⟨{ State.reset with hw := { State.reset.hw with power := .fault, pwrdis := true, auxIn := true } }, 100, by decide +kernel⟩

/-! Witnesses of PowerDownSequence. -/

theorem witness_PowerDownSequence_1 : ∃ (s : State), (s.hw.power = .on ∨ s.hw.power = .ramp) :=
  ⟨State.reset, by decide +kernel⟩

theorem witness_PowerDownSequence_2 : ∃ (s : State), s.hw.power ≠ .dark :=
  ⟨State.reset, by decide +kernel⟩

theorem witness_PowerDownSequence_3 : ∃ (s : State), (s.hw.power = .on ∨ s.hw.power = .ramp) :=
  ⟨State.reset, by decide +kernel⟩

theorem witness_PowerDownSequence_4 : ∃ (s : State) (rail : Nat), rail < 10 ∧ (s.hw.power = .on ∨ (s.hw.power = .ramp ∧ rail < s.hw.railsGood)) :=
  ⟨State.reset, 9, by decide +kernel⟩

theorem witness_PowerDownSequence_5 : ∃ (s : State), (s.hw.power = .on ∨ s.hw.power = .ramp) :=
  ⟨State.reset, by decide +kernel⟩

theorem witness_PowerDownSequence_6 : ∃ (s : State) (mv : Nat), s.hw.auxIn = true :=
  ⟨State.reset, 3000, by decide +kernel⟩

theorem witness_PowerDownSequence_7 : ∃ (s : State) (i : Nat), (s.hw.power = .on ∨ s.hw.power = .ramp) ∧ ((2 ≤ i ∧ i ≤ 26) ∨ (31 ≤ i ∧ i ≤ 37)) :=
  ⟨State.reset, 26, by decide +kernel⟩

/-! Witnesses of SidebandsAndSupply. -/

theorem witness_SidebandsAndSupply_1 : ∃ (s : State) (mv : Nat), s.hw.power = .on ∧ s.hw.auxIn = false :=
  ⟨{ State.reset with hw := { State.reset.hw with auxIn := false } }, 3300, by decide +kernel⟩

theorem witness_SidebandsAndSupply_2 : ∃ (s : State) (mv : Nat), s.hw.power = .on ∧ 37000 ≤ mv ∧ mv < 40000 ∧ s.hw.lowInput = false :=
  ⟨State.reset, 37000, by decide +kernel⟩

theorem witness_SidebandsAndSupply_3 : ∃ (s : State) (mv : Nat), s.hw.lowInput = true ∧ 40000 < mv :=
  ⟨{ State.reset with hw := { State.reset.hw with lowInput := true } }, 40001, by decide +kernel⟩

theorem witness_SidebandsAndSupply_4 : ∃ (s : State), s.dieUp = true :=
  ⟨State.reset, by decide +kernel⟩

theorem witness_SidebandsAndSupply_5 : ∃ (s : State), s.hw.power = .on ∧ s.hw.freezeIgnored = false :=
  ⟨State.reset, by decide +kernel⟩

theorem witness_SidebandsAndSupply_7 : ∃ (s : State), s.dieUp = true ∧ s.hw.crewTimeLost = false :=
  ⟨State.reset, by decide +kernel⟩

theorem witness_SidebandsAndSupply_8 : ∃ (s : State), s.dieUp = true ∧ s.hw.crewTimeLost = true :=
  ⟨{ State.reset with hw := { State.reset.hw with crewTimeLost := true } }, by decide +kernel⟩

theorem witness_SidebandsAndSupply_9 : ∃ (s : State) (cage p : Nat), p < portCount s ∧ s.portCage p = cage :=
  ⟨State.reset, 2, 1, by decide +kernel⟩

theorem witness_SidebandsAndSupply_10 : ∃ (s : State) (cage p : Nat) (present : Bool), p < portCount s ∧ s.portCage p = cage :=
  ⟨State.reset, 2, 1, true, by decide +kernel⟩

theorem witness_SidebandsAndSupply_11 : ∃ (s : State) (i : Nat) (cur : Bool) (v : Int), s.hw.power = .on ∧ s.dieUp = true ∧ i < 38 ∧ (cur = true → 31 ≤ i) ∧ s.coreUp 5 = true :=
  ⟨State.reset, 26, false, -640, by decide +kernel⟩

theorem witness_SidebandsAndSupply_12 : ∃ (s : State) (i : Nat) (cur : Bool) (v : Int), s.hw.power = .on ∧ s.dieUp = true ∧ i < 38 ∧ (cur = true → 31 ≤ i) ∧ s.coreUp 5 = false :=
  ⟨Tests.withRegs [(R.FWC_CORE_STATUS 5, 1)], 31, true, 7, by decide +kernel⟩

theorem witness_SidebandsAndSupply_13 : ∃ (s : State) (i : Nat) (cur : Bool) (v : Int), (s.hw.power = .aux ∨ s.hw.power = .fault) ∧ i < 38 ∧ (cur = true → 31 ≤ i) :=
  ⟨Tests.inAux, 1, false, 9, by decide +kernel⟩

/-! Witnesses of WarmResets. -/

theorem witness_WarmResets_1 : ∃ (s : State), s.hw.power = .on ∧ s.hw.dieHeld = false ∧ s.hw.warm = none :=
  ⟨State.reset, by decide +kernel⟩

theorem witness_WarmResets_2 : ∃ (s : State), s.hw.power = .on ∧ s.hw.dieHeld = false ∧ s.hw.warm = none :=
  ⟨State.reset, by decide +kernel⟩

theorem witness_WarmResets_3 : ∃ (s : State) (v : Word), v ≠ 0xB8800001#32 :=
  ⟨State.reset, 1, by decide +kernel⟩

theorem witness_WarmResets_4 : ∃ (s : State), s.hw.power = .on ∧ s.hw.dieHeld = false ∧ s.hw.warm = none ∧ s.coreUp 0 = true :=
  ⟨State.reset, by decide +kernel⟩

theorem witness_WarmResets_5 : ∃ (s : State), s.hw.power = .on ∧ s.hw.dieHeld = false ∧ s.hw.warm = none ∧ s.coreUp 0 = false :=
  ⟨Tests.withRegs [(R.FWC_CORE_STATUS 0, 1)], by decide +kernel⟩

theorem witness_WarmResets_6 : ∃ (s : State) (c : ResetCause), s.hif.ccActions ≠ [] ∧ s.hw.warm = some (c, .writeBack) ∧ CcAction.warm ∈ s.hif.ccActions :=
  ⟨{ State.reset with hw := { State.reset.hw with warm := some (.mctp, .writeBack) }, hif := { Hif.reset with ccActions := [.wbInv, .warm] } }, .mctp, by decide +kernel⟩

theorem witness_WarmResets_7 : ∃ (s : State), s.hif.ccActions ≠ [] ∧ s.hw.warm = none :=
  ⟨{ (Tests.withRegs [(R.HIF_CC_CTRL, 3)]) with hif := { Hif.reset with ccActions := [.wbInv, .disable], lines := [(7, ⟨0, true, List.replicate 64 9⟩)] } }, by decide +kernel⟩

theorem witness_WarmResets_8 : ∃ (s : State) (c : ResetCause), s.hw.warm = some (c, .held) :=
  ⟨{ State.reset with hw := { State.reset.hw with modResetLow := true, warm := some (.pin, .held) } }, .pin, by decide +kernel⟩

theorem witness_WarmResets_9 : ∃ (s : State), s.hw.warm = none :=
  ⟨{ State.reset with hw := { State.reset.hw with modResetLow := true, dieHeld := true } }, by decide +kernel⟩

theorem witness_WarmResets_10 : ∃ (s : State) (c : ResetCause), s.hw.modResetLow = false ∧ s.hw.warm = some (c, .held) :=
  ⟨{ State.reset with hw := { State.reset.hw with warm := some (.software, .held) } }, .software, by decide +kernel⟩

/-! Witnesses of HostLinkLoss. -/

theorem witness_HostLinkLoss_1 : ∃ (s : State) (n : Nat), s.linkUp = true ∧ s.hw.warm = none :=
  ⟨{ (Tests.withRegs [(R.HIF_LINK_STATUS, 0x100)]) with hw := { State.reset.hw with perstLow := false } }, 4, by decide +kernel⟩

theorem witness_HostLinkLoss_2 : ∃ (s : State) (n : Nat), s.linkUp = false :=
  ⟨State.reset, 4, by decide +kernel⟩

theorem witness_HostLinkLoss_3 : ∃ (s : State) (n : Nat), s.linkUp = true ∧ s.hw.warm = none ∧ s.dieUp = true :=
  ⟨Tests.withRegs [(R.HIF_LINK_STATUS, 0x100)], 0, by decide +kernel⟩

theorem witness_HostLinkLoss_4 : ∃ (s : State) (n : Nat), (s.linkUp = false ∨ s.dieUp = false) :=
  ⟨State.reset, 0, by decide +kernel⟩

/-! Witnesses of HostLinkAndCache. -/

theorem witness_HostLinkAndCache_1 : ∃ (s : State) (w sp : Nat) (neg rev : Bool), s.hif.training = true ∧ (bit (s.rd R.HIF_LINK_CTRL) 0 && neg && decide (3 ≤ sp) && decide (4 ≤ w)) = false ∧ linkShapeOk false w sp = true ∧ sp ≤ (if fld (s.rd R.HIF_LINK_CTRL) 4 3 = 0 then 5 else fld (s.rd R.HIF_LINK_CTRL) 4 3) :=
  ⟨{ State.reset with hif := { Hif.reset with training := true } }, 16, 5, false, true, by decide +kernel⟩

theorem witness_HostLinkAndCache_2 : ∃ (s : State) (w sp : Nat) (rev : Bool), s.hif.training = true ∧ bit (s.rd R.HIF_LINK_CTRL) 0 = true ∧ linkShapeOk true w sp = true ∧ sp ≤ (if fld (s.rd R.HIF_LINK_CTRL) 4 3 = 0 then 5 else fld (s.rd R.HIF_LINK_CTRL) 4 3) :=
  ⟨{ State.reset with hif := { Hif.reset with training := true } }, 16, 5, false, by decide +kernel⟩

theorem witness_HostLinkAndCache_3 : ∃ (s : State), s.hif.training = true ∧ s.getB R.HIF_LINK_CTRL 3 = true :=
  ⟨{ State.reset with hif := { Hif.reset with training := true } }, by decide +kernel⟩

theorem witness_HostLinkAndCache_4 : ∃ (s : State), s.linkUp = true :=
  ⟨Tests.withRegs [(R.HIF_LINK_STATUS, 0x100)], by decide +kernel⟩

theorem witness_HostLinkAndCache_5 : ∃ (s : State) (v : Word), s.getB R.HIF_CC_CTRL 0 = true ∧ bit v 0 = false :=
  ⟨State.reset, 0, by decide +kernel⟩

theorem witness_HostLinkAndCache_6 : ∃ (s : State) (v : Word), bit v 0 = true ∧ bit v 1 = true :=
  ⟨State.reset, 3, by decide +kernel⟩

theorem witness_HostLinkAndCache_7 : ∃ (s : State) (fn line : Nat) (inv : Bool), s.hif.lines.look (ccKey fn line) = none :=
  ⟨State.reset, 1, 9, true, by decide +kernel⟩

theorem witness_HostLinkAndCache_8 : ∃ (s : State) (fn line : Nat) (l : CcLine) (inv : Bool), s.hif.lines.look (ccKey fn line) = some l :=
  ⟨{ State.reset with hif := { Hif.reset with lines := [(ccKey 1 9, ⟨1, true, List.replicate 64 7⟩)] } }, 1, 9, ⟨1, true, List.replicate 64 7⟩, true, by decide +kernel⟩

/-! Witnesses of PavilionSubmits. -/

theorem witness_PavilionSubmits_1 : ∃ (s : State) (fn : Nat) (v : Word), fn < 64 ∧ s.pavOpen fn = true :=
  ⟨Tests.pavReady, 1, 32, by decide +kernel⟩

theorem witness_PavilionSubmits_2 : ∃ (s : State) (fn : Nat) (v : Word), fn < 64 ∧ fld v 0 8 ≠ 0 ∧ s.pavOpen fn = false :=
  ⟨State.reset, 1, 255, by decide +kernel⟩

theorem witness_PavilionSubmits_3 : ∃ (s : State) (fn i : Nat) (data : List Byte), fn < 64 ∧ i < 8 ∧ data.length = 64 ∧ s.pavOpen fn = true ∧ s.slotBusy fn i = false :=
  ⟨Tests.pavReady, 1, 7, List.replicate 64 0x5A, by decide +kernel⟩

theorem witness_PavilionSubmits_4 : ∃ (s : State) (fn i : Nat) (data : List Byte), fn < 64 ∧ i < 8 ∧ data.length = 64 ∧ (s.pavOpen fn = false ∨ s.slotBusy fn i = true) :=
  ⟨State.reset, 1, 7, List.replicate 64 0x5A, by decide +kernel⟩

theorem witness_PavilionSubmits_5 : ∃ (s : State) (fn off : Nat) (data : List Byte), fn < 64 ∧ (data.length ≠ 64 ∨ off % 64 ≠ 0 ∨ off < 0x600 ∨ 0x800 ≤ off) :=
  ⟨Tests.pavReady, 1, 0x610, List.replicate 64 0x5A, by decide +kernel⟩

theorem witness_PavilionSubmits_6 : ∃ (s : State) (fn off : Nat) (data : List Byte), fn < 64 ∧ 0x400 ≤ off ∧ off < 0x600 :=
  ⟨State.reset, 1, 0x5C0, List.replicate 64 0x5A, by decide +kernel⟩

theorem witness_PavilionSubmits_7 : ∃ (s : State) (fn : Nat) (w : Waiting) (rest : List Waiting), fn < 64 ∧ (s.queue (.pav fn)).cache = w :: rest ∧ s.admitOpen fn (s.queue (.pav fn)) w.desc = true ∧ s.admitRoom fn w.desc = true ∧ s.idleState = 0 ∧ dPhase w.desc ≤ 5 ∧ dFirst w.desc = true :=
  ⟨Tests.pavWaiting, 1, ⟨0, 5, Tests.oneOp 1, true⟩, [], by decide +kernel⟩

theorem witness_PavilionSubmits_8 : ∃ (s : State) (fn : Nat) (w : Waiting) (rest : List Waiting) (c : Nat) (ch : Chain), fn < 64 ∧ (s.queue (.pav fn)).cache = w :: rest ∧ s.admitOpen fn (s.queue (.pav fn)) w.desc = true ∧ s.admitRoom fn w.desc = true ∧ s.idleState = 0 ∧ dPhase w.desc ≤ 5 ∧ dFirst w.desc = false ∧ (s.queue (.pav fn)).discarding = false ∧ (s.queue (.pav fn)).chain = some c ∧ s.chains.look c = some ch ∧ ch.count < 1024 ∧ ch.fail = none :=
  ⟨{ Tests.pavWaiting.putQueue (.pav 1) { cache := [⟨1, 5, BitVec.ofNat 512 (1 + 512), true⟩], fetch := none, chain := some 0, discarding := false, submits := 2, unannounced := 0, stalled := none } with chains := [(0, { Tests.chainOf 1 with src := .pav 1, lastSeen := false })], nextChain := 1 }, 1, ⟨1, 5, BitVec.ofNat 512 (1 + 512), true⟩, [], 0, { Tests.chainOf 1 with src := .pav 1, lastSeen := false }, by decide +kernel⟩

/-! Witnesses of EventQueues. -/

theorem witness_EventQueues_1 : ∃ (s : State) (fn : Nat) (v : Word), fn < 64 ∧ bit v 0 = true ∧ s.getB (R.MBX_EVQ_CTRL fn) 0 = false :=
  ⟨State.reset, 2, 0x0801, by decide +kernel⟩

theorem witness_EventQueues_2 : ∃ (s : State) (fn : Nat) (v : Word), fn < 64 ∧ bit v 0 = false ∧ s.getB (R.MBX_EVQ_CTRL fn) 0 = true :=
  ⟨Tests.withRegs [(R.MBX_EVQ_CTRL 2, 0x0801)], 2, 0, by decide +kernel⟩

theorem witness_EventQueues_3 : ∃ (s : State) (fn : Nat) (v : Word), fn < 64 ∧ 0 ≤ serial v (s.rd (R.MBX_EVQ_SEEN fn)) ∧ (v - s.rd (R.MBX_EVQ_SEEN fn)).toNat ≤ (s.rd (R.MBX_EVQ_WRITTEN fn) - s.rd (R.MBX_EVQ_SEEN fn)).toNat :=
  ⟨Tests.withRegs [(R.MBX_EVQ_WRITTEN 2, 5)], 2, 5, by decide +kernel⟩

theorem witness_EventQueues_4 : ∃ (s : State) (fn : Nat) (v : Word), fn < 64 ∧ (serial v (s.rd (R.MBX_EVQ_SEEN fn)) < 0 ∨ (s.rd (R.MBX_EVQ_WRITTEN fn) - s.rd (R.MBX_EVQ_SEEN fn)).toNat < (v - s.rd (R.MBX_EVQ_SEEN fn)).toNat) :=
  ⟨Tests.withRegs [(R.MBX_EVQ_WRITTEN 2, 5)], 2, 6, by decide +kernel⟩

theorem witness_EventQueues_5 : ∃ (s : State) (fn : Nat) (hv : HostView), fn < 64 ∧ s.getB (R.MBX_EVQ_CTRL fn) 0 = true ∧ s.linkUp = true ∧ (s.fnEvents fn).held = [] :=
  ⟨(Tests.withRegs [(R.MBX_EVQ_CTRL 2, 0x0801), (R.HIF_LINK_STATUS, 0x100)]), 2, Tests.noHost, by decide +kernel⟩

theorem witness_EventQueues_6 : ∃ (s : State) (fn : Nat) (hv : HostView) (e : EvRec), fn < 64 ∧ s.getB (R.MBX_EVQ_CTRL fn) 0 = true ∧ s.linkUp = true ∧ (s.fnEvents fn).held = [e] ∧ (s.rd (R.MBX_EVQ_WRITTEN fn) - s.rd (R.MBX_EVQ_SEEN fn)).toNat < s.evqDepth fn ∧ (s.vwrite hv 4 fn (s.evqBase fn + 32 * ((s.rd (R.MBX_EVQ_WRITTEN fn)).toNat % s.evqDepth fn))
        (e.bytes (s.rd (R.MBX_EVQ_WRITTEN fn)).toNat (s.evqDepth fn) (s.fnEvents fn).lost)).2 = none :=
  ⟨Tests.evqReady, 2, Tests.noHost, Tests.evRec, by decide +kernel⟩

theorem witness_EventQueues_7 : ∃ (s : State) (fn words : Nat), fn < 64 ∧ words < 2 :=
  ⟨{ State.reset with devTime := 0x123456789A }, 3, 1, by decide +kernel⟩

theorem witness_EventQueues_8 : ∃ (s : State), s.rd R.HIF_PROBE_PERIOD ≠ 0 ∧ s.linkUp = true ∧ s.hif.writesSinceProbe = true :=
  ⟨{ (Tests.withRegs [(R.HIF_LINK_STATUS, 0x100)]) with hif := { Hif.reset with writesSinceProbe := true } }, by decide +kernel⟩

theorem witness_EventQueues_9 : ∃ (s : State) (p : Probe), s.hif.probes.find? (fun q => q.issued = p.issued) = some p ∧ p.op = none :=
  ⟨{ State.reset with hif := { Hif.reset with probes := [⟨9, none⟩], visible := 4 } }, ⟨9, none⟩, by decide +kernel⟩

theorem witness_EventQueues_10 : ∃ (s : State) (off : Nat), off < 0x400000 ∧ (0x340000 ≤ off ∨ 0x1000 ≤ off % 0x10000) :=
  ⟨State.reset, 0x340000, by decide +kernel⟩

theorem witness_EventQueues_11 : ∃ (s : State) (off : Nat) (v : Word), off < 0x400000 ∧ (0x340000 ≤ off ∨ 0x1000 ≤ off % 0x10000) :=
  ⟨State.reset, 0x340000, 7, by decide +kernel⟩

/-! Witnesses of InterruptRegisters. -/

theorem witness_InterruptRegisters_1 : ∃ (s : State) (page : Nat) (v : Word), (pageKind page).isSome = true :=
  ⟨State.reset, 6, 5, by decide +kernel⟩

theorem witness_InterruptRegisters_2 : ∃ (s : State) (page : Nat) (v : Word), (pageKind page).isSome = true ∧ page < 4096 :=
  ⟨Tests.withRegs [(intK 6, 0x80000003), (statusK 6, 0x80000000)], 6, 0x80000001, by decide +kernel⟩

theorem witness_InterruptRegisters_3 : ∃ (s : State) (page : Nat) (v : Word), (pageKind page).isSome = true :=
  ⟨Tests.withRegs [(intK 6, 3)], 6, 1, by decide +kernel⟩

theorem witness_InterruptRegisters_4 : ∃ (s : State) (fn vec : Nat), fn < 64 ∧ vec < 32 :=
  ⟨State.reset, 1, 3, by decide +kernel⟩

/-! Witnesses of RingControl. -/

theorem witness_RingControl_1 : ∃ (s : State) (fn r : Nat) (v : Word), fn < 64 ∧ 1 ≤ r ∧ r < 16 ∧ s.doorbellOk fn r v = true :=
  ⟨Tests.ringReady, 1, 2, 3, by decide +kernel⟩

theorem witness_RingControl_2 : ∃ (s : State) (fn r : Nat) (v : Word), fn < 64 ∧ 1 ≤ r ∧ r < 16 ∧ s.doorbellOk fn r v = false :=
  ⟨Tests.ringReady, 1, 2, 300, by decide +kernel⟩

theorem witness_RingControl_3 : ∃ (s : State) (fn r : Nat) (v : Word), fn < 64 ∧ 1 ≤ r ∧ r < 16 ∧ bit v 0 = true ∧ s.getB (R.RNG_RING_CTRL fn r) 0 = false ∧ s.getB (R.RNG_CQ_CTRL fn (if fld v 16 4 = 0 then r else fld v 16 4)) 0 = true :=
  ⟨Tests.withRegs [(R.RNG_CQ_CTRL 1 2, 0x0801), (R.RNG_PRODUCER_SEQ 1 2, 7)], 1, 2, 0x0801, by decide +kernel⟩

theorem witness_RingControl_4 : ∃ (s : State) (fn r : Nat) (v : Word), fn < 64 ∧ 1 ≤ r ∧ r < 16 ∧ bit v 0 = true ∧ s.getB (R.RNG_RING_CTRL fn r) 0 = false ∧ s.getB (R.RNG_CQ_CTRL fn (if fld v 16 4 = 0 then r else fld v 16 4)) 0 = false :=
  ⟨State.reset, 1, 2, 1, by decide +kernel⟩

theorem witness_RingControl_5 : ∃ (s : State) (fn r : Nat) (v : Word), fn < 64 ∧ 1 ≤ r ∧ r < 16 ∧ bit v 0 = false ∧ s.getB (R.RNG_RING_CTRL fn r) 0 = true ∧ s.ringState fn r ∈ [0, 3, 4, 5] ∧ s.rd (R.RNG_COMPLETED_SEQ fn r) = s.rd (R.RNG_CONSUMED_SEQ fn r) :=
  ⟨Tests.ringIn 3, 1, 2, 0, by decide +kernel⟩

theorem witness_RingControl_6 : ∃ (s : State) (fn r : Nat) (v : Word), fn < 64 ∧ 1 ≤ r ∧ r < 16 ∧ bit v 0 = false ∧ s.getB (R.RNG_RING_CTRL fn r) 0 = true ∧ (s.ringState fn r = 1 ∨ s.ringState fn r = 2 ∨ s.rd (R.RNG_COMPLETED_SEQ fn r) ≠ s.rd (R.RNG_CONSUMED_SEQ fn r)) :=
  ⟨Tests.ringIn 1, 1, 2, 0, by decide +kernel⟩

theorem witness_RingControl_7 : ∃ (s : State) (fn r : Nat) (v : Word), fn < 64 ∧ 1 ≤ r ∧ r < 16 ∧ bit v 0 = true ∧ s.getB (R.RNG_CQ_CTRL fn r) 0 = false :=
  ⟨State.reset, 1, 2, 0x0801, by decide +kernel⟩

theorem witness_RingControl_8 : ∃ (s : State) (fn r : Nat) (v : Word), fn < 64 ∧ 1 ≤ r ∧ r < 16 ∧ bit v 0 = false ∧ s.getB (R.RNG_CQ_CTRL fn r) 0 = true ∧ s.cqNamed fn r = false :=
  ⟨Tests.withRegs [(R.RNG_CQ_CTRL 1 2, 0x0801)], 1, 2, 0, by decide +kernel⟩

theorem witness_RingControl_9 : ∃ (s : State) (fn r : Nat) (v : Word), fn < 64 ∧ 1 ≤ r ∧ r < 16 ∧ bit v 0 = false ∧ s.getB (R.RNG_CQ_CTRL fn r) 0 = true ∧ s.cqNamed fn r = true :=
  ⟨Tests.ringReady, 1, 2, 0, by decide +kernel⟩

theorem witness_RingControl_10 : ∃ (s : State) (fn r : Nat) (v : Word), fn < 64 ∧ 1 ≤ r ∧ r < 16 ∧ (bit v 0 && bit v 1) = true ∧ s.getB (R.RNG_RING_CTRL fn r) 0 = true ∧ s.ringState fn r = 1 :=
  ⟨Tests.ringIn 1, 1, 2, 3, by decide +kernel⟩

theorem witness_RingControl_11 : ∃ (s : State) (fn r : Nat) (v : Word), fn < 64 ∧ 1 ≤ r ∧ r < 16 ∧ bit v 0 = true ∧ bit v 1 = false ∧ s.getB (R.RNG_RING_CTRL fn r) 0 = true ∧ (s.ringState fn r = 2 ∨ s.ringState fn r = 3) :=
  ⟨Tests.ringIn 3, 1, 2, 1, by decide +kernel⟩

theorem witness_RingControl_12 : ∃ (s : State) (fn r : Nat) (v : Word), fn < 64 ∧ 1 ≤ r ∧ r < 16 ∧ bit v 0 = true ∧ s.ringState fn r = 3 :=
  ⟨Tests.ringIn 3, 1, 2, 1, by decide +kernel⟩

theorem witness_RingControl_13 : ∃ (s : State) (fn r : Nat) (v : Word), fn < 64 ∧ 1 ≤ r ∧ r < 16 ∧ s.cqState fn r = 1 ∧ 0 ≤ serial v (s.rd (R.RNG_HOST_SEEN_SEQ fn r)) ∧ (v - s.rd (R.RNG_HOST_SEEN_SEQ fn r)).toNat ≤ (s.rd (R.RNG_CQ_WRITTEN_SEQ fn r) - s.rd (R.RNG_HOST_SEEN_SEQ fn r)).toNat :=
  ⟨Tests.ringReady.wr (R.RNG_CQ_WRITTEN_SEQ 1 2) 4, 1, 2, 4, by decide +kernel⟩

theorem witness_RingControl_14 : ∃ (s : State) (fn r : Nat) (v : Word), fn < 64 ∧ 1 ≤ r ∧ r < 16 ∧ (s.cqState fn r = 2 ∨ s.cqState fn r = 3) ∧ 0 ≤ serial v (s.rd (R.RNG_HOST_SEEN_SEQ fn r)) ∧ (v - s.rd (R.RNG_HOST_SEEN_SEQ fn r)).toNat ≤ (s.rd (R.RNG_CQ_WRITTEN_SEQ fn r) - s.rd (R.RNG_HOST_SEEN_SEQ fn r)).toNat :=
  ⟨(Tests.ringReady.wr (R.RNG_CQ_WRITTEN_SEQ 1 2) 4).setCqState 1 2 2, 1, 2, 3, by decide +kernel⟩

theorem witness_RingControl_15 : ∃ (s : State) (fn r : Nat) (v : Word), fn < 64 ∧ 1 ≤ r ∧ r < 16 ∧ (s.ringState fn r = 4 ∨ s.ringState fn r = 5) ∧ (s.rd (R.RNG_PRODUCER_SEQ fn r) - v).toNat ≤ s.ringDepth fn r :=
  ⟨Tests.ringIn 4, 1, 2, 0, by decide +kernel⟩

/-! Witnesses of FetchAdmitComplete. -/

theorem witness_FetchAdmitComplete_1 : ∃ (s : State) (fn r : Nat), fn < 64 ∧ 1 ≤ r ∧ r < 16 ∧ (s.ringState fn r = 1 ∨ s.ringState fn r = 2 ∨ s.ringState fn r = 3) ∧ (s.queue (.ring fn r)).fetch = none ∧ 0 < s.fetchCount fn r :=
  ⟨Tests.ringReady.wr (R.RNG_PRODUCER_SEQ 1 2) 3, 1, 2, by decide +kernel⟩

theorem witness_FetchAdmitComplete_2 : ∃ (s : State) (fn r n : Nat) (hv : HostView) (bs : List Byte), fn < 64 ∧ 1 ≤ r ∧ r < 16 ∧ (s.queue (.ring fn r)).fetch = some n ∧ (match (s.vread hv 4 fn (s.ringBase fn r + 64 * (((s.rd (R.RNG_CONSUMED_SEQ fn r)).toNat + (s.queue (.ring fn r)).cache.length) % s.ringDepth fn r)) (64 * n)).2 with | .ok x => some x | .error _ => none) = some bs :=
  ⟨Tests.fetching, 1, 2, 1, Tests.noHost, List.replicate 64 0, by decide +kernel⟩

theorem witness_FetchAdmitComplete_3 : ∃ (s : State) (fn r : Nat) (w : Waiting) (rest : List Waiting), fn < 64 ∧ 1 ≤ r ∧ r < 16 ∧ (s.queue (.ring fn r)).cache = w :: rest ∧ (s.ringState fn r = 1 ∨ s.ringState fn r = 2) ∧ dPhase w.desc ≤ 5 ∧ (s.getB (R.RNG_RING_CTRL fn r) 2 = true → dfld w.desc 0x0C 0 16 = w.seq.toNat % 65536) ∧ s.admitOpen fn (s.queue (.ring fn r)) w.desc = true ∧ s.admitRoom fn w.desc = true ∧ s.idleState = 0 ∧ dFirst w.desc = true :=
  ⟨Tests.ringWaiting, 1, 2, ⟨0, 2, Tests.oneOp 1, false⟩, [], by decide +kernel⟩

theorem witness_FetchAdmitComplete_4 : ∃ (s : State) (fn r : Nat) (w : Waiting) (rest : List Waiting) (c : Nat) (ch : Chain), fn < 64 ∧ 1 ≤ r ∧ r < 16 ∧ (s.queue (.ring fn r)).cache = w :: rest ∧ (s.ringState fn r = 1 ∨ s.ringState fn r = 2) ∧ dPhase w.desc ≤ 5 ∧ (s.getB (R.RNG_RING_CTRL fn r) 2 = true → dfld w.desc 0x0C 0 16 = w.seq.toNat % 65536) ∧ s.admitOpen fn (s.queue (.ring fn r)) w.desc = true ∧ s.admitRoom fn w.desc = true ∧ s.idleState = 0 ∧ dFirst w.desc = false ∧ (s.queue (.ring fn r)).discarding = false ∧ (s.queue (.ring fn r)).chain = some c ∧ s.chains.look c = some ch ∧ ch.count < 1024 ∧ ch.fail = none :=
  ⟨{ Tests.ringReady.putQueue (.ring 1 2) { Tests.waitQueue [⟨0, 2, BitVec.ofNat 512 (1 + 512), false⟩] none with chain := some 0 } with chains := [(0, { Tests.chainOf 1 with lastSeen := false })], nextChain := 1 }, 1, 2, ⟨0, 2, BitVec.ofNat 512 (1 + 512), false⟩, [], 0, { Tests.chainOf 1 with lastSeen := false }, by decide +kernel⟩

theorem witness_FetchAdmitComplete_5 : ∃ (s : State) (fn r : Nat) (hv : HostView) (e : Entry), fn < 64 ∧ 1 ≤ r ∧ r < 16 ∧ s.nextEntry (.ring fn r) = some e ∧ (s.ringState fn r = 4 ∨ s.cqState fn (s.ringCq fn r) = 2) :=
  ⟨Tests.opDoneIn 4, 1, 2, Tests.noHost, ⟨0, 0, 0, 1, ⟨0, 0, 0⟩, 7, 2, 0, false, [0], 0⟩, by decide +kernel⟩

theorem witness_FetchAdmitComplete_6 : ∃ (s : State) (fn r : Nat) (hv : HostView) (e : Entry), fn < 64 ∧ 1 ≤ r ∧ r < 16 ∧ s.nextEntry (.ring fn r) = some e ∧ s.ringState fn r = 1 ∧ s.cqState fn (s.ringCq fn r) = 1 ∧ (s.rd (R.RNG_CQ_WRITTEN_SEQ fn (s.ringCq fn r)) - s.rd (R.RNG_HOST_SEEN_SEQ fn (s.ringCq fn r))).toNat < s.cqDepth fn (s.ringCq fn r) ∧ s.needsProbe fn (s.cqBase fn (s.ringCq fn r) + 32 * ((s.rd (R.RNG_CQ_WRITTEN_SEQ fn (s.ringCq fn r))).toNat % s.cqDepth fn (s.ringCq fn r))) (e.ops.filterMap s.op?) = (false, false) ∧ (s.vwrite hv 4 fn (s.cqBase fn (s.ringCq fn r) + 32 * ((s.rd (R.RNG_CQ_WRITTEN_SEQ fn (s.ringCq fn r))).toNat % s.cqDepth fn (s.ringCq fn r)))
        (e.bytes (s.rd (R.RNG_CQ_WRITTEN_SEQ fn (s.ringCq fn r))).toNat (s.cqDepth fn (s.ringCq fn r)) s.devTime)).2 = none :=
  ⟨Tests.opDoneIn 1, 1, 2, Tests.noHost, ⟨0, 0, 0, 1, ⟨0, 0, 0⟩, 7, 2, 0, false, [0], 0⟩, by decide +kernel⟩

theorem witness_FetchAdmitComplete_7 : ∃ (s : State) (fn r : Nat), fn < 64 ∧ 1 ≤ r ∧ r < 16 ∧ 0 < (s.queue (.ring fn r)).unannounced :=
  ⟨Tests.ringReady.putQueue (.ring 1 2) { cache := [], fetch := none, chain := none, discarding := false, submits := 0, unannounced := 2, stalled := none }, 1, 2, by decide +kernel⟩

/-! Witnesses of IdleStates. -/

theorem witness_IdleStates_1 : ∃ (s : State) (v : Word), fld v 0 2 = 1 ∧ s.idleState = 0 ∧ s.entering = false ∧ s.exiting = false ∧ s.idleBlocks = [] :=
  ⟨State.reset, 1, by decide +kernel⟩

theorem witness_IdleStates_2 : ∃ (s : State) (v : Word), fld v 0 2 = 1 ∧ s.idleState = 0 ∧ s.entering = false ∧ s.exiting = false ∧ s.idleBlocks ≠ [] :=
  ⟨Tests.withRegs [(R.MBX_SLOT_BUSY 3, 1)], 1, by decide +kernel⟩

theorem witness_IdleStates_3 : ∃ (s : State) (v : Word), fld v 0 2 = 2 ∧ s.idleState = 0 ∧ s.entering = false ∧ s.exiting = false ∧ s.idleBlocks = [] :=
  ⟨State.reset, 2, by decide +kernel⟩

theorem witness_IdleStates_4 : ∃ (s : State) (v : Word), fld v 0 2 = 2 ∧ s.idleState = 0 ∧ s.entering = false ∧ s.exiting = false ∧ s.idleBlocks ≠ [] :=
  ⟨Tests.withRegs [(R.MBX_SLOT_BUSY 3, 1)], 2, by decide +kernel⟩

theorem witness_IdleStates_5 : ∃ (s : State), s.getB R.GLB_IDLE_CTRL 2 = true ∧ s.idleState = 0 ∧ s.entering = false ∧ s.exiting = false ∧ s.idleBlocks = [] :=
  ⟨Tests.withRegs [(R.GLB_IDLE_CTRL, 0x1C)], by decide +kernel⟩

theorem witness_IdleStates_6 : ∃ (s : State) (v : Word), (fld v 0 2 = 0 ∨ fld v 0 2 = 3) ∧ s.idleState ≠ 0 ∧ s.entering = false ∧ s.exiting = false :=
  ⟨Tests.idleIn 1 id, 0, by decide +kernel⟩

theorem witness_IdleStates_7 : ∃ (s : State) (v : Word), fld v 0 2 = 2 ∧ s.idleState = 1 ∧ s.entering = false ∧ s.exiting = false :=
  ⟨Tests.idleIn 1 id, 2, by decide +kernel⟩

theorem witness_IdleStates_8 : ∃ (s : State) (v : Word), fld v 0 2 = 1 ∧ s.idleState = 2 ∧ s.entering = false ∧ s.exiting = false :=
  ⟨Tests.idleIn 2 id, 1, by decide +kernel⟩

theorem witness_IdleStates_9 : ∃ (s : State), s.entering = true ∧ CcAction.idle ∉ s.hif.ccActions ∧ s.idle.abandon = false ∧ s.idle.goal = 1 :=
  ⟨Tests.idleIn 4 (fun x => { x with goal := 1 }), by decide +kernel⟩

theorem witness_IdleStates_10 : ∃ (s : State), s.entering = true ∧ CcAction.idle ∉ s.hif.ccActions ∧ s.idle.abandon = false ∧ s.idle.goal = 2 :=
  ⟨Tests.idleIn 4 (fun x => { x with goal := 2 }), by decide +kernel⟩

theorem witness_IdleStates_11 : ∃ (s : State), s.entering = true ∧ CcAction.idle ∉ s.hif.ccActions ∧ s.idle.abandon = true :=
  ⟨Tests.idleIn 4 (fun x => { x with goal := 2, abandon := true }), by decide +kernel⟩

theorem witness_IdleStates_12 : ∃ (s : State) (w : WakeSource), s.idleState ≠ 0 ∧ s.entering = false ∧ s.exiting = false :=
  ⟨Tests.idleIn 1 id, .network, by decide +kernel⟩

theorem witness_IdleStates_13 : ∃ (s : State) (w : WakeSource), s.entering = true :=
  ⟨Tests.idleIn 4 (fun x => { x with goal := 1 }), .mctp, by decide +kernel⟩

theorem witness_IdleStates_14 : ∃ (s : State) (nn : Nat), s.exiting = true ∧ nn < 16 ∧ s.idle.clustersUp = List.range nn :=
  ⟨Tests.idleIn 9 (fun x => { x with clustersUp := [0, 1, 2] }), 3, by decide +kernel⟩

theorem witness_IdleStates_15 : ∃ (s : State), s.exiting = true ∧ s.idle.selfRefresh = true :=
  ⟨(Tests.idleIn 10 (fun x => { x with selfRefresh := true })).setF (R.MEM_CHAN_STATE 3) 4 4 3, by decide +kernel⟩

theorem witness_IdleStates_16 : ∃ (s : State), s.exiting = true ∧ s.idle.selfRefresh = false ∧ s.idle.clustersUp = List.range 16 ∧ s.idle.goal < 2 :=
  ⟨Tests.idleIn 10 id, by decide +kernel⟩

/-! Witnesses of TranslationCache. -/

theorem witness_TranslationCache_1 : ∃ (s : State) (fn va : Nat), s.tlbHit fn va = false :=
  ⟨State.reset, 1, 0x2000000, by decide +kernel⟩

theorem witness_TranslationCache_2 : ∃ (s : State) (fn va : Nat) (l : Leaf) (w ats : Bool), fn < 64 ∧ (fn, s.tlbPage fn va) ∈ s.trn.misses ∧ s.coreUp coreTrn = true ∧ s.walk fn va = some (false, l) ∧ l.host = false ∧ (s.trn.tlb.filter (fun x => x.key ≠ ptKey fn false (va / mib32))).length < 4096 :=
  ⟨Tests.missing 1 (Tests.mapped 1 State.reset), 1, 0x2000000, ⟨false, true, true, false, false, false, 0⟩, false, true, by decide +kernel⟩

theorem witness_TranslationCache_3 : ∃ (s : State) (fn va : Nat) (g : Bool) (l : Leaf) (w : Bool), (fn, s.tlbPage fn va) ∈ s.trn.misses ∧ s.coreUp coreTrn = true ∧ s.walk fn va = some (g, l) ∧ l.host = true :=
  ⟨Tests.missing 1 (Tests.hostMapped 1 0x1D State.reset), 1, 0x2000040, false, ⟨true, true, true, false, false, false, 0⟩, false, by decide +kernel⟩

theorem witness_TranslationCache_4 : ∃ (s : State) (fn va : Nat) (w ats : Bool), fn < 64 ∧ (fn, s.tlbPage fn va) ∈ s.trn.misses ∧ s.coreUp coreTrn = true ∧ s.walk fn va = none :=
  ⟨Tests.missing 1 State.reset, 1, 0x2000000, true, false, by decide +kernel⟩

theorem witness_TranslationCache_5 : ∃ (s : State) (fn va : Nat) (g : Bool) (l : Leaf) (a : Nat) (w : Bool), (fn, s.tlbPage fn va) ∈ s.trn.misses ∧ s.coreUp coreTrn = true ∧ s.walk fn va = some (g, l) ∧ (s.trn.tlb.filter (fun x => x.key ≠ ptKey fn g (va / pageBytes g))).length < 4096 :=
  ⟨Tests.missing 1 (Tests.hostMapped 1 0x1D State.reset), 1, 0x2000040, false, ⟨true, true, true, false, false, false, 0⟩, 0x40000000, false, by decide +kernel⟩

theorem witness_TranslationCache_6 : ∃ (s : State) (fn va : Nat) (w : Bool), fn < 64 ∧ (fn, s.tlbPage fn va) ∈ s.trn.misses ∧ s.coreUp coreTrn = true :=
  ⟨Tests.missing 1 (Tests.hostMapped 1 0x1D State.reset), 1, 0x2000040, false, by decide +kernel⟩

theorem witness_TranslationCache_7 : ∃ (s : State) (fn va : Nat) (whole : Option Nat) (pe w : Bool), s.coreUp coreTrn = false :=
  ⟨Tests.withRegs [(R.FWC_CORE_STATUS 1, 1)], 1, 0x2000040, some 9, true, false, by decide +kernel⟩

theorem witness_TranslationCache_9 : ∃ (s : State) (x : Stall) (r : List Stall), s.trn.stalls = x :: r ∧ x ∉ r ∧ s.faultRoom x.fn = true ∧ (s.trn.faults.any (fun e => decide (e.fn = x.fn ∧ e.gib = x.gib ∧ e.page = x.va / pageBytes x.gib)) = false) :=
  ⟨{ State.reset with trn := { Trn.reset with stalls := [⟨1, 0x2000000, true, false, false, .remote, none, 0⟩] }, uptime := 100 }, ⟨1, 0x2000000, true, false, false, .remote, none, 0⟩, [], by decide +kernel⟩

theorem witness_TranslationCache_10 : ∃ (s : State) (x : Stall) (r : List Stall) (e : FaultQ), s.trn.stalls = x :: r ∧ x ∉ r ∧ s.trn.faults = [e] ∧ (e.fn = x.fn ∧ e.gib = x.gib ∧ e.page = x.va / pageBytes x.gib) :=
  ⟨{ State.reset with trn := { Trn.reset with stalls := [⟨1, 0x2000000, true, false, false, .remote, none, 0⟩], faults := [Tests.faultIn .queued false] } }, ⟨1, 0x2000000, true, false, false, .remote, none, 0⟩, [], Tests.faultIn .queued false, by decide +kernel⟩

/-! Witnesses of PageRequests. -/

theorem witness_PageRequests_1 : ∃ (s : State) (fn va : Nat) (e : FaultQ), s.faultAt fn va = some e ∧ e.st = .queued ∧ e.prefer = false ∧ s.coreUp coreTrn = true ∧ s.linkUp = true :=
  ⟨Tests.faulted .queued false Tests.linkedUp, 1, 0x2000000, Tests.faultIn .queued false, by decide +kernel⟩

theorem witness_PageRequests_2 : ∃ (s : State) (fn va : Nat) (e : FaultQ) (l : Leaf), fn < 64 ∧ s.faultAt fn va = some e ∧ e.st = .queued ∧ e.prefer = true ∧ s.coreUp coreTrn = true ∧ s.linkUp = true ∧ TablesFor s 1 ∧ s.leafAt fn e.gib e.page = some l ∧ (l.host && l.prefer && !l.busy) = true ∧ s.migrateRoom fn e.gib = false :=
  ⟨{ (Tests.hostMapped 1 0x5D (Tests.withRegs [(R.HIF_LINK_STATUS, 0x100)])) with trn := { (Tests.hostMapped 1 0x5D (Tests.withRegs [(R.HIF_LINK_STATUS, 0x100)])).trn with faults := [Tests.faultIn .queued true] } }, 1, 0x2000000, Tests.faultIn .queued true, ⟨true, true, true, false, true, false, 0⟩, by decide +kernel⟩

theorem witness_PageRequests_3 : ∃ (s : State) (fn va : Nat) (e : FaultQ) (l : Leaf), fn < 64 ∧ s.faultAt fn va = some e ∧ e.st = .queued ∧ e.prefer = true ∧ s.coreUp coreTrn = true ∧ s.linkUp = true ∧ TablesFor s 1 ∧ s.leafAt fn e.gib e.page = some l ∧ (l.host && l.prefer && !l.busy) = true ∧ s.migrateRoom fn e.gib = true :=
  ⟨{ (Tests.hostMapped 1 0x5D (Tests.withRegs [(R.HIF_LINK_STATUS, 0x100), (R.TRN_FN_MEM_QUOTA 1, 100)])) with trn := { (Tests.hostMapped 1 0x5D (Tests.withRegs [(R.HIF_LINK_STATUS, 0x100), (R.TRN_FN_MEM_QUOTA 1, 100)])).trn with faults := [Tests.faultIn .queued true] } }, 1, 0x2000000, Tests.faultIn .queued true, ⟨true, true, true, false, true, false, 0⟩, by decide +kernel⟩

theorem witness_PageRequests_4 : ∃ (s : State) (fn va : Nat) (e : FaultQ), s.faultAt fn va = some e ∧ e.st = .requested ∧ s.coreUp coreTrn = true :=
  ⟨Tests.faulted .requested false State.reset, 1, 0x2000000, Tests.faultIn .requested false, by decide +kernel⟩

theorem witness_PageRequests_5 : ∃ (s : State) (fn va : Nat) (e : FaultQ) (code : PriCode), fn < 64 ∧ s.faultAt fn va = some e ∧ e.st = .requested ∧ s.coreUp coreTrn = true ∧ e.waiters = [.remote] ∧ code ≠ .success :=
  ⟨{ State.reset with trn := { Trn.reset with faults := [{ Tests.faultIn .requested false with waiters := [.remote] }] } }, 1, 0x2000000, { Tests.faultIn .requested false with waiters := [.remote] }, .failure, by decide +kernel⟩

theorem witness_PageRequests_6 : ∃ (s : State) (fn va : Nat) (e : FaultQ) (code : PriCode) (i : Nat) (o : Op), fn < 64 ∧ s.faultAt fn va = some e ∧ e.st = .requested ∧ s.coreUp coreTrn = true ∧ e.waiters = [.op i] ∧ code ≠ .success ∧ s.op? i = some o ∧ dOpcode o.desc = 1 ∧ o.issued = false ∧ s.slotOf i = none :=
  ⟨Tests.faulted .requested false State.reset, 1, 0x2000000, Tests.faultIn .requested false, .invalid, 0, { Tests.opOf 1 (Tests.oneOp 1) .running with waitFault := true }, by decide +kernel⟩

theorem witness_PageRequests_7 : ∃ (s : State) (fn va : Nat) (code : PriCode), s.coreUp coreTrn = false :=
  ⟨Tests.withRegs [(R.FWC_CORE_STATUS 1, 1)], 1, 0x2000000, .failure, by decide +kernel⟩

theorem witness_PageRequests_8 : ∃ (s : State) (fn va : Nat) (e : FaultQ), fn < 64 ∧ s.faultAt fn va = some e ∧ e.st = .requested ∧ s.coreUp coreTrn = true ∧ e.waiters = [.remote] :=
  ⟨{ State.reset with trn := { Trn.reset with faults := [{ Tests.faultIn .requested false with waiters := [.remote] }] } }, 1, 0x2000000, { Tests.faultIn .requested false with waiters := [.remote] }, by decide +kernel⟩

theorem witness_PageRequests_9 : ∃ (s : State) (fn va : Nat) (e : FaultQ) (l : Leaf) (hv : HostView), fn < 64 ∧ s.faultAt fn va = some e ∧ e.st = .migrating ∧ s.leafAt fn e.gib e.page = some l ∧ s.migrateRoom fn e.gib = true ∧ s.idle.selfRefresh = false ∧ TablesFor s 1 :=
  ⟨Tests.faulted .migrating true (Tests.hostMapped 1 0xDD (Tests.withRegs [(R.TRN_FN_MEM_QUOTA 1, 100)])), 1, 0x2000000, Tests.faultIn .migrating true, ⟨true, true, true, false, true, true, 0⟩, Tests.noHost, by decide +kernel⟩

/-! Witnesses of MemoryManagement. -/

theorem witness_MemoryManagement_1 : ∃ (s : State) (op : Nat) (o : Op), s.mmReady op 0x60 = some o ∧ s.op? op = some o ∧ o.issued = false ∧ TablesFor s (mmArgs o.desc).count ∧ (mmArgs o.desc).bad true false = none ∧ (mmArgs o.desc).loc = 2 ∧ ((∀ i, i < (mmArgs o.desc).count → s.pageReason o.fn (mmArgs o.desc).g ((mmArgs o.desc).page + i) false = 0)) :=
  ⟨Tests.withOp 1 (Tests.descOf 0x60 [(0x10, 0x2000000), (0x18, 2), (0x1C, 0x1C)]) (State.reset), 0, Tests.opOf 1 (Tests.descOf 0x60 [(0x10, 0x2000000), (0x18, 2), (0x1C, 0x1C)]) .admitted, by decide +kernel⟩

theorem witness_MemoryManagement_2 : ∃ (s : State) (op : Nat) (o : Op), s.mmReady op 0x60 = some o ∧ s.op? op = some o ∧ o.issued = false ∧ TablesFor s (mmArgs o.desc).count ∧ (mmArgs o.desc).bad true false = none ∧ (mmArgs o.desc).loc = 1 ∧ (mmArgs o.desc).count = 1 ∧ s.pageReason o.fn (mmArgs o.desc).g (mmArgs o.desc).page false = 0 ∧ s.migrateRoom o.fn (mmArgs o.desc).g = true ∧ s.anyFailed = false ∧ s.dramInit = true :=
  ⟨Tests.withOp 1 (Tests.descOf 0x60 [(0x10, 0x2000000), (0x18, 1), (0x1C, 0x1A)]) ({ Tests.withRegs [(R.TRN_FN_MEM_QUOTA 1, 100)] with dramInit := true, mem := [(0, 7), (0x1FFFFFF, 9)] }), 0, Tests.opOf 1 (Tests.descOf 0x60 [(0x10, 0x2000000), (0x18, 1), (0x1C, 0x1A)]) .admitted, by decide +kernel⟩

theorem witness_MemoryManagement_3 : ∃ (s : State) (op : Nat) (o : Op), s.mmReady op 0x61 = some o ∧ s.op? op = some o ∧ o.issued = false ∧ TablesFor s (mmArgs o.desc).count ∧ (mmArgs o.desc).bad false false = none ∧ o.st = .admitted ∧ s.busyInRange o.fn (mmArgs o.desc) = false ∧ ((∀ i, i < (mmArgs o.desc).count → s.pageReason o.fn (mmArgs o.desc).g ((mmArgs o.desc).page + i) true = 0)) :=
  ⟨Tests.withOp 1 (Tests.descOf 0x61 [(0x10, 0x2000000), (0x18, 1), (0x1C, 0)]) (Tests.mapped 1 State.reset), 0, Tests.opOf 1 (Tests.descOf 0x61 [(0x10, 0x2000000), (0x18, 1), (0x1C, 0)]) .admitted, by decide +kernel⟩

theorem witness_MemoryManagement_4 : ∃ (s : State) (op : Nat) (o : Op), s.mmReady op 0x61 = some o ∧ s.op? op = some o ∧ o.issued = false ∧ TablesFor s (mmArgs o.desc).count ∧ (mmArgs o.desc).bad false false = none ∧ o.st = .running ∧ ((∀ i, i < (mmArgs o.desc).count → s.pageReason o.fn (mmArgs o.desc).g ((mmArgs o.desc).page + i) true = 0)) :=
  ⟨{ (Tests.mapped 1 State.reset) with ops := [(0, { Tests.opOf 1 (Tests.descOf 0x61 [(0x10, 0x2000000), (0x18, 1), (0x1C, 0)]) .running with progress := 0 })], chains := [(0, Tests.chainOf 1)] }, 0, { Tests.opOf 1 (Tests.descOf 0x61 [(0x10, 0x2000000), (0x18, 1), (0x1C, 0)]) .running with progress := 0 }, by decide +kernel⟩

theorem witness_MemoryManagement_5 : ∃ (s : State) (op : Nat) (o : Op), s.mmReady op 0x62 = some o ∧ s.op? op = some o ∧ o.issued = false ∧ TablesFor s (mmArgs o.desc).count ∧ (mmArgs o.desc).bad false false = none ∧ ((∀ i, i < (mmArgs o.desc).count → s.pageReason o.fn (mmArgs o.desc).g ((mmArgs o.desc).page + i) true = 0)) :=
  ⟨Tests.withOp 1 (Tests.descOf 0x62 [(0x10, 0x2000000), (0x18, 1), (0x1C, 0x08)]) (Tests.mapped 1 State.reset), 0, Tests.opOf 1 (Tests.descOf 0x62 [(0x10, 0x2000000), (0x18, 1), (0x1C, 0x08)]) .admitted, by decide +kernel⟩

theorem witness_MemoryManagement_6 : ∃ (s : State) (op : Nat) (o : Op) (ats : Bool), s.mmReady op 0x64 = some o ∧ s.op? op = some o ∧ o.issued = false ∧ TablesFor s (mmArgs o.desc).count ∧ (mmArgs o.desc).bad false true = none ∧ ((∀ i, i < (mmArgs o.desc).count → s.pageReason o.fn (mmArgs o.desc).g ((mmArgs o.desc).page + i) true = 0)) ∧ (mmArgs o.desc).advice < 2 :=
  ⟨Tests.withOp 1 (Tests.descOf 0x64 [(0x10, 0x2000000), (0x18, 1), (0x1C, 0x100)]) (Tests.hostMapped 1 0x1D State.reset), 0, Tests.opOf 1 (Tests.descOf 0x64 [(0x10, 0x2000000), (0x18, 1), (0x1C, 0x100)]) .admitted, true, by decide +kernel⟩

theorem witness_MemoryManagement_7 : ∃ (s : State) (op : Nat) (o : Op) (ats : Bool), s.mmReady op 0x64 = some o ∧ s.op? op = some o ∧ o.issued = false ∧ TablesFor s (mmArgs o.desc).count ∧ (mmArgs o.desc).bad false true = none ∧ ((∀ i, i < (mmArgs o.desc).count → s.pageReason o.fn (mmArgs o.desc).g ((mmArgs o.desc).page + i) true = 0)) ∧ ((mmArgs o.desc).advice = 2 ∨ (mmArgs o.desc).advice = 3) :=
  ⟨Tests.withOp 1 (Tests.descOf 0x64 [(0x10, 0x2000000), (0x18, 1), (0x1C, 0x200)]) (Tests.hostMapped 1 0x1D State.reset), 0, Tests.opOf 1 (Tests.descOf 0x64 [(0x10, 0x2000000), (0x18, 1), (0x1C, 0x200)]) .admitted, true, by decide +kernel⟩

theorem witness_MemoryManagement_8 : ∃ (s : State) (op : Nat) (o : Op) (hv : HostView), s.mmReady op 0x63 = some o ∧ s.op? op = some o ∧ o.issued = false ∧ TablesFor s (mmArgs o.desc).count ∧ (mmArgs o.desc).bad true false = none ∧ 0 < (mmArgs o.desc).count ∧ o.st = .admitted ∧ s.busyInRange o.fn (mmArgs o.desc) = false ∧ ((∀ i, i < (mmArgs o.desc).count → s.pageReason o.fn (mmArgs o.desc).g ((mmArgs o.desc).page + i) true = 0)) :=
  ⟨Tests.withOp 1 (Tests.descOf 0x63 [(0x10, 0x2000000), (0x18, 1), (0x1C, 4)]) (Tests.mapped 1 Tests.linkedUp), 0, Tests.opOf 1 (Tests.descOf 0x63 [(0x10, 0x2000000), (0x18, 1), (0x1C, 4)]) .admitted, Tests.noHost, by decide +kernel⟩

theorem witness_MemoryManagement_9 : ∃ (s : State) (op : Nat) (o : Op) (hv : HostView) (l : Leaf), s.mmReady op 0x63 = some o ∧ s.op? op = some o ∧ o.issued = false ∧ TablesFor s (mmArgs o.desc).count ∧ (mmArgs o.desc).bad true false = none ∧ o.progress < (mmArgs o.desc).count ∧ o.st = .running ∧ (mmArgs o.desc).loc = 2 ∧ s.pageReason o.fn (mmArgs o.desc).g ((mmArgs o.desc).page + o.progress) true = 0 ∧ s.leafAt o.fn (mmArgs o.desc).g ((mmArgs o.desc).page + o.progress) = some l ∧ l.host = false ∧ s.linkUp = true ∧ hv.deny = [] ∧ (s.checkRange hv 1 l.addr (pageBytes (mmArgs o.desc).g) o.fn (descTags o.desc)).2 = false :=
  ⟨{ (Tests.mapped 1 Tests.linkedUp) with ops := [(0, { Tests.opOf 1 (Tests.descOf 0x63 [(0x10, 0x2000000), (0x18, 1), (0x1C, 4)]) .running with progress := 0 })], chains := [(0, Tests.chainOf 1)] }, 0, { Tests.opOf 1 (Tests.descOf 0x63 [(0x10, 0x2000000), (0x18, 1), (0x1C, 4)]) .running with progress := 0 }, Tests.noHost, ⟨false, true, true, false, false, false, 0⟩, by decide +kernel⟩

theorem witness_MemoryManagement_10 : ∃ (s : State) (fn : Nat) (v : Word), fn < 64 ∧ ((List.range 64).map (fun f => if f = fn then fld v 0 20 else s.getF (R.TRN_FN_MEM_QUOTA f) 0 20)).sum ≤ 19584 :=
  ⟨State.reset, 1, 19584, by decide +kernel⟩

theorem witness_MemoryManagement_11 : ∃ (s : State) (fn : Nat) (v : Word), fn < 64 ∧ 19584 < ((List.range 64).map (fun f => if f = fn then fld v 0 20 else s.getF (R.TRN_FN_MEM_QUOTA f) 0 20)).sum :=
  ⟨State.reset, 1, 19585, by decide +kernel⟩

/-! Witnesses of PageTablesReadBack. -/

theorem witness_PageTablesReadBack_1 : ∃ (s : State) (fn page : Nat) (g : Bool) (l : Leaf), TablesFor s 1 ∧ page * pageBytes g < 2 ^ 57 ∧ Leaf.dec l.enc = some l ∧ s.otherSize fn g page = false :=
  ⟨Tests.mapped 1 State.reset, 1, 2, false, Tests.pageLeaf, by decide +kernel⟩

theorem witness_PageTablesReadBack_2 : ∃ (s : State) (fn page : Nat) (g : Bool) (l : Leaf) (f va : Nat), TablesFor s 1 ∧ page * pageBytes g < 2 ^ 57 ∧ Leaf.dec l.enc = some l ∧ s.otherSize fn g page = false ∧ va < 2 ^ 57 ∧ (f ≠ fn ∨ va / pageBytes g ≠ page) :=
  ⟨Tests.mapped 1 State.reset, 1, 2, false, Tests.pageLeaf, 1, 0x2000000, by decide +kernel⟩

theorem witness_PageTablesReadBack_3 : ∃ (s : State) (fn page : Nat) (g : Bool) (f va : Nat), PageTables.wf s = true ∧ page * pageBytes g < 2 ^ 57 ∧ va < 2 ^ 57 :=
  ⟨Tests.mapped 1 State.reset, 1, 1, false, 2, 0, by decide +kernel⟩

/-! Witnesses of RegisterAccess. -/

theorem witness_RegisterAccess_1 : ∃ (s : State) (page off : Nat) (r : RegRow), regRow page off = some r ∧ r.acc = .rc ∧ off % 4 = 0 :=
  ⟨Tests.withRegs [(R.TRN_REFUSE_COUNT, 9)], 4, 0x088, ⟨0x088, 1, .rc, 0, 0xFFFFFFFF, 62, 0, 0⟩, by decide +kernel⟩

theorem witness_RegisterAccess_3 : ∃ (s : State) (fn : Nat), fn < 64 :=
  ⟨{ State.reset with devTime := 0x123456789A }, 3, by decide +kernel⟩

theorem witness_RegisterAccess_5 : ∃ (s : State) (page off : Nat) (r : RegRow) (b0 b1 b2 b3 : Byte), (page = 0 ∨ page = 1) ∧ off % 4 = 0 ∧ regRow page off = some r ∧ r.acc = .ro :=
  ⟨State.reset, 0, 0x040, ⟨0x040, 1, .ro, 0x8800020, 0xFFFFFFFF, 63, 0, 0⟩, 1, 2, 3, 4, by decide +kernel⟩

theorem witness_RegisterAccess_6 : ∃ (s : State) (page off : Nat) (b0 b1 b2 : Byte), off % 4 = 0 ∧ (pageKind page ≠ some 18 ∨ off + 4 ≤ 0x400) :=
  ⟨State.reset, 4, 0x040, 1, 2, 3, by decide +kernel⟩

theorem witness_RegisterAccess_7 : ∃ (s : State) (fn : Nat) (b0 b1 b2 b3 : Byte), fn < 64 :=
  ⟨State.reset, 1, 1, 0, 0, 0, by decide +kernel⟩

/-! Witnesses of InstanceLifecycle. -/

theorem witness_InstanceLifecycle_1 : ∃ (s : State) (fn : Nat) (v : Word), fn < 64 ∧ s.resetting fn = false ∧ bit v 2 = false ∧ bit v 0 = true ∧ bit v 1 = false ∧ s.fnCtrl fn 0 = false :=
  ⟨State.reset, 3, 1, by decide +kernel⟩

theorem witness_InstanceLifecycle_2 : ∃ (s : State) (fn : Nat) (v : Word) (i : Nat) (o : Op), fn < 64 ∧ s.resetting fn = false ∧ bit v 2 = false ∧ bit v 0 = true ∧ bit v 1 = true ∧ s.fnCtrl fn 0 = false ∧ s.groups = [] ∧ s.qpm.qps = [] ∧ s.trn.faults = [] ∧ s.trn.stalls = [] ∧ s.ydt.xfers = [] ∧ s.queues = [] ∧ s.ydt.posts = [] ∧ s.op? i = some o ∧ o.early = false ∧ o.fn = fn ∧ o.st = .admitted ∧ o.progress = 0 ∧ o.issued = false :=
  ⟨Tests.withOp 1 (Tests.oneOp 1) State.reset, 1, 3, 0, Tests.opOf 1 (Tests.oneOp 1) .admitted, by decide +kernel⟩

theorem witness_InstanceLifecycle_3 : ∃ (s : State) (fn : Nat) (v : Word) (i : Nat) (o : Op), fn < 64 ∧ s.resetting fn = false ∧ bit v 2 = false ∧ bit v 0 = true ∧ bit v 1 = true ∧ s.fnCtrl fn 0 = true ∧ s.fnCtrl fn 1 = false ∧ s.groups = [] ∧ s.qpm.qps = [] ∧ s.trn.faults = [] ∧ s.trn.stalls = [] ∧ s.ydt.xfers = [] ∧ s.queues = [] ∧ s.ydt.posts = [] ∧ s.op? i = some o ∧ o.early = false ∧ o.fn = fn ∧ o.st = .admitted ∧ o.progress = 0 ∧ o.issued = false :=
  ⟨Tests.withOp 1 (Tests.oneOp 1) (Tests.withRegs [(R.TRN_FN_CTRL 1, 1)]), 1, 3, 0, Tests.opOf 1 (Tests.oneOp 1) .admitted, by decide +kernel⟩

theorem witness_InstanceLifecycle_4 : ∃ (s : State) (fn : Nat) (v : Word) (i : Nat) (o : Op), fn < 64 ∧ s.resetting fn = false ∧ bit v 2 = false ∧ bit v 0 = true ∧ bit v 1 = true ∧ s.fnCtrl fn 0 = true ∧ s.fnCtrl fn 1 = false ∧ s.groups = [] ∧ s.qpm.qps = [] ∧ s.trn.faults = [] ∧ s.trn.stalls = [] ∧ s.ydt.xfers = [] ∧ s.queues = [] ∧ s.ydt.posts = [] ∧ s.op? i = some o ∧ o.early = false ∧ o.fn = fn ∧ o.st = .running :=
  ⟨{ (Tests.withRegs [(R.TRN_FN_CTRL 1, 1)]) with ops := [(0, Tests.opOf 1 (Tests.oneOp 1) .running)] }, 1, 3, 0, Tests.opOf 1 (Tests.oneOp 1) .running, by decide +kernel⟩

theorem witness_InstanceLifecycle_5 : ∃ (s : State) (fn : Nat) (v : Word), fn < 64 ∧ s.resetting fn = false ∧ bit v 2 = false ∧ bit v 0 = false ∧ s.fnCtrl fn 0 = true :=
  ⟨Tests.withRegs [(R.TRN_FN_CTRL 1, 3), (R.TRN_FN_STATUS 1, 5)], 1, 0, by decide +kernel⟩

theorem witness_InstanceLifecycle_6 : ∃ (s : State) (fn : Nat), fn < 64 ∧ s.fnCtrl fn 0 = true ∧ s.isQuiesced fn = false ∧ s.coreUp coreTrn = true ∧ s.quiet fn = true :=
  ⟨Tests.withRegs [(R.TRN_FN_CTRL 1, 1)], 1, by decide +kernel⟩

theorem witness_InstanceLifecycle_7 : ∃ (s : State) (fn : Nat), s.quiet fn = false :=
  ⟨Tests.withOp 1 (Tests.oneOp 1) (Tests.withRegs [(R.TRN_FN_CTRL 1, 1)]), 1, by decide +kernel⟩

theorem witness_InstanceLifecycle_8 : ∃ (s : State) (fn : Nat) (v : Word), fn < 64 ∧ fn ≠ 0 ∧ bit v 2 = true ∧ s.resetting fn = false ∧ s.isQuiesced fn = true ∧ s.idleState = 0 ∧ s.entering = false ∧ s.exiting = false :=
  ⟨Tests.withRegs [(R.TRN_FN_CTRL 1, 1), (R.TRN_FN_STATUS 1, 1)], 1, 4, by decide +kernel⟩

theorem witness_InstanceLifecycle_9 : ∃ (s : State) (fn : Nat) (v : Word), fn < 64 ∧ fn ≠ 0 ∧ bit v 2 = true ∧ s.resetting fn = false ∧ s.isQuiesced fn = false :=
  ⟨State.reset, 1, 4, by decide +kernel⟩

theorem witness_InstanceLifecycle_10 : ∃ (s : State) (fn : Nat), fn < 64 ∧ fn ≠ 0 ∧ s.resetting fn = true ∧ s.coreUp coreTrn = true ∧ s.idleState = 0 :=
  ⟨{ (Tests.mapped 1 (Tests.withRegs [(R.TRN_FN_CTRL 1, 5), (R.TRN_FN_STATUS 1, 3)])) with events := [(1, ⟨[], true⟩)] }, 1, by decide +kernel⟩

theorem witness_InstanceLifecycle_11 : ∃ (s : State) (n : Nat), n < 64 ∧ s.trn.numVfs ≤ 63 ∧ s.coreUp coreTrn = true ∧ s.idleState = 0 ∧ (∀ f ∈ List.range 64, n < f → f ≤ s.trn.numVfs → s.isQuiesced f = true) :=
  ⟨{ State.reset with trn := { Trn.reset with numVfs := 5 } }.wr (R.TRN_FN_STATUS 5) 1, 4, by decide +kernel⟩

theorem witness_InstanceLifecycle_12 : ∃ (s : State) (n : Nat), n < 64 ∧ s.trn.numVfs ≤ 63 ∧ (s.coreUp coreTrn = false ∨ s.idleState ≠ 0) ∧ (∀ f ∈ List.range 64, n < f → f ≤ s.trn.numVfs → s.isQuiesced f = true) :=
  ⟨({ State.reset with trn := { Trn.reset with numVfs := 5 } }.wr (R.TRN_FN_STATUS 5) 1).setF (R.FWC_CORE_STATUS 1) 0 2 1, 4, by decide +kernel⟩

theorem witness_InstanceLifecycle_13 : ∃ (s : State) (n f : Nat), n < f ∧ f ≤ s.trn.numVfs ∧ f < 64 ∧ s.isQuiesced f = false :=
  ⟨{ State.reset with trn := { Trn.reset with numVfs := 5 } }, 2, 4, by decide +kernel⟩

/-! Witnesses of TilesAndChecks. -/

theorem witness_TilesAndChecks_1 : ∃ (s : State) (nn t' : Nat) (w i k : Nat) (o : Op), nn < 16 ∧ t' < 4 ∧ s.tileTakes nn t' = true ∧ s.nextUnit i = some k ∧ s.ops.filter (fun e => (s.nextUnit e.1).isSome) = [(i, o)] ∧ s.tileUse o.fn * 256 < s.cap o.fn * w ∧ o.fresh = false :=
  ⟨(Tests.ctxIn 64 0x22 [(0x2C, 1)]), 3, 1, 100, 0, 0, Tests.ctxOp 0x22 [(0x2C, 1)], by decide +kernel⟩

theorem witness_TilesAndChecks_2 : ∃ (s : State) (nn t' : Nat) (w i k : Nat) (o : Op), nn < 16 ∧ t' < 4 ∧ s.tileTakes nn t' = true ∧ s.nextUnit i = some k ∧ s.ops.filter (fun e => (s.nextUnit e.1).isSome) = [(i, o)] ∧ s.tileUse o.fn * 256 < s.cap o.fn * w ∧ o.fresh = true ∧ s.op? i = some o :=
  ⟨{ (Tests.ctxIn 64 0x22 [(0x2C, 1)]) with ops := [(0, { Tests.ctxOp 0x22 [(0x2C, 1)] with fresh := true })] }, 3, 1, 100, 0, 0, { Tests.ctxOp 0x22 [(0x2C, 1)] with fresh := true }, by decide +kernel⟩

theorem witness_TilesAndChecks_3 : ∃ (s : State) (nn t' : Nat) (w i j k : Nat) (o p : Op), nn < 16 ∧ t' < 4 ∧ s.tileTakes nn t' = true ∧ s.ops.filter (fun e => (s.nextUnit e.1).isSome) = [(i, o), (j, p)] ∧ s.nextUnit j = some k ∧ o.fn ≠ p.fn ∧ p.fresh = false ∧ s.op? j = some p ∧ s.tileUse o.fn * 256 < s.cap o.fn * w ∧ s.guarantee o.fn * w ≤ s.tileUse o.fn * 256 ∧ s.tileUse p.fn * 256 < s.guarantee p.fn * w :=
  ⟨((({ (Tests.ctxIn 64 0x22 [(0x2C, 1)]) with ops := [(0, Tests.ctxOp 0x22 [(0x2C, 1)]), (1, { Tests.opOf 1 (Tests.descOf 0x22 [(0x10, 0x2000800), (0x2C, 1)]) .running with fn := 2, chain := 1 })], chains := [(0, Tests.chainOf 1), (1, Tests.chainOf 2)] }).wr (R.CTX_FN_SHARE 1) 0).wr (R.CTX_FN_SHARE 2) 16).putLeaf 2 false 1 Tests.pageLeaf, 3, 1, 100, 0, 1, 0, Tests.ctxOp 0x22 [(0x2C, 1)], { Tests.opOf 1 (Tests.descOf 0x22 [(0x10, 0x2000800), (0x2C, 1)]) .running with fn := 2, chain := 1 }, by decide +kernel⟩

theorem witness_TilesAndChecks_4 : ∃ (s : State) (nn t' fa fb : Nat) (load ends : Bool) (scale : Option Nat) (a b : List Row) (u : Nat × Nat) (r : List (Nat × Nat)) (o : Op), nn < 16 ∧ t' < 4 ∧ s.tileRetired nn t' = false ∧ s.clusterStalled nn = false ∧ (s.tileAt nn t').units = u :: r ∧ s.op? u.1 = some o ∧ dOpcode o.desc ≠ 0x24 ∧ pairOk fa fb = true ∧ s.reduced = false ∧ (isBlockFmt fa = true → (a.headD ⟨0, [], []⟩).k % 32 = 0) ∧ blockShapeOk fa fb a b (a.headD ⟨0, [], []⟩).k = true ∧ (s.tileAt nn t').inject = none :=
  ⟨Tests.unitIn, 0, 0, 1, 1, false, false, none, [Tests.rowOf (List.replicate 32 0x38)], [Tests.rowOf (List.replicate 32 0x40)], (0, 0), [], Tests.ctxOp 0x22 [], by decide +kernel⟩

theorem witness_TilesAndChecks_5 : ∃ (s : State) (nn t' fa fb : Nat) (load ends : Bool) (scale : Option Nat) (a b : List Row) (u : Nat × Nat) (r : List (Nat × Nat)) (o : Op) (f : TileFault), nn < 16 ∧ t' < 4 ∧ s.tileRetired nn t' = false ∧ s.clusterStalled nn = false ∧ (s.tileAt nn t').units = u :: r ∧ s.op? u.1 = some o ∧ dOpcode o.desc ≠ 0x24 ∧ pairOk fa fb = true ∧ s.reduced = false ∧ (isBlockFmt fa = true → (a.headD ⟨0, [], []⟩).k % 32 = 0) ∧ blockShapeOk fa fb a b (a.headD ⟨0, [], []⟩).k = true ∧ (s.tileAt nn t').inject = none ∧ faultSeen f = true ∧ s.getF (R.CLS_RETIRE_LIMIT nn) 0 8 = 0 :=
  ⟨Tests.unitIn.wr (R.CLS_RETIRE_LIMIT 0) 0, 0, 0, 1, 1, false, false, none, [Tests.rowOf (List.replicate 32 0x38)], [Tests.rowOf (List.replicate 32 0x40)], (0, 0), [], Tests.ctxOp 0x22 [], ⟨false, 3, 4, 1⟩, by decide +kernel⟩

theorem witness_TilesAndChecks_6 : ∃ (s : State) (nn t' fa fb : Nat) (load ends : Bool) (scale : Option Nat) (a b : List Row) (u : Nat × Nat) (r : List (Nat × Nat)) (o : Op) (f : TileFault), nn < 16 ∧ t' < 4 ∧ s.tileRetired nn t' = false ∧ s.clusterStalled nn = false ∧ (s.tileAt nn t').units = u :: r ∧ s.op? u.1 = some o ∧ dOpcode o.desc ≠ 0x24 ∧ pairOk fa fb = true ∧ s.reduced = false ∧ (isBlockFmt fa = true → (a.headD ⟨0, [], []⟩).k % 32 = 0) ∧ blockShapeOk fa fb a b (a.headD ⟨0, [], []⟩).k = true ∧ (s.tileAt nn t').inject = none ∧ faultSeen f = false :=
  ⟨Tests.unitIn, 0, 0, 1, 1, false, false, none, [Tests.rowOf (List.replicate 32 0x38)], [Tests.rowOf (List.replicate 32 0x40)], (0, 0), [], Tests.ctxOp 0x22 [], ⟨false, 3, 4, 7⟩, by decide +kernel⟩

theorem witness_TilesAndChecks_7 : ∃ (s : State) (nn t' fa fb : Nat) (load ends : Bool) (scale : Option Nat) (a b : List Row) (u : Nat × Nat) (r : List (Nat × Nat)) (o : Op), nn < 16 ∧ t' < 4 ∧ s.tileRetired nn t' = false ∧ s.clusterStalled nn = false ∧ (s.tileAt nn t').units = u :: r ∧ s.op? u.1 = some o ∧ dOpcode o.desc ≠ 0x24 ∧ o.issued = false ∧ pairOk fa fb = false :=
  ⟨Tests.unitIn, 0, 0, 1, 9, false, true, none, [], [], (0, 0), [], Tests.ctxOp 0x22 [], by decide +kernel⟩

theorem witness_TilesAndChecks_8 : ∃ (s : State) (nn : Nat) (v : Word), nn < 16 ∧ fld v 0 4 ≠ 0 ∧ s.activeTiles.any (fun x => x.1 ≠ nn) = true :=
  ⟨State.reset, 2, 8, by decide +kernel⟩

theorem witness_TilesAndChecks_9 : ∃ (s : State) (nn t' : Nat) (v : Word), nn < 16 ∧ t' < 4 ∧ fld v 0 4 = 2 ^ t' ∧ fld v 4 4 = 0 ∧ s.tileRetired nn t' = false ∧ s.lastActive nn t' = true :=
  ⟨Tests.withRegs ((R.CLS_TILE_STATE 15, 0x10333) :: (List.range 15).map (fun n => (R.CLS_TILE_STATE n, 0x13333))), 15, 3, 8, by decide +kernel⟩

theorem witness_TilesAndChecks_10 : ∃ (s : State) (nn : Nat) (v : Word), nn < 16 ∧ fld v 0 4 = 0 ∧ fld v 4 4 ≠ 0 ∧ s.idleState = 0 :=
  ⟨Tests.withRegs [(R.CLS_TILE_STATE 2, 0x3000)], 2, 0x80, by decide +kernel⟩

theorem witness_TilesAndChecks_11 : ∃ (s : State) (nn : Nat) (v : Word), nn < 16 ∧ fld v 0 4 = 0 ∧ fld v 4 4 ≠ 0 ∧ s.idleState ≠ 0 :=
  ⟨Tests.withRegs [(R.CLS_TILE_STATE 2, 0x3000), (R.GLB_IDLE_STATUS, 1)], 2, 0x80, by decide +kernel⟩

theorem witness_TilesAndChecks_12 : ∃ (s : State) (nn t' : Nat), nn < 16 ∧ t' < 4 ∧ s.tileTesting nn t' = true :=
  ⟨Tests.withRegs [(R.CLS_TILE_STATE 2, 0x17333)], 2, 3, by decide +kernel⟩

theorem witness_TilesAndChecks_13 : ∃ (s : State) (nn t' : Nat), nn < 16 ∧ t' < 4 ∧ s.tileTesting nn t' = true :=
  ⟨Tests.withRegs [(R.CLS_TILE_STATE 2, 0x17333)], 2, 3, by decide +kernel⟩

theorem witness_TilesAndChecks_14 : ∃ (s : State) (nn : Nat) (v : Word), nn < 16 ∧ s.tileRetired nn (fld v 0 2) = false :=
  ⟨State.reset, 2, 7, by decide +kernel⟩

/-! Witnesses of ContextOperations. -/

theorem witness_ContextOperations_1 : ∃ (s : State) (op : Nat) (o : Op) (hv : HostView) (p x : Nat), s.runnable op [0x20] = some o ∧ s.op? op = some o ∧ o.issued = false ∧ o.st = .running ∧ (farAddr (dQuad o.desc 0x10) || farAddr (dQuad o.desc 0x18)) = false ∧ dQuad o.desc 0x10 % 256 = 0 ∧ dQuad o.desc 0x18 % 64 = 0 ∧ s.orderWait op o = false ∧ dfld o.desc 0x20 0 1 = 0 ∧ imgF (s.drams x 256) 4 17 1 = 0 ∧ DevRange s hv o.fn (dQuad o.desc 0x10) p 256 true ∧ DevRange s hv o.fn (dQuad o.desc 0x18) x 256 false ∧ ((stretchInit hv op o).run s).1.isOk = true :=
  ⟨((Tests.ctxIn 0 0x20 [(0x18, 0x2000800)])), 0, Tests.ctxOp 0x20 [(0x18, 0x2000800)], Tests.noHost, 0x100, 0x800, by decide +kernel⟩

theorem witness_ContextOperations_2 : ∃ (s : State) (op : Nat) (o : Op) (hv : HostView), s.runnable op [0x20] = some o ∧ s.op? op = some o ∧ o.issued = false ∧ o.st = .running ∧ (farAddr (dQuad o.desc 0x10) || farAddr (dQuad o.desc 0x18)) = false ∧ dQuad o.desc 0x10 % 256 = 0 ∧ dQuad o.desc 0x18 % 64 ≠ 0 :=
  ⟨((Tests.ctxIn 0 0x20 [(0x18, 0x2000801)])), 0, Tests.ctxOp 0x20 [(0x18, 0x2000801)], Tests.noHost, by decide +kernel⟩

theorem witness_ContextOperations_3 : ∃ (s : State) (op : Nat) (o : Op) (hv : HostView) (r : Nat), s.runnable op [0x21] = some o ∧ s.op? op = some o ∧ o.issued = false ∧ o.st = .running ∧ (farAddr (dQuad o.desc 0x10) || farAddr (dQuad o.desc 0x18)) = false ∧ dQuad o.desc 0x10 % 256 = 0 ∧ dQuad o.desc 0x18 % 64 = 0 ∧ (dfld o.desc 0x28 0 4 = 1 ∨ dfld o.desc 0x28 0 4 = 2 ∨ dfld o.desc 0x28 0 4 = 7 ∨ dfld o.desc 0x28 0 4 = 8) ∧ o.progress = 0 ∧ dfld o.desc 0x24 0 16 = 0 ∧ s.orderPoint op o = false ∧ ((do let x ← header ⟨hv, descTags o.desc⟩ o.fn (dQuad o.desc 0x10); let e ← layerEntry ⟨hv, descTags o.desc⟩ o.fn x (dfld o.desc 0x24 16 16) false; pure e.tokens : CtxM Nat).run s).1.toOption = some r :=
  ⟨((Tests.ctxIn 5 0x21 [(0x18, 0x2100000), (0x28, 1)])), 0, Tests.ctxOp 0x21 [(0x18, 0x2100000), (0x28, 1)], Tests.noHost, 5, by decide +kernel⟩

theorem witness_ContextOperations_4 : ∃ (s : State) (op : Nat) (o : Op) (hv : HostView), s.runnable op [0x21] = some o ∧ s.op? op = some o ∧ o.issued = false ∧ o.st = .running ∧ (farAddr (dQuad o.desc 0x10) || farAddr (dQuad o.desc 0x18)) = false ∧ dQuad o.desc 0x10 % 256 = 0 ∧ dQuad o.desc 0x18 % 64 = 0 ∧ (dfld o.desc 0x28 0 4 = 1 ∨ dfld o.desc 0x28 0 4 = 2 ∨ dfld o.desc 0x28 0 4 = 7 ∨ dfld o.desc 0x28 0 4 = 8) ∧ o.progress = 0 ∧ dfld o.desc 0x24 0 16 ≠ 0 ∧ s.orderWait op o = false :=
  ⟨((Tests.ctxIn 64 0x21 [(0x18, 0x2100000), (0x28, 1), (0x24, 1)])), 0, Tests.ctxOp 0x21 [(0x18, 0x2100000), (0x28, 1), (0x24, 1)], Tests.noHost, by decide +kernel⟩

theorem witness_ContextOperations_5 : ∃ (s : State) (op : Nat) (o : Op) (hv : HostView) (x : Stretch) (e : Layer), s.runnable op [0x21] = some o ∧ s.op? op = some o ∧ o.issued = false ∧ o.st = .running ∧ (farAddr (dQuad o.desc 0x10) || farAddr (dQuad o.desc 0x18)) = false ∧ dQuad o.desc 0x10 % 256 = 0 ∧ dQuad o.desc 0x18 % 64 = 0 ∧ (dfld o.desc 0x28 0 4 = 1 ∨ dfld o.desc 0x28 0 4 = 2 ∨ dfld o.desc 0x28 0 4 = 7 ∨ dfld o.desc 0x28 0 4 = 8) ∧ o.progress = 0 ∧ dfld o.desc 0x24 0 16 ≠ 0 ∧ s.orderWait op o = false ∧ ((do let x ← header ⟨hv, descTags o.desc⟩ o.fn (dQuad o.desc 0x10); let e ← layerEntry ⟨hv, descTags o.desc⟩ o.fn x (dfld o.desc 0x24 16 16) false; pure (x, e) : CtxM (Stretch × Layer)).run s).1.toOption = some (x, e) ∧ e.tokens < ((dfld o.desc 0x20 0 30 + 2 ^ 64 - x.firstPos) % 2 ^ 64) :=
  ⟨((Tests.ctxIn 5 0x21 [(0x18, 0x2100000), (0x28, 1), (0x20, 6), (0x24, 1)])), 0, Tests.ctxOp 0x21 [(0x18, 0x2100000), (0x28, 1), (0x20, 6), (0x24, 1)], Tests.noHost, (((header ⟨Tests.noHost, noTags⟩ 1 0x2000100).run (Tests.ctxIn 5 0x21 [(0x18, 0x2100000), (0x28, 1), (0x20, 6), (0x24, 1)])).1.toOption.getD (stretchOf 0 0 [])), layerOf ((Tests.ctxIn 5 0x21 [(0x18, 0x2100000), (0x28, 1), (0x20, 6), (0x24, 1)]).drams 0x1000 64), by decide +kernel⟩

theorem witness_ContextOperations_6 : ∃ (s : State) (op : Nat) (o : Op) (hv : HostView) (x : Stretch) (e : Layer), s.runnable op [0x21] = some o ∧ s.op? op = some o ∧ o.issued = false ∧ o.st = .running ∧ (farAddr (dQuad o.desc 0x10) || farAddr (dQuad o.desc 0x18)) = false ∧ dQuad o.desc 0x10 % 256 = 0 ∧ dQuad o.desc 0x18 % 64 = 0 ∧ (dfld o.desc 0x28 0 4 = 1 ∨ dfld o.desc 0x28 0 4 = 2 ∨ dfld o.desc 0x28 0 4 = 7 ∨ dfld o.desc 0x28 0 4 = 8) ∧ o.progress = 0 ∧ dfld o.desc 0x24 0 16 ≠ 0 ∧ s.orderWait op o = false ∧ ((do let x ← header ⟨hv, descTags o.desc⟩ o.fn (dQuad o.desc 0x10); let e ← layerEntry ⟨hv, descTags o.desc⟩ o.fn x (dfld o.desc 0x24 16 16) false; pure (x, e) : CtxM (Stretch × Layer)).run s).1.toOption = some (x, e) ∧ (((dfld o.desc 0x20 0 30 + 2 ^ 64 - x.firstPos) % 2 ^ 64) ≤ e.tokens ∧ 64 * x.cap < ((dfld o.desc 0x20 0 30 + 2 ^ 64 - x.firstPos) % 2 ^ 64) + dfld o.desc 0x24 0 16) :=
  ⟨((Tests.ctxIn 5 0x21 [(0x18, 0x2100000), (0x28, 1), (0x20, 5), (0x24, 60)])), 0, Tests.ctxOp 0x21 [(0x18, 0x2100000), (0x28, 1), (0x20, 5), (0x24, 60)], Tests.noHost, (((header ⟨Tests.noHost, noTags⟩ 1 0x2000100).run (Tests.ctxIn 5 0x21 [(0x18, 0x2100000), (0x28, 1), (0x20, 5), (0x24, 60)])).1.toOption.getD (stretchOf 0 0 [])), layerOf ((Tests.ctxIn 5 0x21 [(0x18, 0x2100000), (0x28, 1), (0x20, 5), (0x24, 60)]).drams 0x1000 64), by decide +kernel⟩

theorem witness_ContextOperations_7 : ∃ (s : State) (op : Nat) (o : Op) (hv : HostView) (j : Join), s.runnable op [0x22] = some o ∧ s.op? op = some o ∧ o.issued = false ∧ o.st = .running ∧ attendBad o.desc = none ∧ toReduction o.desc = false ∧ dfld o.desc 0x2C 0 16 = 0 ∧ s.orderPoint op o = false ∧ ((attendChecks ⟨hv, descTags o.desc⟩ o).run s).1.isOk = true :=
  ⟨((Tests.ctxIn 5 0x22 [(0x18, 0x2100000), (0x20, 0x2200000), (0x30, 1)])), 0, Tests.ctxOp 0x22 [(0x18, 0x2100000), (0x20, 0x2200000), (0x30, 1)], Tests.noHost, ⟨[], [], []⟩, by decide +kernel⟩

theorem witness_ContextOperations_8 : ∃ (s : State) (op : Nat) (o : Op) (hv : HostView) (j : Join) (q : Nat), s.runnable op [0x22] = some o ∧ s.op? op = some o ∧ o.issued = false ∧ o.st = .running ∧ attendBad o.desc = none ∧ toReduction o.desc = false ∧ dfld o.desc 0x2C 0 16 ≠ 0 ∧ s.orderWait op o = false ∧ s.packWaits op o = false ∧ s.getB R.CTX_PACK_CTRL 0 = false ∧ DevRange s hv o.fn (dQuad o.desc 0x20) q (s.outputBytes o) true :=
  ⟨((Tests.ctxIn 5 0x22 [(0x18, 0x2100000), (0x20, 0x2200000), (0x2C, 1), (0x30, 1)]).wr R.CTX_PACK_CTRL 0), 0, Tests.ctxOp 0x22 [(0x18, 0x2100000), (0x20, 0x2200000), (0x2C, 1), (0x30, 1)], Tests.noHost, ⟨[], [], []⟩, 0x200000, by decide +kernel⟩

theorem witness_ContextOperations_9 : ∃ (s : State) (op : Nat) (o : Op) (hv : HostView) (j : Join), s.runnable op [0x23] = some o ∧ s.op? op = some o ∧ o.issued = false ∧ o.st = .running ∧ attendBad o.desc = none ∧ toReduction o.desc = false ∧ dfld o.desc 0x2C 0 16 = 0 ∧ s.orderPoint op o = false ∧ ((attendChecks ⟨hv, descTags o.desc⟩ o).run s).1.isOk = true :=
  ⟨((Tests.ctxIn 5 0x23 [(0x18, 0x2100000), (0x20, 0x2200000), (0x30, 0x10001)]).setDram 0x106 1 |>.setDram 0x12A 2), 0, Tests.ctxOp 0x23 [(0x18, 0x2100000), (0x20, 0x2200000), (0x30, 0x10001)], Tests.noHost, ⟨[], [], []⟩, by decide +kernel⟩

theorem witness_ContextOperations_10 : ∃ (s : State) (op : Nat) (o : Op) (hv : HostView) (j : Join) (q : Nat), s.runnable op [0x23] = some o ∧ s.op? op = some o ∧ o.issued = false ∧ o.st = .running ∧ attendBad o.desc = none ∧ toReduction o.desc = false ∧ dfld o.desc 0x2C 0 16 ≠ 0 ∧ s.orderWait op o = false ∧ s.packWaits op o = false ∧ s.getB R.CTX_PACK_CTRL 0 = false ∧ DevRange s hv o.fn (dQuad o.desc 0x20) q (s.outputBytes o) true :=
  ⟨((Tests.ctxIn 5 0x23 [(0x18, 0x2100000), (0x20, 0x2200000), (0x2C, 1), (0x30, 0x10001)]).wr R.CTX_PACK_CTRL 0), 0, Tests.ctxOp 0x23 [(0x18, 0x2100000), (0x20, 0x2200000), (0x2C, 1), (0x30, 0x10001)], Tests.noHost, ⟨[], [], []⟩, 0x200000, by decide +kernel⟩

theorem witness_ContextOperations_11 : ∃ (s : State) (op : Nat) (o : Op) (hv : HostView) (j : Join), s.runnable op [0x22, 0x23] = some o ∧ s.op? op = some o ∧ attendBad o.desc = none ∧ toReduction o.desc = false ∧ dfld o.desc 0x2C 0 16 ≠ 0 ∧ s.orderWait op { o with probe := 2 } = false ∧ (s.putOp op { o with probe := 2 }).orderWait op { o with probe := 2 } = false :=
  ⟨((Tests.ctxIn 5 0x22 [(0x18, 0x2100000), (0x20, 0x2200000), (0x2C, 1), (8, 3)])), 0, Tests.ctxOp 0x22 [(0x18, 0x2100000), (0x20, 0x2200000), (0x2C, 1), (8, 3)], Tests.noHost, ⟨[], [], []⟩, by decide +kernel⟩

theorem witness_ContextOperations_12 : ∃ (s : State) (op : Nat) (o : Op) (hv : HostView), s.runnable op [0x24] = some o ∧ s.op? op = some o ∧ o.issued = false ∧ o.st = .running ∧ farAddr (dQuad o.desc 0x10) = false ∧ dQuad o.desc 0x10 % 256 = 0 ∧ s.orderWait op o = false ∧ ((header ⟨hv, descTags o.desc⟩ o.fn (dQuad o.desc 0x10)).run s).1.toOption.map (fun x => (decide (dWord o.desc 0x18 + dWord o.desc 0x1C ≤ x.cap) && decide (dfld o.desc 0x20 0 16 + dfld o.desc 0x20 16 16 ≤ x.layers) && !x.landmarks)) = some true :=
  ⟨((Tests.ctxIn 5 0x24 [(0x1C, 1), (0x20, 0x10000)])), 0, Tests.ctxOp 0x24 [(0x1C, 1), (0x20, 0x10000)], Tests.noHost, by decide +kernel⟩

theorem witness_ContextOperations_13 : ∃ (s : State) (op : Nat) (o : Op) (hv : HostView), s.runnable op [0x24] = some o ∧ s.op? op = some o ∧ o.issued = false ∧ o.st = .running ∧ farAddr (dQuad o.desc 0x10) = false ∧ dQuad o.desc 0x10 % 256 = 0 ∧ s.orderWait op o = false ∧ dWord o.desc 0x1C ≠ 0 ∧ dfld o.desc 0x20 16 16 ≠ 0 ∧ ((header ⟨hv, descTags o.desc⟩ o.fn (dQuad o.desc 0x10)).run s).1.toOption.map (fun x => decide (x.cap < dWord o.desc 0x18 + dWord o.desc 0x1C)) = some true :=
  ⟨((Tests.ctxIn 5 0x24 [(0x1C, 2), (0x20, 0x10000)])), 0, Tests.ctxOp 0x24 [(0x1C, 2), (0x20, 0x10000)], Tests.noHost, by decide +kernel⟩

theorem witness_ContextOperations_14 : ∃ (s : State) (op : Nat) (o : Op) (hv : HostView), s.runnable op [0x24] = some o ∧ s.op? op = some o ∧ o.issued = false ∧ o.st = .running ∧ farAddr (dQuad o.desc 0x10) = false ∧ dQuad o.desc 0x10 % 256 = 0 ∧ s.orderWait op o = false ∧ (dWord o.desc 0x1C = 0 ∨ dfld o.desc 0x20 16 16 = 0) ∧ ((header ⟨hv, descTags o.desc⟩ o.fn (dQuad o.desc 0x10)).run s).1.isOk = true :=
  ⟨((Tests.ctxIn 5 0x24 [(0x18, 0x5000000), (0x20, 0x10000)])), 0, Tests.ctxOp 0x24 [(0x18, 0x5000000), (0x20, 0x10000)], Tests.noHost, by decide +kernel⟩

theorem witness_ContextOperations_15 : ∃ (s : State) (op : Nat) (o : Op) (hv : HostView), s.runnable op [0x25] = some o ∧ s.op? op = some o ∧ o.issued = false ∧ o.st = .running ∧ farAddr (dQuad o.desc 0x10) = false ∧ dQuad o.desc 0x10 % 256 = 0 ∧ s.orderWait op o = false ∧ o.progress = 0 ∧ dfld o.desc 0x1C 16 16 = 0 ∧ ((header ⟨hv, descTags o.desc⟩ o.fn (dQuad o.desc 0x10)).run s).1.isOk = true :=
  ⟨((Tests.ctxIn 5 0x25 [])), 0, Tests.ctxOp 0x25 [], Tests.noHost, by decide +kernel⟩

theorem witness_ContextOperations_16 : ∃ (s : State) (op : Nat) (o : Op) (hv : HostView) (x : Stretch) (e : Layer), s.runnable op [0x25] = some o ∧ s.op? op = some o ∧ o.issued = false ∧ o.st = .running ∧ farAddr (dQuad o.desc 0x10) = false ∧ dQuad o.desc 0x10 % 256 = 0 ∧ s.orderWait op o = false ∧ o.progress = 0 ∧ dfld o.desc 0x1C 16 16 = 1 ∧ ((do let x ← header ⟨hv, descTags o.desc⟩ o.fn (dQuad o.desc 0x10); let e ← layerEntry ⟨hv, descTags o.desc⟩ o.fn x (dfld o.desc 0x1C 0 16) false; pure (x, e) : CtxM (Stretch × Layer)).run s).1.toOption = some (x, e) ∧ e.tokens ≤ dWord o.desc 0x18 ∧ x.parity = false :=
  ⟨((Tests.ctxIn 5 0x25 [(0x18, 5), (0x1C, 0x10000)])), 0, Tests.ctxOp 0x25 [(0x18, 5), (0x1C, 0x10000)], Tests.noHost, (((header ⟨Tests.noHost, noTags⟩ 1 0x2000100).run (Tests.ctxIn 5 0x25 [(0x18, 5), (0x1C, 0x10000)])).1.toOption.getD (stretchOf 0 0 [])), layerOf ((Tests.ctxIn 5 0x25 [(0x18, 5), (0x1C, 0x10000)]).drams 0x1000 64), by decide +kernel⟩

theorem witness_ContextOperations_17 : ∃ (s : State) (op : Nat) (o : Op) (hv : HostView) (j : Join), s.runnable op [0x23] = some o ∧ s.op? op = some o ∧ o.issued = false ∧ o.st = .running ∧ attendBad o.desc = none ∧ toReduction o.desc = false ∧ dfld o.desc 0x2C 0 16 = 0 ∧ s.orderPoint op o = false ∧ (match ((attendChecks ⟨hv, descTags o.desc⟩ o).run s).1 with | .error e => decide (e = .bad 0x06 0 0) | .ok _ => false) = true :=
  ⟨((Tests.ctxIn 5 0x23 [(0x18, 0x2100000), (0x20, 0x2200000), (0x30, 0x10001)])), 0, Tests.ctxOp 0x23 [(0x18, 0x2100000), (0x20, 0x2200000), (0x30, 0x10001)], Tests.noHost, ⟨[], [], []⟩, by decide +kernel⟩

theorem witness_ContextOperations_18 : ∃ (s : State) (fn : Nat) (v : Word), fn < 64 ∧ (((List.range 64).filter (· ≠ fn)).map s.guarantee).sum + fld v 0 8 ≤ 256 :=
  ⟨State.reset, 1, 4, by decide +kernel⟩

theorem witness_ContextOperations_19 : ∃ (s : State) (fn : Nat) (v : Word), fn < 64 ∧ 256 < (((List.range 64).filter (· ≠ fn)).map s.guarantee).sum + fld v 0 8 :=
  ⟨State.reset, 1, 0xFF, by decide +kernel⟩

/-! Witnesses of CopiesAndStamps. -/

theorem witness_CopiesAndStamps_1 : ∃ (s : State) (op : Nat) (o : Op) (hv : HostView) (p q : Nat), s.runnable op [0x01] = some o ∧ s.op? op = some o ∧ o.issued = false ∧ 0 < dWord o.desc 0x20 ∧ DevRange s hv o.fn (dQuad o.desc 0x10) p (dWord o.desc 0x20) false ∧ DevRange s hv o.fn (dQuad o.desc 0x18) q (dWord o.desc 0x20) true ∧ hv.ce = [] ∧ (dQuad o.desc 0x10 + dWord o.desc 0x20 ≤ dQuad o.desc 0x18 ∨ dQuad o.desc 0x18 + dWord o.desc 0x20 ≤ dQuad o.desc 0x10) :=
  ⟨Tests.memOp (Tests.descOf 0x01 [(0x10, 0x2000003), (0x18, 0x2000044), (0x20, 5)]) [(3, 7), (5, 8), (0x48, 1)], 0, Tests.opOf 1 (Tests.descOf 0x01 [(0x10, 0x2000003), (0x18, 0x2000044), (0x20, 5)]) .admitted, Tests.noHost, 3, 0x44, by decide +kernel⟩

theorem witness_CopiesAndStamps_2 : ∃ (s : State) (op : Nat) (o : Op) (hv : HostView) (p q : Nat), s.runnable op [0x01] = some o ∧ s.op? op = some o ∧ o.issued = false ∧ 0 < dWord o.desc 0x20 ∧ DevRange s hv o.fn (dQuad o.desc 0x10) p (dWord o.desc 0x20) false ∧ DevRange s hv o.fn (dQuad o.desc 0x18) q (dWord o.desc 0x20) true ∧ hv.ce = [] ∧ (dQuad o.desc 0x10 < dQuad o.desc 0x18 + dWord o.desc 0x20 ∧ dQuad o.desc 0x18 < dQuad o.desc 0x10 + dWord o.desc 0x20) :=
  ⟨Tests.memOp (Tests.descOf 0x01 [(0x10, 0x2000003), (0x18, 0x2000006), (0x20, 5)]) [(3, 7), (5, 8), (0x48, 1)], 0, Tests.opOf 1 (Tests.descOf 0x01 [(0x10, 0x2000003), (0x18, 0x2000006), (0x20, 5)]) .admitted, Tests.noHost, 3, 6, by decide +kernel⟩

theorem witness_CopiesAndStamps_3 : ∃ (s : State) (op : Nat) (o : Op) (hv : HostView), s.runnable op [0x01] = some o ∧ s.op? op = some o ∧ o.issued = false ∧ dWord o.desc 0x20 = 0 ∧ (farAddr (dQuad o.desc 0x10) || farAddr (dQuad o.desc 0x18)) = false ∧ s.copyWaits op o = false :=
  ⟨Tests.memOp (Tests.descOf 0x01 [(0x10, 1)]) [], 0, Tests.opOf 1 (Tests.descOf 0x01 [(0x10, 1)]) .admitted, Tests.noHost, by decide +kernel⟩

theorem witness_CopiesAndStamps_4 : ∃ (s : State) (op : Nat) (o : Op) (hv : HostView), s.runnable op [0x01] = some o ∧ s.op? op = some o ∧ o.issued = false ∧ dWord o.desc 0x20 = 0 ∧ (farAddr (dQuad o.desc 0x10) || farAddr (dQuad o.desc 0x18)) = false ∧ s.copyWaits op o = true :=
  ⟨{ (Tests.withOp 1 (Tests.oneOp 1) State.reset) with ops := [(0, Tests.opOf 1 (Tests.oneOp 1) .running), (1, { Tests.opOf 1 (Tests.oneOp 1) .admitted with chain := 1 })] }, 1, { Tests.opOf 1 (Tests.oneOp 1) .admitted with chain := 1 }, Tests.noHost, by decide +kernel⟩

theorem witness_CopiesAndStamps_5 : ∃ (s : State) (op : Nat) (o : Op), s.runnable op [0x70] = some o ∧ s.op? op = some o ∧ o.issued = false :=
  ⟨Tests.memOp (Tests.descOf 0x70 []) [], 0, Tests.opOf 1 (Tests.descOf 0x70 []) .admitted, by decide +kernel⟩

theorem witness_CopiesAndStamps_6 : ∃ (s : State) (op : Nat) (o : Op) (hv : HostView) (p : Nat), s.runnable op [0x73] = some o ∧ s.op? op = some o ∧ o.issued = false ∧ dQuad o.desc 0x10 % 8 = 0 ∧ DevRange s hv o.fn (dQuad o.desc 0x10) p 8 true ∧ hv.ce = [] :=
  ⟨{ (Tests.memOp (Tests.descOf 0x73 [(0x10, 0x2000040)]) []) with devTime := 0x123456789A }, 0, Tests.opOf 1 (Tests.descOf 0x73 [(0x10, 0x2000040)]) .admitted, Tests.noHost, 0x40, by decide +kernel⟩

theorem witness_CopiesAndStamps_7 : ∃ (s : State) (op : Nat) (o : Op) (hv : HostView), s.runnable op [0x73] = some o ∧ s.op? op = some o ∧ o.issued = false ∧ dQuad o.desc 0x10 % 8 ≠ 0 :=
  ⟨Tests.memOp (Tests.descOf 0x73 [(0x10, 0x2000041)]) [], 0, Tests.opOf 1 (Tests.descOf 0x73 [(0x10, 0x2000041)]) .admitted, Tests.noHost, by decide +kernel⟩

theorem witness_CopiesAndStamps_8 : ∃ (s : State) (op : Nat) (o : Op), s.op? op = some o ∧ o.st = .admitted ∧ o.issued = false ∧ dOpcode o.desc ∉ knownOpcodes ∧ s.chainReady o = true ∧ s.fenceReady op o = true :=
  ⟨Tests.memOp (Tests.descOf 0x50 []) [], 0, Tests.opOf 1 (Tests.descOf 0x50 []) .admitted, by decide +kernel⟩

/-! Witnesses of TriggerQueues. -/

theorem witness_TriggerQueues_1 : ∃ (s : State) (op : Nat) (o : Op) (hv : HostView) (p : Nat), s.runnable op [0x71] = some o ∧ s.op? op = some o ∧ o.issued = false ∧ o.progress = 0 ∧ dQuad o.desc 0x10 % 64 = 0 ∧ 1 ≤ dfld o.desc 0x18 0 11 ∧ dfld o.desc 0x18 0 11 ≤ 1024 ∧ s.tqOwned (dfld o.desc 0x18 16 12) o.fn = true ∧ s.tqState (dfld o.desc 0x18 16 12) = 0 ∧ DevRange s hv o.fn (dQuad o.desc 0x10) p (64 * dfld o.desc 0x18 0 11) false ∧ hv.ce = [] ∧ chainBad (descsOf (dfld o.desc 0x18 0 11) (s.drams p (64 * dfld o.desc 0x18 0 11))) = none ∧ (bitOf (dWord o.desc 0x20) 31 || bitOf (dWord o.desc 0x24) 31 || bitOf (dWord o.desc 0x28) 31 || bitOf (dWord o.desc 0x2C) 31) = false ∧ 1 ≤ dfld o.desc 0x1C 0 4 ∧ s.getB (R.RNG_CQ_CTRL o.fn (dfld o.desc 0x1C 0 4)) 0 = true ∧ s.storeUsed + dfld o.desc 0x18 0 11 ≤ 1048576 :=
  ⟨{ (Tests.addOp (Tests.descOf 0x71 [(0x10, 0x2000040), (0x18, 0x30001), (0x1C, 2)]) (Tests.tqIn 0 Tests.emptyTq (Tests.mapped 1 (Tests.withRegs [(R.RNG_CQ_CTRL 1 2, 0x0801)])))) with mem := [(0x40, 0x70), (0x41, 0x03)] }, 0, Tests.opOf 1 (Tests.descOf 0x71 [(0x10, 0x2000040), (0x18, 0x30001), (0x1C, 2)]) .admitted, Tests.noHost, 0x40, by decide +kernel⟩

theorem witness_TriggerQueues_2 : ∃ (s : State) (op : Nat) (o : Op) (hv : HostView), s.runnable op [0x71] = some o ∧ s.op? op = some o ∧ o.issued = false ∧ o.progress = 0 ∧ dQuad o.desc 0x10 % 64 = 0 ∧ 1 ≤ dfld o.desc 0x18 0 11 ∧ dfld o.desc 0x18 0 11 ≤ 1024 ∧ farAddr (dQuad o.desc 0x10) = false ∧ s.tqOwned (dfld o.desc 0x18 16 12) o.fn = false :=
  ⟨{ (Tests.addOp (Tests.descOf 0x71 [(0x10, 0x2000040), (0x18, 0x40001), (0x1C, 2)]) (Tests.tqIn 0 Tests.emptyTq State.reset)) with mem := [] }, 0, Tests.opOf 1 (Tests.descOf 0x71 [(0x10, 0x2000040), (0x18, 0x40001), (0x1C, 2)]) .admitted, Tests.noHost, by decide +kernel⟩

theorem witness_TriggerQueues_3 : ∃ (s : State) (q i : Nat) (o : Op), q < 4096 ∧ (s.tq q).armOp = some i ∧ s.op? i = some o ∧ o.issued = false :=
  ⟨Tests.addOp (Tests.oneOp 0x71) (Tests.tqIn 3 { Tests.emptyTq with armed := [Tests.oneOp 0x70], armOp := some 0 } State.reset), 3, 0, Tests.opOf 1 (Tests.oneOp 0x71) .admitted, by decide +kernel⟩

theorem witness_TriggerQueues_4 : ∃ (s : State) (op : Nat) (o : Op), s.runnable op [0x72] = some o ∧ s.op? op = some o ∧ o.issued = false ∧ o.progress = 0 ∧ s.tqOwned (dfld o.desc 0x18 16 12) o.fn = true ∧ s.tqState (dfld o.desc 0x18 16 12) = 1 :=
  ⟨Tests.addOp (Tests.descOf 0x72 [(0x18, 0x30000)]) (Tests.tqIn 1 { Tests.emptyTq with armed := [Tests.oneOp 0x70], pending := [Tests.nopTrigger] } State.reset), 0, Tests.opOf 1 (Tests.descOf 0x72 [(0x18, 0x30000)]) .admitted, by decide +kernel⟩

theorem witness_TriggerQueues_5 : ∃ (s : State) (op : Nat) (o : Op), s.runnable op [0x72] = some o ∧ s.op? op = some o ∧ o.issued = false ∧ o.progress = 0 ∧ s.tqOwned (dfld o.desc 0x18 16 12) o.fn = true ∧ s.tqState (dfld o.desc 0x18 16 12) = 0 :=
  ⟨Tests.addOp (Tests.descOf 0x72 [(0x18, 0x30000)]) (Tests.tqIn 0 Tests.emptyTq State.reset), 0, Tests.opOf 1 (Tests.descOf 0x72 [(0x18, 0x30000)]) .admitted, by decide +kernel⟩

theorem witness_TriggerQueues_6 : ∃ (s : State) (q i n : Nat) (o : Op), q < 4096 ∧ s.tqState q = 2 ∧ s.runsLeft q = false ∧ (s.tq q).disarms = [(i, n)] ∧ s.op? i = some o ∧ o.issued = false :=
  ⟨Tests.addOp (Tests.oneOp 0x72) (Tests.tqIn 2 { Tests.emptyTq with disarms := [(0, 4)] } State.reset), 3, 0, 4, Tests.opOf 1 (Tests.oneOp 0x72) .admitted, by decide +kernel⟩

theorem witness_TriggerQueues_7 : ∃ (s : State) (q : Nat), s.tqState q = 2 ∧ s.runsLeft q = true :=
  ⟨(Tests.tqIn 2 Tests.emptyTq State.reset).putQueue (.tq 3) (Tests.waitQueue [⟨0, 3, Tests.oneOp 0x70, false⟩] none), 3, by decide +kernel⟩

theorem witness_TriggerQueues_8 : ∃ (s : State) (q : Nat) (x : Trigger) (r : List Trigger) (d : Desc), q < 4096 ∧ (s.tq q).pending = x :: r ∧ x.chain = [d] ∧ x.patches = [] ∧ (dFirst d && dLast d) = true ∧ dPhase d = 0 ∧ (isContext d || ydtTransfer d) = false ∧ (s.queue (.tq q)).cache = [] ∧ (s.queue (.tq q)).chain = none ∧ (s.queue (.tq q)).discarding = false ∧ s.ops = [] ∧ s.fnCtrl x.fn 0 = false ∧ s.resetting x.fn = false ∧ s.idleState = 0 ∧ x.fn < 64 :=
  ⟨Tests.tqIn 1 { Tests.emptyTq with armed := [Tests.oneOp 0x70], pending := [Tests.nopTrigger], fn := 1, cq := 2 } State.reset, 3, Tests.nopTrigger, [], Tests.oneOp 0x70, by decide +kernel⟩

theorem witness_TriggerQueues_9 : ∃ (s : State) (q : Nat) (v : Word), q < 4096 ∧ s.tqState q = 0 ∧ s.getB (R.CTX_TQ_OWNER q) 31 = false ∧ bit v 31 = true :=
  ⟨Tests.withRegs [(R.CTX_TQ_SENDS 3, 9)], 3, 0x80000005, by decide +kernel⟩

theorem witness_TriggerQueues_10 : ∃ (s : State) (q : Nat) (v : Word), s.tqState q ≠ 0 :=
  ⟨Tests.tqIn 1 Tests.emptyTq State.reset, 3, 0x80000005, by decide +kernel⟩

/-! Witnesses of MemorySystem. -/

theorem witness_MemorySystem_1 : ∃ (s : State) (hv : HostView), s.getF R.MEM00_SCRUB_CTRL 0 8 ≠ 0 ∧ s.idle.selfRefresh = false ∧ s.msys.scrubPos + 1 < scrubBursts ∧ hv.ce = [] ∧ hv.ue = [] :=
  ⟨State.reset, Tests.noHost, by decide +kernel⟩

theorem witness_MemorySystem_2 : ∃ (s : State) (hv : HostView) (b : Nat), s.getF R.MEM00_SCRUB_CTRL 0 8 ≠ 0 ∧ s.idle.selfRefresh = false ∧ s.msys.scrubPos + 1 < scrubBursts ∧ b ∈ scrubAt s.msys.scrubPos ∧ hv.ue = [b] ∧ s.poisoned b = false ∧ s.chanState (chanOf (64 * b)) ≠ 5 :=
  ⟨State.reset, { Tests.noHost with ue := [0] }, 0, by decide +kernel⟩

theorem witness_MemorySystem_3 : ∃ (s : State) (hv : HostView), s.getF R.MEM00_SCRUB_CTRL 0 8 ≠ 0 ∧ s.idle.selfRefresh = false ∧ s.msys.scrubPos + 1 = scrubBursts ∧ hv.ce = [] ∧ hv.ue = [] :=
  ⟨{ State.reset with msys := { MemSys.reset with scrubPos := scrubBursts - 1 } }, Tests.noHost, by decide +kernel⟩

theorem witness_MemorySystem_4 : ∃ (s : State), s.idleState = 2 ∧ s.getF R.MEM00_SCRUB_CTRL 8 8 ≠ 0 ∧ s.coreUp 4 = true ∧ s.entering = false ∧ s.exiting = false :=
  ⟨Tests.withRegs [(R.GLB_IDLE_STATUS, 2), (R.MEM00_SCRUB_CTRL, 0x0101)], by decide +kernel⟩

theorem witness_MemorySystem_5 : ∃ (s : State) (c n : Nat), c < 80 ∧ s.chanState c = 2 :=
  ⟨Tests.withRegs [(R.MEM_CHAN_STATE 1, 0x2222)], 5, 3, by decide +kernel⟩

theorem witness_MemorySystem_6 : ∃ (s : State) (c : Nat), c < 80 ∧ s.chanState c = 2 ∧ s.msys.retraining = none ∧ s.msys.retrainDue = [] :=
  ⟨Tests.withRegs [(R.MEM_CHAN_STATE 1, 0x2222)], 5, by decide +kernel⟩

theorem witness_MemorySystem_7 : ∃ (s : State) (c d : Nat), c < 80 ∧ s.chanState c = 2 ∧ s.msys.retraining = some d ∧ s.msys.retrainDue = [] :=
  ⟨{ (Tests.withRegs [(R.MEM_CHAN_STATE 1, 0x2242)]) with msys := { MemSys.reset with retraining := some 5 } }, 4, 5, by decide +kernel⟩

theorem witness_MemorySystem_8 : ∃ (s : State) (nn c : Nat) (v : Word), nn < 20 ∧ c < 4 ∧ fld v 0 4 = 2 ^ c ∧ s.chanState (4 * nn + c) = 2 ∧ s.msys.retraining = none ∧ s.msys.retrainDue = [] :=
  ⟨Tests.withRegs [(R.MEM_CHAN_STATE 1, 0x2222)], 1, 2, 4, by decide +kernel⟩

theorem witness_MemorySystem_9 : ∃ (s : State) (c us : Nat), c < 80 ∧ s.msys.retraining = some c ∧ s.chanState c = 4 ∧ s.msys.retrainDue = [] :=
  ⟨{ (Tests.withRegs [(R.MEM_CHAN_STATE 1, 0x2242)]) with msys := { MemSys.reset with retraining := some 5 } }, 5, 400, by decide +kernel⟩

theorem witness_MemorySystem_10 : ∃ (s : State) (c us : Nat), c < 80 ∧ s.msys.retraining = some c ∧ s.chanState c = 4 ∧ s.msys.retrainDue = [] :=
  ⟨{ (Tests.withRegs [(R.MEM_CHAN_STATE 1, 0x2242)]) with msys := { MemSys.reset with retraining := some 5 } }, 5, 400, by decide +kernel⟩

theorem witness_MemorySystem_11 : ∃ (s : State) (nn x : Nat), nn < 20 ∧ x ≤ 85 ∧ s.idle.selfRefresh = false ∧ (s.msys.trainedAt.look nn).getD x < x + 20 ∧ x < (s.msys.trainedAt.look nn).getD x + 20 :=
  ⟨State.reset, 3, 60, by decide +kernel⟩

theorem witness_MemorySystem_12 : ∃ (s : State) (nn x : Nat), nn < 20 ∧ x ≤ 85 ∧ s.idle.selfRefresh = false ∧ (s.msys.trainedAt.look nn).getD x + 20 ≤ x ∧ (∀ c ∈ List.range 4, s.chanState (4 * nn + c) = 2) ∧ s.msys.retrainDue = [] ∧ s.msys.retraining = some 79 :=
  ⟨{ (Tests.withRegs [(R.MEM_CHAN_STATE 1, 0x2222)]) with msys := { MemSys.reset with retraining := some 79, trainedAt := [(1, 40)] } }, 1, 60, by decide +kernel⟩

theorem witness_MemorySystem_13 : ∃ (s : State) (nn x : Nat), nn < 20 ∧ 85 < x ∧ x < 256 ∧ s.idle.selfRefresh = false ∧ s.getB (R.MEM_TEMP nn) 8 = false :=
  ⟨State.reset, 3, 90, by decide +kernel⟩

theorem witness_MemorySystem_14 : ∃ (s : State) (nn x : Nat), nn < 20 ∧ x ≤ 85 :=
  ⟨Tests.withRegs [(R.MEM_TEMP 3, 0x15A)], 3, 60, by decide +kernel⟩

theorem witness_MemorySystem_15 : ∃ (s : State) (ch c n : Nat), ch < 80 ∧ c < 7 :=
  ⟨State.reset, 5, 6, 64, by decide +kernel⟩

theorem witness_MemorySystem_16 : ∃ (s : State) (ch c d n : Nat), ch < 80 ∧ d < 7 ∧ s.arbWeight d ≠ 0 ∧ n ≤ s.arbDeficit ch d + s.arbQuantum ch d :=
  ⟨State.reset, 5, 6, 0, 64, by decide +kernel⟩

theorem witness_MemorySystem_18 : ∃ (s : State) (op : Nat) (o : Op) (hv : HostView) (p : Nat), s.runnable op [0x01] = some o ∧ s.op? op = some o ∧ o.issued = false ∧ dWord o.desc 0x20 = 64 ∧ dQuad o.desc 0x10 % 64 = 0 ∧ farAddr (dQuad o.desc 0x18) = false ∧ s.access hv o.fn (dQuad o.desc 0x10) false = .dev p ∧ s.poisoned (p / 64) = true ∧ s.slotOf op = none :=
  ⟨{ (Tests.memOp (Tests.descOf 1 [(0x10, 0x2000000), (0x18, 0x2000100), (0x20, 64)]) []) with msys := { MemSys.reset with poison := [(0, ())] } }, 0, Tests.opOf 1 (Tests.descOf 1 [(0x10, 0x2000000), (0x18, 0x2000100), (0x20, 64)]) .admitted, Tests.noHost, 0, by decide +kernel⟩

/-! Witnesses of TransferStarts. -/

theorem witness_TransferStarts_1 : ∃ (s : State) (op : Nat) (o : Op) (hv : HostView) (p : Nat), s.runnable op [0x02] = some o ∧ s.op? op = some o ∧ o.issued = false ∧ ydtTransfer o.desc = true ∧ s.slotOf op = none ∧ (moveOf o.desc).bad = none ∧ s.getF (R.TRN_FN_YDT_OPS o.fn) 0 16 ≠ 0 ∧ s.unreachable o.fn ((moveOf o.desc).peer / 64) = false ∧ s.encrypts o.fn = false ∧ s.ydt.xfers.length < 32768 ∧ s.orderedWaits op o (moveOf o.desc) = false ∧ 0 < (moveOf o.desc).len ∧ DevRange s hv o.fn (moveOf o.desc).va p (moveOf o.desc).len false :=
  ⟨Tests.addOp (Tests.descOf 0x02 [(0x10, 0x2000000), (0x18, 64), (0x20, 4), (0x24, 0x90400), (0x2C, 1)]) (Tests.ydtReady), 0, Tests.opOf 1 (Tests.descOf 0x02 [(0x10, 0x2000000), (0x18, 64), (0x20, 4), (0x24, 0x90400), (0x2C, 1)]) .admitted, Tests.noHost, 0, by decide +kernel⟩

theorem witness_TransferStarts_2 : ∃ (s : State) (op : Nat) (o : Op) (hv : HostView), s.runnable op [0x02] = some o ∧ s.op? op = some o ∧ o.issued = false ∧ ydtTransfer o.desc = true ∧ s.slotOf op = none ∧ (moveOf o.desc).bad = none ∧ s.getF (R.TRN_FN_YDT_OPS o.fn) 0 16 ≠ 0 ∧ 0 < (moveOf o.desc).len ∧ s.unreachable o.fn ((moveOf o.desc).peer / 64) = true :=
  ⟨Tests.addOp (Tests.descOf 0x02 [(0x10, 0x2000000), (0x18, 64), (0x20, 4), (0x24, 0x90400), (0x2C, 641)]) (Tests.ydtReady), 0, Tests.opOf 1 (Tests.descOf 0x02 [(0x10, 0x2000000), (0x18, 64), (0x20, 4), (0x24, 0x90400), (0x2C, 641)]) .admitted, Tests.noHost, by decide +kernel⟩

theorem witness_TransferStarts_3 : ∃ (s : State) (op : Nat) (o : Op) (hv : HostView) (p : Nat), s.runnable op [0x03] = some o ∧ s.op? op = some o ∧ o.issued = false ∧ ydtTransfer o.desc = true ∧ s.slotOf op = none ∧ (moveOf o.desc).bad = none ∧ s.getF (R.TRN_FN_YDT_OPS o.fn) 0 16 ≠ 0 ∧ s.unreachable o.fn ((moveOf o.desc).peer / 64) = false ∧ s.encrypts o.fn = false ∧ s.ydt.xfers.length < 32768 ∧ s.orderedWaits op o (moveOf o.desc) = false ∧ 0 < (moveOf o.desc).len ∧ DevRange s hv o.fn (moveOf o.desc).va p (moveOf o.desc).len false :=
  ⟨Tests.addOp (Tests.descOf 0x03 [(0x10, 0x2000000), (0x18, 4), (0x1C, 1), (0x20, 3)]) (Tests.ydtReady), 0, Tests.opOf 1 (Tests.descOf 0x03 [(0x10, 0x2000000), (0x18, 4), (0x1C, 1), (0x20, 3)]) .admitted, Tests.noHost, 0, by decide +kernel⟩

theorem witness_TransferStarts_4 : ∃ (s : State) (op : Nat) (o : Op) (hv : HostView), s.runnable op [0x03] = some o ∧ s.op? op = some o ∧ o.issued = false ∧ ydtTransfer o.desc = true ∧ s.slotOf op = none ∧ (moveOf o.desc).bad = none ∧ s.getF (R.TRN_FN_YDT_OPS o.fn) 0 16 ≠ 0 ∧ 0 < (moveOf o.desc).len ∧ s.unreachable o.fn ((moveOf o.desc).peer / 64) = true :=
  ⟨Tests.addOp (Tests.descOf 0x03 [(0x10, 0x2000000), (0x18, 4), (0x1C, 641), (0x20, 3)]) (Tests.ydtReady), 0, Tests.opOf 1 (Tests.descOf 0x03 [(0x10, 0x2000000), (0x18, 4), (0x1C, 641), (0x20, 3)]) .admitted, Tests.noHost, by decide +kernel⟩

theorem witness_TransferStarts_5 : ∃ (s : State) (op : Nat) (o : Op) (hv : HostView), s.runnable op [0x04] = some o ∧ s.op? op = some o ∧ o.issued = false ∧ ydtTransfer o.desc = true ∧ s.slotOf op = none ∧ (moveOf o.desc).bad = none ∧ s.getF (R.TRN_FN_YDT_OPS o.fn) 0 16 ≠ 0 ∧ s.unreachable o.fn ((moveOf o.desc).peer / 64) = false ∧ s.encrypts o.fn = false ∧ s.ydt.xfers.length < 32768 ∧ s.orderedWaits op o (moveOf o.desc) = false ∧ 0 < (moveOf o.desc).len :=
  ⟨Tests.addOp (Tests.descOf 0x04 [(0x10, 0x2000000), (0x18, 64), (0x20, 9000), (0x24, 0x90400), (0x2C, 1)]) (Tests.ydtReady), 0, Tests.opOf 1 (Tests.descOf 0x04 [(0x10, 0x2000000), (0x18, 64), (0x20, 9000), (0x24, 0x90400), (0x2C, 1)]) .admitted, Tests.noHost, by decide +kernel⟩

theorem witness_TransferStarts_6 : ∃ (s : State) (op : Nat) (o : Op) (hv : HostView), s.runnable op [0x02] = some o ∧ s.op? op = some o ∧ o.issued = false ∧ ydtTransfer o.desc = true ∧ s.slotOf op = none ∧ (moveOf o.desc).bad = none ∧ s.getF (R.TRN_FN_YDT_OPS o.fn) 0 16 ≠ 0 ∧ (moveOf o.desc).len = 0 ∧ s.zeroWaits op o (moveOf o.desc) = false :=
  ⟨Tests.addOp (Tests.descOf 0x02 [(0x2C, 1)]) (Tests.ydtReady), 0, Tests.opOf 1 (Tests.descOf 0x02 [(0x2C, 1)]) .admitted, Tests.noHost, by decide +kernel⟩

theorem witness_TransferStarts_7 : ∃ (s : State) (op : Nat) (o : Op) (hv : HostView), s.runnable op [0x02] = some o ∧ s.op? op = some o ∧ o.issued = false ∧ ydtTransfer o.desc = true ∧ s.slotOf op = none ∧ (moveOf o.desc).bad = none ∧ s.getF (R.TRN_FN_YDT_OPS o.fn) 0 16 = 0 :=
  ⟨Tests.addOp (Tests.descOf 0x02 [(0x2C, 1), (0x20, 4)]) (Tests.withRegs [(R.TRN_FN_YDT_OPS 1, 0)]), 0, Tests.opOf 1 (Tests.descOf 0x02 [(0x2C, 1), (0x20, 4)]) .admitted, Tests.noHost, by decide +kernel⟩

theorem witness_TransferStarts_8 : ∃ (s : State) (op : Nat) (o : Op) (hv : HostView), s.runnable op [0x04] = some o ∧ s.op? op = some o ∧ o.issued = false ∧ ydtTransfer o.desc = true ∧ s.slotOf op = none ∧ (moveOf o.desc).bad = none ∧ s.getF (R.TRN_FN_YDT_OPS o.fn) 0 16 ≠ 0 ∧ (moveOf o.desc).len = 0 ∧ s.zeroWaits op o (moveOf o.desc) = false :=
  ⟨Tests.addOp (Tests.descOf 0x04 [(0x2C, 1)]) (Tests.ydtReady), 0, Tests.opOf 1 (Tests.descOf 0x04 [(0x2C, 1)]) .admitted, Tests.noHost, by decide +kernel⟩

theorem witness_TransferStarts_9 : ∃ (s : State) (op : Nat) (o : Op) (hv : HostView), s.runnable op [0x04] = some o ∧ s.op? op = some o ∧ o.issued = false ∧ ydtTransfer o.desc = true ∧ s.slotOf op = none ∧ (moveOf o.desc).bad = none ∧ s.getF (R.TRN_FN_YDT_OPS o.fn) 0 16 = 0 :=
  ⟨Tests.addOp (Tests.descOf 0x04 [(0x2C, 1), (0x20, 4)]) (Tests.withRegs [(R.TRN_FN_YDT_OPS 1, 0)]), 0, Tests.opOf 1 (Tests.descOf 0x04 [(0x2C, 1), (0x20, 4)]) .admitted, Tests.noHost, by decide +kernel⟩

theorem witness_TransferStarts_10 : ∃ (s : State) (i j : Nat) (hv : HostView) (x : Xfer) (o : Op) (p : Nat), s.ydt.xfers.look i = some x ∧ x.owner = .op j ∧ s.op? j = some o ∧ x.started = false ∧ s.orderedWaits j o (moveOf o.desc) = false ∧ x.len ≤ 4096 ∧ 0 < x.len ∧ x.kind = tySend ∧ x.data = none ∧ x.holding = none ∧ s.encrypts x.fn = false ∧ DevRange s hv x.fn x.va p x.len false :=
  ⟨Tests.inSlot { Tests.slotFor 3 4 (.op 0) with started := false, ordered := true } (Tests.running 3 Tests.ydtReady), 7, 0, Tests.noHost, { Tests.slotFor 3 4 (.op 0) with started := false, ordered := true }, Tests.opOf 1 (Tests.oneOp 3) .running, 0, by decide +kernel⟩

/-! Witnesses of WindowsAndBuffers. -/

theorem witness_WindowsAndBuffers_1 : ∃ (s : State) (op : Nat) (o : Op), s.runnable op [0x05] = some o ∧ s.op? op = some o ∧ o.issued = false ∧ dQuad o.desc 0x18 ≤ 2 ^ 48 ∧ dQuad o.desc 0x10 + dQuad o.desc 0x18 ≤ 2 ^ 57 ∧ dQuad o.desc 0x10 < 2 ^ 57 ∧ dfld o.desc 0x20 0 16 / 1024 = o.fn ∧ s.parityWindow o.fn (dfld o.desc 0x20 0 16) = false ∧ (s.ydt.windows.has (dfld o.desc 0x20 0 16) = false ∨ dfld o.desc 0x24 18 1 = 1) :=
  ⟨Tests.addOp (Tests.descOf 0x05 [(0x10, 0x2000000), (0x18, 64), (0x20, 0x90401), (0x24, 0x30002)]) (Tests.ydtReady), 0, Tests.opOf 1 (Tests.descOf 0x05 [(0x10, 0x2000000), (0x18, 64), (0x20, 0x90401), (0x24, 0x30002)]) .admitted, by decide +kernel⟩

theorem witness_WindowsAndBuffers_2 : ∃ (s : State) (op : Nat) (o : Op), s.runnable op [0x05] = some o ∧ s.op? op = some o ∧ o.issued = false ∧ dQuad o.desc 0x18 ≤ 2 ^ 48 ∧ dQuad o.desc 0x10 + dQuad o.desc 0x18 ≤ 2 ^ 57 ∧ dQuad o.desc 0x10 < 2 ^ 57 ∧ dfld o.desc 0x20 0 16 / 1024 ≠ o.fn :=
  ⟨Tests.addOp (Tests.descOf 0x05 [(0x10, 0x2000000), (0x18, 64), (0x20, 0x90801)]) (Tests.ydtReady), 0, Tests.opOf 1 (Tests.descOf 0x05 [(0x10, 0x2000000), (0x18, 64), (0x20, 0x90801)]) .admitted, by decide +kernel⟩

theorem witness_WindowsAndBuffers_3 : ∃ (s : State) (op : Nat) (o : Op), s.runnable op [0x06] = some o ∧ s.op? op = some o ∧ o.issued = false ∧ dfld o.desc 0x10 0 16 / 1024 = o.fn ∧ s.parityWindow o.fn (dfld o.desc 0x10 0 16) = false :=
  ⟨Tests.addOp (Tests.descOf 0x06 [(0x10, 1024)]) (Tests.ydtReady), 0, Tests.opOf 1 (Tests.descOf 0x06 [(0x10, 1024)]) .admitted, by decide +kernel⟩

theorem witness_WindowsAndBuffers_4 : ∃ (s : State) (op : Nat) (o : Op), s.runnable op [0x07] = some o ∧ s.op? op = some o ∧ o.issued = false ∧ dfld o.desc 0x1C 31 1 = 0 ∧ o.progress = 0 ∧ farAddr (dQuad o.desc 0x10) = false ∧ dfld o.desc 0x18 0 25 ≤ 16777216 ∧ dfld o.desc 0x1C 0 16 ≤ 4095 ∧ s.getB (R.YDT_RQ_OWNER (dfld o.desc 0x1C 0 16)) 31 = true ∧ s.getF (R.YDT_RQ_OWNER (dfld o.desc 0x1C 0 16)) 0 6 = o.fn ∧ ((s.ydt.posts.look (dfld o.desc 0x1C 0 16)).getD []).length < 1024 :=
  ⟨Tests.addOp (Tests.descOf 0x07 [(0x10, 0x2000000), (0x18, 64), (0x1C, 3)]) (Tests.ydtReady), 0, Tests.opOf 1 (Tests.descOf 0x07 [(0x10, 0x2000000), (0x18, 64), (0x1C, 3)]) .admitted, by decide +kernel⟩

theorem witness_WindowsAndBuffers_5 : ∃ (s : State) (op : Nat) (o : Op), s.runnable op [0x07] = some o ∧ s.op? op = some o ∧ o.issued = false ∧ dfld o.desc 0x1C 31 1 = 0 ∧ o.progress = 0 ∧ farAddr (dQuad o.desc 0x10) = false ∧ dfld o.desc 0x18 0 25 ≤ 16777216 ∧ dfld o.desc 0x1C 0 16 ≤ 4095 ∧ s.getF (R.YDT_RQ_OWNER (dfld o.desc 0x1C 0 16)) 0 6 ≠ o.fn :=
  ⟨Tests.addOp (Tests.descOf 0x07 [(0x10, 0x2000000), (0x18, 64), (0x1C, 4)]) (Tests.ydtReady), 0, Tests.opOf 1 (Tests.descOf 0x07 [(0x10, 0x2000000), (0x18, 64), (0x1C, 4)]) .admitted, by decide +kernel⟩

/-! Witnesses of PacketsReceived. -/

theorem witness_PacketsReceived_1 : ∃ (s : State) (x : Rx) (hv : HostView) (va q : Nat), Oldest s tyWrite anyPkt x ∧ x.pkt.shaped = true ∧ single x.pkt = true ∧ s.parityWindow x.pkt.dstFn (x.pkt.window % 65536) = false ∧ (s.without x).windowCheck x.pkt true x.pkt.payload.length = .ok va ∧ DevRange (s.without x) hv x.pkt.dstFn va q x.pkt.payload.length true ∧ hv.ce = [] :=
  ⟨Tests.arrived (Tests.pktOf 0 true 7 3 0 0x90400 [65] [1, 2, 3]), Tests.rxOf (Tests.pktOf 0 true 7 3 0 0x90400 [65] [1, 2, 3]), Tests.noHost, 0x2000041, 65, by decide +kernel⟩

theorem witness_PacketsReceived_2 : ∃ (s : State) (x : Rx) (hv : HostView) (r : Nat) (k : Bool), Oldest s tyWrite anyPkt x ∧ x.pkt.shaped = true ∧ s.parityWindow x.pkt.dstFn (x.pkt.window % 65536) = false ∧ (s.without x).windowCheck x.pkt true x.pkt.payload.length = .nak r k :=
  ⟨Tests.arrived (Tests.pktOf 0 true 7 3 0 0x80400 [65] [1, 2, 3]), Tests.rxOf (Tests.pktOf 0 true 7 3 0 0x80400 [65] [1, 2, 3]), Tests.noHost, 3, true, by decide +kernel⟩

theorem witness_PacketsReceived_3 : ∃ (s : State) (x : Rx) (hv : HostView), Oldest s tyWrite anyPkt x ∧ x.pkt.shaped = true ∧ s.parityWindow x.pkt.dstFn (x.pkt.window % 65536) = false ∧ (s.without x).windowCheck x.pkt true x.pkt.payload.length = .stale :=
  ⟨let s := Tests.arrived (Tests.pktOf 0 true 7 3 0 0x90400 [65] [1, 2, 3]); { s with ydt := { s.ydt with windows := [(1024, ⟨0x2000000, 4096, 9, 4, true, true⟩)] } }, Tests.rxOf (Tests.pktOf 0 true 7 3 0 0x90400 [65] [1, 2, 3]), Tests.noHost, by decide +kernel⟩

theorem witness_PacketsReceived_4 : ∃ (s : State) (x : Rx) (hv : HostView) (va : Nat), Oldest s tyReadReq anyPkt x ∧ 1 ≤ x.pkt.count ∧ x.pkt.count ≤ 4096 ∧ x.pkt.msgLen ≤ 16777216 ∧ x.pkt.idx + x.pkt.count ≤ packetsOf x.pkt.msgLen ∧ s.parityWindow x.pkt.dstFn (x.pkt.window % 65536) = false ∧ (s.without x).windowCheck x.pkt false x.pkt.asked = .ok va ∧ (s.without x).rangeFail hv x.pkt.dstFn va x.pkt.asked false = none ∧ s.ydt.responders.length < 1024 :=
  ⟨Tests.arrived (Tests.pktOf 1 true 7 9 0 0x90400 [64, 4294967296] []), Tests.rxOf (Tests.pktOf 1 true 7 9 0 0x90400 [64, 4294967296] []), Tests.noHost, 0x2000040, by decide +kernel⟩

theorem witness_PacketsReceived_5 : ∃ (s : State) (i : Nat) (hv : HostView) (r : Responder) (va q : Nat), s.ydt.responders.look i = some r ∧ r.src = .mem va ∧ r.req.srcDev = s.devId ∧ s.encrypts r.req.dstFn = false ∧ r.idx = r.req.idx ∧ DevRange s hv r.req.dstFn va q (min 4096 (r.req.msgLen - 4096 * r.idx)) false :=
  ⟨let s := Tests.ydtReady; { s with mem := [(65, 8)], ydt := { s.ydt with responders := [(4, ⟨Tests.pktOf 1 true 7 9 0 0x90400 [64, 4294967296] [], .mem 0x2000040, 0, 1⟩)] } }, 4, Tests.noHost, ⟨Tests.pktOf 1 true 7 9 0 0x90400 [64, 4294967296] [], .mem 0x2000040, 0, 1⟩, 0x2000040, 0x40, by decide +kernel⟩

theorem witness_PacketsReceived_6 : ∃ (s : State) (x : Rx) (hv : HostView) (i j : Nat) (f : Xfer) (o : Op) (q : Nat), Oldest s tyReadResp anyPkt x ∧ s.xferOf x.pkt.opid = some (i, f) ∧ f.owner = .op j ∧ s.op? j = some o ∧ o.issued = false ∧ s.ydt.xfers.find? (fun e => e.2.owner = .op j) = some (i, f) ∧ f.kind = tyReadReq ∧ f.dev = x.pkt.srcDev ∧ f.fn = x.pkt.dstFn ∧ f.holding = none ∧ f.lastRetrans = none ∧ f.stale = false ∧ f.len ≤ 4096 ∧ x.pkt.idx = 0 ∧ f.acked = [] ∧ f.got = [] ∧ x.pkt.payload.length = f.len ∧ s.par.unsent = [] ∧ DevRange (s.without x) hv f.fn f.va q f.len true ∧ hv.ce = [] :=
  ⟨Tests.waiting (Tests.pktOf 2 true 7 3 0 0 [] [5, 6, 7]) (Tests.inSlot (Tests.slotFor 1 3 (.op 0)) (Tests.running 4 Tests.ydtReady)), Tests.rxOf (Tests.pktOf 2 true 7 3 0 0 [] [5, 6, 7]), Tests.noHost, 7, 0, Tests.slotFor 1 3 (.op 0), Tests.opOf 1 (Tests.oneOp 4) .running, 0, by decide +kernel⟩

theorem witness_PacketsReceived_7 : ∃ (s : State) (x : Rx) (hv : HostView) (i : Nat) (l : List Nat) (o : Op) (q : Nat), Oldest s tySend anyPkt x ∧ x.pkt.shaped = true ∧ single x.pkt = true ∧ bitOf x.pkt.window 16 = false ∧ s.recorded x.pkt = false ∧ s.recordsFull = false ∧ x.pkt.window % 65536 < 4096 ∧ s.getB (R.YDT_RQ_OWNER (x.pkt.window % 65536)) 31 = true ∧ s.getF (R.YDT_RQ_OWNER (x.pkt.window % 65536)) 0 6 = x.pkt.dstFn ∧ s.ydt.posts.look (x.pkt.window % 65536) = some (i :: l) ∧ s.op? i = some o ∧ o.issued = false ∧ x.pkt.payload.length ≤ dfld o.desc 0x18 0 25 ∧ s.slotOf i = none ∧ DevRange (s.without x) hv o.fn (dQuad o.desc 0x10) q x.pkt.payload.length true ∧ hv.ce = [] :=
  ⟨let s := Tests.waiting (Tests.pktOf 3 true 7 3 0 3 [] [5, 6, 7]) (Tests.addOp (Tests.descOf 7 [(0x10, 0x2000080), (0x18, 64), (0x1C, 3)]) Tests.ydtReady); { s with ydt := { s.ydt with posts := [(3, [0])] } }, Tests.rxOf (Tests.pktOf 3 true 7 3 0 3 [] [5, 6, 7]), Tests.noHost, 0, [], Tests.opOf 1 (Tests.descOf 7 [(0x10, 0x2000080), (0x18, 64), (0x1C, 3)]) .admitted, 0x80, by decide +kernel⟩

theorem witness_PacketsReceived_8 : ∃ (s : State) (x : Rx) (hv : HostView), Oldest s tySend anyPkt x ∧ x.pkt.shaped = true ∧ bitOf x.pkt.window 16 = false ∧ s.recorded x.pkt = true :=
  ⟨let s := Tests.arrived (Tests.pktOf 3 true 7 3 0 3 [] [5, 6, 7]); { s with ydt := { s.ydt with records := [(0, 1, 7, 0)] } }, Tests.rxOf (Tests.pktOf 3 true 7 3 0 3 [] [5, 6, 7]), Tests.noHost, by decide +kernel⟩

theorem witness_PacketsReceived_9 : ∃ (s : State) (x : Rx), Oldest s tyProbe anyPkt x ∧ x.pkt.srcDev = s.devId :=
  ⟨Tests.arrived (Tests.pktOf 7 true 99 0 0 0 [] []), Tests.rxOf (Tests.pktOf 7 true 99 0 0 0 [] []), by decide +kernel⟩

/-! Witnesses of AnswersReceived. -/

theorem witness_AnswersReceived_1 : ∃ (s : State) (x : Rx) (hv : HostView) (i j : Nat) (f : Xfer) (o : Op), Oldest s tyAck anyPkt x ∧ s.probedPath x.pkt = none ∧ s.xferOf x.pkt.opid = some (i, f) ∧ f.owner = .op j ∧ s.op? j = some o ∧ o.issued = false ∧ s.ydt.xfers.find? (fun e => e.2.owner = .op j) = some (i, f) ∧ s.par.unsent = [] ∧ f.kind = tyWrite ∧ f.dev = x.pkt.srcDev ∧ f.fn = x.pkt.dstFn ∧ f.holding = none ∧ f.lastRetrans = none ∧ f.stale = false ∧ f.len ≤ 4096 ∧ f.acked = [] ∧ bitOf (x.pkt.extWord 0) 0 = true ∧ bitOf (x.pkt.extWord 0) 2 = false :=
  ⟨Tests.waiting (Tests.pktOf 4 true 7 0 0 0 [1, 1] []) (Tests.inSlot (Tests.slotFor 0 3 (.op 0)) (Tests.running 2 Tests.ydtReady)), Tests.rxOf (Tests.pktOf 4 true 7 0 0 0 [1, 1] []), Tests.noHost, 7, 0, Tests.slotFor 0 3 (.op 0), Tests.opOf 1 (Tests.oneOp 2) .running, by decide +kernel⟩

theorem witness_AnswersReceived_2 : ∃ (s : State) (x : Rx) (hv : HostView) (i j : Nat) (f : Xfer) (o : Op), Oldest s tyAck anyPkt x ∧ s.probedPath x.pkt = none ∧ s.xferOf x.pkt.opid = some (i, f) ∧ f.owner = .op j ∧ s.op? j = some o ∧ o.issued = false ∧ s.ydt.xfers.find? (fun e => e.2.owner = .op j) = some (i, f) ∧ s.par.unsent = [] ∧ f.kind = tyWrite ∧ f.dev = x.pkt.srcDev ∧ f.fn = x.pkt.dstFn ∧ f.holding = none ∧ f.lastRetrans = none ∧ f.len ≤ 4096 ∧ f.acked = [] ∧ bitOf (x.pkt.extWord 0) 0 = true ∧ bitOf (x.pkt.extWord 0) 2 = true :=
  ⟨Tests.waiting (Tests.pktOf 4 true 7 0 0 0 [5, 1] []) (Tests.inSlot (Tests.slotFor 0 3 (.op 0)) (Tests.running 2 Tests.ydtReady)), Tests.rxOf (Tests.pktOf 4 true 7 0 0 0 [5, 1] []), Tests.noHost, 7, 0, Tests.slotFor 0 3 (.op 0), Tests.opOf 1 (Tests.oneOp 2) .running, by decide +kernel⟩

theorem witness_AnswersReceived_3 : ∃ (s : State) (x : Rx) (w : Bool) (i j : Nat) (f : Xfer) (o : Op), Oldest s tyNak anyPkt x ∧ s.xferOf x.pkt.opid = some (i, f) ∧ f.owner = .op j ∧ s.op? j = some o ∧ o.issued = false ∧ s.ydt.xfers.find? (fun e => e.2.owner = .op j) = some (i, f) ∧ s.par.unsent = [] ∧ f.dev = x.pkt.srcDev ∧ f.fn = x.pkt.dstFn ∧ f.holding = none ∧ f.lastRetrans = none ∧ bitsOf (x.pkt.extWord 0) 0 8 = 3 :=
  ⟨Tests.waiting (Tests.pktOf 5 true 7 0 0 0 [3] []) (Tests.inSlot (Tests.slotFor 0 3 (.op 0)) (Tests.running 2 Tests.ydtReady)), Tests.rxOf (Tests.pktOf 5 true 7 0 0 0 [3] []), false, 7, 0, Tests.slotFor 0 3 (.op 0), Tests.opOf 1 (Tests.oneOp 2) .running, by decide +kernel⟩

theorem witness_AnswersReceived_4 : ∃ (s : State) (x : Rx) (w : Bool) (i j : Nat) (f : Xfer) (o : Op), Oldest s tyNak anyPkt x ∧ s.xferOf x.pkt.opid = some (i, f) ∧ f.owner = .op j ∧ s.op? j = some o ∧ o.issued = false ∧ s.ydt.xfers.find? (fun e => e.2.owner = .op j) = some (i, f) ∧ s.par.unsent = [] ∧ f.dev = x.pkt.srcDev ∧ f.fn = x.pkt.dstFn ∧ f.holding = none ∧ f.lastRetrans = none ∧ bitsOf (x.pkt.extWord 0) 0 8 = 5 :=
  ⟨Tests.waiting (Tests.pktOf 5 true 7 0 0 0 [5] []) (Tests.inSlot (Tests.slotFor 0 3 (.op 0)) (Tests.running 2 Tests.ydtReady)), Tests.rxOf (Tests.pktOf 5 true 7 0 0 0 [5] []), false, 7, 0, Tests.slotFor 0 3 (.op 0), Tests.opOf 1 (Tests.oneOp 2) .running, by decide +kernel⟩

theorem witness_AnswersReceived_5 : ∃ (s : State) (x : Rx) (w : Bool) (i j : Nat) (f : Xfer) (o : Op), Oldest s tyNak anyPkt x ∧ s.xferOf x.pkt.opid = some (i, f) ∧ f.owner = .op j ∧ s.op? j = some o ∧ o.issued = false ∧ s.ydt.xfers.find? (fun e => e.2.owner = .op j) = some (i, f) ∧ s.par.unsent = [] ∧ f.dev = x.pkt.srcDev ∧ f.fn = x.pkt.dstFn ∧ f.holding = none ∧ f.lastRetrans = none ∧ bitsOf (x.pkt.extWord 0) 0 8 = 6 :=
  ⟨Tests.waiting (Tests.pktOf 5 true 7 0 0 0 [6] []) (Tests.inSlot (Tests.slotFor 0 3 (.op 0)) (Tests.running 2 Tests.ydtReady)), Tests.rxOf (Tests.pktOf 5 true 7 0 0 0 [6] []), false, 7, 0, Tests.slotFor 0 3 (.op 0), Tests.opOf 1 (Tests.oneOp 2) .running, by decide +kernel⟩

theorem witness_AnswersReceived_6 : ∃ (s : State) (x : Rx) (w : Bool) (i j : Nat) (f : Xfer) (o : Op), Oldest s tyNak anyPkt x ∧ s.xferOf x.pkt.opid = some (i, f) ∧ f.dev = x.pkt.srcDev ∧ f.fn = x.pkt.dstFn ∧ f.holding = none ∧ (bitsOf (x.pkt.extWord 0) 0 8 = 1 ∨ bitsOf (x.pkt.extWord 0) 0 8 = 2) ∧ f.nakked = [] :=
  ⟨Tests.waiting (Tests.pktOf 5 true 7 0 0 0 [1] []) (Tests.inSlot (Tests.slotFor 0 3 (.op 0)) (Tests.running 2 Tests.ydtReady)), Tests.rxOf (Tests.pktOf 5 true 7 0 0 0 [1] []), false, 7, 0, Tests.slotFor 0 3 (.op 0), Tests.opOf 1 (Tests.oneOp 2) .running, by decide +kernel⟩

/-! Witnesses of TransferTimers. -/

theorem witness_TransferTimers_1 : ∃ (s : State) (d fn n : Nat) (k : Tracker), s.ydt.trackers.find? (fun y => y.of d fn n) = some k ∧ k.fresh ≠ [] :=
  ⟨{ Tests.ydtReady with ydt := { Tests.ydtReady.ydt with trackers := [Tests.trackerOf [0, 1]] } }, 0, 1, 7, Tests.trackerOf [0, 1], by decide +kernel⟩

theorem witness_TransferTimers_2 : ∃ (s : State) (d fn n : Nat) (k : Tracker), s.ydt.trackers.find? (fun y => y.of d fn n) = some k ∧ k.pkt.dstFn < 64 :=
  ⟨{ Tests.ydtReady with ydt := { Tests.ydtReady.ydt with trackers := [Tests.trackerOf [0]] } }, 0, 1, 7, Tests.trackerOf [0], by decide +kernel⟩

theorem witness_TransferTimers_4 : ∃ (s : State) (hv : HostView) (i j : Nat) (f : Xfer) (o : Op), s.ydt.xfers.look i = some f ∧ f.kind = tyReadReq ∧ f.dev = s.devId ∧ s.encrypts f.fn = false ∧ f.holding = none ∧ f.started = true ∧ f.acked = [] ∧ f.sent ≠ [] ∧ f.attempts + 1 ≤ s.getF R.YDT_TIMER 0 4 :=
  ⟨Tests.inSlot { Tests.slotFor 1 3 (.op 0) with sent := [(0, ⟨0, 0, 0⟩)], timeout := 12000 } (Tests.running 4 Tests.ydtReady), Tests.noHost, 7, 0, { Tests.slotFor 1 3 (.op 0) with sent := [(0, ⟨0, 0, 0⟩)], timeout := 12000 }, Tests.opOf 1 (Tests.oneOp 4) .running, by decide +kernel⟩

theorem witness_TransferTimers_5 : ∃ (s : State) (hv : HostView) (i j : Nat) (f : Xfer) (o : Op), s.ydt.xfers.look i = some f ∧ f.owner = .op j ∧ s.op? j = some o ∧ o.issued = false ∧ s.ydt.xfers.find? (fun e => e.2.owner = .op j) = some (i, f) ∧ s.par.unsent = [] ∧ f.dev = s.devId ∧ f.holding = none ∧ f.started = true ∧ f.acked = [] ∧ f.sent ≠ [] ∧ s.getF R.YDT_TIMER 0 4 < f.attempts + 1 ∧ f.lastRetrans.isSome = true :=
  ⟨Tests.inSlot ({ Tests.slotFor 1 3 (.op 0) with sent := [(0, ⟨0, 0, 0⟩)], attempts := 15, answered := true, lastRetrans := some 1 }) (Tests.running 4 Tests.ydtReady), Tests.noHost, 7, 0, { Tests.slotFor 1 3 (.op 0) with sent := [(0, ⟨0, 0, 0⟩)], attempts := 15, answered := true, lastRetrans := some 1 }, Tests.opOf 1 (Tests.oneOp 4) .running, by decide +kernel⟩

theorem witness_TransferTimers_6 : ∃ (s : State) (st : Nat) (i j : Nat) (f : Xfer) (o : Op), s.ydt.xfers.look i = some f ∧ f.owner = .op j ∧ s.op? j = some o ∧ o.issued = false ∧ s.ydt.xfers.find? (fun e => e.2.owner = .op j) = some (i, f) ∧ s.par.unsent = [] ∧ f.holding = some st :=
  ⟨Tests.inSlot { Tests.slotFor 1 3 (.op 0) with holding := some 0x9 } (Tests.running 4 Tests.ydtReady), 9, 7, 0, { Tests.slotFor 1 3 (.op 0) with holding := some 9 }, Tests.opOf 1 (Tests.oneOp 4) .running, by decide +kernel⟩

theorem witness_TransferTimers_7 : ∃ (s : State) (d n : Nat), n < 4 ∧ (s.pathSt d n).down = true ∧ n ∈ s.pathsTo d ∧ (s.pathOf d n).1 = 1 ∧ s.encrypts 0 = false ∧ d ≠ s.devId :=
  ⟨let s := Tests.routeTo9 State.reset; { s with ydt := { s.ydt with paths := [(36, ⟨true, 2, none⟩)] } }, 9, 0, by decide +kernel⟩

theorem witness_TransferTimers_8 : ∃ (s : State) (d : Nat) (r : Rate), s.ydt.rates = [(d, r)] ∧ r.sentInPeriod = true ∧ s.qpm.qps = [] :=
  ⟨{ (State.reset.wr R.YDT_CC_CTRL 0x00050540).wr R.CTX_TQ_SELECT 0 with ydt := { Ydt.reset with rates := [(9, ⟨(800, 1), (800, 1), (1, 1), 0, 8, 0, none, 0, true, none⟩)] } }, 9, ⟨(800, 1), (800, 1), (1, 1), 0, 8, 0, none, 0, true, none⟩, by decide +kernel⟩

theorem witness_TransferTimers_9 : ∃ (s : State) (d : Nat), s.ydt.rates.has d = true :=
  ⟨{ (State.reset.wr R.YDT_CC_CTRL 0x00050540).wr R.CTX_TQ_SELECT 0 with ydt := { Ydt.reset with rates := [(9, ⟨(800, 1), (800, 1), (1, 1), 0, 8, 0, none, 0, false, none⟩)] } }, 9, by decide +kernel⟩

theorem witness_TransferTimers_10 : ∃ (s : State) (q : Nat) (y : Qp), q < 4096 ∧ s.qpm.qps.look q = some y :=
  ⟨{ State.reset with qpm := { Qpm.reset with qps := [(5, { emptyQp with rate := some ⟨(800, 1), (800, 1), (1, 1), 0, 8, 0, none, 0, false, none⟩ })] } }, 5, { emptyQp with rate := some ⟨(800, 1), (800, 1), (1, 1), 0, 8, 0, none, 0, false, none⟩ }, by decide +kernel⟩

theorem witness_TransferTimers_11 : ∃ (s : State) (d : Nat) (r : Rate), s.ydt.rates.look d = some r ∧ r.floorSince.isSome = true :=
  ⟨{ State.reset with ydt := { Ydt.reset with rates := [(9, ⟨(1, 1), (1, 1), (1, 1), 0, 8, 0, none, 0, false, some 3⟩)] } }, 9, ⟨(1, 1), (1, 1), (1, 1), 0, 8, 0, none, 0, false, some 3⟩, by decide +kernel⟩

theorem witness_TransferTimers_12 : ∃ (s : State) (v : Word), (∀ f ∈ List.range 64, s.endpointOn f = false) ∧ s.ydt.xfers = [] ∧ s.ydt.trackers = [] ∧ s.ydt.records = [] :=
  ⟨State.reset, 0x18, by decide +kernel⟩

theorem witness_TransferTimers_13 : ∃ (s : State) (v : Word) (f : Nat), f < 64 ∧ s.endpointOn f = true ∧ fld v 3 9 ≠ s.getF R.YDT_DEVICE_ID 3 9 :=
  ⟨Tests.ydtReady, 0x18, 1, by decide +kernel⟩

theorem witness_TransferTimers_14 : ∃ (s : State) (k : Nat) (y : Stage) (hv : HostView), s.par.stages.look k = some y ∧ y.key.isSome = true ∧ y.staged = none ∧ y.waits = [] ∧ y.bad = true :=
  ⟨{ State.reset with par := { Par.reset with stages := [(4, ⟨some (2, 5), 5, [], [], true, none, []⟩)] } }, 4, ⟨some (2, 5), 5, [], [], true, none, []⟩, Tests.noHost, by decide +kernel⟩

theorem witness_TransferTimers_15 : ∃ (s : State) (k : Nat) (y : Stage) (hv : HostView) (p : Nat), s.par.stages.look k = some y ∧ y.key.isSome = true ∧ y.staged = none ∧ y.waits = [] ∧ y.bad = false ∧ DevRange s hv 0 (s.parBase + 131072 * y.line) p 131072 false :=
  ⟨Tests.staging, 4, Tests.stageOf, Tests.noHost, 655360, by exact ⟨by decide +kernel, by decide +kernel, by decide +kernel, by decide +kernel, by decide +kernel, Tests.staging_range⟩⟩

theorem witness_TransferTimers_16 : ∃ (s : State) (k : Nat) (y : Stage), s.par.stages.look k = some y ∧ y.staged.isSome = true :=
  ⟨{ State.reset with par := { Par.reset with stages := [(4, ⟨some (2, 5), 5, [], [], false, some 3, []⟩)] } }, 4, ⟨some (2, 5), 5, [], [], false, some 3, []⟩, by decide +kernel⟩

/-! Witnesses of QueuePairs. -/

theorem witness_QueuePairs_1 : ∃ (s : State) (op : Nat) (o : Op) (hv : HostView), s.runnable op [0x08] = some o ∧ s.op? op = some o ∧ o.issued = false ∧ s.qpOwned (dfld o.desc 0x18 0 12) o.fn = true ∧ dfld o.desc 0x18 12 3 = 3 ∧ s.qpState (dfld o.desc 0x18 0 12) = 2 ∧ ((List.range 4096).filter (fun k => k ≠ dfld o.desc 0x18 0 12 && s.qpFn k = o.fn && s.qpState k ≠ 0)).length < s.getF (R.TRN_FN_QPS o.fn) 0 13 :=
  ⟨{ (Tests.addOp (Tests.descOf 8 [(0x10, 0x2000000), (0x18, 12293)]) (Tests.qpIn 2 Tests.qpOf Tests.qpSpace)) with mem := [] }, 0, Tests.opOf 1 (Tests.descOf 8 [(0x10, 0x2000000), (0x18, 12293)]) .admitted, Tests.noHost, by decide +kernel⟩

theorem witness_QueuePairs_2 : ∃ (s : State) (op : Nat) (o : Op) (hv : HostView) (p : Nat) (x : Qp) (sq rq : Nat), s.runnable op [0x08] = some o ∧ s.op? op = some o ∧ o.issued = false ∧ s.qpOwned (dfld o.desc 0x18 0 12) o.fn = true ∧ (dfld o.desc 0x18 12 3 = 1 ∨ dfld o.desc 0x18 12 3 = 2) ∧ dfld o.desc 0x18 12 3 = s.qpState (dfld o.desc 0x18 0 12) + 1 ∧ ((List.range 4096).filter (fun k => k ≠ dfld o.desc 0x18 0 12 && s.qpFn k = o.fn && s.qpState k ≠ 0)).length < s.getF (R.TRN_FN_QPS o.fn) 0 13 ∧ DevRange s hv o.fn (dQuad o.desc 0x10) p 64 false ∧ qpImage (portCount s) (s.drams p 64) = some (x, sq, rq) :=
  ⟨{ (Tests.addOp (Tests.descOf 8 [(0x10, 0x2000000), (0x18, 4101)]) (Tests.qpIn 0 emptyQp Tests.qpSpace)) with mem := [(0x20, 3), (0x30, 1), (0x31, 1)] }, 0, Tests.opOf 1 (Tests.descOf 8 [(0x10, 0x2000000), (0x18, 4101)]) .admitted, Tests.noHost, 0, { emptyQp with mtu := 1024, maxReads := 1, maxDest := 1 }, 0, 0, by decide +kernel⟩

theorem witness_QueuePairs_3 : ∃ (s : State) (op : Nat) (o : Op) (hv : HostView) (j : Nat) (w : Op), s.runnable op [0x08] = some o ∧ s.op? op = some o ∧ o.issued = false ∧ s.qpOwned (dfld o.desc 0x18 0 12) o.fn = true ∧ dfld o.desc 0x18 12 3 = 0 ∧ s.qpState (dfld o.desc 0x18 0 12) ≠ 0 ∧ (s.qp (dfld o.desc 0x18 0 12)).sq = [] ∧ (s.qp (dfld o.desc 0x18 0 12)).recvs = [j] ∧ s.op? j = some w ∧ j ≠ op ∧ w.st ≠ .done ∧ w.issued = false ∧ w.chain ≠ o.chain :=
  ⟨let s := Tests.qpIn 3 { Tests.qpOf with recvs := [1] } Tests.qpSpace; { s with ops := [(0, Tests.opOf 1 (Tests.descOf 8 [(0x18, 5)]) .admitted), (1, { Tests.opOf 1 (Tests.oneOp 7) .admitted with chain := 1 })], chains := [(0, Tests.chainOf 1), (1, Tests.chainOf 1)] }, 0, Tests.opOf 1 (Tests.descOf 8 [(0x18, 5)]) .admitted, Tests.noHost, 1, { Tests.opOf 1 (Tests.oneOp 7) .admitted with chain := 1 }, by decide +kernel⟩

theorem witness_QueuePairs_4 : ∃ (s : State) (op : Nat) (o : Op) (hv : HostView), s.runnable op [0x08] = some o ∧ s.op? op = some o ∧ o.issued = false ∧ s.qpOwned (dfld o.desc 0x18 0 12) o.fn = true ∧ 1 ≤ dfld o.desc 0x18 12 3 ∧ dfld o.desc 0x18 12 3 ≤ 3 ∧ dfld o.desc 0x18 12 3 ≠ s.qpState (dfld o.desc 0x18 0 12) + 1 :=
  ⟨{ (Tests.addOp (Tests.descOf 8 [(0x10, 0x2000000), (0x18, 12293)]) (Tests.qpIn 1 Tests.qpOf Tests.qpSpace)) with mem := [] }, 0, Tests.opOf 1 (Tests.descOf 8 [(0x10, 0x2000000), (0x18, 12293)]) .admitted, Tests.noHost, by decide +kernel⟩

theorem witness_QueuePairs_5 : ∃ (s : State) (op : Nat) (o : Op) (hv : HostView), s.runnable op [0x08] = some o ∧ s.op? op = some o ∧ o.issued = false ∧ s.qpOwned (dfld o.desc 0x18 0 12) o.fn = false :=
  ⟨Tests.addOp (Tests.descOf 8 [(0x18, 6)]) (Tests.qpIn 1 Tests.qpOf Tests.qpSpace), 0, Tests.opOf 1 (Tests.descOf 8 [(0x18, 6)]) .admitted, Tests.noHost, by decide +kernel⟩

theorem witness_QueuePairs_6 : ∃ (s : State) (hv : HostView) (y : RxQ) (va p : Nat), s.qpm.rx = [y] ∧ y.port = none ∧ y.link = none ∧ y.pkt.icrcOk = true ∧ y.pkt.qp < 4096 ∧ y.pkt.pkey = (s.qp y.pkt.qp).pkey ∧ y.pkt.cipher = none ∧ s.encrypts (s.qpFn y.pkt.qp) = false ∧ y.pkt.ce = false ∧ s.idleState = 0 ∧ s.idle.selfRefresh = false ∧ (s.qpState y.pkt.qp = 2 ∨ s.qpState y.pkt.qp = 3) ∧ y.pkt.op = .writeOnly ∧ y.pkt.psn = s.rqPsn y.pkt.qp ∧ s.qpWindow (s.qpFn y.pkt.qp) y.pkt.rkey y.pkt.va y.pkt.len true = some va ∧ y.pkt.payload.length = y.pkt.len ∧ DevRange s hv (s.qpFn y.pkt.qp) va p y.pkt.len true ∧ hv.ce = [] :=
  ⟨Tests.roceIn (Tests.roceTo5 .writeOnly 0 64 0x90400 3 [1, 2, 3]) (Tests.qpIn 3 Tests.qpOf (Tests.qpSpace)), Tests.noHost, ⟨Tests.roceTo5 .writeOnly 0 64 0x90400 3 [1, 2, 3], none, none⟩, 0x2000040, 64, by decide +kernel⟩

theorem witness_QueuePairs_7 : ∃ (s : State) (hv : HostView) (y : RxQ), s.qpm.rx = [y] ∧ y.port = none ∧ y.link = none ∧ y.pkt.icrcOk = true ∧ y.pkt.qp < 4096 ∧ y.pkt.pkey = (s.qp y.pkt.qp).pkey ∧ y.pkt.cipher = none ∧ s.encrypts (s.qpFn y.pkt.qp) = false ∧ y.pkt.ce = false ∧ s.idleState = 0 ∧ s.idle.selfRefresh = false ∧ (s.qpState y.pkt.qp = 2 ∨ s.qpState y.pkt.qp = 3) ∧ y.pkt.op = .writeOnly ∧ 0 < psnDiff y.pkt.psn (s.rqPsn y.pkt.qp) ∧ (s.qp y.pkt.qp).nakSent = false :=
  ⟨Tests.roceIn (Tests.roceTo5 .writeOnly 4 64 0x90400 3 [1, 2, 3]) (Tests.qpIn 3 Tests.qpOf (Tests.qpSpace)), Tests.noHost, ⟨Tests.roceTo5 .writeOnly 4 64 0x90400 3 [1, 2, 3], none, none⟩, by decide +kernel⟩

theorem witness_QueuePairs_8 : ∃ (s : State) (hv : HostView) (y : RxQ) (r : QpReq) (o : Op), s.qpm.rx = [y] ∧ y.port = none ∧ y.link = none ∧ y.pkt.icrcOk = true ∧ y.pkt.qp < 4096 ∧ y.pkt.pkey = (s.qp y.pkt.qp).pkey ∧ y.pkt.cipher = none ∧ s.encrypts (s.qpFn y.pkt.qp) = false ∧ y.pkt.ce = false ∧ s.idleState = 0 ∧ s.idle.selfRefresh = false ∧ s.qpState y.pkt.qp = 3 ∧ y.pkt.op = .ack ∧ (s.qp y.pkt.qp).sq = [r] ∧ (s.qp y.pkt.qp).una = r.psn ∧ r.psn < 2 ^ 24 ∧ r.packets = 1 ∧ r.kind = tyWrite ∧ y.pkt.psn = r.psn ∧ s.op? r.op = some o ∧ o.issued = false ∧ s.slotOf r.op = none :=
  ⟨Tests.roceIn (Tests.roceTo5 .ack 9 0 0 0 []) (Tests.qpIn 3 { Tests.qpOf with una := 9, sq := [⟨0, 0, 9, 1, 0x2000000, 3, 0, 0, none, 0⟩] } (Tests.running 2 Tests.qpSpace)), Tests.noHost, ⟨Tests.roceTo5 .ack 9 0 0 0 [], none, none⟩, ⟨0, 0, 9, 1, 0x2000000, 3, 0, 0, none, 0⟩, Tests.opOf 1 (Tests.oneOp 2) .running, by decide +kernel⟩

theorem witness_QueuePairs_9 : ∃ (s : State) (hv : HostView) (y : RxQ), s.qpm.rx = [y] ∧ y.port = none ∧ y.link = none ∧ y.pkt.icrcOk = true ∧ y.pkt.qp < 4096 ∧ y.pkt.pkey = (s.qp y.pkt.qp).pkey ∧ y.pkt.cipher = none ∧ s.encrypts (s.qpFn y.pkt.qp) = false ∧ y.pkt.ce = false ∧ s.idleState = 0 ∧ s.idle.selfRefresh = false ∧ (s.qpState y.pkt.qp = 2 ∨ s.qpState y.pkt.qp = 3) ∧ y.pkt.op = .sendOnly ∧ y.pkt.target = none ∧ y.pkt.psn = s.rqPsn y.pkt.qp ∧ (s.qp y.pkt.qp).recvs = [] :=
  ⟨Tests.roceIn (Tests.roceTo5 .sendOnly 0 0 0 0 [1]) (Tests.qpIn 3 Tests.qpOf (Tests.qpSpace)), Tests.noHost, ⟨Tests.roceTo5 .sendOnly 0 0 0 0 [1], none, none⟩, by decide +kernel⟩

theorem witness_QueuePairs_10 : ∃ (s : State) (hv : HostView) (y : RxQ), s.qpm.rx = [y] ∧ y.pkt.icrcOk = false ∧ y.port = none ∧ y.link = none ∧ s.idleState = 0 ∧ s.idle.selfRefresh = false :=
  ⟨Tests.roceIn ({ Tests.roceTo5 .writeOnly 0 64 0x90400 3 [1, 2, 3] with icrcOk := false }) (Tests.qpIn 3 Tests.qpOf (Tests.qpSpace)), Tests.noHost, ⟨{ Tests.roceTo5 .writeOnly 0 64 0x90400 3 [1, 2, 3] with icrcOk := false }, none, none⟩, by decide +kernel⟩

theorem witness_QueuePairs_11 : ∃ (s : State) (hv : HostView) (q : Nat) (r : QpReq) (l : List QpReq) (o : Op), q < 4096 ∧ s.qpState q = 3 ∧ (s.qp q).sq = r :: l ∧ (s.qp q).rnrWait = false ∧ (s.qp q).retryCnt < (s.qp q).attempts + 1 ∧ s.op? r.op = some o ∧ o.st ≠ .done ∧ o.issued = false ∧ s.slotOf r.op = none ∧ l = [] ∧ (s.qp q).recvs = [] :=
  ⟨Tests.qpIn 3 { Tests.qpOf with attempts := 3, una := 9, sq := [⟨0, 0, 9, 1, 0x2000000, 3, 0, 0, none, 0⟩] } (Tests.running 2 Tests.qpSpace), Tests.noHost, 5, ⟨0, 0, 9, 1, 0x2000000, 3, 0, 0, none, 0⟩, [], Tests.opOf 1 (Tests.oneOp 2) .running, by decide +kernel⟩

/-! Witnesses of EthernetPorts. -/

theorem witness_EthernetPorts_1 : ∃ (s : State) (v : Word), s.getF (ctrlK pNET) 8 8 = 0 ∧ fld v 8 8 = 0 :=
  ⟨State.reset, 2, by decide +kernel⟩

theorem witness_EthernetPorts_2 : ∃ (s : State) (v : Word), s.getF (ctrlK pNET) 8 8 ≠ 0 ∧ s.getF (ctrlK pNET) 8 8 < 2 ^ portCount s ∧ fld v 0 2 ≠ s.getF (ctrlK pNET) 0 2 ∧ fld v 8 8 = s.getF (ctrlK pNET) 8 8 :=
  ⟨Tests.withRegs [(ctrlK pNET, 0x301)], 0x302, by decide +kernel⟩

theorem witness_EthernetPorts_3 : ∃ (s : State) (p : Nat) (v : Word), p < portCount s ∧ s.getF (ctrlK pNET) 8 8 = 0 ∧ fld v 8 8 = 2 ^ p ∧ fld v 0 2 = s.getF (ctrlK pNET) 0 2 ∧ s.portState p = 0 ∧ s.portCage p ∉ s.hw.cageSuspended :=
  ⟨State.reset, 3, 0x801, by decide +kernel⟩

theorem witness_EthernetPorts_4 : ∃ (s : State) (p : Nat) (n : Nat), p < 8 ∧ s.portState p = 1 ∧ n % 2 ^ (16 / portCount s) = 0 :=
  ⟨Tests.withRegs [(R.NET_PORT_STATUS 3, 1)], 3, 0, by decide +kernel⟩

theorem witness_EthernetPorts_5 : ∃ (s : State) (p : Nat) (n : Nat), p < 8 ∧ s.portState p = 1 ∧ n % 2 ^ (16 / portCount s) ≠ 0 :=
  ⟨Tests.withRegs [(R.NET_PORT_STATUS 3, 1)], 3, 2, by decide +kernel⟩

theorem witness_EthernetPorts_6 : ∃ (s : State) (p : Nat) (f : Fec), p < 8 ∧ s.portState p = 2 ∧ s.portCage p ∉ s.hw.cageSuspended :=
  ⟨Tests.withRegs [(R.NET_PORT_STATUS 3, 2), (statusK pNET, 8)], 3, ⟨4, 40⟩, by decide +kernel⟩

theorem witness_EthernetPorts_7 : ∃ (s : State) (p : Nat), p < 8 ∧ s.portEnabled p = true ∧ s.portState p = 0 ∧ s.getF (R.NET_PORT_STATUS p) 8 8 ≠ 0 ∧ s.portCage p ∉ s.hw.cageSuspended :=
  ⟨Tests.withRegs [(ctrlK pNET, 0x801), (R.NET_PORT_STATUS 3, 0x200)], 3, by decide +kernel⟩

theorem witness_EthernetPorts_8 : ∃ (s : State) (p : Nat) (f : Frame) (x : Fec) (i : Ip) (k : Pkt), p < 8 ∧ s.portState p = 2 ∧ f.fcsOk = true ∧ 64 ≤ f.len ∧ f.len ≤ 9216 ∧ f.body = .ip i ∧ i.body = .ydt k ∧ i.ecn ≠ 3 ∧ s.macOk f.dst = true ∧ s.tagsOk f = true ∧ s.classHeld p (s.frameClass f) + f.len ≤ s.classShare p (s.frameClass f) ∧ s.bodyOk f = true ∧ s.portOk f = true ∧ k.crcOk = true ∧ k.formed = true ∧ k.dstDev = s.devId ∧ s.expired k = false :=
  ⟨let s := Tests.withRegs [(R.NET_PORT_STATUS 3, 2), (R.NET_MAC_BASE_LO, 0x100), (R.NET_PORT_SHARE0 3, 0x20202020), (R.NET_PORT_SHARE1 3, 0x20202020), (R.YDT_UDP_PORT, 5000)]; { s with net := { s.net with fnAddr := [(1, 1)] } }, 3, ⟨128, true, 0x100, 7, [], .ip ⟨false, 1, 0, 0, 2, true, false, false, 0xC000, some 5000, .ydt (Tests.pktOf 0 true 7 3 0 0x90400 [65] [1, 2, 3])⟩⟩, ⟨0, 0⟩, ⟨false, 1, 0, 0, 2, true, false, false, 0xC000, some 5000, .ydt (Tests.pktOf 0 true 7 3 0 0x90400 [65] [1, 2, 3])⟩, (Tests.pktOf 0 true 7 3 0 0x90400 [65] [1, 2, 3]), by decide +kernel⟩

theorem witness_EthernetPorts_9 : ∃ (s : State) (p : Nat) (f : Frame) (x : Fec), p < 8 ∧ s.portState p = 2 ∧ f.len < 64 :=
  ⟨let s := Tests.withRegs [(R.NET_PORT_STATUS 3, 2), (R.NET_MAC_BASE_LO, 0x100), (R.NET_PORT_SHARE0 3, 0x20202020), (R.NET_PORT_SHARE1 3, 0x20202020), (R.YDT_UDP_PORT, 5000)]; { s with net := { s.net with fnAddr := [(1, 1)] } }, 3, ⟨60, true, 0x100, 7, [], .other⟩, ⟨0, 0⟩, by decide +kernel⟩

theorem witness_EthernetPorts_10 : ∃ (s : State) (p : Nat) (f : Frame) (x : Fec), p < 8 ∧ s.portState p = 2 ∧ 64 ≤ f.len ∧ f.fcsOk = false :=
  ⟨let s := Tests.withRegs [(R.NET_PORT_STATUS 3, 2), (R.NET_MAC_BASE_LO, 0x100), (R.NET_PORT_SHARE0 3, 0x20202020), (R.NET_PORT_SHARE1 3, 0x20202020), (R.YDT_UDP_PORT, 5000)]; { s with net := { s.net with fnAddr := [(1, 1)] } }, 3, ⟨64, false, 0x100, 7, [], .other⟩, ⟨0, 0⟩, by decide +kernel⟩

theorem witness_EthernetPorts_11 : ∃ (s : State) (p : Nat) (f : Frame) (x : Fec), p < 8 ∧ s.portState p = 2 ∧ 64 ≤ f.len ∧ f.len ≤ 9216 ∧ f.fcsOk = true ∧ f.body = .other ∧ s.macOk f.dst = false :=
  ⟨let s := Tests.withRegs [(R.NET_PORT_STATUS 3, 2), (R.NET_MAC_BASE_LO, 0x100), (R.NET_PORT_SHARE0 3, 0x20202020), (R.NET_PORT_SHARE1 3, 0x20202020), (R.YDT_UDP_PORT, 5000)]; { s with net := { s.net with fnAddr := [(1, 1)] } }, 3, ⟨64, true, 0x900, 7, [], .other⟩, ⟨0, 0⟩, by decide +kernel⟩

theorem witness_EthernetPorts_12 : ∃ (s : State) (p : Nat) (f : Frame) (x : Fec) (cs q : Nat), p < 8 ∧ s.portState p = 2 ∧ 64 ≤ f.len ∧ f.len ≤ 9216 ∧ f.fcsOk = true ∧ f.body = .pause cs q ∧ q ≠ 0 :=
  ⟨let s := Tests.withRegs [(R.NET_PORT_STATUS 3, 2), (R.NET_MAC_BASE_LO, 0x100), (R.NET_PORT_SHARE0 3, 0x20202020), (R.NET_PORT_SHARE1 3, 0x20202020), (R.YDT_UDP_PORT, 5000)]; { s with net := { s.net with fnAddr := [(1, 1)] } }, 3, ⟨64, true, 0x0180C2000001, 7, [], .pause 0x88 5⟩, ⟨0, 0⟩, 0x88, 5, by decide +kernel⟩

theorem witness_EthernetPorts_14 : ∃ (s : State) (p c : Nat), 8 * p + c ∈ s.net.pausing ∧ s.classShare p c < s.classHeld p c + 2 * s.pfcHeadroom p ∧ s.z2Holds = false :=
  ⟨{ (Tests.withRegs [(R.NET_PORT_PFC 3, 0xFF0080), (R.NET_PORT_SHARE1 3, 0)]) with net := { Net.reset with pausing := [31] }, ydt := { Ydt.reset with rx := [⟨(Tests.pktOf 0 true 7 3 0 0x90400 [65] [1, 2, 3]), some (3, 7, 100), none⟩] } }, 3, 7, by decide +kernel⟩

theorem witness_EthernetPorts_15 : ∃ (s : State) (p : Nat) (x : TxFrame), p < 8 ∧ s.portState p = 2 ∧ s.startable p = some x ∧ x.frame.body = .other :=
  ⟨{ (Tests.withRegs [(R.NET_PORT_STATUS 3, 2)]) with net := { Net.reset with tx := [⟨3, 1, 0, ⟨64, true, 1, 2, [], .other⟩⟩, ⟨3, 6, 0, ⟨64, true, 1, 2, [], .other⟩⟩] } }, 3, ⟨3, 6, 0, ⟨64, true, 1, 2, [], .other⟩⟩, by decide +kernel⟩

theorem witness_EthernetPorts_16 : ∃ (s : State) (p : Nat) (x : TxFrame), s.startable p = some x :=
  ⟨{ (Tests.withRegs [(R.NET_PORT_STATUS 3, 2)]) with net := { Net.reset with tx := [⟨3, 1, 0, ⟨64, true, 1, 2, [], .other⟩⟩, ⟨3, 6, 0, ⟨64, true, 1, 2, [], .other⟩⟩] } }, 3, ⟨3, 6, 0, ⟨64, true, 1, 2, [], .other⟩⟩, by decide +kernel⟩

theorem witness_EthernetPorts_17 : ∃ (s : State) (p : Nat) (v : Word), p < 8 ∧ (fun (w : Word) => fld w 0 8 + fld w 8 8 + fld w 16 8 + fld w 24 8) v + (fun (w : Word) => fld w 0 8 + fld w 8 8 + fld w 16 8 + fld w 24 8) (s.rd (R.NET_PORT_SHARE1 p)) ≤ 256 :=
  ⟨Tests.withRegs [(R.NET_PORT_SHARE1 3, 0)], 3, 0x40404040, by decide +kernel⟩

theorem witness_EthernetPorts_18 : ∃ (s : State) (p : Nat) (v : Word), p < 8 ∧ 256 < (fun (w : Word) => fld w 0 8 + fld w 8 8 + fld w 16 8 + fld w 24 8) v + (fun (w : Word) => fld w 0 8 + fld w 8 8 + fld w 16 8 + fld w 24 8) (s.rd (R.NET_PORT_SHARE0 p)) :=
  ⟨Tests.withRegs [(R.NET_PORT_SHARE0 3, 0x40404040)], 3, 1, by decide +kernel⟩

/-! Witnesses of DeviceTimeAndPlans. -/

theorem witness_DeviceTimeAndPlans_1 : ∃ (s : State), s.locked = true :=
  ⟨Tests.withRegs [(statusK pNET, 0x100), (statusK pYDT, 1), (R.NET_TIME_SOURCE, 3)], by decide +kernel⟩

theorem witness_DeviceTimeAndPlans_2 : ∃ (s : State), s.locked = false :=
  ⟨Tests.withRegs [(R.NET_TIME_SOURCE, 3)], by decide +kernel⟩

theorem witness_DeviceTimeAndPlans_3 : ∃ (s : State), s.crewMaster = true ∧ s.linksUp = [2] :=
  ⟨(Tests.withRegs [(R.NET_TIME_CTRL, 0x200), (statusK pCRW, 4)]), by decide +kernel⟩

theorem witness_DeviceTimeAndPlans_4 : ∃ (s : State), s.crewMaster = false :=
  ⟨State.reset, by decide +kernel⟩

theorem witness_DeviceTimeAndPlans_5 : ∃ (s : State) (l : Nat) (b : TimeBlock) (m : Nat), s.crewMaster = true ∧ s.linksUp = [m] ∧ l ≠ m :=
  ⟨(Tests.withRegs [(R.NET_TIME_CTRL, 0x200), (statusK pCRW, 4), (R.CRW_LINK_DELAY 1, 30)]), 1, ⟨5000000, 2⟩, 2, by decide +kernel⟩

theorem witness_DeviceTimeAndPlans_6 : ∃ (s : State) (l : Nat) (b : TimeBlock) (m : Nat), s.crewMaster = false ∧ s.linksUp = [] ∧ s.net.block = none ∧ s.net.firstLock = false ∧ s.net.pulseAt = none ∧ s.locked = false ∧ s.net.inBand < 7 ∧ b.hops < 8 ∧ b.time + 65536 < 2 ^ 64 :=
  ⟨State.reset, 1, ⟨5000000, 2⟩, 0, by decide +kernel⟩

theorem witness_DeviceTimeAndPlans_7 : ∃ (s : State) (p : Nat) (v : Word), p < 8 ∧ s.getB (R.NET_PORT_PLAN_STATUS p) (3 - s.planVer p) = true ∧ s.devTime < (s.rd (R.NET_PORT_PLAN_TIME_LO p)).toNat + 2 ^ 32 * v.toNat :=
  ⟨Tests.withRegs [(R.NET_PORT_PLAN_STATUS 3, 8), (R.NET_PORT_PLAN_TIME_LO 3, 500)], 3, 0, by decide +kernel⟩

theorem witness_DeviceTimeAndPlans_8 : ∃ (s : State) (p : Nat) (v : Word), p < 8 ∧ s.getB (R.NET_PORT_PLAN_STATUS p) (3 - s.planVer p) = false :=
  ⟨Tests.withRegs [(R.NET_PORT_PLAN_STATUS 3, 4)], 3, 0, by decide +kernel⟩

theorem witness_DeviceTimeAndPlans_9 : ∃ (s : State) (p : Nat) (n : Nat), p < 8 ∧ s.net.switchAt.look p = some n :=
  ⟨{ (Tests.withRegs [(R.NET_PORT_PLAN_STATUS 3, 10)]) with net := { Net.reset with switchAt := [(3, 500)] } }, 3, 500, by decide +kernel⟩

theorem witness_DeviceTimeAndPlans_10 : ∃ (s : State) (p : Nat) (x : Plan), p < 8 ∧ s.plan? p = some x :=
  ⟨{ State.reset with devTime := 900, net := { Net.reset with plans := [(6, ⟨0, 0, [(1, 1), (2, 3)]⟩)] } }, 3, ⟨0, 0, [(1, 1), (2, 3)]⟩, by decide +kernel⟩

/-! Witnesses of LinkStates. -/

theorem witness_LinkStates_1 : ∃ (s : State) (l : Nat) (v : Word), l < 4 ∧ s.getF (ctrlK pCRW) 0 4 = 0 ∧ fld v 0 4 = 2 ^ l ∧ s.linkState l = 0 :=
  ⟨State.reset, 2, 4, by decide +kernel⟩

theorem witness_LinkStates_2 : ∃ (s : State) (l : Nat) (v : Word), l < 4 ∧ fld v 0 4 = 0 ∧ s.getF (ctrlK pCRW) 0 4 = 2 ^ l :=
  ⟨Tests.withRegs [(ctrlK pCRW, 4), (R.CRW_LINK_STATUS 2, 0x42)], 2, 0, by decide +kernel⟩

theorem witness_LinkStates_3 : ∃ (s : State) (l : Nat) (v : Word), l < 4 ∧ bit v 0 = true :=
  ⟨Tests.withRegs [(R.CRW_LINK_STATUS 2, 0x42)], 2, 1, by decide +kernel⟩

theorem witness_LinkStates_4 : ∃ (s : State) (l : Nat) (inv dev pl d : Nat) (r ph : Bool), l < 4 ∧ s.linkState l = 1 ∧ s.idle.selfRefresh = false ∧ dev < 4096 ∧ pl < 4 ∧ d < 65536 ∧ inv < 16 ∧ 0 < s.xoffAt ∧ (∀ v ∈ List.range 8, s.vlHeld l v = 0) :=
  ⟨Tests.withRegs [(R.CRW_LINK_STATUS 2, 1), (R.CRW_FC_THRESH, 0x10002000)], 2, 3, 9, 1, 30, true, false, by decide +kernel⟩

theorem witness_LinkStates_5 : ∃ (s : State) (l : Nat), l < 4 ∧ s.linkState l = 1 :=
  ⟨Tests.withRegs [(R.CRW_LINK_STATUS 2, 1)], 2, by decide +kernel⟩

theorem witness_LinkStates_6 : ∃ (s : State) (l : Nat), l < 4 ∧ s.getB (ctrlK pCRW) l = true ∧ (s.linkState l = 0 ∨ s.linkState l = 4) :=
  ⟨Tests.withRegs [(ctrlK pCRW, 4), (R.CRW_LINK_STATUS 2, 4)], 2, by decide +kernel⟩

theorem witness_LinkStates_7 : ∃ (s : State) (l : Nat) (k n : Nat) (f : Fec), l < 4 ∧ k < 4 ∧ s.linkState l = 2 ∧ bitOf (s.excludedLanes l) k = false ∧ 1 < widthOf (s.excludedLanes l) :=
  ⟨Tests.withRegs [(R.CRW_LINK_STATUS 2, 0x142)], 2, 3, 5, ⟨0, 0⟩, by decide +kernel⟩

theorem witness_LinkStates_8 : ∃ (s : State) (l : Nat), l < 4 ∧ s.linkState l = 3 :=
  ⟨Tests.withRegs [(R.CRW_LINK_STATUS 2, 0x133)], 2, by decide +kernel⟩

theorem witness_LinkStates_9 : ∃ (s : State) (l : Nat), l < 4 ∧ (s.linkState l = 2 ∨ s.linkState l = 3) ∧ s.crw.route = [] :=
  ⟨Tests.withRegs [(R.CRW_LINK_STATUS 2, 0x42)], 2, by decide +kernel⟩

theorem witness_LinkStates_10 : ∃ (s : State) (l : Nat) (d n : Nat), l < 4 ∧ s.linkState l = 2 ∧ d < 4096 ∧ n < 4 ∧ s.routed d = true ∧ (s.pathOf d n).1 = 1 ∧ bitsOf (s.pathOf d n).2.2.1 15 3 = l :=
  ⟨Tests.routeTo9 (Tests.withRegs [(R.CRW_LINK_STATUS 1, 0x42)]), 1, 9, 1, by decide +kernel⟩

theorem witness_LinkStates_11 : ∃ (s : State) (l : Nat), s.linkState l = 2 :=
  ⟨Tests.withRegs [(R.CRW_LINK_STATUS 2, 0x42)], 2, by decide +kernel⟩

theorem witness_LinkStates_12 : ∃ (s : State) (l : Nat) (v : Nat), 8 * l + v ∈ s.crw.xoffSent ∧ s.linkState l = 2 :=
  ⟨{ (Tests.withRegs [(R.CRW_LINK_STATUS 2, 0x42)]) with crw := { Crw.reset with xoffSent := [19] } }, 2, 3, by decide +kernel⟩

theorem witness_LinkStates_13 : ∃ (s : State) (l : Nat) (v : Nat) (x : Bool), v < 8 :=
  ⟨{ State.reset with crw := { Crw.reset with xoffReceived := [19, 4] } }, 2, 3, false, by decide +kernel⟩

theorem witness_LinkStates_14 : ∃ (s : State) (v : Word), fld v 0 1 = s.getF R.CRW_EPOCH 0 1 ∧ (bit v (1 + fld v 0 1) = true ∨ s.getB R.CRW_EPOCH (1 + fld v 0 1) = false) ∧ (∀ i ∈ List.range 2, bit v (1 + i) = true → s.getB R.CRW_EPOCH (1 + i) = true ∨ (i ∈ s.crw.loaded ∧ 2 + i ∈ s.crw.loaded)) :=
  ⟨{ State.reset with crw := { Crw.reset with loaded := [1, 3] } }, 4, by decide +kernel⟩

theorem witness_LinkStates_15 : ∃ (s : State) (v : Word), bit v 2 = true ∧ s.getB R.CRW_EPOCH 2 = false ∧ 1 ∉ s.crw.loaded :=
  ⟨State.reset, 4, by decide +kernel⟩

/-! Witnesses of OzmenPacketsAndTables. -/

theorem witness_OzmenPacketsAndTables_1 : ∃ (s : State) (l : Nat) (p : OzPkt) (f : Fec) (k : Pkt), l < 4 ∧ s.linkState l = 2 ∧ s.boot.breach = 0 ∧ p.hcrcOk = true ∧ p.formed = true ∧ s.vlHeld l p.vl + OzPkt.bytes p ≤ 20480 ∧ p.hop + 1 = p.hops ∧ p.dst = s.devId ∧ s.epochValid p.epoch = true ∧ s.partitionOk p.epoch p.partition l none = true ∧ p.lcrc = .good ∧ p.body = .ydt k ∧ p.ce = false ∧ s.vlHeld l p.vl < s.getF R.CRW_CE_THRESH 0 15 ∧ k.crcOk = true ∧ k.formed = true ∧ k.dstDev = s.devId ∧ s.expired k = false :=
  ⟨{ (Tests.withRegs [(R.CRW_LINK_STATUS 2, 0x42), (R.CRW_LINK_STATUS 1, 0x42), (statusK pCRW, 6), (R.CRW_EPOCH, 2), (R.CRW_FC_THRESH, 0x10002000), (R.CRW_CE_THRESH, 0x4000)]) with crw := { Crw.reset with part := [(3, 0x80000000 + 2 ^ 20 + 2 ^ 18 + 2 ^ 17 + 5)] } }, 2, ⟨Machine.ozWords 0 3 0 1 60 5 0 0 9, true, .ydt (Tests.pktOf 0 true 7 3 0 0x90400 [65] [1, 2, 3]), .good⟩, ⟨0, 0⟩, Tests.pktOf 0 true 7 3 0 0x90400 [65] [1, 2, 3], by decide +kernel⟩

theorem witness_OzmenPacketsAndTables_2 : ∃ (s : State) (l : Nat) (p : OzPkt) (f : Fec), l < 4 ∧ s.linkState l = 2 ∧ s.boot.breach = 0 ∧ (p.hcrcOk = false ∨ p.formed = false) :=
  ⟨{ (Tests.withRegs [(R.CRW_LINK_STATUS 2, 0x42), (R.CRW_LINK_STATUS 1, 0x42), (statusK pCRW, 6), (R.CRW_EPOCH, 2), (R.CRW_FC_THRESH, 0x10002000), (R.CRW_CE_THRESH, 0x4000)]) with crw := { Crw.reset with part := [(3, 0x80000000 + 2 ^ 20 + 2 ^ 18 + 2 ^ 17 + 5)] } }, 2, { (⟨Machine.ozWords 0 3 0 1 60 5 0 0 9, true, .ydt (Tests.pktOf 0 true 7 3 0 0x90400 [65] [1, 2, 3]), .good⟩ : OzPkt) with hcrcOk := false }, ⟨0, 0⟩, by decide +kernel⟩

theorem witness_OzmenPacketsAndTables_3 : ∃ (s : State) (l : Nat) (p : OzPkt) (f : Fec), l < 4 ∧ s.linkState l = 2 ∧ s.boot.breach = 0 ∧ p.hcrcOk = true ∧ p.formed = true ∧ s.vlHeld l p.vl + OzPkt.bytes p ≤ 20480 ∧ p.hop + 1 = p.hops ∧ p.dst = s.devId ∧ s.epochValid p.epoch = true ∧ s.partitionOk p.epoch p.partition l none = false :=
  ⟨Tests.withRegs [(R.CRW_LINK_STATUS 2, 0x42), (R.CRW_LINK_STATUS 1, 0x42), (statusK pCRW, 6), (R.CRW_EPOCH, 2), (R.CRW_FC_THRESH, 0x10002000), (R.CRW_CE_THRESH, 0x4000)], 2, ⟨Machine.ozWords 0 3 0 1 60 5 0 0 9, true, .ydt (Tests.pktOf 0 true 7 3 0 0x90400 [65] [1, 2, 3]), .good⟩, ⟨0, 0⟩, by decide +kernel⟩

theorem witness_OzmenPacketsAndTables_4 : ∃ (s : State) (l : Nat) (p : OzPkt) (f : Fec), l < 4 ∧ s.linkState l = 2 ∧ s.boot.breach = 0 ∧ p.hcrcOk = true ∧ p.formed = true ∧ s.vlHeld l p.vl + OzPkt.bytes p ≤ 20480 ∧ p.hop + 1 < p.hops ∧ p.out (p.hop + 1) ≠ l ∧ p.out (p.hop + 1) < 4 ∧ s.linkState (p.out (p.hop + 1)) = 2 ∧ s.epochValid p.epoch = true ∧ s.partitionOk p.epoch p.partition l (some (p.out (p.hop + 1))) = true ∧ p.lcrc = .good ∧ p.ce = false ∧ s.vlHeld l p.vl < s.getF R.CRW_CE_THRESH 0 15 ∧ s.crw.tx = [] ∧ 8 * p.out (p.hop + 1) + p.vl ∉ s.crw.xoffReceived :=
  ⟨{ (Tests.withRegs [(R.CRW_LINK_STATUS 2, 0x42), (R.CRW_LINK_STATUS 1, 0x42), (statusK pCRW, 6), (R.CRW_EPOCH, 2), (R.CRW_FC_THRESH, 0x10002000), (R.CRW_CE_THRESH, 0x4000)]) with crw := { Crw.reset with part := [(3, 0x80000000 + 2 ^ 20 + 2 ^ 18 + 2 ^ 17 + 5)] } }, 2, ⟨Machine.ozWords 0 3 0 2 60 5 69632 9 9, true, .ydt (Tests.pktOf 0 true 7 3 0 0x90400 [65] [1, 2, 3]), .good⟩, ⟨0, 0⟩, by decide +kernel⟩

theorem witness_OzmenPacketsAndTables_5 : ∃ (s : State) (l : Nat) (p : OzPkt) (f : Fec), s.boot.breach ≠ 0 :=
  ⟨{ State.reset with boot := { Boot.reset with breach := 1 } }, 2, ⟨Machine.ozWords 0 3 0 1 60 5 0 0 9, true, .ydt (Tests.pktOf 0 true 7 3 0 0x90400 [65] [1, 2, 3]), .good⟩, ⟨0, 0⟩, by decide +kernel⟩

theorem witness_OzmenPacketsAndTables_6 : ∃ (s : State) (l : Nat) (x : TxOz), s.linkState l = 2 ∧ s.boot.breach = 0 ∧ s.crw.tx = [x] ∧ x.link = l ∧ x.vl < 8 ∧ x.input = 4 ∧ 8 * l + x.vl ∉ s.crw.xoffReceived :=
  ⟨{ (Tests.withRegs [(R.CRW_LINK_STATUS 2, 0x42), (R.CRW_LINK_STATUS 1, 0x42), (statusK pCRW, 6), (R.CRW_EPOCH, 2), (R.CRW_FC_THRESH, 0x10002000), (R.CRW_CE_THRESH, 0x4000)]) with crw := { Crw.reset with tx := [⟨2, 3, 4, ⟨Machine.ozWords 0 3 0 1 60 5 0 9 9, true, .ydt (Tests.pktOf 0 true 7 3 0 0x90400 [65] [1, 2, 3]), .good⟩⟩] } }, 2, ⟨2, 3, 4, ⟨Machine.ozWords 0 3 0 1 60 5 0 9 9, true, .ydt (Tests.pktOf 0 true 7 3 0 0x90400 [65] [1, 2, 3]), .good⟩⟩, by decide +kernel⟩

theorem witness_OzmenPacketsAndTables_7 : ∃ (s : State) (l : Nat), (∀ x ∈ s.crw.tx, x.link = l → 8 * l + x.vl ∈ s.crw.xoffReceived) :=
  ⟨{ (Tests.withRegs [(R.CRW_LINK_STATUS 2, 0x42), (R.CRW_LINK_STATUS 1, 0x42), (statusK pCRW, 6), (R.CRW_EPOCH, 2), (R.CRW_FC_THRESH, 0x10002000), (R.CRW_CE_THRESH, 0x4000)]) with crw := { Crw.reset with tx := [⟨2, 3, 4, ⟨Machine.ozWords 0 3 0 1 60 5 0 9 9, true, .ydt (Tests.pktOf 0 true 7 3 0 0x90400 [65] [1, 2, 3]), .good⟩⟩], xoffReceived := [19] } }, 2, by decide +kernel⟩

theorem witness_OzmenPacketsAndTables_8 : ∃ (s : State) (l v i : Nat) (x : TxOz), i < 4 ∧ s.crw.tx = [x] ∧ x.link = l ∧ x.vl = v ∧ x.input = i :=
  ⟨{ (Tests.withRegs [(R.CRW_LINK_STATUS 2, 0x42), (R.CRW_LINK_STATUS 1, 0x42), (statusK pCRW, 6), (R.CRW_EPOCH, 2), (R.CRW_FC_THRESH, 0x10002000), (R.CRW_CE_THRESH, 0x4000)]) with crw := { Crw.reset with tx := [⟨2, 3, 1, ⟨Machine.ozWords 0 3 0 1 60 5 0 9 9, true, .ydt (Tests.pktOf 0 true 7 3 0 0x90400 [65] [1, 2, 3]), .good⟩⟩] } }, 2, 3, 1, ⟨2, 3, 1, ⟨Machine.ozWords 0 3 0 1 60 5 0 9 9, true, .ydt (Tests.pktOf 0 true 7 3 0 0x90400 [65] [1, 2, 3]), .good⟩⟩, by decide +kernel⟩

theorem witness_OzmenPacketsAndTables_9 : ∃ (s : State) (op : Nat) (o : Op) (hv : HostView), s.runnable op [0x74] = some o ∧ s.op? op = some o ∧ o.issued = false ∧ s.coreUp coreTransport = true ∧ o.fn ≠ 0 :=
  ⟨let s := Tests.mapped 0 (Tests.withRegs []); { s with ops := [(0, { Tests.opOf 1 (Tests.descOf 0x74 [(0x10, 0x2000000), (0x18, 1), (0x1C, 1)]) .admitted with fn := 1 })], chains := [(0, Tests.chainOf 1)], mem := [] }, 0, { Tests.opOf 1 (Tests.descOf 0x74 [(0x10, 0x2000000), (0x18, 1), (0x1C, 1)]) .admitted with fn := 1 }, Tests.noHost, by decide +kernel⟩

theorem witness_OzmenPacketsAndTables_10 : ∃ (s : State) (op : Nat) (o : Op) (hv : HostView) (p : Nat), s.runnable op [0x74] = some o ∧ s.op? op = some o ∧ o.issued = false ∧ s.coreUp coreTransport = true ∧ o.fn = 0 ∧ s.tableBad (tableArgs o.desc) = none ∧ (tableArgs o.desc).table = tablePart ∧ (tableArgs o.desc).store = false ∧ 0 < (tableArgs o.desc).count ∧ DevRange s hv 0 (tableArgs o.desc).image p (4 * (tableArgs o.desc).count) false ∧ hv.ce = [] :=
  ⟨let s := Tests.mapped 0 (Tests.withRegs []); { s with ops := [(0, { Tests.opOf 1 (Tests.descOf 0x74 [(0x10, 0x2000000), (0x18, 17), (0x1C, 65539)]) .admitted with fn := 0 })], chains := [(0, Tests.chainOf 1)], mem := [(0, 5), (3, 0x80)] }, 0, { Tests.opOf 1 (Tests.descOf 0x74 [(0x10, 0x2000000), (0x18, 17), (0x1C, 65539)]) .admitted with fn := 0 }, Tests.noHost, 0, by decide +kernel⟩

theorem witness_OzmenPacketsAndTables_11 : ∃ (s : State) (op : Nat) (o : Op) (hv : HostView) (p : Nat), s.runnable op [0x74] = some o ∧ s.op? op = some o ∧ o.issued = false ∧ s.coreUp coreTransport = true ∧ o.fn = 0 ∧ s.tableBad (tableArgs o.desc) = none ∧ (tableArgs o.desc).table = tablePart ∧ (tableArgs o.desc).store = true ∧ 0 < (tableArgs o.desc).count ∧ DevRange s hv 0 (tableArgs o.desc).image p (4 * (tableArgs o.desc).count) true ∧ hv.ce = [] :=
  ⟨let s := Tests.mapped 0 (Tests.withRegs []); { s with ops := [(0, { Tests.opOf 1 (Tests.descOf 0x74 [(0x10, 0x2000000), (0x18, 257), (0x1C, 65539)]) .admitted with fn := 0 })], chains := [(0, Tests.chainOf 1)], mem := [], crw := { Crw.reset with part := [(3, 0x80000005)] } }, 0, { Tests.opOf 1 (Tests.descOf 0x74 [(0x10, 0x2000000), (0x18, 257), (0x1C, 65539)]) .admitted with fn := 0 }, Tests.noHost, 0, by decide +kernel⟩

theorem witness_OzmenPacketsAndTables_12 : ∃ (s : State), s.net.saveDue = [(0, 0)] ∧ s.coreUp coreTransport = true ∧ s.coreUp 0 = true :=
  ⟨{ State.reset with net := { Net.reset with saveDue := [(0, 0)] }, crw := { Crw.reset with part := [(3, 5)] } }, by decide +kernel⟩

/-! Witnesses of ParityOperations. -/

theorem witness_ParityOperations_1 : ∃ (s : State) (op : Nat) (o : Op) (k : Nat) (b : Binding) (hv : HostView) (ps : List Part), s.runnable op [0x75] = some o ∧ s.op? op = some o ∧ o.issued = false ∧ o.st = .running ∧ o.aux = [] ∧ o.progress = 0 ∧ parAction o.desc = 0 ∧ farAddr (dQuad o.desc 0x10) = false ∧ dQuad o.desc 0x10 % 256 = 0 ∧ s.orderWait op o = false ∧ s.opBinding o = some (k, b) ∧ ((boundParts ⟨hv, descTags o.desc⟩ o.fn op b.st).run s).1.toOption = some ps ∧ (∀ p ∈ ps, s.memberLost (holderOf s.parN s.member p.granule) = true) :=
  ⟨Tests.parIn 0 254 (⟨1, { Tests.boundX false with cap := 0 }, []⟩), 0, Tests.parOp 0, 0, ⟨1, { Tests.boundX false with cap := 0 }, []⟩, Tests.noHost, [], by decide +kernel⟩

theorem witness_ParityOperations_2 : ∃ (s : State) (op : Nat) (o : Op) (k : Nat) (b : Binding) (hv : HostView) (ps : List Part), s.runnable op [0x75] = some o ∧ s.op? op = some o ∧ o.issued = false ∧ o.st = .running ∧ o.aux = [] ∧ o.progress = 0 ∧ parAction o.desc = 3 ∧ farAddr (dQuad o.desc 0x10) = false ∧ dQuad o.desc 0x10 % 256 = 0 ∧ s.orderWait op o = false ∧ s.opBinding o = some (k, b) ∧ ((boundParts ⟨hv, descTags o.desc⟩ o.fn op b.st).run s).1.toOption = some ps ∧ (∀ p ∈ ps, s.memberLost (holderOf s.parN s.member p.granule) = true) ∧ s.headerPa o = some b.st.pa :=
  ⟨Tests.parIn 3 254 (⟨1, { Tests.boundX false with cap := 0 }, []⟩), 0, Tests.parOp 3, 0, ⟨1, { Tests.boundX false with cap := 0 }, []⟩, Tests.noHost, [], by decide +kernel⟩

theorem witness_ParityOperations_3 : ∃ (s : State) (op : Nat) (o : Op) (hv : HostView), s.runnable op [0x75] = some o ∧ s.op? op = some o ∧ o.issued = false ∧ 4 < parAction o.desc :=
  ⟨Tests.parIn 6 254 (Tests.boundOf false []), 0, Tests.parOp 6, Tests.noHost, by decide +kernel⟩

theorem witness_ParityOperations_4 : ∃ (s : State) (op : Nat) (o : Op) (hv : HostView), s.runnable op [0x75] = some o ∧ s.op? op = some o ∧ o.issued = false ∧ parAction o.desc = 0 ∧ farAddr (dQuad o.desc 0x10) = false ∧ dQuad o.desc 0x10 % 256 ≠ 0 :=
  ⟨{ (Tests.parIn 0 0 (Tests.boundOf false [])) with ops := [(0, Tests.opOf 1 (Tests.descOf 0x75 [(0x10, 0x2000140), (0x18, 0)]) .running)] }, 0, Tests.opOf 1 (Tests.descOf 0x75 [(0x10, 0x2000140), (0x18, 0)]) .running, Tests.noHost, by decide +kernel⟩

theorem witness_ParityOperations_5 : ∃ (s : State) (op : Nat) (o : Op) (hv : HostView), s.runnable op [0x75] = some o ∧ s.op? op = some o ∧ o.issued = false ∧ parAction o.desc = 1 ∧ farAddr (dQuad o.desc 0x10) = false ∧ dQuad o.desc 0x10 % 256 ≠ 0 :=
  ⟨{ (Tests.parIn 1 0 (Tests.boundOf false [])) with ops := [(0, Tests.opOf 1 (Tests.descOf 0x75 [(0x10, 0x2000140), (0x18, 1)]) .running)] }, 0, Tests.opOf 1 (Tests.descOf 0x75 [(0x10, 0x2000140), (0x18, 1)]) .running, Tests.noHost, by decide +kernel⟩

theorem witness_ParityOperations_6 : ∃ (s : State) (op : Nat) (o : Op) (hv : HostView), s.runnable op [0x75] = some o ∧ s.op? op = some o ∧ o.issued = false ∧ parAction o.desc = 2 ∧ farAddr (dQuad o.desc 0x10) = false ∧ dQuad o.desc 0x10 % 256 ≠ 0 :=
  ⟨{ (Tests.parIn 2 0 (Tests.boundOf false [])) with ops := [(0, Tests.opOf 1 (Tests.descOf 0x75 [(0x10, 0x2000140), (0x18, 2)]) .running)] }, 0, Tests.opOf 1 (Tests.descOf 0x75 [(0x10, 0x2000140), (0x18, 2)]) .running, Tests.noHost, by decide +kernel⟩

theorem witness_ParityOperations_7 : ∃ (s : State) (op : Nat) (o : Op), s.runnable op [0x75] = some o ∧ s.op? op = some o ∧ o.issued = false ∧ parAction o.desc = 2 ∧ farAddr (dQuad o.desc 0x10) = false ∧ dQuad o.desc 0x10 % 256 ≠ 0 :=
  ⟨{ (Tests.parIn 2 0 (Tests.boundOf false [])) with ops := [(0, Tests.opOf 1 (Tests.descOf 0x75 [(0x10, 0x2000140), (0x18, 2)]) .running)] }, 0, Tests.opOf 1 (Tests.descOf 0x75 [(0x10, 0x2000140), (0x18, 2)]) .running, by decide +kernel⟩

theorem witness_ParityOperations_8 : ∃ (s : State) (op : Nat) (o : Op) (hv : HostView), s.runnable op [0x75] = some o ∧ s.op? op = some o ∧ o.issued = false ∧ parAction o.desc = 3 ∧ farAddr (dQuad o.desc 0x10) = false ∧ dQuad o.desc 0x10 % 256 ≠ 0 :=
  ⟨{ (Tests.parIn 3 0 (Tests.boundOf false [])) with ops := [(0, Tests.opOf 1 (Tests.descOf 0x75 [(0x10, 0x2000140), (0x18, 3)]) .running)] }, 0, Tests.opOf 1 (Tests.descOf 0x75 [(0x10, 0x2000140), (0x18, 3)]) .running, Tests.noHost, by decide +kernel⟩

theorem witness_ParityOperations_9 : ∃ (s : State) (op : Nat) (o : Op) (k : Nat) (b : Binding) (hv : HostView), s.runnable op [0x75] = some o ∧ s.op? op = some o ∧ o.issued = false ∧ o.st = .running ∧ o.aux = [] ∧ o.progress = 0 ∧ parAction o.desc = 1 ∧ farAddr (dQuad o.desc 0x10) = false ∧ dQuad o.desc 0x10 % 256 = 0 ∧ s.orderWait op o = false ∧ s.opBinding o = some (k, b) ∧ b.st.recovery = false ∧ ((do let es ← (List.range b.st.layers).mapM (fun l => layerEntry ⟨hv, descTags o.desc⟩ o.fn b.st l false); let ws ← tailWrites ⟨hv, descTags o.desc⟩ o.fn b.st es; commitWrites ⟨hv, descTags o.desc⟩ o.fn ws : CtxM Unit).run s).1.isOk = true :=
  ⟨Tests.parIn 1 254 (Tests.boundOf false []), 0, Tests.parOp 1, 0, Tests.boundOf false [], Tests.noHost, by decide +kernel⟩

theorem witness_ParityOperations_10 : ∃ (s : State) (op : Nat) (o : Op) (k : Nat) (b : Binding), s.runnable op [0x75] = some o ∧ s.op? op = some o ∧ o.issued = false ∧ o.st = .running ∧ o.aux = [] ∧ o.progress = 0 ∧ parAction o.desc = 2 ∧ farAddr (dQuad o.desc 0x10) = false ∧ dQuad o.desc 0x10 % 256 = 0 ∧ s.orderWait op o = false ∧ s.opBinding o = some (k, b) ∧ b.blocksLeft = [] ∧ 0 < s.getF R.CTX_PAR_REBUILD_RATE 0 16 :=
  ⟨(Tests.parIn 2 254 (Tests.boundOf true [0])).wr R.CTX_PAR_REBUILD_RATE 100, 0, Tests.parOp 2, 0, Tests.boundOf true [0], by decide +kernel⟩

theorem witness_ParityOperations_11 : ∃ (s : State) (op : Nat) (o : Op) (k : Nat) (b : Binding) (g : Nat) (r : List Nat), s.runnable op [0x75] = some o ∧ s.op? op = some o ∧ o.issued = false ∧ o.st = .running ∧ o.aux = [] ∧ o.progress = 0 ∧ parAction o.desc = 2 ∧ farAddr (dQuad o.desc 0x10) = false ∧ dQuad o.desc 0x10 % 256 = 0 ∧ s.orderWait op o = false ∧ s.opBinding o = some (k, b) ∧ b.blocksLeft = g :: r ∧ 0 < s.getF R.CTX_PAR_REBUILD_RATE 0 16 ∧ s.par.bindings.look k = some b ∧ s.ydt.xfers = [] ∧ holderOf s.parN b.st.srcMember g ≠ s.member ∧ s.memberLost (holderOf s.parN b.st.srcMember g) = false ∧ s.endpointOn 0 = true ∧ s.encrypts 0 = false ∧ s.routed (s.memberDev (holderOf s.parN b.st.srcMember g)) = true :=
  ⟨let s := (((Tests.parIn 2 4 (Tests.boundOf true [])).wr R.CTX_PAR_REBUILD_RATE 100).wr (R.YDT_FN_PKEY 0) 0x80000005); { s with crw := { s.crw with route := [(24, 1), (27, 1), (28, 1 + 32 * 2 ^ 15)] } }, 0, Tests.parOp 2, 0, Tests.boundOf true [], 0, [], by decide +kernel⟩

theorem witness_ParityOperations_12 : ∃ (s : State) (op : Nat) (o : Op) (k : Nat) (b : Binding) (hv : HostView) (p : Nat), s.runnable op [0x75] = some o ∧ s.op? op = some o ∧ o.issued = false ∧ o.st = .running ∧ o.aux = [] ∧ o.progress = 0 ∧ parAction o.desc = 2 ∧ farAddr (dQuad o.desc 0x10) = false ∧ dQuad o.desc 0x10 % 256 = 0 ∧ s.orderWait op o = false ∧ s.opBinding o = some (k, b) ∧ b.blocksLeft = [] ∧ DevRange s hv o.fn (dQuad o.desc 0x10 + 0x48) p 4 true ∧ DevRange s hv o.fn (dQuad o.desc 0x10 + 0x48) p 4 false ∧ hv.ce = [] :=
  ⟨Tests.parIn 2 254 (Tests.boundOf true [0]), 0, Tests.parOp 2, 0, Tests.boundOf true [0], Tests.noHost, 0x148, by decide +kernel⟩

theorem witness_ParityOperations_13 : ∃ (s : State) (op : Nat) (o : Op) (hv : HostView), s.runnable op [0x75] = some o ∧ s.op? op = some o ∧ o.issued = false ∧ parAction o.desc = 4 ∧ s.par.rescan = none ∧ o.fn ≠ 0 :=
  ⟨Tests.rescanIn 1 [(0x20, 4)] 4, 0, Tests.recoverOp 1 [(0x20, 4)], Tests.noHost, by decide +kernel⟩

theorem witness_ParityOperations_14 : ∃ (s : State) (op : Nat) (o : Op) (hv : HostView), s.runnable op [0x75] = some o ∧ s.op? op = some o ∧ o.issued = false ∧ parAction o.desc = 4 ∧ s.par.rescan = none ∧ o.fn = 0 ∧ s.parLines < (dWord o.desc 0x1C + dWord o.desc 0x20) :=
  ⟨Tests.rescanIn 0 [(0x20, 5)] 4, 0, Tests.recoverOp 0 [(0x20, 5)], Tests.noHost, by decide +kernel⟩

theorem witness_ParityOperations_15 : ∃ (s : State) (op : Nat) (o : Op) (hv : HostView), s.runnable op [0x75] = some o ∧ s.op? op = some o ∧ o.issued = false ∧ parAction o.desc = 4 ∧ s.par.rescan = none ∧ o.fn = 0 ∧ (dWord o.desc 0x1C + dWord o.desc 0x20) ≤ s.parLines ∧ dWord o.desc 0x20 = 0 :=
  ⟨Tests.rescanIn 0 [(0x1C, 1)] 4, 0, Tests.recoverOp 0 [(0x1C, 1)], Tests.noHost, by decide +kernel⟩

theorem witness_ParityOperations_16 : ∃ (s : State) (op : Nat) (o : Op) (hv : HostView), s.runnable op [0x75] = some o ∧ s.op? op = some o ∧ o.issued = false ∧ parAction o.desc = 4 ∧ s.par.rescan = none ∧ o.fn = 0 ∧ (dWord o.desc 0x1C + dWord o.desc 0x20) ≤ s.parLines ∧ 0 < dWord o.desc 0x20 ∧ s.par.stages = [] ∧ 0 < s.getF R.CTX_PAR_REBUILD_RATE 0 16 ∧ s.ydt.xfers = [] ∧ s.rescanFrom = [] :=
  ⟨Tests.rescanIn 0 [(0x20, 4)] 4, 0, Tests.recoverOp 0 [(0x20, 4)], Tests.noHost, by decide +kernel⟩

theorem witness_ParityOperations_17 : ∃ (s : State) (x : Rescan) (o : Op), s.par.rescan = some x ∧ s.op? x.op = some o ∧ o.issued = false ∧ x.count ≤ x.done :=
  ⟨let s := Tests.rescanIn 0 [(0x20, 4)] 4; { s with par := { s.par with rescan := some ⟨0, 0, 4, 4, 0xFE⟩ } }, ⟨0, 0, 4, 4, 0xFE⟩, Tests.recoverOp 0 [(0x20, 4)], by decide +kernel⟩

theorem witness_ParityOperations_18 : ∃ (s : State) (x : Rescan) (m : Nat), s.par.rescan = some x ∧ x.count ≤ x.done ∧ x.first = 0 ∧ x.count = s.parLines ∧ m < 8 ∧ bitOf x.lost m = true :=
  ⟨let s := Tests.rescanIn 0 [(0x20, 4)] 4; { s with par := { s.par with rescan := some ⟨0, 0, 4, 4, 0xFE⟩ } }, ⟨0, 0, 4, 4, 0xFE⟩, 3, by decide +kernel⟩

/-! Witnesses of LostMembersAndMemoryErrors. -/

theorem witness_LostMembersAndMemoryErrors_1 : ∃ (s : State) (m : Nat), m < s.parN ∧ m ≠ s.member ∧ s.memberDev m ∉ s.peersUp ∧ (s.healthyPaths (s.memberDev m)).isEmpty = true :=
  ⟨State.reset, 3, by decide +kernel⟩

theorem witness_LostMembersAndMemoryErrors_5 : ∃ (s : State) (v : Word), s.parOn = false ∧ s.devicePages 0 s.parBase (131072 * s.parLines) = true :=
  ⟨Tests.withRegs [], 0x12340801, by decide +kernel⟩

theorem witness_LostMembersAndMemoryErrors_6 : ∃ (s : State) (v : Word), s.parOn = true ∧ bit v 0 = false :=
  ⟨(Tests.parIn 0 0 (Tests.boundOf false [])).setB R.CTX_PAR_CTRL 0 true, 0, by decide +kernel⟩

theorem witness_LostMembersAndMemoryErrors_7 : ∃ (s : State) (r : Nat) (v : Word), s.parOn = true ∧ (r = 1 ∨ r = 2 ∨ r = 3) :=
  ⟨Tests.withRegs [(R.CTX_PAR_CTRL, 1)], 1, 0x20000, by decide +kernel⟩

theorem witness_LostMembersAndMemoryErrors_8 : ∃ (s : State) (v : Word), s.parOn = false :=
  ⟨State.reset, 0xF0000007, by decide +kernel⟩

theorem witness_LostMembersAndMemoryErrors_9 : ∃ (s : State) (b : Nat), s.repeats b = true ∧ s.coreUp 4 = true ∧ s.badBurst b = false ∧ s.idle.selfRefresh = false :=
  ⟨{ State.reset with dramInit := true, msys := { MemSys.reset with ceTrack := [(0, [(0, [1, 2, 3])])] } }, 0, by decide +kernel⟩

theorem witness_LostMembersAndMemoryErrors_10 : ∃ (s : State) (b : Nat), s.repeats b = false :=
  ⟨State.reset, 0, by decide +kernel⟩

theorem witness_LostMembersAndMemoryErrors_12 : ∃ (s : State) (i : Nat), i < s.trn.tlb.length :=
  ⟨{ State.reset with trn := { Trn.reset with tlb := [⟨1, false, 1, .device 0, true, true, false⟩] } }, 0, by decide +kernel⟩

theorem witness_LostMembersAndMemoryErrors_13 : ∃ (s : State) (i : Nat), s.slotState i = 1 :=
  ⟨Tests.withRegs [(R.SEC_SLOT_STATUS 4, 1)], 4, by decide +kernel⟩

/-! Witnesses of ClocksAndModel. -/

theorem witness_ClocksAndModel_1 : ∃ (s : State) (n : Nat), n < 16 ∧ s.pwr.stretched.contains n = false ∧ s.clockOf n < s.targetOf n ∧ voltFor (s.clusterLimit n) (s.targetOf n) ≤ s.getF R.PWR_VCORE 0 10 :=
  ⟨{ (Tests.withRegs [(R.PWR_VCORE, 0x3FF)]) with pwr := { Pwr.reset with target := [(3, 700)] } }, 3, by refine ⟨by decide, by decide +kernel, by decide +kernel, ?_⟩; exact Nat.le_trans (m := 850) (by unfold voltFor; split <;> omega) (by decide +kernel)⟩

theorem witness_ClocksAndModel_2 : ∃ (s : State) (n : Nat), n < 16 ∧ s.pwr.stretched.contains n = false ∧ s.targetOf n < s.clockOf n :=
  ⟨{ State.reset with pwr := { Pwr.reset with target := [(3, 420)] } }, 3, by decide +kernel⟩

theorem witness_ClocksAndModel_3 : ∃ (s : State) (n : Nat), (s.pwr.stretched.contains n = true ∨ s.clockOf n = s.targetOf n) :=
  ⟨{ State.reset with pwr := { Pwr.reset with stretched := [3], target := [(3, 700)] } }, 3, by decide +kernel⟩

theorem witness_ClocksAndModel_4 : ∃ (s : State) (mv : Nat), mv < 1024 ∧ s.railGoal < 1024 :=
  ⟨Tests.idleIn 2 id, 648, by decide +kernel⟩

theorem witness_ClocksAndModel_5 : ∃ (s : State) (l : List Nat) (hot : Int) (mv w : Nat), mv < 1024 :=
  ⟨State.reset, [1000, 2000], 800, 700, 150000, by decide +kernel⟩

theorem witness_ClocksAndModel_6 : ∃ (s : State) (l : List Nat), s.coreUp corePwr = true ∧ s.pwr.railCount ≠ 0 ∧ flt (s.getF R.PWR_CAP_EFFECTIVE 0 8 * 600, 1) s.inputMeans.1 = true :=
  ⟨{ State.reset with pwr := { Pwr.reset with railCount := 2, railSum := [(0, (200, 1)), (3, (90, 2))], window := [(200000, (1, 1))] } }, [110, 5, 6, 20, 0, 0], by decide +kernel⟩

theorem witness_ClocksAndModel_7 : ∃ (s : State) (l : List Nat), s.coreUp corePwr = true ∧ flt (s.getF R.PWR_CAP_EFFECTIVE 0 8 * 600, 1) s.inputMeans.1 = false :=
  ⟨{ State.reset with pwr := { Pwr.reset with railCount := 2, railSum := [(0, (200, 1))] } }, [110], by decide +kernel⟩

theorem witness_ClocksAndModel_8 : ∃ (s : State), s.coreUp corePwr = true ∧ s.dieUp = true :=
  ⟨{ State.reset with pwr := { Pwr.reset with coef := [(3, (5, 7))], need := [(1, 800)] } }, by decide +kernel⟩

theorem witness_ClocksAndModel_9 : ∃ (s : State) (p : Nat), 15 < p ∧ s.stale = false :=
  ⟨State.reset, 18, by decide +kernel⟩

theorem witness_ClocksAndModel_10 : ∃ (s : State) (p : Nat), p ≤ 5 ∧ s.stale = true :=
  ⟨Tests.withRegs [(R.PWR_MODEL_STATUS, 1)], 4, by decide +kernel⟩

theorem witness_ClocksAndModel_11 : ∃ (s : State) (b : PhaseObs), s.coreUp corePwr = true ∧ b.phase < 6 ∧ b.present ≠ 0 :=
  ⟨State.reset, ⟨2, 900, 50, 100⟩, by decide +kernel⟩

theorem witness_ClocksAndModel_12 : ∃ (s : State), s.stale = false ∧ s.reduced = false :=
  ⟨{ State.reset with boot := { Boot.reset with } }, by decide +kernel⟩

theorem witness_ClocksAndModel_13 : ∃ (s : State), s.stale = true ∧ s.pwr.periods ≠ 4 :=
  ⟨{ (Tests.withRegs [(R.PWR_MODEL_STATUS, 1)]) with pwr := { Pwr.reset with k := 100 } }, by decide +kernel⟩

theorem witness_ClocksAndModel_14 : ∃ (s : State) (n : Nat), n < 16 ∧ s.clusterOps n = [] ∧ s.pwr.idle.contains n = false :=
  ⟨State.reset, 3, by decide +kernel⟩

theorem witness_ClocksAndModel_15 : ∃ (s : State), s.getF R.PWR_FMAX_CTRL 0 8 ≠ 0 ∧ s.dieUp = true ∧ (((s.pwr.testing = none ∧ s.idleState = 0) ∧ s.coreUp corePwr = true)) ∧ s.tileRetired 0 0 = false :=
  ⟨Tests.withRegs [(R.PWR_FMAX_CTRL, 24)], by decide +kernel⟩

theorem witness_ClocksAndModel_16 : ∃ (s : State) (v : Word), bit v 31 = true ∧ (((s.pwr.testing = none ∧ s.idleState = 0) ∧ s.coreUp corePwr = true)) ∧ s.tileRetired 0 0 = false :=
  ⟨State.reset, 0x80000018, by decide +kernel⟩

theorem witness_ClocksAndModel_17 : ∃ (s : State) (v : Word), bit v 31 = false :=
  ⟨State.reset, 0x18, by decide +kernel⟩

theorem witness_ClocksAndModel_18 : ∃ (s : State) (i : Nat) (p : Option Nat), i < 64 ∧ s.pwr.testing = some i ∧ (s.tileAt (i / 4) (i % 4)).units = [] ∧ s.coreUp corePwr = true ∧ 950 ≤ fusedFmax i :=
  ⟨{ State.reset with pwr := { Pwr.reset with testing := some 5 } }, 5, some 960, by exact ⟨by decide, by decide, by decide +kernel, by decide +kernel, by unfold fusedFmax; omega⟩⟩

/-! Witnesses of CapDroopAndThermal. -/

theorem witness_CapDroopAndThermal_2 : ∃ (s : State) (w : Nat), s.dieUp = true ∧ 120 ≤ w ∧ w ≤ 220 :=
  ⟨State.reset, 140, by decide +kernel⟩

theorem witness_CapDroopAndThermal_3 : ∃ (s : State) (n : Nat), n < 16 ∧ s.getB R.PWR_DROOP_CTRL 16 = true ∧ s.pwr.stretched.contains n = false :=
  ⟨Tests.withRegs [(R.PWR_DROOP_CTRL, 0x10000)], 3, by decide +kernel⟩

theorem witness_CapDroopAndThermal_4 : ∃ (s : State) (n : Nat), s.pwr.stretched.contains n = true :=
  ⟨{ State.reset with pwr := { Pwr.reset with stretched := [3] } }, 3, by decide +kernel⟩

theorem witness_CapDroopAndThermal_5 : ∃ (s : State) (n : Nat), s.pwr.stretched.contains n = true :=
  ⟨{ State.reset with pwr := { Pwr.reset with stretched := [3] } }, 3, by decide +kernel⟩

theorem witness_CapDroopAndThermal_6 : ∃ (s : State) (h v : Int) (w : Nat), s.dieLimit < h ∧ s.pwr.thermal = none :=
  ⟨State.reset, 1800, 0, 180000, by decide +kernel⟩

theorem witness_CapDroopAndThermal_7 : ∃ (s : State) (h v : Int) (w : Nat) (c : Nat), (s.dieLimit < h ∨ s.convLimit < v) ∧ s.pwr.thermal = some c :=
  ⟨{ State.reset with pwr := { Pwr.reset with thermal := some 180 } }, 1800, 0, 180000, 180, by decide +kernel⟩

theorem witness_CapDroopAndThermal_8 : ∃ (s : State) (h v : Int) (w : Nat) (c : Nat), h ≤ s.dieLimit - 48 ∧ v ≤ s.convLimit - 48 ∧ s.pwr.thermal = some c :=
  ⟨{ State.reset with pwr := { Pwr.reset with thermal := some 180 } }, 200, 100, 180000, 180, by decide +kernel⟩

theorem witness_CapDroopAndThermal_9 : ∃ (s : State) (h v : Int) (w : Nat), h ≤ s.dieLimit ∧ v ≤ s.convLimit ∧ s.pwr.thermal = none ∧ s.pwr.dramShare = [] :=
  ⟨State.reset, 200, 100, 180000, by decide +kernel⟩

theorem witness_CapDroopAndThermal_10 : ∃ (s : State) (n : Nat) (x : Int), n < 20 ∧ s.dramLimit < x ∧ s.pwr.dramShare.look n = none :=
  ⟨State.reset, 3, 2000, by decide +kernel⟩

theorem witness_CapDroopAndThermal_11 : ∃ (s : State) (n : Nat) (x : Int) (f : Nat), n < 20 ∧ s.dramLimit < x ∧ s.pwr.dramShare.look n = some f :=
  ⟨{ State.reset with pwr := { Pwr.reset with dramShare := [(3, 7)] } }, 3, 2000, 7, by decide +kernel⟩

theorem witness_CapDroopAndThermal_12 : ∃ (s : State) (n : Nat) (x : Int) (f : Nat), n < 20 ∧ x ≤ s.dramLimit - 80 ∧ s.pwr.dramShare.look n = some f :=
  ⟨{ State.reset with pwr := { Pwr.reset with dramShare := [(3, 6)] } }, 3, 200, 6, by decide +kernel⟩

theorem witness_CapDroopAndThermal_13 : ∃ (s : State) (x : Int), 45 * 16 < x ∧ s.dieUp = true :=
  ⟨State.reset, 800, by decide +kernel⟩

theorem witness_CapDroopAndThermal_14 : ∃ (s : State) (g : Nat), g < 256 :=
  ⟨{ State.reset with pwr := { Pwr.reset with pace := [(4, (1, 2)), (9, (1, 3))] } }, 4, by decide +kernel⟩

/-! Witnesses of FirmwareAndDumps. -/

theorem witness_FirmwareAndDumps_1 : ∃ (s : State) (sm : Bool) (k : MctpKind) (l : List Byte), s.hw.power = .on ∧ s.dieUp = true ∧ ((sm = true ∧ s.hw.auxIn = true) ∨ (sm = false ∧ s.linkUp = true)) ∧ s.coreUp (mctpCore k) = true :=
  ⟨State.reset, true, .reset, [5], by decide +kernel⟩

theorem witness_FirmwareAndDumps_2 : ∃ (s : State) (sm : Bool) (k : MctpKind) (l : List Byte), s.hw.power = .on ∧ s.dieUp = true ∧ ((sm = true ∧ s.hw.auxIn = true) ∨ (sm = false ∧ s.linkUp = true)) ∧ s.coreUp (mctpCore k) = false :=
  ⟨Tests.withRegs [(R.FWC_CORE_STATUS 0, 1)], true, .reset, [5], by decide +kernel⟩

theorem witness_FirmwareAndDumps_3 : ∃ (s : State) (sm : Bool) (k : MctpKind) (l : List Byte), (s.hw.power = .aux ∨ s.hw.power = .fault) ∧ (k = .fwUpdate ∨ k = .monitoring ∨ k = .dump) :=
  ⟨Tests.inAux, true, .dump, [5], by decide +kernel⟩

theorem witness_FirmwareAndDumps_4 : ∃ (s : State) (sm : Bool) (i : Nat) (l : List Byte) (z : Bool), s.hw.power = .on ∧ s.dieUp = true ∧ i + l.length ≤ bankBytes ∧ s.flash.active < 2 ∧ s.coreUp 0 = true ∧ s.fwc.writing = none ∧ ((sm = true ∧ s.hw.auxIn = true) ∨ (sm = false ∧ s.linkUp = true)) :=
  ⟨State.reset, true, 64, [1, 2], true, by decide +kernel⟩

theorem witness_FirmwareAndDumps_5 : ∃ (s : State) (sm : Bool) (i : Nat) (l : List Byte) (z : Bool), (s.hw.power = .aux ∨ s.hw.power = .fault) ∧ i + l.length ≤ bankBytes ∧ s.flash.active < 2 ∧ s.hw.auxIn = true :=
  ⟨Tests.inAux, true, 64, [1, 2], true, by decide +kernel⟩

theorem witness_FirmwareAndDumps_6 : ∃ (s : State) (m : Image), s.dieUp = true ∧ s.coreUp 0 = true ∧ s.flash.active < 2 ∧ (s.bank s.spare).complete = true ∧ (s.bank s.spare).info = none ∧ (s.bank s.spare).unchecked = false ∧ s.imageOk m = true :=
  ⟨Tests.spareBank (Tests.wholeBank none false), Tests.imageOf 9 5, by decide +kernel⟩

theorem witness_FirmwareAndDumps_7 : ∃ (s : State) (m : Image), s.dieUp = true ∧ s.coreUp 0 = true ∧ s.flash.active < 2 ∧ (s.bank s.spare).complete = true ∧ (s.bank s.spare).info = none ∧ (s.bank s.spare).unchecked = false ∧ s.imageOk m = false :=
  ⟨Tests.spareBank (Tests.wholeBank none false), { Tests.imageOf 9 5 with sigOk := false }, by decide +kernel⟩

theorem witness_FirmwareAndDumps_8 : ∃ (s : State) (v : Word) (b : Nat), fld v 8 24 = 0xB88002 ∧ bit v 0 = true ∧ bit v 1 = false ∧ s.flash.pending = some b :=
  ⟨Tests.pendingBank, 0xB8800201, Tests.pendingBank.spare, by decide +kernel⟩

theorem witness_FirmwareAndDumps_9 : ∃ (s : State) (v : Word), fld v 8 24 ≠ 0xB88002 :=
  ⟨Tests.pendingBank, 0x201, by decide +kernel⟩

theorem witness_FirmwareAndDumps_10 : ∃ (s : State) (v : Word), fld v 8 24 ≠ 0xB88002 :=
  ⟨Tests.pendingBank, 0x202, by decide +kernel⟩

theorem witness_FirmwareAndDumps_11 : ∃ (s : State) (v : Word) (m : Image), fld v 8 24 = 0xB88002 ∧ bit v 0 = false ∧ bit v 1 = true ∧ s.flash.trial = true ∧ (s.bank s.flash.active).info = some m ∧ max s.flash.svn m.svn < 256 :=
  ⟨let s := (State.reset.putBank 0 (Tests.wholeBank (some (Tests.imageOf 9 5)) true)); { s with flash := { s.flash with active := 0, trial := true } }, 0xB8800202, Tests.imageOf 9 5, by decide +kernel⟩

theorem witness_FirmwareAndDumps_12 : ∃ (s : State) (d : Dump) (l : List Dump), s.coreUp 0 = true ∧ s.dieUp = true ∧ s.fwc.writing = none ∧ s.fwc.staged = d :: l :=
  ⟨{ State.reset with fwc := { State.reset.fwc with staged := [Tests.dumpOf 0 1 2] }, flash := { State.reset.flash with dumps := [(0, Tests.dumpOf 3 2 1), (1, Tests.dumpOf 2 2 1)] } }, Tests.dumpOf 0 1 2, [], by decide +kernel⟩

theorem witness_FirmwareAndDumps_13 : ∃ (s : State) (d : Dump) (l : List Dump) (k : Nat), s.coreUp 0 = true ∧ s.dieUp = true ∧ s.fwc.writing = some k ∧ s.fwc.staged = d :: l ∧ s.fwc.inq.look 0 = none :=
  ⟨{ State.reset with fwc := { State.reset.fwc with staged := [Tests.dumpOf 0 1 2], writing := some 1 } }, Tests.dumpOf 0 1 2, [], 1, by decide +kernel⟩

theorem witness_FirmwareAndDumps_15 : ∃ (s : State) (op : Nat) (o : Op) (hv : HostView), s.runnable op [0x76] = some o ∧ s.op? op = some o ∧ o.issued = false ∧ s.coreUp 5 = true ∧ o.fn ≠ 0 :=
  ⟨Tests.dumping 2 0, 0, Tests.dumpOp 2 0, Tests.noHost, by decide +kernel⟩

theorem witness_FirmwareAndDumps_16 : ∃ (s : State) (op : Nat) (o : Op) (hv : HostView), s.runnable op [0x76] = some o ∧ s.op? op = some o ∧ o.issued = false ∧ s.coreUp 5 = true ∧ o.fn = 0 ∧ farAddr (dQuad o.desc 0x10) = false ∧ dQuad o.desc 0x10 % 64 = 0 ∧ s.flash.dumps.look (dfld o.desc 0x18 0 1) = none :=
  ⟨Tests.dumping 0 1, 0, Tests.dumpOp 0 1, Tests.noHost, by decide +kernel⟩

theorem witness_FirmwareAndDumps_17 : ∃ (s : State) (op : Nat) (o : Op) (hv : HostView) (p : Nat) (d : Dump), s.runnable op [0x76] = some o ∧ s.op? op = some o ∧ o.issued = false ∧ s.coreUp 5 = true ∧ o.fn = 0 ∧ farAddr (dQuad o.desc 0x10) = false ∧ dQuad o.desc 0x10 % 64 = 0 ∧ s.flash.dumps.look (dfld o.desc 0x18 0 1) = some d ∧ DevRange s hv o.fn (dQuad o.desc 0x10) p 0x200000 true :=
  ⟨Tests.dumping 0 0, 0, Tests.dumpOp 0 0, Tests.noHost, 0, Tests.dumpOf 3 2 1, by refine ⟨by decide +kernel, by decide +kernel, by decide +kernel, by decide +kernel, by decide +kernel, by decide +kernel, by decide +kernel, by decide +kernel, ?_⟩; rw [show dQuad (Tests.dumpOp 0 0).desc 0x10 = 33554432 by decide +kernel]; exact Tests.dumping_range⟩

theorem witness_FirmwareAndDumps_18 : ∃ (s : State), (s.hw.power = .aux ∨ s.hw.power = .fault ∨ (s.hw.power = .on ∧ s.dieUp = true ∧ s.coreUp 5 = true)) :=
  ⟨Tests.inAux, by decide +kernel⟩

theorem witness_FirmwareAndDumps_19 : ∃ (s : State) (i : Nat), (s.hw.power = .aux ∨ s.hw.power = .fault ∨ (s.hw.power = .on ∧ s.dieUp = true ∧ s.coreUp 5 = true)) :=
  ⟨State.reset, 1, by decide +kernel⟩

/-! Witnesses of CoresAndHandover. -/

theorem witness_CoresAndHandover_1 : ∃ (s : State) (c : Nat) (k : Nat) (m : Option (Nat × Nat)), s.dieUp = true ∧ c < 6 ∧ s.coreState c = 0 ∧ k < 16 ∧ s.fwc.handover = none ∧ ((s.fwc.crashes.look c).getD []).length < s.getF R.FWC_ESCALATE 0 8 ∧ m.any (fun a => s.mpuAllows c a.1 a.2) = false :=
  ⟨State.reset, 2, 3, none, by decide +kernel⟩

theorem witness_CoresAndHandover_2 : ∃ (s : State) (c : Nat) (k : Nat), s.dieUp = true ∧ c < 6 ∧ s.coreState c = 0 ∧ k < 16 ∧ s.fwc.handover = none ∧ s.getF R.FWC_ESCALATE 0 8 = 0 ∧ s.getB R.FWC_ESCALATE 31 = false :=
  ⟨Tests.withRegs [(R.FWC_ESCALATE, 0)], 2, 3, by decide +kernel⟩

theorem witness_CoresAndHandover_3 : ∃ (s : State) (c : Nat), s.dieUp = true ∧ c < 6 ∧ s.coreState c = 0 ∧ s.coreUp c = true ∧ s.fwc.handover = none ∧ ((s.fwc.crashes.look c).getD []).length < s.getF R.FWC_ESCALATE 0 8 :=
  ⟨State.reset, 2, by decide +kernel⟩

theorem witness_CoresAndHandover_4 : ∃ (s : State) (c : Nat), s.fwc.halted.contains c = true ∧ s.coreUp c = false :=
  ⟨{ State.reset with fwc := { State.reset.fwc with halted := [2] } }, 2, by decide +kernel⟩

theorem witness_CoresAndHandover_5 : ∃ (s : State) (c : Nat) (k : Nat), s.dieUp = true ∧ c < 6 ∧ s.coreState c = 1 ∧ s.fwc.cause.look c = some k ∧ s.fwc.back = [] ∧ c ≠ 0 :=
  ⟨let s := Tests.withRegs [(R.FWC_CORE_STATUS 2, 1)]; { s with fwc := { s.fwc with cause := [(2, 3)] } }, 2, 3, by decide +kernel⟩

theorem witness_CoresAndHandover_6 : ∃ (s : State) (c : Nat) (v : Word), v = BitVec.ofNat 32 (0xB8800100 + c) ∧ c < 6 ∧ s.coreState c ≠ 1 ∧ s.fwc.handover = none :=
  ⟨State.reset, 4, 0xB8800104, by decide +kernel⟩

theorem witness_CoresAndHandover_7 : ∃ (s : State) (c : Nat) (v : Word), v = BitVec.ofNat 32 (0xB8800100 + c) ∧ c < 6 ∧ s.coreState c = 1 :=
  ⟨Tests.withRegs [(R.FWC_CORE_STATUS 4, 1)], 4, 0xB8800104, by decide +kernel⟩

theorem witness_CoresAndHandover_8 : ∃ (s : State), s.handoverTo.isSome = true :=
  ⟨Tests.pendingBank, by decide +kernel⟩

theorem witness_CoresAndHandover_9 : ∃ (s : State), s.handoverTo = none :=
  ⟨State.reset, by decide +kernel⟩

theorem witness_CoresAndHandover_10 : ∃ (s : State) (l : List Nat), s.fwc.handover = some l ∧ l.length < 5 ∧ s.coreState (4 - l.length) = 0 ∧ s.coreState (5 - l.length) = 1 :=
  ⟨Tests.handing [5, 4], [5, 4], by decide +kernel⟩

theorem witness_CoresAndHandover_11 : ∃ (s : State) (l : List Nat), s.fwc.handover = some l ∧ l.length < 5 ∧ l.head? = some 5 ∧ l.getLast? ≠ none :=
  ⟨Tests.handing [5, 4], [5, 4], by decide +kernel⟩

theorem witness_CoresAndHandover_12 : ∃ (s : State) (b : Nat) (m : Image), s.fwc.handover = some [5, 4, 3, 2, 1] ∧ s.flash.pending = some b ∧ (s.bank b).info = some m :=
  ⟨Tests.handing [5, 4, 3, 2, 1], Tests.pendingBank.spare, Tests.imageOf 9 ((State.reset.rd R.FWC_IF_VERSION).toNat), by decide +kernel⟩

/-! Witnesses of SessionsAndKeys. -/

theorem witness_SessionsAndKeys_1 : ∃ (s : State) (d : Bool) (i : Nat), s.dieUp = true ∧ s.boot.internal = true ∧ (d = false ∨ s.linkUp = true) ∧ s.coreUp 0 = true ∧ s.entropyBad = false ∧ 1 ≤ i ∧ i ≤ 11 :=
  ⟨Tests.secured [], false, 4, by decide +kernel⟩

theorem witness_SessionsAndKeys_2 : ∃ (s : State) (d : Bool), s.dieUp = true ∧ s.boot.internal = true ∧ (d = false ∨ s.linkUp = true) ∧ s.coreUp 0 = true ∧ s.entropyBad = false ∧ s.sec.sessions.length < 4 ∧ s.getB R.SEC_BOOT_STATUS 8 = true :=
  ⟨Tests.secured [], false, by decide +kernel⟩

theorem witness_SessionsAndKeys_3 : ∃ (s : State) (d : Bool), s.dieUp = true ∧ s.boot.internal = true ∧ (d = false ∨ s.linkUp = true) ∧ s.coreUp 0 = true ∧ s.entropyBad = false ∧ 4 ≤ s.sec.sessions.length ∧ s.getB R.SEC_BOOT_STATUS 8 = true :=
  ⟨{ (Tests.secured []) with sec := { (Tests.secured []).sec with sessions := List.replicate 4 ⟨1, false, none⟩ } }, false, by decide +kernel⟩

theorem witness_SessionsAndKeys_4 : ∃ (s : State) (d : Bool), s.dieUp = true ∧ s.boot.internal = true ∧ (d = false ∨ s.linkUp = true) ∧ (s.coreUp 0 = false ∨ s.getB R.SEC_BOOT_STATUS 8 = false) :=
  ⟨let s := Tests.withRegs []; { s with boot := { s.boot with internal := true } }, false, by decide +kernel⟩

theorem witness_SessionsAndKeys_5 : ∃ (s : State) (d : Bool), s.dieUp = true ∧ s.boot.internal = true ∧ (d = false ∨ s.linkUp = true) ∧ s.coreUp 0 = false :=
  ⟨(Tests.secured []).wr (R.FWC_CORE_STATUS 0) 1, false, by decide +kernel⟩

theorem witness_SessionsAndKeys_6 : ∃ (s : State) (i : Nat) (k f id key : Nat), s.dieUp = true ∧ s.boot.internal = true ∧ (s.session? i).isSome = true ∧ s.coreUp 0 = true ∧ s.entropyBad = false ∧ k < 1024 ∧ f < 64 ∧ s.slotState k ≠ 1 ∧ ((List.range 1024).filter (fun i => i ≠ k && s.slotState i = 1 && s.getF (R.SEC_SLOT_STATUS i) 8 6 = f)).length < s.getF (R.TRN_FN_KEYS f) 0 11 ∧ s.sec.alarms = [] ∧ s.sec.wasOpen = false :=
  ⟨Tests.secured [(R.TRN_FN_KEYS 3, 2)], 1, 9, 3, 77, 12345, by decide +kernel⟩

theorem witness_SessionsAndKeys_7 : ∃ (s : State) (i : Nat) (k f id key : Nat), s.dieUp = true ∧ s.boot.internal = true ∧ (s.session? i).isSome = true ∧ s.coreUp 0 = true ∧ s.entropyBad = false ∧ s.slotState k = 1 :=
  ⟨Tests.secured [(R.SEC_SLOT_STATUS 9, 1)], 1, 9, 3, 77, 12345, by decide +kernel⟩

theorem witness_SessionsAndKeys_8 : ∃ (s : State), s.dieUp = true ∧ s.boot.internal = true :=
  ⟨Tests.secured [], by decide +kernel⟩

theorem witness_SessionsAndKeys_9 : ∃ (s : State), s.dieUp = true ∧ s.boot.internal = true :=
  ⟨Tests.secured [], by decide +kernel⟩

theorem witness_SessionsAndKeys_10 : ∃ (s : State), s.dieUp = true ∧ s.boot.internal = true :=
  ⟨Tests.secured [], by decide +kernel⟩

theorem witness_SessionsAndKeys_11 : ∃ (s : State) (i : Nat) (k : Nat), s.dieUp = true ∧ s.boot.internal = true ∧ (s.session? i).isSome = true ∧ s.coreUp 0 = true ∧ s.entropyBad = false ∧ k < 1024 :=
  ⟨Tests.secured [(R.SEC_SLOT_STATUS 9, 1)], 1, 9, by decide +kernel⟩

theorem witness_SessionsAndKeys_12 : ∃ (s : State) (i : Nat), s.dieUp = true ∧ s.boot.internal = true ∧ (s.session? i).isSome = true ∧ s.coreUp 0 = true ∧ s.entropyBad = false :=
  ⟨Tests.secured [(R.SEC_SLOT_STATUS 9, 1)], 1, by decide +kernel⟩

theorem witness_SessionsAndKeys_13 : ∃ (s : State) (i : Nat) (k : Nat), s.dieUp = true ∧ s.boot.internal = true ∧ (s.session? i).isSome = true ∧ s.coreUp 0 = true ∧ s.entropyBad = false :=
  ⟨Tests.secured [(R.SEC_SLOT_STATUS 9, 1)], 1, 9, by decide +kernel⟩

theorem witness_SessionsAndKeys_14 : ∃ (s : State), s.boot.internal = true ∧ s.coreUp 0 = true ∧ s.getB R.SEC_BOOT_STATUS 8 = false :=
  ⟨let s := Tests.withRegs []; { s with boot := { s.boot with internal := true } }, by decide +kernel⟩

theorem witness_SessionsAndKeys_16 : ∃ (s : State) (v : Word), v ≠ 0xB8800400 :=
  ⟨State.reset, 1, by decide +kernel⟩

/-! Witnesses of DebugUnlockAlarmsAndBindings. -/

theorem witness_DebugUnlockAlarmsAndBindings_1 : ∃ (s : State), s.dieUp = true ∧ s.boot.internal = true :=
  ⟨Tests.secured [], by decide +kernel⟩

theorem witness_DebugUnlockAlarmsAndBindings_2 : ∃ (s : State), s.dieUp = true ∧ s.boot.internal = true :=
  ⟨Tests.secured [], by decide +kernel⟩

theorem witness_DebugUnlockAlarmsAndBindings_3 : ∃ (s : State), s.dieUp = true ∧ s.boot.internal = true :=
  ⟨Tests.secured [], by decide +kernel⟩

theorem witness_DebugUnlockAlarmsAndBindings_4 : ∃ (s : State) (i : Nat), s.dieUp = true ∧ s.boot.internal = true ∧ (s.session? i).isSome = true ∧ s.coreUp 0 = true ∧ s.entropyBad = false :=
  ⟨Tests.secured [], 1, by decide +kernel⟩

theorem witness_DebugUnlockAlarmsAndBindings_5 : ∃ (s : State) (i : Nat) (x : Session) (n r : Nat), s.dieUp = true ∧ s.boot.internal = true ∧ (s.session? i).isSome = true ∧ s.coreUp 0 = true ∧ s.entropyBad = false ∧ s.session? i = some x ∧ x.nonce = some n ∧ (r = 1 ∨ (r = 0 ∧ s.flash.root0Revoked = false)) :=
  ⟨Tests.secured [], 1, ⟨1, false, some 44⟩, 44, 1, by decide +kernel⟩

theorem witness_DebugUnlockAlarmsAndBindings_6 : ∃ (s : State) (i : Nat) (x : Session) (se n r : Nat), s.dieUp = true ∧ s.boot.internal = true ∧ (s.session? i).isSome = true ∧ s.coreUp 0 = true ∧ s.entropyBad = false ∧ s.session? i = some x ∧ x.nonce ≠ some n :=
  ⟨Tests.secured [], 1, ⟨1, false, some 44⟩, 5, 45, 1, by decide +kernel⟩

theorem witness_DebugUnlockAlarmsAndBindings_7 : ∃ (s : State) (i : Nat), s.dieUp = true ∧ s.boot.internal = true ∧ (s.session? i).isSome = true ∧ s.coreUp 0 = true ∧ s.entropyBad = false ∧ s.debugOpen = true :=
  ⟨let s := Tests.secured [(R.SEC_BOOT_STATUS, 0x200)]; { s with fwc := { s.fwc with halted := [2] } }, 1, by decide +kernel⟩

theorem witness_DebugUnlockAlarmsAndBindings_8 : ∃ (s : State) (c k a : Nat), s.dieUp = true ∧ c < 6 ∧ s.debugOpen = false :=
  ⟨State.reset, 2, 0, 0, by decide +kernel⟩

theorem witness_DebugUnlockAlarmsAndBindings_9 : ∃ (s : State) (c k a : Nat), s.dieUp = true ∧ c < 6 ∧ s.debugOpen = true ∧ s.fwc.halted.contains c = false :=
  ⟨Tests.withRegs [(R.SEC_BOOT_STATUS, 0x200)], 2, 0, 0, by decide +kernel⟩

theorem witness_DebugUnlockAlarmsAndBindings_10 : ∃ (s : State) (c k a : Nat), s.dieUp = true ∧ c < 6 ∧ s.debugOpen = true ∧ c ≠ 0 :=
  ⟨let s := Tests.withRegs [(R.SEC_BOOT_STATUS, 0x200)]; { s with fwc := { s.fwc with halted := [2] } }, 2, 0, 0, by decide +kernel⟩

theorem witness_DebugUnlockAlarmsAndBindings_11 : ∃ (s : State) (a : Nat), a < 5 ∧ s.dieUp = true ∧ s.sec.alarms.contains a = false :=
  ⟨Tests.secured [(R.SEC_SLOT_STATUS 9, 1), (R.SEC_SLOT_STATUS 12, 0x301)], 3, by decide +kernel⟩

theorem witness_DebugUnlockAlarmsAndBindings_12 : ∃ (s : State) (a : Nat), a ≠ 4 ∧ s.sec.alarms.contains a = true :=
  ⟨let s := State.reset; { s with sec := { s.sec with alarms := [3] } }, 3, by decide +kernel⟩

theorem witness_DebugUnlockAlarmsAndBindings_13 : ∃ (s : State) (i : Nat) (v : Word), i < 256 ∧ (s.wr (R.SEC_PART_KEY i) v).bindingClash i = false :=
  ⟨Tests.withRegs [(R.SEC_PART_SLOTS 7, 0x50004)], 7, 0x80000005, by decide +kernel⟩

theorem witness_DebugUnlockAlarmsAndBindings_14 : ∃ (s : State) (i : Nat) (v : Word), i < 256 ∧ (s.wr (R.SEC_PART_KEY i) v).bindingClash i = true ∧ bit v 31 = true :=
  ⟨Tests.withRegs [(R.SEC_PART_KEY 3, 0x80000005)], 7, 0x80000005, by decide +kernel⟩

/-! Witnesses of CountersAndFreezes. -/

theorem witness_CountersAndFreezes_2 : ∃ (s : State) (i : Nat) (v : Word), i < 64 ∧ v = BitVec.ofNat 32 (0xB8800700 + i) :=
  ⟨{ State.reset with dbg := { Dbg.reset with counters := [(0, 5), (3, 7)] } }, 3, 0xB8800703, by decide +kernel⟩

theorem witness_CountersAndFreezes_3 : ∃ (s : State) (v : Word), v ≠ 0xB8800600 ∧ (v.toNat < 0xB8800700 ∨ 0xB8800740 ≤ v.toNat) :=
  ⟨{ State.reset with dbg := { Dbg.reset with counters := [(0, 5), (3, 7)] } }, 5, by decide +kernel⟩

theorem witness_CountersAndFreezes_4 : ∃ (s : State) (v : Word), v ≠ 0xB8800600 ∧ (v.toNat < 0xB8800700 ∨ 0xB8800740 ≤ v.toNat) :=
  ⟨{ State.reset with dbg := { Dbg.reset with counters := [(0, 5), (3, 7)] } }, 5, by decide +kernel⟩

theorem witness_CountersAndFreezes_5 : ∃ (s : State), s.frozen = false :=
  ⟨Tests.withRegs [(R.DBG_FREEZE_ENABLE, 0x10000)], by decide +kernel⟩

theorem witness_CountersAndFreezes_6 : ∃ (s : State), s.frozen = true :=
  ⟨Tests.withRegs [(statusK pDBG, 1)], by decide +kernel⟩

theorem witness_CountersAndFreezes_8 : ∃ (s : State) (v : Word), v ≠ 0xB8800500 ∧ v ≠ 0xB8800501 :=
  ⟨State.reset, 7, by decide +kernel⟩

theorem witness_CountersAndFreezes_9 : ∃ (s : State), s.frozen = false ∧ s.dieUp = true ∧ s.hw.freezeIgnored = false ∧ s.getB R.DBG_FREEZE_ENABLE 1 = true :=
  ⟨Tests.withRegs [(R.DBG_FREEZE_ENABLE, 0x10002)], by decide +kernel⟩

theorem witness_CountersAndFreezes_10 : ∃ (s : State), s.getB R.DBG_FREEZE_ENABLE 1 = false :=
  ⟨State.reset, by decide +kernel⟩

theorem witness_CountersAndFreezes_11 : ∃ (s : State), s.frozen = false ∧ s.dieUp = true ∧ s.coreUp 5 = true :=
  ⟨Tests.withRegs [(R.DBG_FREEZE_ENABLE, 0x10000)], by decide +kernel⟩

theorem witness_CountersAndFreezes_12 : ∃ (s : State), s.dbg.crewDriven = true :=
  ⟨{ State.reset with dbg := { Dbg.reset with crewDriven := true } }, by decide +kernel⟩

/-! Witnesses of TraceSnapshotsAndDebugReads. -/

theorem witness_TraceSnapshotsAndDebugReads_1 : ∃ (s : State) (hv : HostView) (p : Nat), s.dieUp = true ∧ s.getB R.DBG_TRACE_CTRL 2 = true ∧ s.getF R.DBG_SPILL_SIZE 0 16 ≠ 0 ∧ s.dbg.spillStopped = false ∧ 128 ≤ s.dbg.trace.length ∧ s.allDevice 0 (s.pair R.DBG_SPILL_BASE_LO R.DBG_SPILL_BASE_HI + s.dbg.spillPos % (s.getF R.DBG_SPILL_SIZE 0 16 * 2 ^ 20)) 4096 = true ∧ DevRange s hv 0 (s.pair R.DBG_SPILL_BASE_LO R.DBG_SPILL_BASE_HI + s.dbg.spillPos % (s.getF R.DBG_SPILL_SIZE 0 16 * 2 ^ 20)) p 4096 true :=
  ⟨Tests.spilling 0x2000000, Tests.noHost, 0, by refine ⟨by decide +kernel, by decide +kernel, by decide +kernel, by decide +kernel, by decide +kernel, by decide +kernel, ?_⟩; rw [show ((Tests.spilling 33554432).pair R.DBG_SPILL_BASE_LO R.DBG_SPILL_BASE_HI + (Tests.spilling 33554432).dbg.spillPos % ((Tests.spilling 33554432).getF R.DBG_SPILL_SIZE 0 16 * 2 ^ 20)) = 33554432 by decide +kernel]; exact Tests.spilling_range⟩

theorem witness_TraceSnapshotsAndDebugReads_2 : ∃ (s : State) (hv : HostView), s.dieUp = true ∧ s.getB R.DBG_TRACE_CTRL 2 = true ∧ s.getF R.DBG_SPILL_SIZE 0 16 ≠ 0 ∧ s.dbg.spillStopped = false ∧ 128 ≤ s.dbg.trace.length ∧ s.allDevice 0 (s.pair R.DBG_SPILL_BASE_LO R.DBG_SPILL_BASE_HI + s.dbg.spillPos % (s.getF R.DBG_SPILL_SIZE 0 16 * 2 ^ 20)) 4096 = false :=
  ⟨Tests.spilling 0x6000000, Tests.noHost, by decide +kernel⟩

theorem witness_TraceSnapshotsAndDebugReads_3 : ∃ (s : State) (v : Word), bit v 0 = true ∧ s.dbg.capturing = none ∧ fld (s.rd R.DBG_BELV_STATUS) 0 2 = 0 :=
  ⟨State.reset, 1, by decide +kernel⟩

theorem witness_TraceSnapshotsAndDebugReads_4 : ∃ (s : State) (v : Word) (x : Nat × Nat × Nat), bit v 0 = true ∧ s.dbg.capturing = some x :=
  ⟨{ State.reset with dbg := { Dbg.reset with capturing := some (0, 1, 5) } }, 1, (0, 1, 5), by decide +kernel⟩

theorem witness_TraceSnapshotsAndDebugReads_5 : ∃ (s : State) (k c a : Nat), s.dbg.capturing = some (k, c, a) ∧ k < 2 :=
  ⟨{ State.reset with dbg := { Dbg.reset with capturing := some (1, 1, 5) } }, 1, 1, 5, by decide +kernel⟩

theorem witness_TraceSnapshotsAndDebugReads_6 : ∃ (s : State) (c : Nat), s.dieUp = true ∧ s.getB R.DBG_BELV_CTRL 1 = true ∧ s.getF R.DBG_BELV_CTRL 16 16 ≠ 0 ∧ s.hangSign c ≠ [] ∧ s.dbg.hangFired.look c = none ∧ s.dbg.capturing = none ∧ fld (s.rd R.DBG_BELV_STATUS) 0 2 = 0 :=
  ⟨let s := Tests.faulted .queued false (Tests.withRegs [(R.DBG_BELV_CTRL, 0x640002), (R.DBG_FREEZE_ENABLE, 0x20)]); s, 2, by decide +kernel⟩

theorem witness_TraceSnapshotsAndDebugReads_7 : ∃ (s : State) (c : Nat), s.hangSign c = [] :=
  ⟨State.reset, 2, by decide +kernel⟩

theorem witness_TraceSnapshotsAndDebugReads_8 : ∃ (s : State) (op : Nat) (o : Op) (hv : HostView), s.runnable op [0x77] = some o ∧ s.op? op = some o ∧ o.issued = false ∧ s.coreUp 5 = true ∧ o.fn ≠ 0 :=
  ⟨Tests.debugIn 1 [], 0, Tests.debugOp 1 [], Tests.noHost, by decide +kernel⟩

theorem witness_TraceSnapshotsAndDebugReads_9 : ∃ (s : State) (op : Nat) (o : Op) (hv : HostView) (bs : List Byte), s.runnable op [0x77] = some o ∧ s.op? op = some o ∧ o.issued = false ∧ s.coreUp 5 = true ∧ o.fn = 0 ∧ farAddr (dQuad o.desc 0x10) = false ∧ dQuad o.desc 0x10 % 64 = 0 ∧ dfld o.desc 0x18 0 2 ≠ 3 ∧ (s.debugSource (dfld o.desc 0x18 0 2) (dfld o.desc 0x18 2 1)) = some bs ∧ dWord o.desc 0x1C = 0 :=
  ⟨Tests.debugIn 0 [(0x18, 2)], 0, Tests.debugOp 0 [(0x18, 2)], Tests.noHost, (Tests.debugIn 0 [(0x18, 2)]).counterImage, by decide +kernel⟩

theorem witness_TraceSnapshotsAndDebugReads_10 : ∃ (s : State) (op : Nat) (o : Op) (hv : HostView) (bs : List Byte) (p : Nat), s.runnable op [0x77] = some o ∧ s.op? op = some o ∧ o.issued = false ∧ s.coreUp 5 = true ∧ o.fn = 0 ∧ farAddr (dQuad o.desc 0x10) = false ∧ dQuad o.desc 0x10 % 64 = 0 ∧ dfld o.desc 0x18 0 2 ≠ 3 ∧ (s.debugSource (dfld o.desc 0x18 0 2) (dfld o.desc 0x18 2 1)) = some bs ∧ 0 < dWord o.desc 0x1C ∧ DevRange s hv o.fn (dQuad o.desc 0x10) p (min (dWord o.desc 0x1C) bs.length) true :=
  ⟨Tests.debugIn 0 [(0x18, 2), (0x1C, 40)], 0, Tests.debugOp 0 [(0x18, 2), (0x1C, 40)], Tests.noHost, (Tests.debugIn 0 [(0x18, 2), (0x1C, 40)]).counterImage, 0, by decide +kernel⟩

/-! Witnesses of BringUpStages. -/

theorem witness_BringUpStages_1 : ∃ (s : State) (m : Image), s.dieUp = true ∧ s.boot.internal = false ∧ s.flash.trial = false ∧ (s.bank s.flash.active).info = some m ∧ (s.bank s.flash.active).valid = true ∧ s.imageOk m = true ∧ s.flash.active = 0 :=
  ⟨{ State.reset with flash := { State.reset.flash with banks := [(0, Tests.wholeBank (some ({ Tests.imageOf 9 5 with svn := 0 })) true), (1, Tests.wholeBank (some ({ Tests.imageOf 9 5 with svn := 0 })) true)] } }, { Tests.imageOf 9 5 with svn := 0 }, by decide +kernel⟩

theorem witness_BringUpStages_2 : ∃ (s : State), s.dieUp = true ∧ s.boot.internal = false ∧ s.flash.trial = false ∧ s.flash.active = 0 ∧ s.bankBoots 0 false = none :=
  ⟨{ State.reset with flash := { State.reset.flash with banks := [(0, Tests.wholeBank (some ({ Tests.imageOf 9 5 with svn := 0 })) true), (1, Tests.wholeBank (some ({ Tests.imageOf 9 5 with svn := 0 })) true)] } }, by decide +kernel⟩

theorem witness_BringUpStages_3 : ∃ (s : State) (m : Image), s.dieUp = true ∧ s.boot.internal = false ∧ s.flash.trial = true ∧ s.flash.trialBooted = true ∧ s.flash.active = 1 ∧ (s.bank 0).info = some m ∧ (s.bank 0).valid = true ∧ s.imageOk m = true :=
  ⟨let s := { State.reset with flash := { State.reset.flash with banks := [(0, Tests.wholeBank (some ({ Tests.imageOf 9 5 with svn := 0 })) true), (1, Tests.wholeBank (some ({ Tests.imageOf 9 5 with svn := 0 })) true)] } }; { s with flash := { s.flash with active := 1, trial := true, trialBooted := true } }, { Tests.imageOf 9 5 with svn := 0 }, by decide +kernel⟩

theorem witness_BringUpStages_4 : ∃ (s : State) (f : Bool), s.booting = true ∧ s.boot.mem = none :=
  ⟨Tests.bootIn id, true, by decide +kernel⟩

theorem witness_BringUpStages_5 : ∃ (s : State) (f : Bool) (c : Nat), s.booting = true ∧ s.boot.mem = none ∧ c < 80 :=
  ⟨Tests.bootIn id, true, 7, by decide +kernel⟩

theorem witness_BringUpStages_6 : ∃ (s : State) (f : Bool), s.booting = true ∧ s.boot.serdes = none :=
  ⟨Tests.bootIn id, true, by decide +kernel⟩

theorem witness_BringUpStages_7 : ∃ (s : State), s.booting = true ∧ s.boot.tiles = none :=
  ⟨Tests.bootIn id, by decide +kernel⟩

theorem witness_BringUpStages_8 : ∃ (s : State), s.booting = true ∧ s.boot.mem.isSome = true ∧ s.dramInit = false :=
  ⟨Tests.bootIn (fun b => { b with mem := some true }), by decide +kernel⟩

theorem witness_BringUpStages_9 : ∃ (s : State) (l : List (Nat × Nat)), s.booting = true ∧ s.boot.mem.isSome = true ∧ s.dramInit = true ∧ s.boot.calib = false :=
  ⟨{ (Tests.bootIn (fun b => { b with mem := some true, serdes := some true, tiles := some true, calib := false })) with dramInit := true }, [(1, 2), (5, 3)], by decide +kernel⟩

theorem witness_BringUpStages_10 : ∃ (s : State), s.booting = true ∧ s.boot.mem.isSome = true ∧ s.dramInit = true ∧ s.boot.calib = false :=
  ⟨{ (Tests.bootIn (fun b => { b with mem := some true, serdes := some true, tiles := some true, calib := false })) with dramInit := true }, by decide +kernel⟩

theorem witness_BringUpStages_11 : ∃ (s : State), s.booting = true ∧ s.boot.mem.isSome = true ∧ s.boot.serdes.isSome = true ∧ s.boot.tiles.isSome = true ∧ s.boot.calib = true ∧ s.dramInit = true ∧ s.flash.config = [] ∧ s.flash.plan = [] :=
  ⟨{ (Tests.bootIn (fun b => { b with mem := some true, serdes := some true, tiles := some true, calib := true })) with dramInit := true }, by decide +kernel⟩

/-! Witnesses of ServiceAndRoster. -/

theorem witness_ServiceAndRoster_1 : ∃ (s : State) (op : Nat) (o : Op), s.runnable op [0x78] = some o ∧ s.op? op = some o ∧ o.issued = false ∧ dfld o.desc 0x10 0 2 = 0 ∧ s.coreUp 0 = true ∧ o.fn ≠ 0 :=
  ⟨Tests.svcIn 1 0 [], 0, Tests.svcOp 1 0, by decide +kernel⟩

theorem witness_ServiceAndRoster_2 : ∃ (s : State) (op : Nat) (o : Op), s.runnable op [0x78] = some o ∧ s.op? op = some o ∧ o.issued = false ∧ dfld o.desc 0x10 0 2 = 1 ∧ s.coreUp 0 = true ∧ o.fn ≠ 0 :=
  ⟨Tests.svcIn 1 1 [], 0, Tests.svcOp 1 1, by decide +kernel⟩

theorem witness_ServiceAndRoster_3 : ∃ (s : State) (op : Nat) (o : Op), s.runnable op [0x78] = some o ∧ s.op? op = some o ∧ o.issued = false ∧ dfld o.desc 0x10 0 2 = 2 ∧ s.coreUp 0 = true ∧ o.fn ≠ 0 :=
  ⟨Tests.svcIn 1 2 [], 0, Tests.svcOp 1 2, by decide +kernel⟩

theorem witness_ServiceAndRoster_4 : ∃ (s : State) (op : Nat) (o : Op), s.runnable op [0x78] = some o ∧ s.op? op = some o ∧ o.issued = false ∧ dfld o.desc 0x10 0 2 = 3 ∧ s.coreUp 0 = true ∧ o.fn ≠ 0 :=
  ⟨Tests.svcIn 1 3 [], 0, Tests.svcOp 1 3, by decide +kernel⟩

theorem witness_ServiceAndRoster_5 : ∃ (s : State) (op : Nat) (o : Op), s.runnable op [0x78] = some o ∧ s.op? op = some o ∧ o.issued = false ∧ dfld o.desc 0x10 0 2 = 0 ∧ s.coreUp 0 = true ∧ o.fn = 0 :=
  ⟨Tests.svcIn 0 0 [], 0, Tests.svcOp 0 0, by decide +kernel⟩

theorem witness_ServiceAndRoster_6 : ∃ (s : State) (op : Nat) (o : Op), s.runnable op [0x78] = some o ∧ s.op? op = some o ∧ o.issued = false ∧ dfld o.desc 0x10 0 2 = 1 ∧ s.coreUp 0 = true ∧ o.fn = 0 ∧ s.quietBut op o = false :=
  ⟨let s := Tests.svcIn 0 1 []; { s with trn := { s.trn with faults := [Tests.faultIn .queued false] } }, 0, Tests.svcOp 0 1, by decide +kernel⟩

theorem witness_ServiceAndRoster_7 : ∃ (s : State) (op : Nat) (o : Op), s.runnable op [0x78] = some o ∧ s.op? op = some o ∧ o.issued = false ∧ dfld o.desc 0x10 0 2 = 2 ∧ s.coreUp 0 = true ∧ o.fn = 0 ∧ s.quietBut op o = false :=
  ⟨let s := Tests.svcIn 0 2 []; { s with trn := { s.trn with faults := [Tests.faultIn .queued false] } }, 0, Tests.svcOp 0 2, by decide +kernel⟩

theorem witness_ServiceAndRoster_8 : ∃ (s : State) (op : Nat) (o : Op), s.runnable op [0x78] = some o ∧ s.op? op = some o ∧ o.issued = false ∧ dfld o.desc 0x10 0 2 = 1 ∧ s.coreUp 0 = true ∧ o.fn = 0 ∧ s.quietBut op o = true ∧ s.getB (statusK pGLB) 1 = false :=
  ⟨let s := Tests.svcIn 0 1 []; { s with ops := [(0, { Tests.svcOp 0 1 with src := .pav 0, fn := 0 })], chains := [(0, Tests.chainOf 0)] }, 0, { Tests.svcOp 0 1 with src := .pav 0, fn := 0 }, by decide +kernel⟩

theorem witness_ServiceAndRoster_9 : ∃ (s : State) (op : Nat) (o : Op), s.runnable op [0x78] = some o ∧ s.op? op = some o ∧ o.issued = false ∧ dfld o.desc 0x10 0 2 = 2 ∧ s.coreUp 0 = true ∧ o.fn = 0 ∧ s.quietBut op o = true ∧ s.getB (statusK pGLB) 1 = true :=
  ⟨let s := Tests.svcIn 0 2 [(statusK pGLB, 3)]; { s with ops := [(0, { Tests.svcOp 0 2 with src := .pav 0, fn := 0 })], chains := [(0, Tests.chainOf 0)] }, 0, { Tests.svcOp 0 2 with src := .pav 0, fn := 0 }, by decide +kernel⟩

theorem witness_ServiceAndRoster_10 : ∃ (s : State) (op : Nat) (o : Op), s.runnable op [0x78] = some o ∧ s.op? op = some o ∧ o.issued = false ∧ dfld o.desc 0x10 0 2 = 3 ∧ s.coreUp 0 = true ∧ o.fn = 0 :=
  ⟨Tests.svcIn 0 3 [(R.PWR_CAP, 150)], 0, Tests.svcOp 0 3, by decide +kernel⟩

theorem witness_ServiceAndRoster_12 : ∃ (s : State) (l : Nat) (r : Roster), s.linkState l = 2 ∧ (¬ (s.ownRoster.dev = r.dev ∧ s.ownRoster.serial = r.serial)) ∧ s.boot.roster = [] ∧ r.dev / 8 = s.ownRoster.dev / 8 ∧ r.dev ≠ s.ownRoster.dev ∧ r.master = false :=
  ⟨Tests.withRegs [(R.CRW_LINK_STATUS 1, 2), (statusK pCRW, 2)], 1, ⟨3, 77, false, false, 5⟩, by decide +kernel⟩

theorem witness_ServiceAndRoster_13 : ∃ (s : State) (l : Nat) (r : Roster), s.linkState l = 2 ∧ s.boot.roster = [] ∧ r.dev = s.ownRoster.dev ∧ r.serial ≠ s.ownRoster.serial ∧ s.boot.breach ≠ 1 :=
  ⟨Tests.withRegs [(R.CRW_LINK_STATUS 1, 2), (statusK pCRW, 2)], 1, ⟨0, 77, false, false, 5⟩, by decide +kernel⟩

theorem witness_ServiceAndRoster_14 : ∃ (s : State), s.dieUp = true ∧ s.linksUp ≠ [] ∧ s.rosterBreach.1 = 0 :=
  ⟨Tests.withRegs [(R.CRW_LINK_STATUS 1, 2), (statusK pCRW, 2)], by decide +kernel⟩

end Sys2Proof
end

section
/-! PROOFS of the statements of 00_scope. Every command answers a next state (O3), and every step keeps memory and registers canonical (O6): both follow
from one relation between states, `State.Evolves`, which each function of the model keeps. A reset state is canonical (O5); the idle step (O2); bytes (O8). -/

namespace Sys2Proof.Machine
open Sys2Proof

/-! ## How a state evolves -/

/-- `s` comes to a state by steps that keep the canonical form of registers and memory: a register or a byte is written, or registers or bytes
go back to their defaults, or only other parts of the state change. -/
inductive State.Evolves (s : State) : State → Prop
  | refl : Evolves s s
  | wr {t : State} (h : Evolves s t) {k : Nat} {v : Word} : Evolves s (t.wr k v)
  | keepRegs {t : State} (h : Evolves s t) {p : Nat → Word → Bool} : Evolves s { t with regs := t.regs.keep p }
  | setDram {t : State} (h : Evolves s t) {p : Nat} {b : Byte} : Evolves s (t.setDram p b)
  | dropMem {t : State} (h : Evolves s t) {p : Host.Cell → Bool} : Evolves s { t with mem := t.mem.filter p }
  | initMem {t : State} (h : Evolves s t) {b : Bool} : Evolves s { t with mem := [], dramInit := b }
  | frame {t u : State} (h : Evolves s t)
      (hr : u.regs = t.regs) (hm : u.mem = t.mem) (hd : u.dramInit = t.dramInit) : Evolves s u

namespace State.Evolves
variable {s t : State}

/-! A pair that a `match` takes apart: `split` names the equation, and `h.f.ofEq ‹_›` is what `f` is known to keep, at the state named. -/

theorem ofEq {α : Type} {r : State × α} {u : State} {x : α} (h : s.Evolves r.1) (e : r = (u, x)) : s.Evolves u := by
  subst e; exact h

theorem ofEqSnd {α : Type} {r : α × State} {u : State} {x : α} (h : s.Evolves r.2) (e : r = (x, u)) : s.Evolves u := by
  subst e; exact h

/-- A record update that leaves registers, memory and whether DRAM is initialised. -/
theorem mk (h : s.Evolves t) {pending out freeCtr uptime devTime hw hif events idle ops chains nextOp nextChain queues lastTag trn tiles tqs msys
    ydt qpm net crw groups par pwr flash fwc boot sec dbg} :
    s.Evolves (State.mk pending out freeCtr uptime devTime t.regs t.mem t.dramInit hw hif events idle ops chains nextOp nextChain queues
      lastTag trn tiles tqs msys ydt qpm net crw groups par pwr flash fwc boot sec dbg) :=
  h.frame rfl rfl rfl

/-! The two ends of an `if`; `when`, `whenNot` and `branch` where one or both go on from the same state. -/

theorem ite {a b : State} {c : Prop} [Decidable c] (ha : s.Evolves a) (hb : s.Evolves b) : s.Evolves (if c then a else b) := by
  split
  · exact ha
  · exact hb

theorem iteFst {α : Type} {a b : State × α} {c : Prop} [Decidable c] (ha : s.Evolves a.1) (hb : s.Evolves b.1) :
    s.Evolves (if c then a else b).1 := by
  split
  · exact ha
  · exact hb

theorem when {a : State} {c : Prop} [Decidable c] (h : s.Evolves t) (f : s.Evolves t → s.Evolves a) : s.Evolves (if c then a else t) :=
  ite (f h) h

theorem whenNot {a : State} {c : Prop} [Decidable c] (h : s.Evolves t) (f : s.Evolves t → s.Evolves a) : s.Evolves (if c then t else a) :=
  ite h (f h)

theorem branch {a b : State} {c : Prop} [Decidable c] (h : s.Evolves t) (f : s.Evolves t → s.Evolves a)
    (g : s.Evolves t → s.Evolves b) : s.Evolves (if c then a else b) :=
  ite (f h) (g h)

theorem foldl {α : Type} {f : State → α → State} {l : List α} (h : s.Evolves t)
    (hf : ∀ u a, s.Evolves u → s.Evolves (f u a)) : s.Evolves (l.foldl f t) := by
  induction l generalizing t with
  | nil => exact h
  | cons a l ih => exact ih (hf t a h)

theorem foldl_fst {α β : Type} {f : State × β → α → State × β} {l : List α} {x : State × β} (h : s.Evolves x.1)
    (hf : ∀ u a, s.Evolves u.1 → s.Evolves (f u a).1) : s.Evolves (l.foldl f x).1 := by
  induction l generalizing x with
  | nil => exact h
  | cons a l ih => exact ih (hf x a h)

end State.Evolves

/-- A result that is a next state, and one that `s` evolves to. -/
def State.Yields (s : State) (r : Res) : Prop := ∃ t, r = .next t ∧ s.Evolves t

theorem State.Evolves.next {s t : State} (h : s.Evolves t) : s.Yields (.next t) := ⟨t, rfl, h⟩

end Sys2Proof.Machine
end

section
/-! ## What each function of the model does, up to the context operations

One lemma for each function that answers a state, under the function's own name: if `s` evolves to `t`, it evolves to what the function makes of `t`.
Its proof follows the function's body: a chain of calls is a chain of their lemmas, an `if` is one of the rules above, a `match` is a `split`. A function that
answers a pair is stated by the state in it, a command by `State.Yields`. -/

namespace Sys2Proof.Machine
open Sys2Proof
namespace State.Evolves
variable {s t : State} (h : s.Evolves t)
include h

/-! ### Machine/Ops.lean -/

theorem setPair {lo hi v} : s.Evolves (t.setPair lo hi v) := h.wr.wr

theorem setF {k lo w x} : s.Evolves (t.setF k lo w x) := h.wr

theorem setB {k i b} : s.Evolves (t.setB k i b) := h.setF

theorem bump {k n} : s.Evolves (t.bump k n) := h.wr

theorem addUnits {k n unit} : s.Evolves (t.addUnits k n unit) := h.mk.bump

theorem regEvent {ev} : s.Evolves (t.regEvent ev) := h.keepRegs

theorem emit {o} : s.Evolves (t.emit o) := h.mk

theorem free : s.Evolves t.free.2 := h.mk

theorem pick {α : Type} {l : List α} : s.Evolves (t.pick l).2 := by
  unfold State.pick
  split
  exacts [h, h.mk]

theorem putMsix {fn vec m} : s.Evolves (t.putMsix fn vec m) := h.mk

theorem msix {fn vec} : s.Evolves (t.msix fn vec) := h.putMsix.ite (h.when (·.emit))

theorem pageMsg {page} : s.Evolves (t.pageMsg page) := h.msix

theorem raiseInts {page m} : s.Evolves (t.raiseInts page m) := h.wr.when (·.pageMsg)

theorem raiseInt {page b} : s.Evolves (t.raiseInt page b) := h.raiseInts

theorem afterIntWrite {page} : s.Evolves (t.afterIntWrite page) := h.when (·.pageMsg)

theorem queueFrame {t'} : s.Evolves (t.queueFrame t') := h.mk

theorem sendPause {port classes quanta} : s.Evolves (t.sendPause port classes quanta) := h.queueFrame

theorem z2Hold : s.Evolves t.z2Hold := (h.foldl fun _ _ h => h.when (·.mk.sendPause)).foldl fun _ _ h => h.when (·.mk.emit)

theorem wake {w} : s.Evolves (t.wake w) := h.setB.mk.ite ((h.whenNot (·.setB.mk)).ite (h.whenNot (·.setB.setB.mk.when (·.z2Hold))))

theorem logOnly {page code cls fn t' addr detail} : s.Evolves (t.logOnly page code cls fn t' addr detail) :=
  (h.bump.whenNot (·.wr.wr.wr.wr.wr.wr.wr.wr.setB)).raiseInt

theorem startCapture {cause} : s.Evolves (t.startCapture cause) := h.bump.logOnly.ite h.mk.setB.setB

theorem freeze {src} : s.Evolves (t.freeze src) :=
  h.whenNot (·.setB.whenNot (fun h => ((h.setB.wr.raiseInt.mk.when (·.startCapture)).when (·.emit.mk)).wake))

theorem trace {block inst event fn t' arg0 arg1} : s.Evolves (t.trace block inst event fn t' arg0 arg1) :=
  h.whenNot (·.bump.raiseInt.ite (h.mk.wr.when (·.freeze)))

theorem count {block inst event fn t' n} : s.Evolves (t.count block inst event fn t' n) :=
  h.whenNot (·.foldl fun _ _ h => h.when (·.mk.when (·.raiseInt.when (·.freeze))))

theorem logErr {page code cls fn t' addr detail} : s.Evolves (t.logErr page code cls fn t' addr detail) := h.logOnly.when (·.trace.when (·.freeze))

theorem toInbox {c m} : s.Evolves (t.toInbox c m) := h.mk

theorem queueEvent {dest e} : s.Evolves (t.queueEvent dest e) := h.mk.ite h.mk.bump

theorem raiseTo {dest e} : s.Evolves (t.raiseTo dest e) := by
  dsimp only [State.raiseTo]
  split
  exacts [h.trace.queueEvent.ite h.trace.toInbox, h.trace.queueEvent]

theorem event {dest page event code cls inst fn detail addr} : s.Evolves (t.event dest page event code cls inst fn detail addr) := h.raiseTo

theorem logEvent {dest page code cls inst fn t' addr detail event} : s.Evolves (t.logEvent dest page code cls inst fn t' addr detail event) :=
  h.logErr.event

theorem intEvent {page b cls inst detail addr} : s.Evolves (t.intEvent page b cls inst detail addr) := h.raiseInt.event

theorem writePlain {page off idx v} : s.Evolves (t.writePlain page off idx v) := by
  dsimp only [State.writePlain]
  split
  · exact h
  · split
    exacts [h.wr, h.wr, h, h, h, h]

theorem uncodedErr {page fn detail cls} : s.Evolves (t.uncodedErr page fn detail cls) := h.free.logErr

theorem tick : s.Evolves t.tick := h.mk.ite h.mk

theorem putQueue {q x} : s.Evolves (t.putQueue q x) := h.mk

theorem putOp {i o} : s.Evolves (t.putOp i o) := h.mk

/-! ### Machine/Access.lean -/

theorem setChan {c x} : s.Evolves (t.setChan c x) := h.whenNot (·.setF.trace)

theorem setDrams {p} {l : List Byte} : s.Evolves (t.setDrams p l) := by
  induction l generalizing t p with
  | nil => exact h
  | cons b l ih => exact ih h.setDram

theorem markPoison {burst} : s.Evolves (t.markPoison burst) := h.whenNot (·.mk.bump)

theorem memDetail {c} : s.Evolves (t.memDetail c).2 := h.free

theorem memErr {code burst fn tags} : s.Evolves (t.memErr code burst fn tags) := h.memDetail.logErr

theorem ueRead {burst fn tags} : s.Evolves (t.ueRead burst fn tags) := h.bump.raiseInt.memErr.markPoison

theorem ceRead {burst fn tags} : s.Evolves (t.ceRead burst fn tags) := h.bump.count.mk.when (·.memDetail.raiseInt.logEvent)

theorem checkLookup {burst w} : s.Evolves (t.checkLookup burst w) := by
  dsimp only [State.checkLookup]
  split
  · exact h.when (·.mk)
  · apply mk
    split
    exacts [h.bump.count, h.bump.count.pick]

theorem checksClean : s.Evolves t.checksClean := h.mk

theorem burstFound {env burst fn tags rmw} : s.Evolves (t.burstFound env burst fn tags rmw) :=
  (h.whenNot (·.ueRead)).ite (h.ueRead.ite (h.when (·.ceRead)))

theorem checkBurst {env burst fn tags rmw} : s.Evolves (t.checkBurst env burst fn tags rmw) := h.whenNot (·.checkLookup.count.burstFound)

theorem served {cls n} : s.Evolves (t.served cls n) := h.when (·.mk.bump)

theorem setPte {a e} : s.Evolves (t.setPte a e) := h.mk

theorem newTable : s.Evolves t.newTable.2 := h.mk

theorem entryFor {va n lvl a} : s.Evolves (t.entryFor va n lvl a).1 := by
  induction n generalizing t lvl a with
  | zero => exact h
  | succ n ih =>
    simp only [State.entryFor]
    split
    exacts [ih h, ih h.newTable.setPte]

theorem rootFor {fn} : s.Evolves (t.rootFor fn).1 := by
  unfold State.rootFor
  split
  exacts [h, h.newTable.mk]

theorem putLeaf {fn g page l} : s.Evolves (t.putLeaf fn g page l) := h.rootFor.entryFor.setPte

theorem delLeaf {fn g page} : s.Evolves (t.delLeaf fn g page) := by
  unfold State.delLeaf
  split
  exacts [h.when (·.setPte), h]

theorem tlbUse {fn va} : s.Evolves (t.tlbUse fn va) := by
  unfold State.tlbUse
  split
  exacts [h.mk, h]

theorem ccWriteBack {fn line l} : s.Evolves (t.ccWriteBack fn line l) := h.when (·.emit)

theorem noteNonSnoop {va} : s.Evolves (t.noteNonSnoop va) := h.mk

theorem ccRoom {line} : s.Evolves (t.ccRoom line) := by
  dsimp only [State.ccRoom]
  split
  · exact h
  · split
    · exact h.pick
    · split
      exacts [h.pick, h.pick.ccWriteBack.mk]

theorem ccFetch {env fn va req} : s.Evolves (t.ccFetch env fn va req).1 := (h.emit.whenNot (·.ccRoom)).mk

theorem ccWrite {env fn va data} : s.Evolves (t.ccWrite env fn va data) := by
  dsimp only [State.ccWrite]
  apply mk
  split
  · split
    exacts [h, h.ccFetch]
  · exact h.ccFetch

theorem hostWriteSeg {env fn va data shared} : s.Evolves (t.hostWriteSeg env fn va data shared) :=
  h.emit.noteNonSnoop.ite (h.emit.ite (h.ccWrite.ite h.emit.mk))

theorem hostReadSeg {env fn va n total shared} : s.Evolves (t.hostReadSeg env fn va n total shared).1 := by
  unfold State.hostReadSeg
  split
  · split
    · exact h
    · split
      exacts [h.ccFetch, h.emit]
  · exact h.emit

theorem readSeg {env cls fn g tags total} : s.Evolves (t.readSeg env cls fn g tags total).1 := by
  dsimp only [State.readSeg]
  split
  · exact h
  · exact h.tlbUse.hostReadSeg
  · split <;> exact h.tlbUse.checkBurst.served

theorem readSegs {env cls fn tags total} {l : List (Nat × Nat)} : s.Evolves (t.readSegs env cls fn tags total l).1 := by
  induction l generalizing t with
  | nil => exact h
  | cons g l ih =>
    unfold State.readSegs
    split
    · exact h.readSeg.ofEq ‹_›
    · split
      exacts [(ih (h.readSeg.ofEq ‹_›)).ofEq ‹_›, (ih (h.readSeg.ofEq ‹_›)).ofEq ‹_›]

theorem vread {env cls fn va n tags} : s.Evolves (t.vread env cls fn va n tags).1 := h.readSegs

theorem countRange {event p n} : s.Evolves (t.countRange event p n) := h.foldl fun _ _ h => h.count

theorem checkRange {env cls p n fn tags} : s.Evolves (t.checkRange env cls p n fn tags).1 := h.served.countRange.bump.foldl fun _ _ h => h.burstFound

theorem writeBurst {env cls p data fn tags} : s.Evolves (t.writeBurst env cls p data fn tags).1 := by
  dsimp only [State.writeBurst]
  split
  · exact h
  · split
    · exact h.served.checkLookup.count.mk.setDrams
    · split
      exacts [h.served.checkLookup.count.checkBurst.served.memErr, h.served.checkLookup.count.checkBurst.served.setDrams]

theorem writeSeg {env cls fn va data tags} : s.Evolves (t.writeSeg env cls fn va data tags).1 := by
  unfold State.writeSeg
  split
  exacts [h, h.tlbUse.hostWriteSeg, h.tlbUse.writeBurst]

theorem writeSegs {env cls fn tags data} {l : List (Nat × Nat)} : s.Evolves (t.writeSegs env cls fn tags data l).1 := by
  induction l generalizing t data with
  | nil => exact h
  | cons g l ih =>
    unfold State.writeSegs
    split
    exacts [h.writeSeg.ofEq ‹_›, ih (h.writeSeg.ofEq ‹_›)]

theorem vwrite {env cls fn va data tags} : s.Evolves (t.vwrite env cls fn va data tags).1 := h.writeSegs

theorem engineOf {w} : s.Evolves (t.engineOf w).2 := by
  unfold State.engineOf
  split
  · split
    · exact h
    · split
      exacts [h.pick, h]
    · exact h
  · exact h

theorem raiseFault {fn va wr prefer w} : s.Evolves (t.raiseFault fn va wr prefer w).1 :=
  iteFst h (iteFst h.bump.count.raiseInt (iteFst h.bump.count.mk (iteFst h.bump.count.mk h.bump.count.engineOf.mk.setB.raiseInt)))

theorem logDenied {fn va t'} : s.Evolves (t.logDenied fn va t') := h.logErr

/-! ### Machine/Cox.lean -/

theorem setRingState {fn r x} : s.Evolves (t.setRingState fn r x) := h.setF

theorem setCqState {fn r x} : s.Evolves (t.setCqState fn r x) := h.setF

theorem cqLatch {fn r} : s.Evolves (t.cqLatch fn r) := h.wr.wr.wr

theorem noteData {i fn va n} : s.Evolves (t.noteData i fn va n) := h.when (·.mk)

theorem ringErr {fn r code cls t' addr detail} : s.Evolves (t.ringErr fn r code cls t' addr detail) := h.logErr.logErr

theorem ringRefuse {fn r code detail} : s.Evolves (t.ringRefuse fn r code detail) := h.bump.raiseInt.ringErr

theorem traceSrc {fn d event a b} : s.Evolves (t.traceSrc fn d event a b) := h.trace

theorem traceStart {o arg1} : s.Evolves (t.traceStart o arg1) := h.traceSrc

theorem noteSlots : s.Evolves t.noteSlots := h.wr.wr.wr

theorem dropXfer {i} : s.Evolves (t.dropXfer i) := h.mk.noteSlots

theorem dropChain {c} : s.Evolves (t.dropChain c) := by
  unfold State.dropChain
  split
  exacts [h.when (·.mk), h]

theorem putTq {q x} : s.Evolves (t.putTq q x) := h.mk.setF.wr

theorem armEnds {i} : s.Evolves (t.armEnds i) := by
  unfold State.armEnds
  split
  exacts [h, h.setF.putTq]

theorem finishOp {i status result} : s.Evolves (t.finishOp i status result) := by
  dsimp only [State.finishOp]
  split
  exacts [h,
    ((armEnds (by split; exacts [(h.traceSrc.when (·.count)).dropXfer, h.traceSrc.when (·.count)])).putOp.whenNot (·.mk)).when (·.mk.dropChain)]

theorem endOp {i status} : s.Evolves (t.endOp i status) := by
  unfold State.endOp
  split
  exacts [h.finishOp, h.mk.ite h.finishOp]

theorem someCluster : s.Evolves t.someCluster.2 := h.pick

theorem dmaFault {o va} : s.Evolves (t.dmaFault o va) := h.when (·.someCluster.raiseInt.logErr)

theorem loseOp {i} : s.Evolves (t.loseOp i) := by
  unfold State.loseOp
  split
  exacts [h, h.mk.endOp]

theorem opFail {i f wr dma} : s.Evolves (t.opFail i f wr dma) := by
  unfold State.opFail
  split
  · exact h
  · split
    · split
      exacts [((h.raiseFault.ofEq ‹_›).when (·.dmaFault)).endOp, (h.raiseFault.ofEq ‹_›).putOp]
    · exact (h.logDenied.when (·.dmaFault)).endOp
    · exact h
    · exact h.loseOp
    · exact h.endOp

theorem newChain {fn src coal alone} : s.Evolves (t.newChain fn src coal alone).2 := h.mk

theorem noteAdmit {fn src w} : s.Evolves (t.noteAdmit fn src w) := h.count.trace

theorem coxEstimate {fn d} : s.Evolves (t.coxEstimate fn d).2 := by
  dsimp only [State.coxEstimate]
  split
  · exact h
  · split
    exacts [h, h.free]

theorem report {fn d o} : s.Evolves (t.report fn d o).2 := by
  unfold State.report
  split
  exacts [h, h.coxEstimate.mk]

theorem addOp {fn src w c status} : s.Evolves (t.addOp fn src w c status) := by
  dsimp only [State.addOp]
  split
  · exact h
  · split
    exacts [h.noteAdmit.report.mk.putOp, h.noteAdmit.report.mk.finishOp, h.noteAdmit.report.mk]

theorem cutChain {c st} : s.Evolves (t.cutChain c st) := by
  dsimp only [State.cutChain]
  split
  · exact h
  · split
    exacts [(h.mk.when (·.ringErr)).ite h.mk.ringErr, h.mk.ite h.mk]

theorem aloneInvalid {fn src w} : s.Evolves (t.aloneInvalid fn src w) := by
  dsimp only [State.aloneInvalid]
  split
  exacts [h.newChain.addOp.ringErr, h.newChain.addOp]

theorem admitCheck {src w} : s.Evolves (t.admitCheck src w).1 := by
  unfold State.admitCheck
  split
  · split
    exacts [h.ringErr, h]
  · exact h

theorem admitInto {fn src w} : s.Evolves (t.admitInto fn src w) := by
  dsimp only [State.admitInto]
  split
  · exact h.putQueue.aloneInvalid
  · split
    · exact (admitCheck (by split; exacts [h.cutChain, h])).newChain.addOp.branch (·.mk.putQueue) (·.putQueue)
    · split
      exacts [h.aloneInvalid, h.cutChain.putQueue.aloneInvalid.ite (h.admitCheck.addOp.when (·.mk.putQueue))]

theorem endBatch {src w} : s.Evolves (t.endBatch src w) := by
  dsimp only [State.endBatch]
  split
  exacts [h.cutChain.putQueue, h]

theorem dropEntry {e} : s.Evolves (t.dropEntry e) := h.mk.dropChain

theorem announce {fn r} : s.Evolves (t.announce fn r) := h.putQueue.raiseInt

theorem moderate {fn r int} : s.Evolves (t.moderate fn r int) := h.putQueue.when (·.announce)

theorem cqFault {fn r addr seq} : s.Evolves (t.cqFault fn r addr seq) := h.setCqState.raiseInt.ringErr

theorem issueProbe {op} : s.Evolves (t.issueProbe op) := h.emit.mk

theorem cqStallCount {fn r tags} : s.Evolves (t.cqStallCount fn r tags) := by
  dsimp only [State.cqStallCount]
  split
  exacts [h, h.putQueue.addUnits.count]

theorem cqStallEnd {fn r tags} : s.Evolves (t.cqStallEnd fn r tags) := by
  dsimp only [State.cqStallEnd]
  split
  exacts [h.cqStallCount.setB, h.cqStallCount.setB.putQueue]

theorem writeEntry {env src fn r e} : s.Evolves (t.writeEntry env src fn r e) := by
  dsimp only [State.writeEntry]
  split
  · exact h.whenNot (·.putQueue.setB.raiseInt)
  · split
    · split
      · exact h
      · split
        exacts [h.when (·.bump), (h.when (·.bump)).issueProbe.putOp]
    · split
      · exact h
      · split
        · split
          exacts [((h.vwrite.ofEq ‹_›).raiseFault.ofEq ‹_›).cqFault, ((h.vwrite.ofEq ‹_›).raiseFault.ofEq ‹_›)]
        · exact (h.vwrite.ofEq ‹_›)
        · exact (h.vwrite.ofEq ‹_›)
        · exact (h.vwrite.ofEq ‹_›).logDenied.cqFault
        · exact (h.vwrite.ofEq ‹_›).cqFault
        · exact (count (by split; exacts [(h.vwrite.ofEq ‹_›).wr.cqStallEnd.wr, (h.vwrite.ofEq ‹_›).wr.cqStallEnd])).dropEntry.moderate

theorem issueEntry {env src fn r} : s.Evolves (t.issueEntry env src fn r) := by
  unfold State.issueEntry
  split
  exacts [h, h.dropEntry.cqStallEnd.ite (h.whenNot (·.writeEntry))]

/-! ### Machine/Rings.lean -/

theorem ringDoorbell {fn r v} : s.Evolves (t.ringDoorbell fn r v) := h.wr.wake.ite h.ringRefuse

theorem moveRing {fn r x} : s.Evolves (t.moveRing fn r x) := h.whenNot (·.setRingState.trace)

theorem ringPaused {fn r} : s.Evolves (t.ringPaused fn r) := h.moveRing.raiseInt

theorem ringPauseSet {fn r p} : s.Evolves (t.ringPauseSet fn r p) := (h.setB.when (·.moveRing.ite h.setB.ringPaused)).ite (h.setB.when (·.moveRing))

theorem emptyQueue {fn r} : s.Evolves (t.emptyQueue fn r) := h.putQueue

theorem ringEnable {fn r v} : s.Evolves (t.ringEnable fn r v) := (h.wr.wr.wr.wr.emptyQueue.moveRing.when (·.ringPaused)).ite h.wr.ringRefuse

theorem closeChain {fn r} : s.Evolves (t.closeChain fn r) := by
  unfold State.closeChain
  split
  exacts [h, h.mk.dropChain]

theorem ringDisable {fn r v} : s.Evolves (t.ringDisable fn r v) := h.wr.closeChain.emptyQueue.mk.moveRing.ite h.ringPauseSet.ringRefuse

theorem ringCtrlWrite {fn r v} : s.Evolves (t.ringCtrlWrite fn r v) := by
  dsimp only [State.ringCtrlWrite]
  split
  exacts [h.ringEnable, h.ringDisable, h.setB.ringPauseSet, h.wr]

theorem cqCtrlWrite {fn r v} : s.Evolves (t.cqCtrlWrite fn r v) := by
  dsimp only [State.cqCtrlWrite]
  split
  exacts [h.wr.wr.wr.setCqState.setB.cqLatch.putQueue, h.ringRefuse.ite h.wr.setCqState, h.wr, h.wr]

theorem hostSeenWrite {fn r v} : s.Evolves (t.hostSeenWrite fn r v) := h.wr.whenNot (·.wr.setCqState.setB.ite h.ringRefuse)

theorem withoutEntries {src} : s.Evolves (t.withoutEntries src) := h.mk.foldl fun _ _ h => h.dropChain

theorem resyncWrite {fn r v} : s.Evolves (t.resyncWrite fn r v) :=
  (h.wr.wr.closeChain.emptyQueue.withoutEntries.branch (·.ringPaused) (·.moveRing)).ite h.ringRefuse

theorem dcacheInv {fn r v} : s.Evolves (t.dcacheInv fn r v) := h.when (·.putQueue.ite h.ringRefuse)

theorem fetchFault {fn r addr seq} : s.Evolves (t.fetchFault fn r addr seq) := h.putQueue.moveRing.raiseInt.ringErr

theorem fetchReturn {env fn r} : s.Evolves (t.fetchReturn env fn r) := by
  dsimp only [State.fetchReturn]
  split
  · exact h
  · split
    · exact (h.vread.ofEq ‹_›).putQueue.foldl fun _ _ h => h.count
    · split
      exacts [((h.vread.ofEq ‹_›).raiseFault.ofEq ‹_›).fetchFault, ((h.vread.ofEq ‹_›).raiseFault.ofEq ‹_›)]
    · exact (h.vread.ofEq ‹_›)
    · exact (h.vread.ofEq ‹_›)
    · exact (h.vread.ofEq ‹_›).logDenied.fetchFault
    · exact (h.vread.ofEq ‹_›).fetchFault

theorem pauseCheck {src} : s.Evolves (t.pauseCheck src) := by
  unfold State.pauseCheck
  split
  exacts [h.when (·.ringPaused), h]

theorem admitNext {src} : s.Evolves (t.admitNext src) := by
  dsimp only [State.admitNext]
  split
  · exact h
  · split
    exacts [(admitInto (by split; exacts [h.putQueue.wr, h.putQueue.whenNot (·.setB), h.putQueue])).endBatch.pauseCheck, h]

theorem execRngDoorbell {fn ring v} : s.Yields (execRngDoorbell fn ring v t) := h.ringDoorbell.next

theorem execRingEnable {fn ring v} : s.Yields (execRingEnable fn ring v t) := (h.when (·.ringEnable)).next

theorem execRingDisable {fn ring v} : s.Yields (execRingDisable fn ring v t) := (h.when (·.ringDisable)).next

theorem execCqEnable {fn ring v} : s.Yields (execCqEnable fn ring v t) := (h.when (·.cqCtrlWrite)).next

theorem execCqDisable {fn ring v} : s.Yields (execCqDisable fn ring v t) := (h.when (·.cqCtrlWrite)).next

theorem execRingPause {fn ring v} : s.Yields (execRingPause fn ring v t) := (h.when (·.ringCtrlWrite)).next

theorem execRingResume {fn ring v} : s.Yields (execRingResume fn ring v t) := (h.when (·.ringCtrlWrite)).next

theorem execDcacheInv {fn ring v} : s.Yields (execDcacheInv fn ring v t) := h.dcacheInv.next

theorem execHostSeenWrite {fn ring v} : s.Yields (execHostSeenWrite fn ring v t) := (h.whenNot (·.hostSeenWrite)).next

theorem execCqResync {fn ring v} : s.Yields (execCqResync fn ring v t) := (h.when (·.hostSeenWrite)).next

theorem execResyncSeqWrite {fn ring v} : s.Yields (execResyncSeqWrite fn ring v t) := h.resyncWrite.next

theorem execDescriptorFetch {fn ring} : s.Yields (execDescriptorFetch fn ring t) := (h.when (·.putQueue)).next

theorem execFetchReturn {fn ring hv} : s.Yields (execFetchReturn fn ring hv t) := h.fetchReturn.next

theorem execDescriptorAdmit {src} : s.Yields (execDescriptorAdmit src t) := h.admitNext.next

theorem execCompletionIssue {src hv} : s.Yields (execCompletionIssue src hv t) := h.issueEntry.next

theorem execCqModTimer {fn ring} : s.Yields (execCqModTimer fn ring t) := (h.when (·.announce)).next

/-! ### Machine/Host.lean -/

theorem linkEvent {b} : s.Evolves (t.linkEvent b) := h.setB.event

theorem execLinkTrained {width speed negotiated reversed} : s.Yields (execLinkTrained width speed negotiated reversed t) :=
  (h.when (fun h => ((h.mk.wr.trace.when (·.linkEvent)).when (·.linkEvent)).when (·.linkEvent))).next

theorem execRefclkRetry : s.Yields (execRefclkRetry t) := (h.when (·.mk)).next

theorem execLinkRecovery : s.Yields (execLinkRecovery t) := (h.when (·.linkEvent)).next

theorem ccStart {a} : s.Evolves (t.ccStart a) := h.mk

theorem ccCtrlWrite {v} : s.Evolves (t.ccCtrlWrite v) := (h.when (·.setB.ccStart)).branch (·.ccStart) (·.setB)

theorem execCcDisable {v} : s.Yields (execCcDisable v t) := (h.when (·.ccCtrlWrite)).next

theorem execCcWbInv {v} : s.Yields (execCcWbInv v t) := (h.when (·.ccCtrlWrite)).next

theorem ccFlush : s.Evolves t.ccFlush := (h.foldl fun _ _ h => h.ccWriteBack).mk

theorem ccFlushRange {fn va n} : s.Evolves (t.ccFlushRange fn va n) := (h.foldl fun _ _ h => h.when (·.ccWriteBack)).mk

theorem execSnoop {fn line inv} : s.Yields (execSnoop fn line inv t) := by
  dsimp only [Machine.execSnoop]
  refine Evolves.next ?_
  split
  exacts [h.bump.emit, h.bump.emit.ccWriteBack.mk.ite h.bump.emit.ccWriteBack.mk]

theorem setSlotByte {fn o b} : s.Evolves (t.setSlotByte fn o b) := h.setF

theorem setSlotBytes {fn o} {l : List Byte} : s.Evolves (t.setSlotBytes fn o l) := by
  induction l generalizing t o with
  | nil => exact h
  | cons b l ih => exact ih h.setSlotByte

theorem pavSubmit {fn} {l : List Nat} : s.Evolves (t.pavSubmit fn l) := by
  induction l generalizing t with
  | nil => exact h
  | cons i l ih => exact ih h.putQueue.setB

theorem pavDoorbell {fn v} : s.Evolves (t.pavDoorbell fn v) := h.whenNot (·.bump.ite (h.bump.whenNot (·.pavSubmit.wake)))

theorem execMbxDoorbell {fn v} : s.Yields (execMbxDoorbell fn v t) := h.pavDoorbell.next

theorem pavGo {fn off data} : s.Evolves (t.pavGo fn off data) := (h.setSlotBytes.pavSubmit.wake.ite h.bump).ite h.bump

theorem execMbxGo {fn off data} : s.Yields (execMbxGo fn off data t) := h.pavGo.next

theorem setSlotSome {fn o} {l : List (Option Byte)} : s.Evolves (t.setSlotSome fn o l) := by
  induction l generalizing t o with
  | nil => exact h
  | cons b l ih =>
    cases b with
    | none => exact ih h
    | some b => exact ih h.setSlotByte

theorem pavSlotWrite {fn off data} : s.Evolves (t.pavSlotWrite fn off data) := (h.foldl fun _ _ h => h.when (·.bump.ite h.setSlotSome)).when (·.bump)

theorem execMbxSlotWrite {fn off data} : s.Yields (execMbxSlotWrite fn off data t) := (h.when (·.pavSlotWrite)).next

theorem execPavilionTake {fn} : s.Yields (execPavilionTake fn t) := h.admitNext.next

theorem evqCtrlWrite {fn v} : s.Evolves (t.evqCtrlWrite fn v) := by
  unfold State.evqCtrlWrite
  split
  exacts [h.wr.wr.wr, h.setB, h, h.wr]

theorem execEvqEnable {fn v} : s.Yields (execEvqEnable fn v t) := (h.when (·.evqCtrlWrite)).next

theorem execEvqDisable {fn v} : s.Yields (execEvqDisable fn v t) := (h.when (·.evqCtrlWrite)).next

theorem evqSeenWrite {fn v} : s.Evolves (t.evqSeenWrite fn v) := h.when (·.wr)

theorem execEvqSeenWrite {fn v} : s.Yields (execEvqSeenWrite fn v t) := h.evqSeenWrite.next

theorem evqFail {fn addr seq} : s.Evolves (t.evqFail fn addr seq) := h.setB.logErr

theorem eventSent {fn lost} : s.Evolves (t.eventSent fn lost) := h.mk

theorem evqWrite {env fn} {l : List EvRec} : s.Evolves (t.evqWrite env fn l).1 := by
  induction l generalizing t with
  | nil => exact h
  | cons e l ih =>
    dsimp only [State.evqWrite]
    split
    · exact h
    · split
      · split
        exacts [((h.vwrite.ofEq ‹_›).raiseFault.ofEq ‹_›).evqFail, (h.vwrite.ofEq ‹_›).raiseFault.ofEq ‹_›]
      · exact h.vwrite.ofEq ‹_›
      · exact h.vwrite.ofEq ‹_›
      · exact (h.vwrite.ofEq ‹_›).logDenied.evqFail
      · exact (h.vwrite.ofEq ‹_›).evqFail
      · exact ih (h.vwrite.ofEq ‹_›).eventSent.wr

theorem execEventRecordWrite {fn hv} : s.Yields (execEventRecordWrite fn hv t) :=
  (h.when (fun h => (h.evqWrite.when (·.raiseInt)).whenNot (·.ccFlush))).next

theorem readVisible {fn} : s.Evolves (t.readVisible fn).2 := h.wr.wr

theorem execVisibleTimeRead {fn words} : s.Yields (execVisibleTimeRead fn words t) := h.readVisible.emit.next

theorem execProbePeriodic : s.Yields (execProbePeriodic t) := (h.when (·.issueProbe)).next

theorem execProbeReturn {issued} : s.Yields (execProbeReturn issued t) := by
  dsimp only [Machine.execProbeReturn]
  refine Evolves.next ?_
  split
  · exact h
  · split <;> exact h.mk

theorem execUnimplementedAccess {off write} : s.Yields (execUnimplementedAccess off write t) := by
  unfold Machine.execUnimplementedAccess
  exact (ite (by split; exacts [h.bump, h.bump.emit]) h).next

theorem intStatusWrite {page v} : s.Evolves (t.intStatusWrite page v) := (h.wr.when (·.setB)).afterIntWrite

theorem execIntStatusW1c {page v} : s.Yields (execIntStatusW1c page v t) := (h.when (·.intStatusWrite)).next

theorem execIntSet {page v} : s.Yields (execIntSet page v t) := (h.when (·.raiseInts)).next

theorem intEnableWrite {page v} : s.Evolves (t.intEnableWrite page v) := h.wr.afterIntWrite

theorem execIntEnableWrite {page v} : s.Yields (execIntEnableWrite page v t) := (h.when (·.intEnableWrite)).next

theorem msixMask {fn vec masked} : s.Evolves (t.msixMask fn vec masked) := h.putMsix.ite (h.putMsix.when (·.msix))

theorem execMsiXUnmask {fn vec} : s.Yields (execMsiXUnmask fn vec t) := (h.when (·.msixMask)).next

theorem msixWrite {fn off v} : s.Evolves (t.msixWrite fn off v) := by
  dsimp only [State.msixWrite]
  split
  · split
    exacts [h.putMsix, h.putMsix, h.putMsix, h.msixMask]
  · exact h

/-! ### Machine/Translate.lean -/

theorem tlbPut {e} : s.Evolves (t.tlbPut e) := by
  dsimp only [State.tlbPut]
  exact h.mk.ite (by split <;> exact h.mk)

theorem tlbDrop {fn g page} : s.Evolves (t.tlbDrop fn g page) := h.mk

theorem missDone {fn va} : s.Evolves (t.missDone fn va) := h.mk

theorem execTlbMiss {fn va} : s.Yields (execTlbMiss fn va t) := (h.whenNot (·.bump.count.whenNot (·.mk))).next

theorem tlbFill {fn va t'} : s.Evolves (t.tlbFill fn va t') := by
  unfold State.tlbFill
  split
  exacts [h, h.tlbPut]

theorem execTlbFill {fn va write ats} : s.Yields (execTlbFill fn va write ats t) := by
  dsimp only [Machine.execTlbFill]
  refine Evolves.next ?_
  split
  · split
    · exact (missDone (by split; exacts [h.served.event, h.served])).raiseFault
    · split
      · exact (missDone (by split; exacts [h.served.event, h.served])).tlbFill
      · split
        exacts [(emit (by split; exacts [h.served.event, h.served])), (missDone (by split; exacts [h.served.event, h.served])).tlbFill]
  · exact h

theorem atsCompletion {fn va whole permitted write} : s.Evolves (t.atsCompletion fn va whole permitted write) := by
  dsimp only [State.atsCompletion]
  split
  exacts [h.missDone.raiseFault.ite ((by split; exacts [h.missDone.tlbFill, (h.missDone.bump.whenNot (·.mk.logErr)).tlbFill])), h]

theorem execAtsCompletion {fn va whole permitted write} : s.Yields (execAtsCompletion fn va whole permitted write t) :=
  (h.atsCompletion.ite h.toInbox).next

theorem execAtsInvalidation {fn va len} : s.Yields (execAtsInvalidation fn va len t) := h.mk.emit.next

theorem releaseWaiter {x} : s.Evolves (t.releaseWaiter x) := by
  unfold State.releaseWaiter
  split
  exacts [h.mk, h.mk, h]

theorem dropFault {e} : s.Evolves (t.dropFault e) := h.mk

theorem setFaultSt {e st} : s.Evolves (t.setFaultSt e st) := h.mk

theorem releaseFault {e} : s.Evolves (t.releaseFault e) := h.dropFault.foldl fun _ _ h => h.releaseWaiter

theorem stallCount : s.Evolves t.stallCount := by
  unfold State.stallCount
  split
  exacts [h, h.mk.addUnits.count]

theorem stallsEnd {gone} : s.Evolves (t.stallsEnd gone) := h.when (·.stallCount.mk)

theorem execFaultStallRelease : s.Yields (execFaultStallRelease t) := by
  dsimp only [Machine.execFaultStallRelease]
  refine Evolves.next ?_
  split
  exacts [h, h.stallsEnd.mk]

theorem zeroRange {p n} : s.Evolves (t.zeroRange p n) := by
  unfold State.zeroRange
  split
  exacts [h.dropMem.mk, h.mk]

theorem copyIn {env va p n} : s.Evolves (t.copyIn env va p n) := h.zeroRange.foldl fun _ _ h => h.setDram

theorem takeFrame {fn g} : s.Evolves (t.takeFrame fn g).1 := by
  refine iteFst h ?_
  split
  exacts [h.pick.ofEqSnd ‹_›, h.pick.ofEqSnd ‹_›]

theorem mmFinish {i done reason} : s.Evolves (t.mmFinish i done reason) := h.finishOp

theorem pageWritten {cls p n} : s.Evolves (t.pageWritten cls p n) := h.served.countRange

theorem mapPage {fn a page} : s.Evolves (t.mapPage fn a page).1 := by
  dsimp only [State.mapPage]
  split
  · exact h
  · split
    · split
      · exact h
      · split
        exacts [(h.takeFrame.ofEq ‹_›), (h.takeFrame.ofEq ‹_›).zeroRange.pageWritten.putLeaf]
    · exact h.putLeaf

theorem protectPage {fn a page} : s.Evolves (t.protectPage fn a page).1 := by
  dsimp only [State.protectPage]
  split
  · exact h
  · split
    exacts [h, (h.when (·.ccFlushRange)).putLeaf.tlbDrop]

theorem willUseHost {fn va ats} : s.Evolves (t.willUseHost fn va ats) := h.tlbFill.ite (h.whenNot (fun h => (h.whenNot (·.mk)).emit))

theorem advisePage {fn a ats page} : s.Evolves (t.advisePage fn a ats page).1 := by
  dsimp only [State.advisePage]
  split
  · exact h
  · split
    · exact h
    · split
      · exact h.putLeaf.tlbDrop
      · split
        · exact h.when (·.putLeaf.tlbDrop)
        · split
          exacts [h.willUseHost.ite h.tlbFill, h.tlbDrop]

theorem unmapPage {fn a page} : s.Evolves (t.unmapPage fn a page).1 := by
  dsimp only [State.unmapPage]
  split
  · exact h
  · split
    exacts [h, (h.when (·.ccFlushRange)).delLeaf.tlbDrop.mk]

theorem eachPage {f : State → Nat → State × Nat} {p n done} (hf : ∀ u p, s.Evolves u → s.Evolves (f u p).1) :
    s.Evolves (State.eachPage f t p n done).1 := by
  induction n generalizing t p done with
  | zero => exact h
  | succ n ih =>
    unfold State.eachPage
    split
    exacts [ih ((hf _ _ h).ofEq ‹_›), (hf _ _ h).ofEq ‹_›]

theorem mmRun {i o loc advice} {f : MmArgs → State → Nat → State × Nat} (hf : ∀ a u p, s.Evolves u → s.Evolves (f a u p).1) :
    s.Evolves (t.mmRun i o loc advice f) := by
  dsimp only [State.mmRun]
  split
  exacts [h.finishOp, (h.traceStart.eachPage (hf _)).mmFinish]

theorem execMap {op} : s.Yields (execMap op t) := by
  unfold Machine.execMap
  refine Evolves.next ?_
  split
  exacts [h, h.mmRun fun _ _ _ h => h.mapPage]

theorem execProtect {op} : s.Yields (execProtect op t) := by
  unfold Machine.execProtect
  refine Evolves.next ?_
  split
  exacts [h, h.mmRun fun _ _ _ h => h.protectPage]

theorem execAdvise {op} : s.Yields (execAdvise op t) := by
  unfold Machine.execAdvise
  refine Evolves.next ?_
  split
  exacts [h, h.mmRun fun _ _ _ h => h.advisePage]

theorem execUnmap {op} : s.Yields (execUnmap op t) := by
  dsimp only [Machine.execUnmap]
  refine Evolves.next ?_
  split
  · exact h
  · split
    · exact h.finishOp
    · split
      · exact (h.eachPage fun _ _ h => h.unmapPage).mmFinish
      · split
        · exact h
        · refine eachPage h.traceStart.putOp fun _ _ h => ?_
          split
          exacts [h.putLeaf.mk, h, h]

theorem clearBusy {fn a} : s.Evolves (t.clearBusy fn a) := by
  unfold State.clearBusy
  refine .foldl h fun _ _ h => ?_
  split
  exacts [h.when (·.putLeaf), h]

theorem movePage {env fn a tags page} : s.Evolves (t.movePage env fn a tags page).1 := by
  dsimp only [State.movePage]
  split
  · exact h
  · split
    · exact h
    · split
      · exact h.putLeaf
      · split
        · split
          · exact h
          · split
            · exact h
            · split
              exacts [(h.takeFrame.ofEq ‹_›), (h.takeFrame.ofEq ‹_›).ccFlushRange.copyIn.pageWritten.putLeaf.tlbDrop]
        · split
          · exact h
          · split
            exacts [(h.checkRange.ofEq ‹_›), ((h.checkRange.ofEq ‹_›).emit.whenNot (·.noteNonSnoop)).putLeaf.tlbDrop]

theorem execMigrate {op hv} : s.Yields (execMigrate op hv t) := by
  dsimp only [Machine.execMigrate]
  refine Evolves.next ?_
  split
  · exact h
  · split
    · exact h.finishOp
    · split
      · exact h.mmFinish
      · split
        · split
          · exact h
          · refine .foldl h.traceStart.putOp fun _ _ h => ?_
            split
            exacts [h.whenNot (·.putLeaf), h]
        · split
          exacts [(h.movePage.ofEq ‹_›).putOp.when (·.mmFinish), (h.movePage.ofEq ‹_›).clearBusy.mmFinish]

theorem execPriRequest {fn va} : s.Yields (execPriRequest fn va t) := by
  unfold Machine.execPriRequest
  refine Evolves.next ?_
  split
  · exact h
  · split
    · exact h
    · split
      exacts [h.releaseFault, h.whenNot (·.releaseFault.ite (h.putLeaf.setFaultSt.ite h.putLeaf.bump.releaseFault)),
        h.whenNot (·.setFaultSt.emit)]

theorem execMigrateOnFaultDone {fn va hv} : s.Yields (execMigrateOnFaultDone fn va hv t) := by
  dsimp only [Machine.execMigrateOnFaultDone]
  refine Evolves.next ?_
  split
  · exact h
  · split
    · exact h
    · split
      · exact h.releaseFault
      · split
        exacts [(h.takeFrame.ofEq ‹_›).putLeaf.bump.releaseFault,
          (h.takeFrame.ofEq ‹_›).ccFlushRange.copyIn.pageWritten.putLeaf.tlbDrop.releaseFault]

theorem trnRefuse {code fn detail} : s.Evolves (t.trnRefuse code fn detail) := h.bump.raiseInt.logErr

theorem quotaWrite {reg fn v} : s.Evolves (t.quotaWrite reg fn v) := h.trnRefuse.ite h.writePlain

theorem execQuotaWrite {reg fn v} : s.Yields (execQuotaWrite reg fn v t) := (h.whenNot (·.quotaWrite)).next

/-! ### Machine/Tiles.lean -/

theorem putTile {nn t' x} : s.Evolves (t.putTile nn t' x) := h.mk

theorem noteUnits {nn t'} : s.Evolves (t.noteUnits nn t') := h.setF.setB

theorem setUnits {nn t' l busy} : s.Evolves (t.setUnits nn t' l busy) := h.putTile.noteUnits

theorem addUnit {nn t' u atHead} : s.Evolves (t.addUnit nn t' u atHead) := h.setUnits.ite h.setUnits

theorem dropUnit {nn t' u} : s.Evolves (t.dropUnit nn t' u) := h.setUnits

theorem toMail {src dst m} : s.Evolves (t.toMail src dst m) := h.whenNot (·.mk)

theorem saveTiles {nn} : s.Evolves (t.saveTiles nn) := h.mk

theorem recordTiles {nn} : s.Evolves (t.recordTiles nn) := h.toInbox.ite (h.toMail.ite h.saveTiles)

theorem undispatch {u} : s.Evolves (t.undispatch u) := h.mk

theorem moveUnits {nn tile} {l : List (Nat × Nat)} : s.Evolves (t.moveUnits nn tile l) := by
  induction l generalizing t with
  | nil => exact h
  | cons u l ih =>
    unfold State.moveUnits
    split
    exacts [ih (h.dropUnit.pick.ofEqSnd ‹_›).undispatch, ih (h.dropUnit.pick.ofEqSnd ‹_›).addUnit]

theorem noteClock {c} : s.Evolves (t.noteClock c) := h.wr

theorem retireTile {nn t' byManager} : s.Evolves (t.retireTile nn t' byManager) :=
  (h.setB.setB.when (·.setB)).moveUnits.noteClock.raiseInt.recordTiles

theorem autoRetire {nn t'} : s.Evolves (t.autoRetire nn t') := h.logEvent.ite h.retireTile.logEvent

theorem retireUnder {nn t' u} : s.Evolves (t.retireUnder nn t' u) := h.dropUnit.autoRetire.whenNot (·.addUnit)

theorem noteMismatch {nn t' fn tags f injected} : s.Evolves (t.noteMismatch nn t' fn tags f injected) :=
  h.bump.count.raiseInt.logErr.whenNot (·.putTile)

theorem managerRetire {nn t'} : s.Evolves (t.managerRetire nn t') := h.whenNot (·.logErr.ite h.retireTile.event)

theorem blockRun {nn t' z first retry own} : s.Evolves (t.blockRun nn t' z first retry own).2 := by
  dsimp only [State.blockRun]
  split
  · split
    exacts [h.whenNot (·.putTile), h]
  · exact (free (by split; exacts [h.whenNot (·.putTile), h]))
  · split
    exacts [h.whenNot (·.putTile), h]

theorem spendInject {nn t'} : s.Evolves (t.spendInject nn t') := by
  unfold State.spendInject
  split
  exacts [h.putTile, h]

theorem lastRun {nn t' b own} : s.Evolves (t.lastRun nn t' b own).1 := by
  unfold State.lastRun
  split
  exacts [(h.blockRun.ofEqSnd ‹_›), (h.blockRun.ofEqSnd ‹_›).noteMismatch.when (·.autoRetire)]

theorem moveRun {nn tile b} {l : List TileRun} : s.Evolves (t.moveRun nn tile b l).1 := by
  fun_induction State.moveRun t nn tile b l
  case case1 ih => exact ih (h.pick.ofEqSnd ‹_›)
  case case2 ih => exact ih (h.pick.ofEqSnd ‹_›).managerRetire
  case case3 => exact (h.pick.ofEqSnd ‹_›).lastRun
  case case4 => exact (h.pick.ofEqSnd ‹_›).bump.dropUnit.addUnit.blockRun.ofEqSnd ‹_›
  case case5 => exact ((h.pick.ofEqSnd ‹_›).bump.dropUnit.addUnit.blockRun.ofEqSnd ‹_›).noteMismatch.when (·.retireUnder)

theorem retryRun {nn t' b own} : s.Evolves (t.retryRun nn t' b own).1 := by
  dsimp only [State.retryRun]
  split
  · exact h.bump.spendInject.dropUnit.managerRetire.moveRun
  · split
    exacts [(h.bump.blockRun.ofEqSnd ‹_›), ((h.bump.blockRun.ofEqSnd ‹_›).noteMismatch.whenNot (·.retireUnder)).moveRun]

theorem blockRuns {nn t' b own} : s.Evolves (t.blockRuns nn t' b own).1 := by
  unfold State.blockRuns
  split
  · exact h.blockRun.ofEqSnd ‹_›
  · have hb := h.blockRun.ofEqSnd ‹_›
    exact iteFst (hb.noteMismatch.when (·.retireUnder)).spendInject.moveRun (hb.noteMismatch.when (·.retireUnder)).retryRun

theorem noteCycles {nn fn cycles columns tags} : s.Evolves (t.noteCycles nn fn cycles columns tags) :=
  h.count.count.count.addUnits.addUnits.addUnits.mk

theorem commitBlock {nn t' fn outs} : s.Evolves (t.commitBlock nn t' fn outs) := h.putTile.when (·.bump)

theorem spoilRow {row} {l : List (Nat × Nat)} : s.Evolves (t.spoilRow row l).2 := by
  induction l generalizing t with
  | nil => exact h
  | cons o l ih =>
    unfold State.spoilRow
    split
    exacts [ih h.free, ih h]

theorem tileBlock {nn t' fa fb load ends scale a b own} : s.Evolves (t.tileBlock nn t' fa fb load ends scale a b own).1 := by
  dsimp only [State.tileBlock]
  split
  · exact h
  · split
    · exact h
    · split
      · exact h.managerRetire
      · split
        exacts [
          (commitBlock (by split; exacts [(h.setUnits.blockRuns.ofEq ‹_›).spoilRow, (h.setUnits.blockRuns.ofEq ‹_›)])).noteCycles.branch (·.dropUnit)
              (·.setUnits),
          (h.setUnits.blockRuns.ofEq ‹_›).bump.raiseInt.logErr]

theorem startRestore {nn t'} : s.Evolves (t.startRestore nn t') := h.when (·.setB)

theorem managerRestore {nn t'} : s.Evolves (t.managerRestore nn t') := h.whenNot (·.mk.ite h.startRestore)

theorem releaseRestores : s.Evolves t.releaseRestores := h.mk.foldl fun _ _ h => h.startRestore

theorem tileCtrlWrite {nn v} : s.Evolves (t.tileCtrlWrite nn v) := h.foldl fun _ _ h => h.managerRetire.ite (h.when (·.managerRestore))

theorem injectWrite {nn v} : s.Evolves (t.injectWrite nn v) := h.whenNot (·.putTile)

theorem execTileRetire {nn v} : s.Yields (execTileRetire nn v t) := (h.when (·.tileCtrlWrite)).next

theorem execTileRestore {nn v} : s.Yields (execTileRestore nn v t) := (h.when (·.tileCtrlWrite)).next

theorem execCheckInject {nn v} : s.Yields (execCheckInject nn v t) := (h.when (·.injectWrite)).next

/-! ### Machine/Wire.lean -/

theorem eraseSlot {i cause} : s.Evolves (t.eraseSlot i cause) := h.setF.setF.mk.whenNot (·.raiseInt)

theorem sealPacket {fn} : s.Evolves (t.sealPacket fn).1 := by
  unfold State.sealPacket
  split
  exacts [(h.mk.bump.count.when (·.raiseInt)).when (·.eraseSlot.logErr), h]

theorem secEvent {code fn detail} : s.Evolves (t.secEvent code fn detail) := h.when (·.mk.event)

theorem noKey {fn} : s.Evolves (t.noKey fn) := h.bump.secEvent

theorem openCipher {fn part sealed ci} : s.Evolves (t.openCipher fn part sealed ci).1 := by
  dsimp only [State.openCipher]
  split
  · exact h.bump.logErr.secEvent
  · split
    · exact h
    · exact h.noKey
    · split
      · exact h.noKey
      · split
        · exact h.noKey
        · split
          exacts [h.bump.raiseInt.logErr.secEvent, h.bump.count]

theorem openPacket {p} : s.Evolves (t.openPacket p).1 := h.openCipher

theorem putPath {dev n x} : s.Evolves (t.putPath dev n x) := h.mk

theorem pathDown {dev n} : s.Evolves (t.pathDown dev n) := h.whenNot (·.putPath.trace.raiseInt.logEvent)

theorem pathUp {dev n} : s.Evolves (t.pathUp dev n) := h.whenNot (·.putPath.trace.raiseInt.event)

theorem emitOz {link p} : s.Evolves (t.emitOz link p) := h.emit

theorem queueOz {t'} : s.Evolves (t.queueOz t') := h.mk

theorem pauseRise {port cls} : s.Evolves (t.pauseRise port cls) := h.when (·.mk.sendPause)

theorem pauseFall {port cls} : s.Evolves (t.pauseFall port cls) := h.when (·.mk.sendPause)

theorem xoffRise {link vl} : s.Evolves (t.xoffRise link vl) := h.when (·.mk.emit.count)

theorem xoffFall {link vl} : s.Evolves (t.xoffFall link vl) := h.when (·.mk.emit)

theorem bufferFall {port link} : s.Evolves (t.bufferFall port link) := by
  dsimp only [State.bufferFall]
  split
  · exact (xoffFall (by split; exacts [h.pauseFall, h]))
  · split
    exacts [h.pauseFall, h]

theorem onPath {fn dev n cls p} : s.Evolves (t.onPath fn dev n cls p) := h.queueOz.ite h.free.queueFrame

theorem sendOn {h' ext payload} : s.Evolves (t.sendOn h' ext payload) := h.sealPacket.branch (·.mk) (·.onPath)

theorem answer {p typ ext payload idx msgLen last} : s.Evolves (t.answer p typ ext payload idx msgLen last) := by
  unfold State.answer
  split
  exacts [h, h, h.sendOn]

theorem ack {p base ce flags bitmap} : s.Evolves (t.ack p base ce flags bitmap) := h.answer

theorem nak {p reason idx} : s.Evolves (t.nak p reason idx) := h.bump.answer

theorem ydtArrive {x} : s.Evolves (t.ydtArrive x) := h.logErr.ite (h.logErr.ite (h.bump.ite ((h.when (·.bump.count)).mk)))

theorem admitPacket {p} : s.Evolves (t.admitPacket p).1 := by
  unfold State.admitPacket
  split
  exacts [h.openPacket, h.bump.raiseInt.logErr]

theorem putRate {dev r} : s.Evolves (t.putRate dev r) := h.mk.wr

theorem noteSend {dev} : s.Evolves (t.noteSend dev) := h.putRate

/-! ### Machine/Xfer.lean -/

theorem takeSlot : s.Evolves t.takeSlot.1 := by
  dsimp only [State.takeSlot]
  split
  · exact h
  · split <;> exact h.mk

theorem putXfer {i x} : s.Evolves (t.putXfer i x) := h.mk

theorem startXfer {x} : s.Evolves (t.startXfer x).1 := by
  unfold State.startXfer
  split
  exacts [(h.takeSlot.ofEq ‹_›), (h.takeSlot.ofEq ‹_›).putXfer.noteSlots]

theorem xferData {env x k} : s.Evolves (t.xferData env x k).1 := by
  unfold State.xferData
  split
  · exact h
  · split
    exacts [h, h.vread]

theorem choosePath {x k} : s.Evolves (t.choosePath x k).2 := by
  dsimp only [State.choosePath]
  split
  · exact h
  · split
    · exact h
    · split
      exacts [h, h.pick]

theorem notePacket {fn t' attempt opid} : s.Evolves (t.notePacket fn t' attempt opid) := h.count.whenNot (·.count.trace)

theorem sendPkt {env i k count attempt} : s.Evolves (t.sendPkt env i k count attempt).1 := by
  dsimp only [State.sendPkt]
  split
  · exact h
  · split
    · exact h
    · split
      · exact (h.xferData.ofEq ‹_›)
      · split
        exacts [(h.xferData.ofEq ‹_›).choosePath.putXfer, (h.xferData.ofEq ‹_›).choosePath.putXfer.noteSend.notePacket.sendOn]

theorem sendPkts {env i attempt} {l : List Nat} : s.Evolves (t.sendPkts env i attempt l).1 := by
  induction l generalizing t with
  | nil => exact h
  | cons k l ih =>
    unfold State.sendPkts
    split
    exacts [ih (h.sendPkt.ofEq ‹_›), h.sendPkt]

theorem sendRuns {env i attempt} {l : List (Nat × Nat)} : s.Evolves (t.sendRuns env i attempt l).1 := by
  induction l generalizing t with
  | nil => exact h
  | cons k l ih =>
    unfold State.sendRuns
    split
    exacts [ih (h.sendPkt.ofEq ‹_›), h.sendPkt]

theorem sendList {env i attempt ks} : s.Evolves (t.sendList env i attempt ks).1 := by
  unfold State.sendList
  split
  · exact h
  · split
    exacts [h.sendRuns, h.sendPkts]

theorem notePeer {fn dev dfn} : s.Evolves (t.notePeer fn dev dfn) := by
  unfold State.notePeer
  split
  exacts [h.whenNot (·.mk.event), h.mk.event]

theorem sendOwn {x} : s.Evolves (t.sendOwn x).1 := by
  unfold State.sendOwn
  split
  · exact h
  · split
    · exact h
    · split
      · exact (h.startXfer.ofEq ‹_›)
      · split
        exacts [((h.startXfer.ofEq ‹_›).sendList.ofEq ‹_›), ((h.startXfer.ofEq ‹_›).sendList.ofEq ‹_›).dropXfer]

/-! ### Machine/Track.lean -/

theorem noteRecordsFull {p} : s.Evolves (t.noteRecordsFull p) := h.raiseInt.mk.logEvent.ite h.raiseInt.logErr

theorem addRecord {p} : s.Evolves (t.addRecord p) := h.mk.noteSlots

theorem setTracker {t'} : s.Evolves (t.setTracker t') := h.mk.noteSlots

theorem freeTracker {t'} : s.Evolves (t.freeTracker t') := h.mk.noteSlots

theorem ackOne {p flags} : s.Evolves (t.ackOne p flags) := h.ack

theorem ackGroups {x flags} {l : List Nat} {ce} : s.Evolves (t.ackGroups x flags l ce) := by
  induction l generalizing t ce with
  | nil => exact h
  | cons b l ih => exact ih h.ack

theorem ackFresh {t' flags} : s.Evolves (t.ackFresh t' flags) := h.ackGroups

theorem settle {t' p} : s.Evolves (t.settle t' p) := h.freeTracker.ackFresh.ite (h.setTracker.ackFresh.ite h.setTracker)

theorem ackDup {p complete} : s.Evolves (t.ackDup p complete) := h.bump.ackOne

theorem execAckDelayTimer {dev fn opid} : s.Yields (execAckDelayTimer dev fn opid t) := by
  unfold Machine.execAckDelayTimer
  refine Evolves.next ?_
  split
  exacts [h, h.whenNot (·.setTracker.ackFresh)]

theorem execTrackerExpiry {dev fn opid} : s.Yields (execTrackerExpiry dev fn opid t) := by
  unfold Machine.execTrackerExpiry
  refine Evolves.next ?_
  split
  exacts [h, h.freeTracker.bump.raiseInt.logEvent]

theorem execSendRecordExpiry {dev fn opid} : s.Yields (execSendRecordExpiry dev fn opid t) := h.mk.noteSlots.next

/-! ### Machine/Heats.lean -/

theorem noteGroup {g} : s.Evolves (t.noteGroup g) := by
  dsimp only [State.noteGroup]
  split <;> exact h.wr.wr.wr.wr.wr

theorem setPace {g p w} : s.Evolves (t.setPace g p w) := h.mk.wr

theorem dropPace {g} : s.Evolves (t.dropPace g) := h.mk.setF

theorem putGroup {g x} : s.Evolves (t.putGroup g x) := h.mk.noteGroup

theorem delGroup {g} : s.Evolves (t.delGroup g) := h.mk.noteGroup.dropPace

theorem heatSend {x rank owner w hash data} : s.Evolves (t.heatSend x rank owner w hash data).1 := h.sendOwn

theorem sendAborts {g x seq status} : s.Evolves (t.sendAborts g x seq status) := h.foldl fun _ _ h => h.whenNot (·.heatSend)

theorem sendCredit {g x rank n} : s.Evolves (t.sendCredit g x rank n) := h.heatSend

theorem paceUpdate {g h'} : s.Evolves (t.paceUpdate g h') := h.whenNot (·.setPace.ite h.setPace)

theorem endHeat {g status} : s.Evolves (t.endHeat g status) := by
  unfold State.endHeat
  split
  · exact h
  · split
    exacts [h, (h.when (·.paceUpdate)).bump.count.finishOp.putGroup]

theorem noteHeatEnd {g status code cls x} : s.Evolves (t.noteHeatEnd g status code cls x) :=
  ((((h.bump.raiseInt.ite (h.whenNot (·.bump))).when (·.raiseInt)).when (·.raiseInt)).when (·.bump.raiseInt)).whenNot (·.logErr)

theorem dropHeat {g i status code cls x} : s.Evolves (t.dropHeat g i status code cls x) := h.putGroup.noteHeatEnd.bump.count.finishOp

theorem stopHeat {g status code cls tell} : s.Evolves (t.stopHeat g status code cls tell) := by
  unfold State.stopHeat
  split
  exacts [h, h.whenNot (·.noteHeatEnd.endHeat.when (·.sendAborts))]

theorem heatSendEnded {g w status} : s.Evolves (t.heatSendEnded g w status) := by
  unfold State.heatSendEnded
  split
  exacts [h, h.stopHeat.ite h.raiseInt.sendAborts]

theorem groupSet {hv i o} : s.Evolves (t.groupSet hv i o) := by
  dsimp only [State.groupSet]
  split
  · exact h.finishOp
  · split
    · exact (h.traceStart.vread.ofEq ‹_›).opFail
    · split
      exacts [(h.traceStart.vread.ofEq ‹_›).logErr.finishOp, (h.traceStart.vread.ofEq ‹_›).putGroup.dropPace.finishOp]

theorem execGroupSet {op hv} : s.Yields (execGroupSet op hv t) := by
  unfold Machine.execGroupSet
  refine Evolves.next ?_
  split
  exacts [h, h.when (·.groupSet)]

theorem execGroupDelete {op} : s.Yields (execGroupDelete op t) := by
  dsimp only [Machine.execGroupDelete]
  refine Evolves.next ?_
  split
  · exact h
  · split
    · exact h
    · split
      exacts [h.traceStart.finishOp, h.traceStart.branch (·.finishOp) (·.branch (·.finishOp) (·.delGroup.finishOp))]

theorem heatSource {fn tags hv a} : s.Evolves (t.heatSource fn tags hv a).1 := by
  dsimp only [State.heatSource]
  split
  · exact h
  · split
    · split
      · exact (h.vread.ofEq ‹_›)
      · split <;> exact ((h.vread.ofEq ‹_›).vread.ofEq ‹_›)
    · split <;> exact (h.vread.ofEq ‹_›)

theorem heatOutput {hv g} : s.Evolves (t.heatOutput hv g) := by
  dsimp only [State.heatOutput]
  split
  · exact h
  · split
    · exact h
    · split
      · exact h
      · split
        · exact h.endHeat
        · split
          · exact (h.vwrite.ofEq ‹_›).bump.endHeat
          · split
            exacts [((h.vwrite.ofEq ‹_›).raiseFault.ofEq ‹_›).stopHeat, ((h.vwrite.ofEq ‹_›).raiseFault.ofEq ‹_›)]
          · exact (h.vwrite.ofEq ‹_›)
          · exact (h.vwrite.ofEq ‹_›).logDenied.stopHeat
          · exact (h.vwrite.ofEq ‹_›).logDenied.stopHeat
          · exact (h.vwrite.ofEq ‹_›).stopHeat

theorem grantFurther {g} : s.Evolves (t.grantFurther g) := by
  dsimp only [State.grantFurther]
  split
  · exact h
  · split
    · exact h
    · split
      exacts [h, h.whenNot (·.putGroup.sendCredit)]

theorem beginHeat {hv i g x a xs dropped} : s.Evolves (t.beginHeat hv i g x a xs dropped) :=
  h.bump.putGroup.grantFurther.trace.branch (·.stopHeat) (·.heatOutput)

theorem tryHeat {hv i o a} : s.Evolves (t.tryHeat hv i o a) := by
  unfold State.tryHeat
  split
  · exact h
  · split
    · exact h
    · split
      · exact h.dropHeat
      · split
        · split
          exacts [h.beginHeat, h.when (·.dropHeat.sendAborts)]
        · split
          · exact (h.heatSource.ofEq ‹_›).beginHeat
          · exact (h.heatSource.ofEq ‹_›).dropHeat.sendAborts
          · split
            exacts [((h.heatSource.ofEq ‹_›).raiseFault.ofEq ‹_›).dropHeat.sendAborts, ((h.heatSource.ofEq ‹_›).raiseFault.ofEq ‹_›).mk]
          · exact (h.heatSource.ofEq ‹_›)
          · exact (h.heatSource.ofEq ‹_›).logDenied.dropHeat.sendAborts
          · exact (h.heatSource.ofEq ‹_›).logDenied.dropHeat.sendAborts

theorem heat {hv i o} : s.Evolves (t.heat hv i o) := by
  dsimp only [State.heat]
  split
  · exact h.tryHeat
  · split
    · exact h.finishOp
    · split
      exacts [h, h.finishOp.whenNot (·.ite h.traceStart.putOp.putGroup.tryHeat)]

theorem execHeat {op hv} : s.Yields (execHeat op hv t) := by
  unfold Machine.execHeat
  refine Evolves.next ?_
  split
  exacts [h, h.heat]

theorem execHeatAbort {op} : s.Yields (execHeatAbort op t) := by
  dsimp only [Machine.execHeatAbort]
  refine Evolves.next ?_
  split
  · exact h
  · split
    exacts [h.traceStart.finishOp, h.traceStart.branch (·.finishOp) (·.branch (·.stopHeat.finishOp) (·.finishOp))]

theorem creditWaited {x h' c} : s.Evolves (t.creditWaited x h' c) := by
  unfold State.creditWaited
  split
  exacts [h.addUnits.count, h]

theorem execChunkSend {group chunk hv} : s.Yields (execChunkSend group chunk hv t) := by
  dsimp only [Machine.execChunkSend]
  refine Evolves.next ?_
  split
  · exact h
  · split
    · exact h
    · split
      exacts [
        (h.whenNot (·.putGroup)).ite ((by split; exacts [(h.creditWaited.putGroup.heatSend.ofEq ‹_›).heatOutput,
            (h.creditWaited.putGroup.heatSend.ofEq ‹_›).stopHeat])),
        h]

theorem restoreCredit {g a} : s.Evolves (t.restoreCredit g a) := by
  unfold State.restoreCredit
  split
  exacts [h, h.putGroup.sendCredit.ite h.grantFurther]

theorem execChunkMerge {group chunk crcOk first again hv} : s.Yields (execChunkMerge group chunk crcOk first again hv t) := by
  dsimp only [Machine.execChunkMerge]
  refine Evolves.next ?_
  split
  · exact h
  · split
    · exact h
    · split
      · split
        exacts [h, h.bump.stopHeat.ite (h.bump.stopHeat.ite ((h.bump.when (·.bump)).putGroup.restoreCredit.count.heatOutput))]
      · exact h

theorem execHeatTimeout {group} : s.Yields (execHeatTimeout group t) := by
  unfold Machine.execHeatTimeout
  refine Evolves.next ?_
  split
  exacts [h, h.when (·.raiseInt.stopHeat)]

/-! ### Machine/Stretch.lean -/

theorem dropUnits {i} : s.Evolves (t.dropUnits i) := h.mk.foldl fun _ _ h => h.when (·.setUnits)

theorem noteLanes {fn t'} : s.Evolves (t.noteLanes fn t') := h.free.free.free.addUnits.count.count

theorem endCtx {i st result} : s.Evolves (t.endCtx i st result) := by
  dsimp only [State.endCtx]
  exact (finishOp (by split; exacts [h.dropUnits.when (·.noteLanes), h.dropUnits]))

theorem ctxErr {o code detail} : s.Evolves (t.ctxErr o code detail) := (h.raiseInt.ite (h.when (·.raiseInt))).logErr

theorem noteSat {n} : s.Evolves (t.noteSat n) := h.whenNot (·.someCluster.bump)

theorem noteNonfinite {n} : s.Evolves (t.noteNonfinite n) := h.whenNot (·.someCluster.bump)

/-! ### Machine/ParityCore.lean -/

theorem noteParity : s.Evolves t.noteParity := h.setF.setF.setF

theorem declareLost {m cause} : s.Evolves (t.declareLost m cause) := h.whenNot (·.setB.noteParity.event)

theorem unbind {o} : s.Evolves (t.unbind o) := by
  dsimp only [State.unbind]
  split
  · exact h
  · split
    exacts [(h.mk.vread.ofEq ‹_›).vwrite.noteParity, (h.mk.vread.ofEq ‹_›).noteParity]

theorem settleParts {i} : s.Evolves (t.settleParts i) := by
  unfold State.settleParts
  split
  exacts [h, h.whenNot (fun h => (h.when (·.addUnits)).count.branch (·.ctxErr.endCtx) (fun h => (h.when (·.unbind)).endCtx))]

theorem partEnd {i status} : s.Evolves (t.partEnd i status) := by
  unfold State.partEnd
  split
  exacts [h, h.putOp.settleParts]

theorem sendPart {p} : s.Evolves (t.sendPart p) := by
  dsimp only [State.sendPart]
  exact h.bump.partEnd.ite (h.mk.ite ((by split; exacts [(h.sendOwn.ofEq ‹_›), (h.sendOwn.ofEq ‹_›).partEnd])))

theorem sendUnsent : s.Evolves t.sendUnsent := h.whenNot (·.mk.foldl fun _ _ h => h.sendPart)

theorem startParts {i status result ending ps} : s.Evolves (t.startParts i status result ending ps) := by
  unfold State.startParts
  split
  exacts [h, (h.putOp.foldl fun _ _ h => h.sendPart).settleParts]

theorem addParts {i ps} : s.Evolves (t.addParts i ps) := by
  unfold State.addParts
  split
  exacts [h.foldl fun _ _ h => h.sendPart, h.putOp.foldl fun _ _ h => h.sendPart]

theorem image {env g off n} : s.Evolves (t.image env g off n).1 := by
  dsimp only [State.image]
  split
  · exact h
  · split
    · exact h
    · split <;> exact (h.vread.ofEq ‹_›)

theorem rebuildFail {i b g lost} : s.Evolves (t.rebuildFail i b g lost) := by
  unfold State.rebuildFail
  exact h.event.endCtx

theorem startRebuild {i k g lost} : s.Evolves (t.startRebuild i k g lost) := by
  unfold State.startRebuild
  split
  exacts [h, h.whenNot (·.rebuildFail.ite h.sendOwn)]

theorem replaced {fn va n} : s.Evolves (t.replaced fn va n).1 := by
  unfold State.replaced
  split
  · split
    exacts [h, h.checkBurst.served]
  · exact h

theorem changesOf {fn base} {l : List (Nat × List Byte)} : s.Evolves (t.changesOf fn base l).1 := by
  induction l generalizing t with
  | nil => exact h
  | cons e l ih => exact ih h.replaced

theorem rebuilt {i k g lost bs} : s.Evolves (t.rebuilt i k g lost bs) := by
  dsimp only [State.rebuilt]
  split
  · exact h
  · split
    · exact (h.bump.changesOf.foldl fun _ _ h => h.vwrite).mk.addParts.noteParity
    · split
      exacts [h.bump, h.bump.vwrite.bump.event]

theorem repairEnded {i k g lost status} : s.Evolves (t.repairEnded i k g lost status) := by
  unfold State.repairEnded
  split
  exacts [h, h.when (·.rebuildFail)]

theorem putStage {j x} : s.Evolves (t.putStage j x) := h.mk

theorem lockLine {key k from'} : s.Evolves (t.lockLine key k from') := by
  dsimp only [State.lockLine]
  split
  · exact h
  · split
    · exact h
    · refine .foldl h.putStage fun _ _ h => ?_
      split
      exacts [(h.sendOwn.ofEq ‹_›), (h.sendOwn.ofEq ‹_›).mk]

theorem gathered {j m bs} : s.Evolves (t.gathered j m bs) := h.mk

theorem reconstruct {x g} : s.Evolves (t.reconstruct x g).1 := by
  dsimp only [State.reconstruct]
  split
  · exact h
  · split
    · exact h
    · split
      · exact h
      · split
        exacts [h, h.lockLine]

theorem applyUpdate {env off d} : s.Evolves (t.applyUpdate env off d).1 := by
  unfold State.applyUpdate
  split
  · exact (h.vread.ofEq ‹_›)
  · split
    exacts [((h.vread.ofEq ‹_›).vwrite.ofEq ‹_›), ((h.vread.ofEq ‹_›).vwrite.ofEq ‹_›).bump]

end State.Evolves
end Sys2Proof.Machine
end

section
/-! ## Context operations: programs that may fail

The programs of `CtxM` answer a value or a failure, and leave a state either way. -/

namespace Sys2Proof.Machine
open Sys2Proof

/-- Run from `t`, `m` leaves a state that `s` evolves to when it fails, and one that meets `P` with what it answers otherwise. -/
def CtxM.Leads {α : Type} (s t : State) (P : α → State → Prop) (m : CtxM α) : Prop :=
  match m.run t with
  | (.ok a, u) => P a u
  | (.error _, u) => s.Evolves u

/-- Whatever `m` answers, `s` evolves to the state it leaves. -/
abbrev CtxM.Keeps {α : Type} (s t : State) (m : CtxM α) : Prop := m.Leads s t fun _ u => s.Evolves u

/-- `s` evolves to what `m` answers, done to the state it leaves. -/
abbrev CtxM.Answers (s t : State) (m : CtxM (State → State)) : Prop := m.Leads s t fun f u => s.Evolves (f u)

namespace CtxM.Leads
variable {α β : Type} {s t : State} {P : α → State → Prop} {Q : β → State → Prop}

theorem pure {a : α} (h : P a t) : (Pure.pure a : CtxM α).Leads s t P := h

theorem throw {e : CtxFail} (h : s.Evolves t) : (throw e : CtxM α).Leads s t P := h

theorem act {f : State → State} (h : s.Evolves (f t)) : (act f).Keeps s t := h

theorem get_bind {f : State → CtxM α} (h : (f t).Leads s t P) : (get >>= f).Leads s t P := h

theorem set_bind {f : PUnit → CtxM α} {u : State} (h : (f ⟨⟩).Leads s u P) : (set u >>= f).Leads s t P := h

theorem bind {m : CtxM α} {f : α → CtxM β} (hm : m.Keeps s t) (hf : ∀ {a u}, s.Evolves u → (f a).Leads s u Q) :
    (m >>= f).Leads s t Q := by
  change (match ExceptT.bindCont f (m.run t).1 (m.run t).2 with | (.ok a, u) => Q a u | (.error _, u) => s.Evolves u)
  unfold CtxM.Keeps CtxM.Leads at hm
  generalize m.run t = r at hm ⊢
  rcases r with ⟨e | a, u⟩
  · exact hm
  · exact hf hm

theorem of_ok {m : CtxM α} {a : α} {u : State} (h : m.Leads s t P) (e : m.run t = (.ok a, u)) : P a u := by
  unfold Leads at h
  rwa [e] at h

theorem of_error {m : CtxM α} {f : CtxFail} {u : State} (h : m.Leads s t P) (e : m.run t = (.error f, u)) : s.Evolves u := by
  unfold Leads at h
  rwa [e] at h

theorem ite {c : Prop} [Decidable c] {a b : CtxM α} (ha : a.Leads s t P) (hb : b.Leads s t P) : (if c then a else b).Leads s t P := by
  split
  · exact ha
  · exact hb

theorem check {c : Prop} [Decidable c] {e : CtxFail} {f : PUnit → CtxM α} (h : s.Evolves t) (hf : (f ⟨⟩).Leads s t P) :
    (if c then MonadExcept.throw e >>= f else f ⟨⟩).Leads s t P :=
  ite h hf

theorem iteBind {c : Prop} [Decidable c] {m n : CtxM α} {f : α → CtxM β} (hm : m.Keeps s t) (hn : n.Keeps s t)
    (hf : ∀ {a u}, s.Evolves u → (f a).Leads s u Q) : (if c then m >>= f else n >>= f).Leads s t Q :=
  ite (bind hm hf) (bind hn hf)

theorem mapM {l : List α} {f : α → CtxM β} (h : s.Evolves t) (hf : ∀ {a u}, s.Evolves u → (f a).Keeps s u) : (l.mapM f).Keeps s t := by
  induction l generalizing t with
  | nil => exact h
  | cons a l ih =>
    rw [List.mapM_cons]
    exact bind (hf h) fun h => bind (ih h) fun h => pure h

theorem forM {l : List α} {f : α → CtxM PUnit} (h : s.Evolves t) (hf : ∀ {a u}, s.Evolves u → (f a).Keeps s u) : (l.forM f).Keeps s t := by
  induction l generalizing t with
  | nil => exact h
  | cons a l ih => exact bind (hf h) fun h => ih h

end CtxM.Leads
open CtxM
variable {s t : State}

theorem State.Evolves.bind {fn x} (h : s.Evolves t) : s.Evolves (t.bind fn x) := by
  unfold State.bind
  split
  · exact h.mk.noteParity
  · split
    exacts [h, h.mk.noteParity]

theorem State.Evolves.holdStore {nn fn} (h : s.Evolves t) : s.Evolves (t.holdStore nn fn) := h.whenNot (·.mk)

theorem devSeg_keeps {dma env fn g} (h : s.Evolves t) : (devSeg dma env fn g).Keeps s t := by
  unfold devSeg
  refine Leads.get_bind ?_
  split
  · exact Leads.throw h
  · exact Leads.throw h
  · refine Leads.set_bind ?_
    split
    exacts [Leads.pure h.readSeg, Leads.throw h.readSeg]

theorem devRead_keeps {dma env fn va n} (h : s.Evolves t) : (devRead dma env fn va n).Keeps s t :=
  (Leads.mapM h devSeg_keeps).bind fun h => .pure h

theorem anyRead_keeps {env fn va n} (h : s.Evolves t) : (anyRead env fn va n).Keeps s t := by
  refine Leads.get_bind (Leads.set_bind ?_)
  split
  exacts [Leads.pure h.vread, Leads.throw h.vread]

theorem regionSeg_keeps {env fn x mark g} (h : s.Evolves t) : (regionSeg env fn x mark g).Keeps s t := by
  refine Leads.get_bind ?_
  dsimp only
  split
  · exact devSeg_keeps h
  · refine Leads.ite (.throw h) ?_
    split
    exacts [Leads.ite (.set_bind (.throw h.checkBurst)) (devSeg_keeps h), devSeg_keeps h]

theorem regionRead_keeps {env fn x mark o n} (h : s.Evolves t) : (regionRead env fn x mark o n).Keeps s t :=
  (Leads.mapM h regionSeg_keeps).bind fun h => .pure h

theorem regionGet_keeps {env fn x mark held o n} (h : s.Evolves t) : (regionGet env fn x mark held o n).Keeps s t :=
  Leads.ite (.get_bind (.pure h)) (regionRead_keeps h)

theorem checkSeg_keeps {env fn g} (h : s.Evolves t) : (checkSeg env fn g).Keeps s t := by
  refine Leads.get_bind ?_
  split
  · exact Leads.throw h
  · exact Leads.throw h
  · exact Leads.throw h
  · exact Leads.ite (.throw h) (.ite (.set_bind (.throw h.checkBurst.memErr)) (.pure h))

theorem commitWrites_keeps {env fn ws} (h : s.Evolves t) : (commitWrites env fn ws).Keeps s t :=
  (Leads.forM h fun h => Leads.forM h checkSeg_keeps).bind fun h => .act (h.foldl fun _ _ h => h.vwrite)

theorem header_keeps {env fn va} (h : s.Evolves t) : (header env fn va).Keeps s t := by
  refine (devRead_keeps h).bind fun h => .get_bind ?_
  dsimp only
  split
  exacts [Leads.throw h, Leads.pure h]

theorem layerEntry_keeps {env fn x l clear} (h : s.Evolves t) : (layerEntry env fn x l clear).Keeps s t := by
  unfold layerEntry
  refine Leads.check h ((devRead_keeps h).bind fun h => .get_bind ?_)
  split
  exacts [Leads.throw h, Leads.throw h, Leads.pure h]

theorem blockSums_keeps {env fn x l b h' n} (h : s.Evolves t) : (blockSums env fn x l b h' n).Keeps s t := (regionRead_keeps h).bind fun h => .pure h

theorem rebuildTail_keeps {env fn x l tokens} (h : s.Evolves t) : (rebuildTail env fn x l tokens).Keeps s t :=
  Leads.ite (.pure h) ((Leads.mapM h blockSums_keeps).bind fun h => .pure h)

theorem stretchInit_answers {hv i o} (h : s.Evolves t) : (stretchInit hv i o).Answers s t := by
  unfold stretchInit
  refine (Leads.forM h checkSeg_keeps).bind fun h => (anyRead_keeps h).bind fun h => .get_bind ?_
  dsimp only
  split
  · exact .throw h
  · refine (Leads.mapM h layerEntry_keeps).bind fun h => .get_bind (.ite ?_ ?_)
    · split
      exacts [.throw h, (commitWrites_keeps h).bind fun h => .pure (h.when (·.bind)).endCtx]
    · exact (commitWrites_keeps h).bind fun h => .pure (h.when (·.bind)).endCtx

theorem rotEntry_keeps {env fn x e level j} (h : s.Evolves t) : (rotEntry env fn x e level j).Keeps s t :=
  (devRead_keeps h).bind fun h => .pure h

theorem rotation_keeps {env fn x e pos} (h : s.Evolves t) : (rotation env fn x e pos).Keeps s t :=
  (rotEntry_keeps h).bind fun h => (rotEntry_keeps h).bind fun h => (rotEntry_keeps h).bind fun h => .pure h

theorem placeToken_keeps {env fn x l tokens idx new a} (h : s.Evolves t) : (placeToken env fn x l tokens idx new a).Keeps s t := by
  refine Leads.bind (.mapM h fun h => .ite (.bind (.mapM h regionRead_keeps) fun h => .pure h) (.pure h)) fun h => ?_
  exact Leads.ite (.pure h) (.ite (.pure h) (.ite (.pure h) (.pure h)))

theorem placeTokens_keeps {env fn x l tokens idx ts a} (h : s.Evolves t) : (placeTokens env fn x l tokens idx ts a).Keeps s t := by
  induction ts generalizing t idx a with
  | nil => exact h
  | cons k ts ih => exact (placeToken_keeps h).bind fun h => ih h

theorem redoMarks_keeps {env fn x l bs} (h : s.Evolves t) : (redoMarks env fn x l bs).Keeps s t :=
  Leads.bind (.mapM h fun h => .mapM h fun h => (blockSums_keeps h).bind fun h => (Leads.act h.noteSat).bind fun h => .pure h)
    fun h => .pure h

theorem append_answers {hv i o} (h : s.Evolves t) : (append hv i o).Answers s t := by
  unfold append
  refine (header_keeps h).bind fun h => (layerEntry_keeps h).bind fun h => .ite (.pure h.endCtx) (.check h (.check h ?_))
  refine (anyRead_keeps h).bind fun h => .get_bind ((Leads.forM h fun h => (anyRead_keeps h).bind fun h => .pure h).bind fun h => ?_)
  refine (devRead_keeps h).bind fun h => (devRead_keeps h).bind fun h => (devRead_keeps h).bind fun h => ?_
  refine (Leads.mapM h fun h => (rotation_keeps h).bind fun h => (Leads.act h.noteSat).bind fun h => .pure h).bind fun h => ?_
  refine (Leads.act (h.foldl fun _ _ h => h.noteNonfinite)).bind fun h => .iteBind (devRead_keeps h) (.pure h) fun h => ?_
  refine (placeTokens_keeps h).bind fun h => ?_
  refine (Leads.forM h fun h => .forM h fun h => (blockSums_keeps h).bind fun h => .pure h).bind fun h => ?_
  refine (commitWrites_keeps h).bind fun h => (redoMarks_keeps h).bind fun h => (commitWrites_keeps h).bind fun h => .pure ?_
  exact h.noteSat.bump.count.branch (·.dropUnits.startParts) (·.endCtx)

theorem blockData_keeps {env fn x held l h' b} (h : s.Evolves t) : (blockData env fn x held l h' b).Keeps s t :=
  (regionGet_keeps h).bind fun h => .pure h

theorem selectBlocks_keeps {env fn a held h' k} (h : s.Evolves t) : (selectBlocks env fn a held h' k).Keeps s t :=
  (Leads.mapM h fun h => (regionGet_keeps h).bind fun h => .pure h).bind fun h => (Leads.act h.noteNonfinite).bind fun h => .ite (.pure h) (.pure h)

theorem attendChecks_keeps {env o} (h : s.Evolves t) : (attendChecks env o).Keeps s t := by
  unfold attendChecks
  refine (header_keeps h).bind fun h => .check h (.check h (.get_bind (.check h (.check h (.check h ((layerEntry_keeps h).bind fun h => ?_))))))
  exact .check h (.get_bind (.check h (.pure h)))

theorem attendPrep_keeps {hv i o held} (h : s.Evolves t) : (attendPrep hv i o held).Keeps s t := by
  refine (attendChecks_keeps h).bind fun h => (anyRead_keeps h).bind fun h => ?_
  exact (Leads.mapM h fun h => .iteBind (selectBlocks_keeps h) (.pure h) fun h => .pure h).bind fun h => .pure h

theorem attendRun_keeps {hv a union held pack j} (h : s.Evolves t) : (attendRun hv a union held pack j).Keeps s t := by
  unfold attendRun
  refine Leads.get_bind ((Leads.mapM h fun h => (Leads.act h.holdStore).bind fun h => ?_).bind fun h => .pure h)
  exact (Leads.mapM h fun h => (Leads.mapM h blockData_keeps).bind fun h => (Leads.act h.bump).bind fun h => .pure h).bind fun h => .pure h

theorem attendDeliver_answers {hv a r} (h : s.Evolves t) : (attendDeliver hv a r).Answers s t := by
  unfold attendDeliver
  refine Leads.get_bind (.ite ?_ ?_)
  · split
    · refine .pure ?_
      beta_reduce
      split
      exacts [h.putGroup.endCtx, h.endCtx]
    · exact .throw h
  · refine .set_bind ?_
    split
    exacts [.throw h.vwrite.noteData, .pure h.vwrite.noteData.endCtx]

theorem attendNothing_answers {hv i o} (h : s.Evolves t) : (attendNothing hv i o).Answers s t := by
  refine (attendChecks_keeps h).bind fun h => .get_bind ?_
  split
  · refine .pure ?_
    beta_reduce
    split
    exacts [h.putGroup.endCtx, h.endCtx]
  · exact .throw h
  · exact .pure h.endCtx

theorem summariseLayer_keeps {env fn x a n l} (h : s.Evolves t) : (summariseLayer env fn x a n l).Keeps s t := by
  unfold summariseLayer
  have hw {ws u} {k : Nat} (h : s.Evolves u) : (commitWrites env fn ws >>= fun _ => Pure.pure k).Keeps s u :=
    (commitWrites_keeps h).bind fun h => .pure h
  refine (layerEntry_keeps h).bind fun h => (redoMarks_keeps h).bind fun h => ?_
  exact .ite ((rebuildTail_keeps h).bind fun h => .bind (.pure h) hw) (.bind (.pure h) hw)

theorem summarise_answers {hv i o} (h : s.Evolves t) : (summarise hv i o).Answers s t := by
  unfold summarise
  refine (header_keeps h).bind fun h => .ite (.pure h.endCtx) (.check h (.check h (.ite (.pure h.endCtx) ?_)))
  exact (Leads.mapM h summariseLayer_keeps).bind fun h => .pure h.endCtx

theorem truncateLayer_keeps {env fn x new l} (h : s.Evolves t) : (truncateLayer env fn x new l).Keeps s t := by
  unfold truncateLayer
  refine (layerEntry_keeps h).bind fun h => .ite (.pure h) (Leads.bind (.mapM h fun h => ?_) fun h => (rebuildTail_keeps h).bind fun h => .pure h)
  exact Leads.bind (.mapM h fun h => .mapM h fun h => (regionRead_keeps h).bind fun h => .pure h) fun h => .pure h

theorem truncate_answers {hv i o} (h : s.Evolves t) : (truncate hv i o).Answers s t := by
  unfold truncate
  refine (header_keeps h).bind fun h => .ite (.pure h.endCtx) (.check h ((Leads.mapM h truncateLayer_keeps).bind fun h => ?_))
  exact (commitWrites_keeps h).bind fun h => .pure (h.branch (·.dropUnits.startParts) (·.endCtx))

theorem boundParts_keeps {env fn i x} (h : s.Evolves t) : (boundParts env fn i x).Keeps s t := by
  refine Leads.mapM h fun h => ?_
  split
  exacts [.pure h, (regionRead_keeps h).bind fun h => .pure h]

theorem tailWrites_keeps {env fn x es} (h : s.Evolves t) : (tailWrites env fn x es).Keeps s t :=
  Leads.mapM h fun h => (rebuildTail_keeps h).bind fun h => .pure h

end Sys2Proof.Machine
end

section
/-! ## What each function of the model does, from the context operations on -/

namespace Sys2Proof.Machine
open Sys2Proof
namespace State.Evolves
variable {s t : State} (h : s.Evolves t)
include h

/-! ### Machine/Context.lean -/

theorem ctxFail {i o x} : s.Evolves (t.ctxFail i o x) := by
  unfold State.ctxFail
  split
  exacts [h.opFail.when (·.dropUnits), (h.when (·.dmaFault)).endCtx, h.endCtx, h.ctxErr.endCtx, h.startRebuild]

theorem runCtx {i o m} (hm : ∀ {u}, s.Evolves u → CtxM.Answers s u m) : s.Evolves (t.runCtx i o m) := by
  unfold State.runCtx
  split
  exacts [(hm h).of_ok ‹_›, ((hm h).of_error ‹_›).ctxFail]

theorem startCtx {i o} : s.Evolves (t.startCtx i o).1 := by
  unfold State.startCtx
  split
  exacts [h, h.traceStart.putOp]

theorem execStretchInit {op hv} : s.Yields (execStretchInit op hv t) := by
  dsimp only [Machine.execStretchInit]
  refine Evolves.next ?_
  split
  · exact h
  · split
    exacts [h.endCtx, h.whenNot (·.startCtx.runCtx stretchInit_answers)]

theorem execAppend {op hv} : s.Yields (execAppend op hv t) := by
  dsimp only [Machine.execAppend]
  refine Evolves.next ?_
  split
  · exact h
  · split
    exacts [h.endCtx, h.whenNot (·.whenNot (·.startCtx.runCtx append_answers))]

theorem prepAll {hv held x} : s.Evolves (t.prepAll hv held x).1 := by
  fun_induction State.prepAll t hv held x
  case case1 => exact h
  case case2 hr _ ih => exact ih ((attendPrep_keeps h.startCtx).of_ok hr)
  case case3 hr ih => exact ih ((attendPrep_keeps h.startCtx).of_error hr).ctxFail

theorem attendOne {hv a u held pack j} : s.Evolves (t.attendOne hv a u held pack j).1 := by
  unfold State.attendOne
  dsimp only
  split
  · exact ((attendRun_keeps (h.when (·.count)).count).of_ok ‹_›).runCtx attendDeliver_answers
  · exact ((attendRun_keeps (h.when (·.count)).count).of_error ‹_›).ctxFail

theorem attendAll {hv i o j} : s.Evolves (t.attendAll hv i o j) := by
  unfold State.attendAll
  exact foldl_fst (h.prepAll.when (·.bump)) fun _ _ h => h.attendOne

theorem attend {hv i o j} : s.Evolves (t.attend hv i o j) := by
  unfold State.attend
  split
  exacts [h.endCtx, (h.whenNot (·.startCtx.runCtx attendNothing_answers)).ite (h.whenNot (·.attendAll))]

theorem execAttendDense {op hv join} : s.Yields (execAttendDense op hv join t) := by
  unfold Machine.execAttendDense
  refine Evolves.next ?_
  split
  exacts [h, h.attend]

theorem execAttendSelected {op hv join} : s.Yields (execAttendSelected op hv join t) := by
  unfold Machine.execAttendSelected
  refine Evolves.next ?_
  split
  exacts [h, h.attend]

theorem execPackWaitExpiry {op hv join} : s.Yields (execPackWaitExpiry op hv join t) := by
  unfold Machine.execPackWaitExpiry
  refine Evolves.next ?_
  split
  exacts [h, h.putOp.attend]

theorem execSummarise {op hv} : s.Yields (execSummarise op hv t) := by
  dsimp only [Machine.execSummarise]
  refine Evolves.next ?_
  split
  · exact h
  · split
    exacts [h.endCtx, h.whenNot (·.startCtx.runCtx summarise_answers)]

theorem execTruncate {op hv} : s.Yields (execTruncate op hv t) := by
  dsimp only [Machine.execTruncate]
  refine Evolves.next ?_
  split
  · exact h
  · split
    exacts [h.endCtx, h.whenNot (·.startCtx.runCtx truncate_answers)]

theorem havoc {fn va n} : s.Evolves (t.havoc fn va n) := by
  induction n generalizing t va with
  | zero => exact h
  | succ n ih => exact ih h.free.vwrite

theorem dispatch {nn t' offered} : s.Evolves (t.dispatch nn t' offered).1 := by
  dsimp only [State.dispatch]
  split
  · exact h
  · split
    · exact h
    · split
      exacts [h, h.addUnit.mk]

theorem execTileBlock {nn t' fa fb load scale a b own} : s.Yields (execTileBlock nn t' fa fb load scale a b own t) := by
  dsimp only [Machine.execTileBlock]
  refine Evolves.next ?_
  split
  · exact h
  · split
    · exact h
    · split
      · exact h
      · split
        · exact h.endCtx
        · split
          · exact h.free.endCtx
          · split
            · exact h
            · split
              exacts [(h.tileBlock.ofEq ‹_›), ((h.tileBlock.ofEq ‹_›).foldl fun _ _ h => h.havoc).endCtx]

theorem shareWrite {off fn v} : s.Evolves (t.shareWrite off fn v) := h.bump.raiseInt.logErr.ite h.writePlain

theorem execCtxShareWrite {share fn v} : s.Yields (execCtxShareWrite share fn v t) := (h.when (·.shareWrite)).next

/-! ### Machine/Control.lean -/

theorem writeFree {env fn tags va n} : s.Evolves (t.writeFree env fn tags va n).1 := by
  induction n generalizing t va with
  | zero => exact h
  | succ n ih =>
    dsimp only [State.writeFree]
    split
    exacts [h.free.vwrite.ofEq ‹_›, ih (h.free.vwrite.ofEq ‹_›)]

theorem copy {env i o src dst n} : s.Evolves (t.copy env i o src dst n) := by
  unfold State.copy
  split
  · exact (h.vread.ofEq ‹_›).opFail
  · have hr := h.vread.ofEq ‹_›
    dsimp only
    split
    exacts [((iteFst hr.writeFree hr.vwrite).ofEq ‹_›).opFail, ((iteFst hr.writeFree hr.vwrite).ofEq ‹_›).noteData.finishOp]

theorem execCopy {op hv} : s.Yields (execCopy op hv t) := by
  dsimp only [Machine.execCopy]
  refine Evolves.next ?_
  split
  · exact h
  · split
    exacts [h.finishOp, (h.whenNot (·.traceStart.finishOp)).ite h.traceStart.copy]

theorem execNop {op} : s.Yields (execNop op t) := by
  unfold Machine.execNop
  refine Evolves.next ?_
  split
  exacts [h, h.traceStart.finishOp]

theorem execTimestamp {op hv} : s.Yields (execTimestamp op hv t) := by
  dsimp only [Machine.execTimestamp]
  refine Evolves.next ?_
  split
  · exact h
  · split
    · exact h.finishOp
    · split
      exacts [(h.traceStart.vwrite.ofEq ‹_›).opFail, (h.traceStart.vwrite.ofEq ‹_›).noteData.finishOp]

theorem execInvalidOpcode {op} : s.Yields (execInvalidOpcode op t) := by
  unfold Machine.execInvalidOpcode
  refine Evolves.next ?_
  split
  exacts [h, h.when (·.finishOp)]

theorem arm {hv i o q count cq ps} : s.Evolves (t.arm hv i o q count cq ps) := by
  dsimp only [State.arm]
  split
  · exact h.opFail
  · split
    · exact h.finishOp
    · split
      · exact (h.vread.ofEq ‹_›).opFail
      · split
        exacts [(h.vread.ofEq ‹_›).finishOp, (h.vread.ofEq ‹_›).finishOp,
          (h.vread.ofEq ‹_›).finishOp.ite ((h.vread.ofEq ‹_›).finishOp.ite ((h.vread.ofEq ‹_›).putOp.putTq))]

theorem execTriggerArm {op hv} : s.Yields (execTriggerArm op hv t) := by
  dsimp only [Machine.execTriggerArm]
  refine Evolves.next ?_
  split
  · exact h
  · split
    exacts [h.finishOp, h.whenNot (·.arm.ite (h.finishOp.ite (h.finishOp.ite h.traceStart.setF.putTq.arm)))]

theorem execTriggerArmDone {q} : s.Yields (execTriggerArmDone q t) := by
  unfold Machine.execTriggerArmDone
  refine Evolves.next ?_
  split
  exacts [h, h.setF.setB.putTq.finishOp]

theorem execTriggerDisarm {op} : s.Yields (execTriggerDisarm op t) := by
  dsimp only [Machine.execTriggerDisarm]
  refine Evolves.next ?_
  split
  exacts [h,
    h.whenNot (·.finishOp.ite (by split; exacts [h.traceStart.finishOp, h.traceStart, h.traceStart.putOp.putTq, h.traceStart.putOp.setF.putTq]))]

theorem execTriggerDisarmDone {q} : s.Yields (execTriggerDisarmDone q t) := (h.whenNot (·.setF.putTq.foldl fun _ _ h => h.finishOp)).next

theorem admitMany {src n} : s.Evolves (t.admitMany src n) := by
  induction n generalizing t with
  | zero => exact h
  | succ n ih => exact ih h.admitNext

theorem execTriggerRunAdmit {q} : s.Yields (execTriggerRunAdmit q t) := by
  dsimp only [Machine.execTriggerRunAdmit]
  refine Evolves.next ?_
  split
  exacts [h, h.whenNot (·.putTq.putQueue.admitMany)]

theorem tqOwnerWrite {q v} : s.Evolves (t.tqOwnerWrite q v) := h.whenNot (·.writePlain.when (·.wr))

theorem execTqOwnerWrite {q v} : s.Yields (execTqOwnerWrite q v t) := (h.when (·.tqOwnerWrite)).next

theorem tqSend {fn q payload} : s.Evolves (t.tqSend fn q payload).1 := by
  dsimp only [State.tqSend]
  split
  · exact h
  · split
    · exact h.bump
    · split
      · exact h.bump
      · split
        · exact h.bump
        · split
          exacts [h.wr.setF.putTq, h.wr.putTq]

/-! ### Machine/Ydt.lean -/

theorem endXfer {i x st} : s.Evolves (t.endXfer i x st) := by
  dsimp only [State.endXfer]
  apply sendUnsent
  split
  exacts [(h.dropXfer.when (·.notePeer)).finishOp, (h.dropXfer.when (·.notePeer)).partEnd,
    (h.dropXfer.when (·.notePeer)).whenNot (·.heatSendEnded), h.dropXfer.when (·.notePeer),
    (h.dropXfer.when (·.notePeer)).branch (·.rebuilt) (·.repairEnded), (h.dropXfer.when (·.notePeer)).gathered]

theorem finishXfer {i st} : s.Evolves (t.finishXfer i st) := by
  unfold State.finishXfer
  split
  · exact h
  · split
    · split
      exacts [h.putXfer.partEnd, h.endOp, h.putXfer]
    · exact h.endXfer

theorem afterSend {i e} : s.Evolves (t.afterSend i e) := by
  unfold State.afterSend
  split
  · exact h
  · split
    exacts [h.opFail, h.finishXfer]
  · exact h.finishXfer
  · exact h

theorem sendAll {env i attempt ks} : s.Evolves (t.sendAll env i attempt ks) := h.sendList.afterSend

theorem execHoldingEnd {slot} : s.Yields (execHoldingEnd slot t) := by
  unfold Machine.execHoldingEnd
  refine Evolves.next ?_
  split
  · split
    exacts [h.endXfer, h]
  · exact h

theorem placeGot {env j i} {l : Tab (List Byte)} : s.Evolves (t.placeGot env j i l) := by
  induction l generalizing t with
  | nil => exact h
  | cons e l ih =>
    unfold State.placeGot
    split
    · exact h
    · split
      exacts [(h.vwrite.ofEq ‹_›).opFail, ih (h.vwrite.ofEq ‹_›).putXfer.noteData]

theorem resumeXfer {env j i x} : s.Evolves (t.resumeXfer env j i x) := by
  dsimp only [State.resumeXfer]
  split
  · exact h
  · split
    exacts [h.placeGot, h.placeGot.finishXfer.ite h.placeGot.sendAll]

theorem ydtMove {env i o} : s.Evolves (t.ydtMove env i o) := by
  dsimp only [State.ydtMove]
  split
  · exact h.resumeXfer
  · exact h.finishOp
  · split
    · exact h.finishOp
    · split
      · exact h.whenNot (·.traceStart.finishOp)
      · split
        · exact h.notePeer.finishOp
        · split
          · exact h.finishOp
          · split
            exacts [(h.startXfer.ofEq ‹_›), (h.startXfer.ofEq ‹_›).traceStart.putOp.whenNot (·.sendAll)]

theorem execOrderedSendRelease {slot hv} : s.Yields (execOrderedSendRelease slot hv t) := by
  unfold Machine.execOrderedSendRelease
  refine Evolves.next ?_
  split
  · exact h
  · split
    · split
      exacts [h, h.whenNot (·.putXfer.sendAll)]
    · exact h

theorem execWindowSet {op} : s.Yields (execWindowSet op t) := by
  dsimp only [Machine.execWindowSet]
  refine Evolves.next ?_
  split
  · exact h
  · split
    exacts [h.finishOp, h.finishOp.ite (h.finishOp.ite h.traceStart.mk.finishOp)]

theorem execWindowClose {op} : s.Yields (execWindowClose op t) := by
  unfold Machine.execWindowClose
  refine Evolves.next ?_
  split
  exacts [h, h.finishOp.ite h.traceStart.mk.finishOp]

theorem recvPost {i o} : s.Evolves (t.recvPost i o) := by
  dsimp only [State.recvPost]
  split
  exacts [h.finishOp, h.whenNot (·.finishOp.ite h.traceStart.putOp.mk)]

theorem dropPost {q} : s.Evolves (t.dropPost q) := h.mk

theorem meetsEntry {n w} : s.Evolves (t.meetsEntry n w) := h.when (·.wake)

theorem serve {typ sel need free} {f : State → Pkt → State} (hf : ∀ u p, s.Evolves u → s.Evolves (f u p)) :
    s.Evolves (t.serve typ sel need free f) := by
  dsimp only [State.serve]
  split
  · exact h
  · refine h.wake.ite ?_
    suffices ha : s.Evolves (if _ then _ else _ : State × Bool).1 from ite (hf _ _ ha) ha
    exact iteFst h.meetsEntry.mk.bufferFall.openPacket h.meetsEntry.mk.bufferFall.admitPacket

theorem remoteFail {fn f wr w} : s.Evolves (t.remoteFail fn f wr w).1 := by
  dsimp only [State.remoteFail]
  split
  · split
    · split <;> exact (h.raiseFault.ofEq ‹_›)
    · exact h.bump.bump
  · exact h.logDenied
  · exact h
  · exact h
  · exact h

theorem placeSegs {env fn data} {l : List (Nat × Nat)} : s.Evolves (t.placeSegs env fn data l).1 := by
  induction l generalizing t data with
  | nil => exact h
  | cons g l ih =>
    unfold State.placeSegs
    split
    exacts [ih (h.writeSeg.ofEq ‹_›), h.writeSeg.ofEq ‹_›, ih (h.writeSeg.ofEq ‹_›)]

theorem placeBytes {env fn va bs} : s.Evolves (t.placeBytes env fn va bs).1 := by
  unfold State.placeBytes
  split
  exacts [h, h.placeSegs]

theorem winRefuse {p x} : s.Evolves (t.winRefuse p x) := by
  unfold State.winRefuse
  split
  exacts [h, (h.when (·.logErr)).nak, h.bump.raiseInt.ackOne]

theorem gatherMsg {p} {fin : State → Msg → State × Option Nat} (hf : ∀ u m, s.Evolves u → s.Evolves (fin u m).1) :
    s.Evolves (t.gatherMsg p fin) := by
  have hd {u m} (h : s.Evolves u) : s.Evolves (if u.recordsFull then (u.noteRecordsFull p, some nakNotReady) else fin u m).1 :=
    iteFst h.noteRecordsFull (hf u m h)
  refine h.ackDup.ite (ite ?_ ?_)
  · split
    exacts [((hd h).ofEq ‹_›).addRecord.ackOne, ((hd h).ofEq ‹_›).nak]
  · split
    · exact h.nak
    · refine h.ackDup.ite (h.count.settle.ite ?_)
      split
      · exact ((hd h.count).ofEq ‹_›).addRecord.freeTracker.ackFresh
      · have ha := (hd h.count).ofEq ‹_›
        exact (ha.ite ha.freeTracker).nak

theorem placePacket {env p va t'} : s.Evolves (t.placePacket env p va t') := by
  unfold State.placePacket
  split
  · exact (h.placeBytes.ofEq ‹_›).remoteFail.nak
  · split
    exacts [(h.placeBytes.ofEq ‹_›).ackOne, (h.placeBytes.ofEq ‹_›).count.settle]

theorem parityUpdate {env p} : s.Evolves (t.parityUpdate env p) := by
  dsimp only [State.parityUpdate]
  refine gatherMsg h fun _ _ h => ?_
  split
  · exact h.bump
  · split
    exacts [(h.applyUpdate.ofEq ‹_›), (h.applyUpdate.ofEq ‹_›).remoteFail]

theorem writePacket {env p} : s.Evolves (t.writePacket env p) := by
  unfold State.writePacket
  split
  · exact h.nak
  · split
    · split
      · exact h.parityUpdate
      · split
        · exact h.placePacket
        · split
          exacts [h.nak, h.ackDup.ite h.placePacket]
    · exact h.winRefuse

theorem execWritePacketReceive {hv} : s.Yields (execWritePacketReceive hv t) := (h.serve fun _ _ h => h.writePacket).next

theorem takeResponder {p src} : s.Evolves (t.takeResponder p src) := h.nak.ite h.mk

theorem readRequest {env p} : s.Evolves (t.readRequest env p) := by
  dsimp only [State.readRequest]
  split
  · exact h.nak
  · split
    · split
      · split
        · exact h.takeResponder
        · split
          exacts [(h.reconstruct.ofEq ‹_›).takeResponder, (h.reconstruct.ofEq ‹_›).nak, (h.reconstruct.ofEq ‹_›).nak]
      · split
        exacts [h.remoteFail.nak, h.takeResponder]
    · exact h.winRefuse

theorem execReadRequestReceive {hv} : s.Yields (execReadRequestReceive hv t) := (h.serve fun _ _ h => h.readRequest).next

theorem imageRange {env off n} : s.Evolves (t.imageRange env off n).1 := by
  dsimp only [State.imageRange]
  split
  · exact (h.image.ofEq ‹_›)
  · split
    · exact (h.image.ofEq ‹_›)
    · split <;> exact ((h.image.ofEq ‹_›).image.ofEq ‹_›)

theorem responderRead {env r n} : s.Evolves (t.responderRead env r n).1 := by
  dsimp only [State.responderRead]
  split
  · exact h.vread
  · exact h.imageRange
  · split <;> exact h

theorem noteReturned {src k} : s.Evolves (t.noteReturned src k) := by
  unfold State.noteReturned
  split
  · split
    exacts [h, h.mk.ite h.putStage]
  · exact h

theorem dropResponder {i} : s.Evolves (t.dropResponder i) := h.mk

theorem execReadResponderSend {i hv} : s.Yields (execReadResponderSend i hv t) := by
  dsimp only [Machine.execReadResponderSend]
  refine Evolves.next ?_
  split
  · exact h
  · split
    · exact h
    · split
      exacts [(h.responderRead.ofEq ‹_›).nak.dropResponder, (h.responderRead.ofEq ‹_›).remoteFail.nak.dropResponder,
        (h.responderRead.ofEq ‹_›).answer.noteReturned.branch (·.dropResponder) (·.mk)]

theorem pathHeard {p} : s.Evolves (t.pathHeard p) := h.whenNot (·.putPath)

theorem rateAck {dev n c} : s.Evolves (t.rateAck dev n c) := h.putRate

theorem checkDone {i} : s.Evolves (t.checkDone i) := by
  unfold State.checkDone
  split
  exacts [h, h.when (·.finishXfer)]

theorem placeResponse {env p i x} : s.Evolves (t.placeResponse env p i x) := by
  dsimp only [State.placeResponse]
  split
  · split
    exacts [(h.rateAck.pathHeard.vwrite.ofEq ‹_›).putXfer.opFail, (h.rateAck.pathHeard.vwrite.ofEq ‹_›).putXfer.noteData.checkDone]
  · exact h.rateAck.pathHeard.putXfer.checkDone

theorem execReadResponseReceive {hv} : s.Yields (execReadResponseReceive hv t) := by
  unfold Machine.execReadResponseReceive
  refine Evolves.next ?_
  refine serve h fun _ _ h => ?_
  split
  exacts [(h.placeResponse.ite h.logErr).ite h.bump, h.bump]

theorem execReconstructStaged {stage hv} : s.Yields (execReconstructStaged stage hv t) := by
  unfold Machine.execReconstructStaged
  refine Evolves.next ?_
  split
  · exact h
  · split
    · exact h
    · split
      · exact h.mk
      · split
        exacts [(h.vread.ofEq ‹_›).putStage, (h.vread.ofEq ‹_›), (h.vread.ofEq ‹_›).remoteFail.mk]

theorem execStageExpiry {stage} : s.Yields (execStageExpiry stage t) := by
  unfold Machine.execStageExpiry
  refine Evolves.next ?_
  split
  exacts [h.when (·.mk), h]

theorem rqDeliver {env q bs} : s.Evolves (t.rqDeliver env q bs).1 := by
  dsimp only [State.rqDeliver]
  split
  · exact h
  · split
    · exact h.dropPost
    · split
      · exact h
      · split
        · exact h.dropPost.finishOp
        · split
          · exact (h.placeBytes.ofEq ‹_›).dropPost.noteData.finishOp
          · split
            exacts [(h.placeBytes.ofEq ‹_›).remoteFail.dropPost.finishOp, (h.placeBytes.ofEq ‹_›).remoteFail]

theorem sendPacket {env p} : s.Evolves (t.sendPacket env p) :=
  h.nak.ite ((h.ackDup.ite ((h.gatherMsg fun _ _ h => h.tqSend).ite h.tqSend.nak)).ite (h.ackDup.ite (h.nak.ite (h.gatherMsg fun _ _ h =>
      h.rqDeliver))))

theorem execSendPacketReceive {hv} : s.Yields (execSendPacketReceive hv t) := (h.serve fun _ _ h => h.sendPacket).next

theorem sendHeld {env dev} : s.Evolves (t.sendHeld env dev) := h.foldl fun _ _ h => h.when (·.whenNot (·.sendAll))

theorem ackIn {env p} : s.Evolves (t.ackIn env p) := by
  dsimp only [State.ackIn]
  split
  · exact h.pathUp.sendHeld
  · split
    exacts [h.pathHeard, h.pathHeard.whenNot (·.rateAck.putXfer.checkDone)]

theorem execAckReceive {hv} : s.Yields (execAckReceive hv t) := (h.serve fun _ _ h => h.ackIn).next

theorem execNakReceive {withdrawn} : s.Yields (execNakReceive withdrawn t) := by
  dsimp only [Machine.execNakReceive]
  refine Evolves.next ?_
  refine serve h fun _ _ h => ?_
  split
  exacts [h.pathHeard, h.pathHeard.whenNot (·.putXfer.ite ((h.pathHeard.when (·.declareLost)).putXfer.finishXfer))]

theorem execProbeReceive : s.Yields (execProbeReceive t) := (h.serve fun _ _ h => h.ackOne).next

theorem pathTimeout {dev n} : s.Evolves (t.pathTimeout dev n) := h.putPath.when (·.pathDown)

theorem retransmit {slot hv} : s.Evolves (t.retransmit slot hv) := by
  unfold State.retransmit
  split
  exacts [h,
    h.whenNot (fun h => (h.bump.count.putRate.whenNot (·.foldl fun _ _ h => h.pathTimeout)).branch (·.finishXfer) (·.putXfer.bump.sendAll))]

theorem execPathProbe {dev path} : s.Yields (execPathProbe dev path t) := (h.when (·.free.putPath.sendOn)).next

theorem execRateFloor {dev} : s.Yields (execRateFloor dev t) := (h.when (·.event)).next

theorem crewIdWrite {v} : s.Evolves (t.crewIdWrite v) := h.whenNot (·.logErr.ite h.setF)

theorem execCrewIdWrite {v} : s.Yields (execCrewIdWrite v t) := h.crewIdWrite.next

theorem chunkArrive {p m} : s.Evolves (t.chunkArrive p m).1 := by
  dsimp only [State.chunkArrive]
  split
  · exact h
  · split
    · exact h.bump
    · split
      · exact h
      · split
        · exact h.putGroup
        · split
          · exact h.putGroup
          · split
            · exact h.putGroup.stopHeat
            · split
              exacts [h.putGroup.bump.stopHeat, h.putGroup]

theorem execHeatDataReceive : s.Yields (execHeatDataReceive t) := (h.serve fun _ _ h => h.gatherMsg fun _ _ h => h.chunkArrive).next

theorem execCreditReceive : s.Yields (execCreditReceive t) := by
  dsimp only [Machine.execCreditReceive]
  refine Evolves.next ?_
  refine serve h fun _ _ h => ?_
  split
  exacts [h.ackOne, h.ackOne.putGroup]

theorem execAbortReceive : s.Yields (execAbortReceive t) := by
  dsimp only [Machine.execAbortReceive]
  refine Evolves.next ?_
  refine serve h fun _ _ h => ?_
  split
  exacts [h.ackOne, h.ackOne.logErr.branch (·.stopHeat) (·.when (·.putGroup))]

/-! ### Machine/Qp.lean -/

theorem putQp {q x} : s.Evolves (t.putQp q x) := h.mk.setF

theorem setQpRate {q r} : s.Evolves (t.setQpRate q r) := h.putQp.wr

theorem qpFlush {q} : s.Evolves (t.qpFlush q) := h.putQp.foldl fun _ _ h => h.whenNot (·.finishOp)

theorem setQp {q st} : s.Evolves (t.setQp q st) := h.whenNot (·.setF.trace)

theorem qpError {q st} : s.Evolves (t.qpError q st) := h.whenNot (·.setQp.setF.bump.raiseInt.logEvent.qpFlush)

theorem qpFail {q i st} : s.Evolves (t.qpFail q i st) := (h.whenNot (·.finishOp)).qpError

theorem qpSend {q x p} : s.Evolves (t.qpSend q x p) := by
  dsimp only [State.qpSend]
  split
  exacts [h.sealPacket.free, h.sealPacket.free.queueOz, h.sealPacket.free.queueFrame]

theorem qpXmit {env q x r k} : s.Evolves (t.qpXmit env q x r k).1 := by
  dsimp only [State.qpXmit]
  split
  · exact h
  · exact h
  · split
    · exact h.qpSend
    · split
      exacts [(h.vread.ofEq ‹_›), (h.vread.ofEq ‹_›).qpSend]

theorem qpXmits {env q x r} {l : List Nat} : s.Evolves (t.qpXmits env q x r l).1 := by
  induction l generalizing t with
  | nil => exact h
  | cons k l ih =>
    unfold State.qpXmits
    split
    exacts [ih (h.qpXmit.ofEq ‹_›).count, h.qpXmit]

theorem afterXmit {q r e} : s.Evolves (t.afterXmit q r e) := by
  dsimp only [State.afterXmit]
  split
  · exact h
  · exact h.qpFail
  · split
    exacts [h.opFail.when (·.qpError), h.opFail]

theorem qpResend {env q} : s.Evolves (t.qpResend env q) :=
  h.putQp.foldl fun _ _ h => h.whenNot (fun h => (h.bump.foldl fun _ _ h => h.trace).count.qpXmits.afterXmit)

theorem qpStart {env q i o m} : s.Evolves (t.qpStart env q i o m) := h.traceStart.putOp.setF.putQp.setQpRate.qpXmits.afterXmit

theorem qpMove {env i o} : s.Evolves (t.qpMove env i o) := by
  dsimp only [State.qpMove]
  split
  · exact h.finishOp
  · exact h.finishOp
  · exact h.finishOp
  · split
    · exact h
    · split
      · exact h.finishOp
      · split
        · exact h.finishOp
        · split
          · exact h.finishOp
          · split
            · exact h.whenNot (·.traceStart.finishOp)
            · split
              · exact h
              · split
                · exact h.qpStart
                · split
                  exacts [(h.vread.ofEq ‹_›).qpStart, (h.vread.ofEq ‹_›).afterXmit]

theorem execWrite {op hv} : s.Yields (execWrite op hv t) := by
  unfold Machine.execWrite
  refine Evolves.next ?_
  split
  exacts [h, h.ydtMove.ite h.qpMove]

theorem execSend {op hv} : s.Yields (execSend op hv t) := by
  unfold Machine.execSend
  refine Evolves.next ?_
  split
  exacts [h, h.ydtMove.ite h.qpMove]

theorem execRead {op hv} : s.Yields (execRead op hv t) := by
  unfold Machine.execRead
  refine Evolves.next ?_
  split
  exacts [h, h.ydtMove.ite h.qpMove]

theorem qpRecvPost {i o} : s.Evolves (t.qpRecvPost i o) := by
  dsimp only [State.qpRecvPost]
  split
  exacts [h.finishOp, h.whenNot (·.finishOp.ite (h.finishOp.ite h.traceStart.putOp.putQp))]

theorem execRecvPost {op} : s.Yields (execRecvPost op t) := by
  unfold Machine.execRecvPost
  refine Evolves.next ?_
  split
  exacts [h, h.qpRecvPost.ite h.recvPost]

theorem qpGo {hv i o q st} : s.Evolves (t.qpGo hv i o q st) := by
  unfold State.qpGo
  split
  · exact ((h.when (·.bump)).setQp.setF.qpFlush.when (·.mk)).finishOp
  · split
    · exact h.setQp.finishOp
    · split
      · exact (h.vread.ofEq ‹_›).opFail
      · split
        exacts [(h.vread.ofEq ‹_›).finishOp, (h.vread.ofEq ‹_›).putQp.setQp.setF.setF.finishOp]

theorem execQpModify {op hv} : s.Yields (execQpModify op hv t) := by
  unfold Machine.execQpModify
  refine Evolves.next ?_
  split
  exacts [h, h.finishOp.ite (h.finishOp.ite (h.finishOp.ite (h.finishOp.ite h.traceStart.qpGo)))]

theorem qpAckTo {q upto n} : s.Evolves (t.qpAckTo q upto n) := by
  induction n generalizing t with
  | zero => exact h
  | succ n ih =>
    dsimp only [State.qpAckTo]
    split
    · exact h
    · split
      exacts [ih h.putQp.finishOp, h]

theorem qpAck {q upto} : s.Evolves (t.qpAck q upto) := h.putQp.qpAckTo.ite h.putQp

theorem qpResponse {env q p} : s.Evolves (t.qpResponse env q p) := by
  have ha : s.Evolves (t.qpAck q p.psn) := h.qpAck
  -- the definition is opened, and its lets are kept, so that no serial number of `qpAck` is ever computed
  generalize hf : State.qpResponse = f
  delta State.qpResponse at hf
  subst hf
  beta_reduce
  generalize t.qpAck q p.psn = u at ha ⊢
  extract_lets +onlyGivenNames u' x
  split
  · exact ha
  · extract_lets +onlyGivenNames k
    refine ha.ite ?_
    extract_lets +onlyGivenNames fn
    split
    · exact (ha.vwrite.ofEq ‹_›).afterXmit
    · have hw := ha.vwrite.ofEq ‹_›
      extract_lets +onlyGivenNames v y
      exact hw.noteData.branch (·.putQp.finishOp) (·.putQp)

theorem qpNak {q p st} : s.Evolves (t.qpNak q p st) := by
  have ha : s.Evolves (t.qpAck q p.psn) := h.qpAck
  generalize hf : State.qpNak = f
  delta State.qpNak at hf
  subst hf
  beta_reduce
  generalize t.qpAck q p.psn = u at ha ⊢
  dsimp only
  split
  exacts [ha.qpError, ha.qpFail]

theorem qpRnr {q p} : s.Evolves (t.qpRnr q p) := by
  dsimp only [State.qpRnr]
  exact (ite (by split; exacts [h.qpAck.qpError, h.qpAck.qpFail]) h.qpAck.putQp)

theorem qpReply {q op psn payload} : s.Evolves (t.qpReply q op psn payload) := by
  dsimp only [State.qpReply]
  split
  exacts [h, h.qpSend]

theorem qpRefuse {q psn reason} : s.Evolves (t.qpRefuse q psn reason) :=
  h.qpReply.ite (h.qpReply.qpError.ite (h.qpReply.qpError.ite h.qpReply.qpError))

theorem qpTaken {q psn n last} : s.Evolves (t.qpTaken q psn n last) := h.setF.putQp.when (·.qpReply)

theorem qpPlace {env q p m fn last} : s.Evolves (t.qpPlace env q p m fn last) := by
  dsimp only [State.qpPlace]
  split
  · exact (qpRefuse (by split; exacts [h.finishOp, h]))
  · split
    · exact (qpRefuse (by split; exacts [h.finishOp, h]))
    · split
      · exact (h.placeBytes.ofEq ‹_›).remoteFail.qpRefuse.ite ((by split; exacts [(h.placeBytes.ofEq ‹_›).remoteFail.finishOp.qpRefuse,
          (h.placeBytes.ofEq ‹_›).remoteFail.qpRefuse]))
      · split
        exacts [(h.placeBytes.ofEq ‹_›).noteData.putQp.finishOp.qpTaken, (h.placeBytes.ofEq ‹_›).putQp.qpTaken,
          (h.placeBytes.ofEq ‹_›).putQp.qpTaken]

theorem qpWriteFirst {env q p last} : s.Evolves (t.qpWriteFirst env q p last) := by
  dsimp only [State.qpWriteFirst]
  split
  exacts [h.qpRefuse, h.qpPlace]

theorem qpTrigger {q p t' before last} : s.Evolves (t.qpTrigger q p t' before last) := by
  dsimp only [State.qpTrigger]
  exact h.putQp.qpTaken.ite (by split; exacts [h.tqSend.putQp.qpTaken, h.tqSend.qpRefuse])

theorem qpSendIn {env q p first last} : s.Evolves (t.qpSendIn env q p first last) := by
  dsimp only [State.qpSendIn]
  split
  · exact h.qpTrigger
  · exact h.qpTrigger
  · exact h.qpPlace
  · split
    · exact h.qpRefuse
    · split
      exacts [h.qpRefuse, h.qpPlace]
  · exact h.qpRefuse

theorem qpRespond {env q fn va len psn n} {l : List Nat} : s.Evolves (t.qpRespond env q fn va len psn n l) := by
  induction l generalizing t with
  | nil => exact h
  | cons k l ih =>
    dsimp only [State.qpRespond]
    split
    exacts [(h.vread.ofEq ‹_›).remoteFail.qpRefuse, ih (h.vread.ofEq ‹_›).qpReply]

theorem qpReadIn {env q p again} : s.Evolves (t.qpReadIn env q p again) := by
  dsimp only [State.qpReadIn]
  split
  · exact h.qpRefuse
  · split
    exacts [h.remoteFail.qpRefuse, (h.whenNot (·.qpTaken)).qpRespond]

theorem qpCnp {q p} : s.Evolves (t.qpCnp q p) := h.when (·.putQp.bump.count.qpReply)

theorem qpRequest {env q p} : s.Evolves (t.qpRequest env q p) := by
  dsimp only [State.qpRequest]
  split
  · exact h.whenNot (·.putQp.bump.qpReply)
  · split
    · split
      exacts [h.qpReadIn, h.qpReply]
    · split
      · exact h.qpWriteFirst
      · exact h.qpWriteFirst
      · split
        exacts [h.qpPlace, h.qpRefuse]
      · split
        exacts [h.qpPlace, h.qpRefuse]
      · exact h.qpSendIn
      · exact h.qpSendIn
      · exact h.qpSendIn
      · exact h.qpSendIn
      · exact h.qpReadIn
      · exact h

theorem qpIn {env q p} : s.Evolves (t.qpIn env q p) := by
  dsimp only [State.qpIn]
  split
  exacts [h.qpCnp.logErr.qpReply.qpError, h.qpCnp.bump.setQpRate, h.qpCnp.setQpRate.qpAck, h.qpCnp.qpAck.qpResend, h.qpCnp.qpNak, h.qpCnp.qpNak,
    h.qpCnp.qpNak, h.qpCnp.qpRnr, h.qpCnp.qpResponse, h.qpCnp.qpResponse, h.qpCnp.qpResponse, h.qpCnp.qpResponse, h.qpCnp.when (·.qpRequest)]

theorem execQpPacketReceive {hv} : s.Yields (execQpPacketReceive hv t) := by
  unfold Machine.execQpPacketReceive
  refine Evolves.next ?_
  split
  exacts [h,
    h.wake.ite (h.meetsEntry.mk.bufferFall.branch (·.bump.raiseInt.logErr) (·.whenNot (·.branch (·.logErr) (·.openCipher.when (·.qpIn)))))]

theorem qpTimeout {q hv} : s.Evolves (t.qpTimeout q hv) := by
  dsimp only [State.qpTimeout]
  split
  exacts [h, h.whenNot (·.putQp.qpResend.ite (h.setQpRate.qpFail.ite h.setQpRate.putQp.qpResend))]

theorem execRetransmitTimeout {queuePair slot hv} : s.Yields (execRetransmitTimeout queuePair slot hv t) := (h.qpTimeout.ite h.retransmit).next

theorem execCcPeriod : s.Yields (execCcPeriod t) := by
  dsimp only [Machine.execCcPeriod]
  refine Evolves.next ?_
  refine .foldl ?_ fun _ _ h => ?_
  · refine .foldl h fun _ _ h => ?_
    exact h.when (·.putRate)
  · exact h.when (·.setQpRate)

theorem execRateIdleReset {queuePair i} : s.Yields (execRateIdleReset queuePair i t) := by
  unfold Machine.execRateIdleReset
  exact (ite (by split; exacts [h, h.putQp.wr]) (h.when (·.mk.wr))).next

/-! ### Machine/Faults.lean -/

theorem heatFaultEnd {i o} : s.Evolves (t.heatFaultEnd i o) := by
  dsimp only [State.heatFaultEnd]
  split
  exacts [h.finishOp, h.stopHeat.ite (h.dropHeat.sendAborts.ite h.finishOp)]

theorem faultEnd {i o} : s.Evolves (t.faultEnd i o) := h.heatFaultEnd.ite (h.endCtx.ite (h.qpFail.ite h.endOp))

theorem failFetch {f r va} : s.Evolves (t.failFetch f r va) := h.when (·.fetchFault)

theorem failEvent {f} : s.Evolves (t.failEvent f) := h.when (·.evqFail)

theorem failEntry {src} : s.Evolves (t.failEntry src) := h.when (·.cqFault)

theorem failWaiter {va x} : s.Evolves (t.failWaiter va x) := by
  unfold State.failWaiter
  split
  · split
    exacts [h, h.dmaFault.faultEnd]
  · split
    exacts [h, h.faultEnd]
  · exact h.failFetch
  · exact h.failEntry
  · exact h.failEvent
  · split
    exacts [h, h.when (·.putOp)]
  · exact h

theorem failFault {e code} : s.Evolves (t.failFault e code) := (h.dropFault.foldl fun _ _ h => h.failWaiter).raiseInt.logErr

theorem priResponse {fn va code} : s.Evolves (t.priResponse fn va code) := by
  unfold State.priResponse
  split
  · exact h
  · split
    · exact h
    · split
      exacts [h.releaseFault, h.failFault, h.setB.failFault]

theorem execPriResponse {fn va code} : s.Yields (execPriResponse fn va code t) := (h.priResponse.ite h.toInbox).next

theorem execPriTimeout {fn va} : s.Yields (execPriTimeout fn va t) := by
  unfold Machine.execPriTimeout
  refine Evolves.next ?_
  split
  exacts [h, h.whenNot (·.setB.failFault)]

/-! ### Machine/Net.lean -/

theorem cageLed {c on} : s.Evolves (t.cageLed c on) := h.emit.mk

theorem ledBlink {p} : s.Evolves (t.ledBlink p) := h.when (·.emit.emit)

theorem ledsOff : s.Evolves t.ledsOff := h.foldl fun _ _ h => h.cageLed

theorem setPort {p x} : s.Evolves (t.setPort p x) := h.whenNot (fun h => (h.setF.setB.whenNot (·.cageLed.raiseInt)).trace)

theorem portTrain {p} : s.Evolves (t.portTrain p) := h.setPort.ite h.setPort.emit

theorem portStart {p} : s.Evolves (t.portStart p) := h.emit.emit.portTrain

theorem netCtrlWrite {v} : s.Evolves (t.netCtrlWrite v) := (h.when (·.logErr)).wr.setF.foldl fun _ _ h => h.portStart.ite (h.when (·.setPort))

theorem execNetModeWrite {v} : s.Yields (execNetModeWrite v t) := h.netCtrlWrite.next

theorem execPortEnable {v} : s.Yields (execPortEnable v t) := h.netCtrlWrite.next

theorem setLaneFaults {p failed} : s.Evolves (t.setLaneFaults p failed) := h.setF

theorem execPortTrainDone {port failed} : s.Yields (execPortTrainDone port failed t) :=
  (h.whenNot (·.setLaneFaults.branch (·.setPort) (·.setPort.logErr))).next

theorem noteFec {p x} : s.Evolves (t.noteFec p x) := h.bump.bump

theorem execPortDown {port fec} : s.Yields (execPortDown port fec t) := (h.when (·.noteFec.setPort.event.portTrain)).next

theorem execLaneFaultRetry {port} : s.Yields (execLaneFaultRetry port t) := (h.when (·.portTrain)).next

theorem execCageI2cTimeout {cage} : s.Yields (execCageI2cTimeout cage t) := (h.mk.foldl fun _ _ h => h.setPort).logEvent.next

theorem execCagePresentChange {cage present} : s.Yields (execCagePresentChange cage present t) := (h.foldl fun _ _ h => h.when (·.setB)).next

theorem setLocked {b} : s.Evolves (t.setLocked b) := h.whenNot (fun h => (h.setB.setB.raiseInt.mk.ite h.setB.setB.raiseInt.mk).event)

theorem newRate : s.Evolves t.newRate := h.free.wr

theorem timeOffset {off source hops} : s.Evolves (t.timeOffset off source hops) :=
  ((h.wr.wr.newRate.ite h.wr.wr.mk).mk.when (·.raiseInt.logEvent)).branch (·.setLocked) (·.when (·.setLocked))

theorem execTimeSourceTimeout : s.Yields (execTimeSourceTimeout t) := h.setLocked.wr.next

theorem execCrewTimeDrive : s.Yields (execCrewTimeDrive t) := (h.when (·.emit.foldl fun _ _ h => h.emit)).next

theorem execCrewTimePulse : s.Yields (execCrewTimePulse t) := (h.whenNot (·.mk)).next

theorem execTimeBlockReceive {link b} : s.Yields (execTimeBlockReceive link b t) := by
  dsimp only [Machine.execTimeBlockReceive]
  refine (foldl (h.ite ?_) fun _ _ h => h.whenNot (·.emit)).next
  split
  exacts [h.mk.timeOffset.ite h.mk.timeOffset, h.mk.timeOffset]

theorem execPauseRepeat {port cls} : s.Yields (execPauseRepeat port cls t) := (h.when (·.sendPause)).next

theorem execPauseQuantaExpiry {port cls} : s.Yields (execPauseQuantaExpiry port cls t) := h.mk.next

theorem pauseIn {port classes quanta} : s.Evolves (t.pauseIn port classes quanta) := h.mk.bump

theorem netShareWrite {port high v} : s.Evolves (t.netShareWrite port high v) := h.logErr.ite h.wr

theorem execShareWrite {port high v} : s.Yields (execShareWrite port high v t) := h.netShareWrite.next

theorem respond {port fn dst b} : s.Evolves (t.respond port fn dst b) := h.queueFrame

theorem consume {port cls f} : s.Evolves (t.consume port cls f) := by
  dsimp only [State.consume]
  split
  · split
    exacts [h.when (·.timeOffset), h]
  · split
    exacts [h.respond, h]
  · split
    · exact h.ydtArrive.pauseRise
    · exact h.mk.pauseRise
    · split
      exacts [h.respond, h]
    · exact h
  · exact h

theorem dropFrame {port key} : s.Evolves (t.dropFrame port key) := h.bump.count

theorem execFrameReceive {port f fec} : s.Yields (execFrameReceive port f fec t) := by
  dsimp only [Machine.execFrameReceive]
  refine Evolves.next ?_
  split
  · exact h
  · split
    · exact h.ledBlink.noteFec.count.dropFrame
    · split
      · exact h.ledBlink.noteFec.count.dropFrame
      · split
        exacts [h.ledBlink.noteFec.count.pauseIn,
          h.ledBlink.noteFec.count.branch (·.dropFrame) (·.branch (·.dropFrame) (·.branch (·.dropFrame) (·.branch (·.dropFrame) (·.bump.consume))))]

theorem setEntry {port time} : s.Evolves (t.setEntry port time) := by
  unfold State.setEntry
  split <;> exact h.setF

theorem execGateChange {port} : s.Yields (execGateChange port t) := h.setEntry.next

theorem dueSave {table i} : s.Evolves (t.dueSave table i) := h.mk

theorem planSwitch {port time} : s.Evolves (t.planSwitch port time) := h.setF.setB.setEntry.mk.dueSave.raiseInt

theorem planArm {port v} : s.Evolves (t.planArm port v) := h.wr.logErr.ite (h.wr.planSwitch.ite h.wr.setB.mk)

theorem execPlanSwitchArm {port v} : s.Yields (execPlanSwitchArm port v t) := h.planArm.next

theorem execPlanSwitch {port} : s.Yields (execPlanSwitch port t) := by
  unfold Machine.execPlanSwitch
  refine Evolves.next ?_
  split
  exacts [h.planSwitch, h]

theorem execFrameTransmit {port} : s.Yields (execFrameTransmit port t) := by
  dsimp only [Machine.execFrameTransmit]
  refine Evolves.next ?_
  split
  · exact h
  · split
    · exact h
    · split
      exacts [h.mk.emit.ledBlink.bump.count.bump.count, h.mk.emit.ledBlink.bump.count]

/-! ### Machine/Crew.lean -/

theorem setLink {l x} : s.Evolves (t.setLink l x) := h.whenNot (fun h => (h.setF.setB.whenNot (·.raiseInt)).trace)

theorem linkTrain {l} : s.Evolves (t.linkTrain l) := h.setLink.emit

theorem excludeLane {l k} : s.Evolves (t.excludeLane l k) := h.setB.raiseInt.logEvent

theorem linkDown {l} : s.Evolves (t.linkDown l) := (h.setLink.setF.logEvent.foldl fun _ _ h => h.foldl fun _ _ h => h.when (·.pathDown)).linkTrain

theorem crwCtrlWrite {v} : s.Evolves (t.crwCtrlWrite v) := h.wr.foldl fun _ _ h => h.linkTrain.ite (h.when (·.setLink.setF))

theorem execLinkEnable {v} : s.Yields (execLinkEnable v t) := h.crwCtrlWrite.next

theorem linkRetrain {l v} : s.Evolves (t.linkRetrain l v) := h.when (·.linkTrain)

theorem execLinkRetrain {link v} : s.Yields (execLinkRetrain link v t) := (h.when (·.linkRetrain)).next

theorem openLink {l} : s.Evolves (t.openLink l) := h.mk.foldl fun _ _ h => h.mk.emit.ite h.emit.xoffRise

theorem execLinkTrainDone {link r} : s.Yields (execLinkTrainDone link r t) := by
  dsimp only [Machine.execLinkTrainDone]
  refine Evolves.next ?_
  split
  · exact h
  · split
    exacts [h.bump.setLink.wr.raiseInt.logEvent,
      (h.bump.mk.setF.foldl fun _ _ h => h.whenNot (·.excludeLane)).branch (·.setF.wr.setLink) (·.setF.setF.setB.wr.wr.setLink.openLink)]

theorem execLinkTrainRetry {link} : s.Yields (execLinkTrainRetry link t) := (h.when (·.linkTrain)).next

theorem execLaneExclude {link lane lost fec} : s.Yields (execLaneExclude link lane lost fec t) :=
  (h.whenNot (·.bump.bump.excludeLane.bump.branch (·.linkDown) (fun h => (h.when (·.bump)).setF.setLink))).next

theorem execWidthChangeDone {link} : s.Yields (execWidthChangeDone link t) := (h.when (·.setLink)).next

theorem execLinkTimeout {link} : s.Yields (execLinkTimeout link t) := (h.when (·.linkDown)).next

theorem execControlBlockSend {link} : s.Yields (execControlBlockSend link t) := (h.when (·.emit)).next

theorem execXoffRepeat {link vl} : s.Yields (execXoffRepeat link vl t) := (h.when (·.emit.count)).next

theorem execXoffReceive {link vl xoff} : s.Yields (execXoffReceive link vl xoff t) := h.mk.next

theorem noteEpoch {p} : s.Evolves (t.noteEpoch p) := h.whenNot (·.mk)

theorem dropOz {link key} : s.Evolves (t.dropOz link key) := h.bump.count

theorem deliverOz {link p ce} : s.Evolves (t.deliverOz link p ce) := by
  dsimp only [State.deliverOz]
  apply xoffRise
  split
  · exact h.count.ydtArrive
  · split
    exacts [h.count.ydtArrive, h.count.mk, h.count]

theorem forwardOz {link out h' p ce} : s.Evolves (t.forwardOz link out h' p ce) := by
  dsimp only [State.forwardOz]
  split
  exacts [h.dropOz, h.dropOz, h.emitOz.bump.bump.count, h.emitOz.bump.count, h.queueOz.xoffRise]

theorem execOzmenPacketReceive {link p fec} : s.Yields (execOzmenPacketReceive link p fec t) := by
  dsimp only [Machine.execOzmenPacketReceive]
  have hb {k₁ k₂ k₃ n₁ n₂ n₃} : s.Evolves (((t.bump k₁ n₁).bump k₂ n₂).bump k₃ n₃) := h.bump.bump.bump
  refine (h.ite (hb.dropOz.ite (hb.noteEpoch.dropOz.raiseInt.logErr.ite (hb.noteEpoch.dropOz.ite
    (hb.noteEpoch.dropOz.logErr.ite (hb.noteEpoch.dropOz.ite (ite ?_ hb.noteEpoch.forwardOz))))))).next
  split
  exacts [hb.noteEpoch.deliverOz, hb.noteEpoch.dropOz, hb.noteEpoch.dropOz]

theorem execOzmenTransmit {link} : s.Yields (execOzmenTransmit link t) := by
  dsimp only [Machine.execOzmenTransmit]
  refine (h.ite ?_).next
  split
  exacts [h, h.emitOz.noteEpoch.mk.whenNot (·.count.xoffFall)]

theorem execHeadDrop {link vl input} : s.Yields (execHeadDrop link vl input t) := by
  unfold Machine.execHeadDrop
  exact (h.ite (by split; exacts [h, h.mk.dropOz.xoffFall])).next

theorem epochWrite {v} : s.Evolves (t.epochWrite v) := h.raiseInt.logErr.ite (h.wr.whenNot (·.dueSave))

theorem execEpochWrite {v} : s.Yields (execEpochWrite v t) := h.epochWrite.next

theorem loadTable {t' ver first count bs} : s.Evolves (t.loadTable t' ver first count bs) := h.mk.ite (h.mk.ite h.mk.dueSave)

theorem tableStore {env i o va n bs} : s.Evolves (t.tableStore env i o va n bs) := by
  unfold State.tableStore
  split
  exacts [(h.vwrite.ofEq ‹_›).opFail, (h.vwrite.ofEq ‹_›).noteData.finishOp]

theorem planLoad {env i o a} : s.Evolves (t.planLoad env i o a) := by
  dsimp only [State.planLoad]
  split
  · exact (h.vread.ofEq ‹_›).opFail
  · split
    · exact (h.vread.ofEq ‹_›).finishOp
    · split
      · exact ((h.vread.ofEq ‹_›).vread.ofEq ‹_›).opFail
      · split
        exacts [((h.vread.ofEq ‹_›).vread.ofEq ‹_›).finishOp, ((h.vread.ofEq ‹_›).vread.ofEq ‹_›).mk.setB.finishOp]

theorem execTableXfer {op hv} : s.Yields (execTableXfer op hv t) := by
  dsimp only [Machine.execTableXfer]
  refine Evolves.next ?_
  split
  · exact h
  · split
    · exact h
    · split
      · exact h.finishOp
      · split
        · exact h.finishOp
        · split
          · exact h.traceStart.branch (·.tableStore) (·.planLoad)
          · split
            · exact h.traceStart.finishOp
            · split
              · exact h.traceStart.tableStore
              · split
                exacts [(h.traceStart.vread.ofEq ‹_›).opFail, (h.traceStart.vread.ofEq ‹_›).loadTable.finishOp]

theorem saveTable {d} : s.Evolves (t.saveTable d) := by
  dsimp only [State.saveTable]
  exact (ite (by split; exacts [h.mk, h]) (h.mk.ite h.mk))

theorem execTableSave : s.Yields (execTableSave t) := (h.when (fun h => (h.foldl fun _ _ h => h.saveTable).mk)).next

/-! ### Machine/Parity.lean -/

theorem parityCtl {op act} {f : State → Op → Nat × Binding → State} (hf : ∀ u o b, s.Evolves u → s.Evolves (f u o b)) :
    s.Evolves (t.parityCtl op act f) := by
  dsimp only [State.parityCtl]
  split
  · exact h
  · split
    · exact h.when (·.finishOp)
    · split
      · exact h.finishOp
      · split
        · exact h
        · split
          exacts [h.finishOp, hf _ _ _ h.startCtx]

theorem syncRun {env i ending o b} : s.Evolves (t.syncRun env i ending o b) :=
  h.runCtx fun h => (boundParts_keeps h).bind fun h => .pure h.startParts

theorem execParitySync {op hv} : s.Yields (execParitySync op hv t) := (h.parityCtl fun _ _ _ h => h.whenNot (·.syncRun)).next

theorem execParityUnbind {op hv} : s.Yields (execParityUnbind op hv t) := (h.parityCtl fun _ _ _ h => h.whenNot (·.syncRun)).next

theorem askFor {i k gs} : s.Evolves (t.askFor i k gs) := h.foldl fun _ _ h => h.whenNot (·.startRebuild)

theorem execRecoverLandmarks {op hv} : s.Yields (execRecoverLandmarks op hv t) := by
  refine (h.parityCtl fun _ _ _ h => h.whenNot (·.runCtx fun h => ?_)).next
  refine (CtxM.Leads.mapM h layerEntry_keeps).bind fun h => .ite ?_ (.pure h.askFor)
  exact (tailWrites_keeps h).bind fun h => (commitWrites_keeps h).bind fun h => .pure h.startParts

theorem execRecoverBlocks {op} : s.Yields (execRecoverBlocks op t) := (h.parityCtl fun _ _ _ h => h.whenNot (·.askFor)).next

theorem execRecoveryDone {op hv} : s.Yields (execRecoveryDone op hv t) := by
  dsimp only [Machine.execRecoveryDone]
  refine Evolves.next ?_
  refine parityCtl h fun _ _ _ h => ?_
  split
  · exact h
  · split
    · exact (h.vread.ofEq ‹_›).opFail
    · split
      exacts [((h.vread.ofEq ‹_›).vwrite.ofEq ‹_›).opFail, ((h.vread.ofEq ‹_›).vwrite.ofEq ‹_›).mk.noteParity.event.endCtx]

theorem setRescan {x} : s.Evolves (t.setRescan x) := h.mk.noteParity

theorem rescanStep {hv i x} : s.Evolves (t.rescanStep hv i x) := by
  dsimp only [State.rescanStep]
  split
  · exact h
  · split
    · exact h.whenNot (·.lockLine)
    · split
      exacts [h, h.mk.ite ((by split; exacts [(h.mk.vwrite.ofEq ‹_›).opFail.when (·.setRescan), (h.mk.vwrite.ofEq ‹_›).setRescan.setF]))]

theorem execRescan {op hv} : s.Yields (execRescan op hv t) := by
  dsimp only [Machine.execRescan]
  refine Evolves.next ?_
  split
  · exact h
  · split
    · exact h
    · split
      exacts [h.when (·.rescanStep), h.finishOp.ite (h.finishOp.ite (h.finishOp.ite h.startCtx.setRescan.setF.rescanStep))]

theorem execRescanDone : s.Yields (execRescanDone t) := by
  unfold Machine.execRescanDone
  refine Evolves.next ?_
  split
  exacts [h, h.whenNot (fun h => (h.when (·.setF)).setRescan.event.finishOp)]

theorem execMemberLossDetect {member} : s.Yields (execMemberLossDetect member t) := (h.when (·.declareLost)).next

theorem parDeclare {v} : s.Evolves (t.parDeclare v) := (h.foldl fun _ _ h => h.when (·.declareLost)).when (·.mk)

theorem execParDeclare {v} : s.Yields (execParDeclare v t) := h.parDeclare.next

theorem execParWithdraw {v} : s.Yields (execParWithdraw v t) := h.parDeclare.next

theorem parLostClear {v} : s.Evolves (t.parLostClear v) := h.wr.wr.noteParity

theorem execParLostClear {v} : s.Yields (execParLostClear v t) := h.parLostClear.next

theorem parCtrlWrite {v} : s.Evolves (t.parCtrlWrite v) := h.wr.noteParity

theorem parRegWrite {reg v} : s.Evolves (t.parRegWrite reg v) := by
  unfold State.parRegWrite
  split
  exacts [h.parCtrlWrite, h.whenNot (·.wr), h.whenNot (·.setPair), h.whenNot (·.wr), h]

theorem execParCtrlWrite {reg v} : s.Yields (execParCtrlWrite reg v t) := h.parRegWrite.next

theorem execBurstRewrite {burst} : s.Yields (execBurstRewrite burst t) := (h.when (·.checkLookup.served.count.count.setDrams)).next

theorem sramBad {x} : s.Evolves (t.sramBad x) := by
  unfold State.sramBad
  split
  · exact h.endCtx
  · exact h.endCtx
  · exact h.stopHeat
  · exact h.mk
  · split
    exacts [h.releaseFault, h]
  · exact h.when (·.eraseSlot)
  · exact h

theorem execSramPatrol {w uncorrectable} : s.Yields (execSramPatrol w uncorrectable t) := (h.uncodedErr.sramBad.ite h.bump).next

/-! ### Machine/Mem.lean -/

theorem scrubBurst {env burst} : s.Evolves (t.scrubBurst env burst) :=
  h.whenNot (·.served.count.branch (·.memDetail.logEvent.markPoison) (·.when (·.ceRead.bump)))

theorem execScrubStep {hv} : s.Yields (execScrubStep hv t) :=
  (h.whenNot (fun h => (h.foldl fun _ _ h => h.scrubBurst).branch (·.mk.setF) (·.mk.setF.setF.raiseInt))).next

theorem execScrubWake : s.Yields (execScrubWake t) := (h.when (·.wake)).next

theorem execOscillatorRead {chan linkErrors} : s.Yields (execOscillatorRead chan linkErrors t) := (h.when (·.bump)).next

theorem retrainDue {c} : s.Evolves (t.retrainDue c) := h.whenNot (·.mk)

theorem retrainNext : s.Evolves t.retrainNext := by
  unfold State.retrainNext
  split
  exacts [h.mk.setChan, h]

theorem execChannelRetrain {chan} : s.Yields (execChannelRetrain chan t) := (h.when (·.retrainDue.retrainNext)).next

theorem retrainWrite {nn v} : s.Evolves (t.retrainWrite nn v) := (h.foldl fun _ _ h => h.when (·.retrainDue)).retrainNext

theorem execMemRetrainRequest {nn v} : s.Yields (execMemRetrainRequest nn v t) := (h.when (·.retrainWrite)).next

theorem channelFails {c} : s.Evolves (t.channelFails c) := h.setChan.mk.raiseInt.logEvent

theorem execRetrainDone {ok us} : s.Yields (execRetrainDone ok us t) := by
  unfold Machine.execRetrainDone
  refine Evolves.next ?_
  split
  exacts [h, (h.mk.bump.wr.branch (·.setChan) (·.channelFails)).intEvent.retrainNext]

theorem packageTemp {nn temp} : s.Evolves (t.packageTemp nn temp) := h.setF.setB.when (·.intEvent)

theorem execRefresh {nn temp} : s.Yields (execRefresh nn temp t) :=
  (h.whenNot (·.packageTemp.when (fun h => (h.foldl fun _ _ h => h.when (·.retrainDue)).retrainNext))).next

theorem execMemTempHot {nn temp} : s.Yields (execMemTempHot nn temp t) := (h.when (·.packageTemp)).next

theorem execMemTempNormal {nn temp} : s.Yields (execMemTempNormal nn temp t) := (h.when (·.packageTemp)).next

theorem execSelfRefreshExit : s.Yields (execSelfRefreshExit t) :=
  (h.whenNot (fun h => (((h.mk.foldl fun _ _ h => h.when (·.setChan)).foldl fun _ _ h => h.pauseFall).foldl fun _ _ h =>
      h.xoffFall).retrainNext)).next

theorem setDeficit {ch c n} : s.Evolves (t.setDeficit ch c n) := h.mk

theorem arbServe {ch c d} {l : List Nat} : s.Evolves (t.arbServe ch c d l) := by
  induction l generalizing t d with
  | nil => exact h.setDeficit
  | cons n l ih =>
    unfold State.arbServe
    split
    exacts [ih h.emit, h.setDeficit]

theorem arbRound {ch waiting} : s.Evolves (t.arbRound ch waiting) :=
  h.foldl fun _ _ h => h.setDeficit.ite (h.arbServe.ite (h.whenNot (·.foldl fun _ _ h => h.emit)))

theorem execArbAgeExpiry {chan waiting} : s.Yields (execArbAgeExpiry chan waiting t) := by
  unfold Machine.execArbAgeExpiry
  refine Evolves.next ?_
  split
  exacts [h, h.emit.arbRound]

theorem classSelWrite {v} : s.Evolves (t.classSelWrite v) := h.wr.wr.mk

theorem execClassSelWrite {v} : s.Yields (execClassSelWrite v t) := h.classSelWrite.next

/-! ### Machine/Reset.lean -/

theorem faultsH : s.Evolves t.faultsH := by
  dsimp only [State.faultsH]
  refine .foldl ?_ fun _ _ h => ?_
  · apply stallsEnd
    refine .foldl h fun _ _ h => ?_
    split
    exacts [(releaseFault (by split; exacts [h.when (·.putLeaf), h])), h.when (·.setFaultSt)]
  · exact h.releaseWaiter

theorem hostLost {fn} : s.Evolves (t.hostLost fn) :=
  h.foldl fun _ _ h => h.whenNot (fun h => ((h.when (·.closeChain.emptyQueue.moveRing)).when (·.cqStallEnd.setCqState)).when (·.raiseInt))

theorem pavLost {fn} : s.Evolves (t.pavLost fn) := by
  dsimp only [State.pavLost]
  exact (withoutEntries (by split; exacts [h.cutChain, h])).whenNot (·.putQueue)

theorem tqsLost : s.Evolves t.tqsLost := h.foldl fun _ _ h => h.withoutEntries

theorem ccAction {x} : s.Evolves (t.ccAction x) := by
  unfold State.ccAction
  split
  exacts [h.setB, h.setB, h, h]

theorem dieCleared : s.Evolves t.dieCleared :=
  (h.keepRegs (p := fun _ _ => false)).initMem.frame (List.filter_eq_nil_iff.2 fun _ _ => Bool.false_ne_true).symm rfl rfl

theorem updateCut : s.Evolves t.updateCut := h.mk

theorem warmHeld {cause} : s.Evolves (t.warmHeld cause) := h.ledsOff.keepRegs.frame rfl rfl rfl

theorem warmReset {cause} : s.Evolves (t.warmReset cause) := by
  unfold State.warmReset
  split
  · exact h
  · split
    exacts [h.when (·.mk), h.mk.ccStart.ite h.warmHeld]

theorem warmRelease : s.Evolves t.warmRelease := by
  unfold State.warmRelease
  split
  exacts [h.mk.wr, h]

theorem ccFinish : s.Evolves t.ccFinish := by
  dsimp only [State.ccFinish]
  split
  exacts [(h.mk.foldl fun _ _ h => h.ccAction).when (·.warmHeld), h.mk.foldl fun _ _ h => h.ccAction]

theorem execCcWritebackDone : s.Yields (execCcWritebackDone t) := (h.whenNot (·.ccFlush.ccFinish)).next

theorem ccCut : s.Evolves t.ccCut := h.whenNot (·.free.foldl fun _ _ h => h.ccWriteBack.mk)

theorem eventH {discarded} : s.Evolves (t.eventH discarded) :=
  h.whenNot (fun h => (h.ccCut.bump.bump.regEvent.mk.foldl fun _ _ h => h.hostLost.pavLost).tqsLost.faultsH.trace.linkEvent.ccFinish)

theorem startTraining : s.Evolves t.startTraining := h.when (·.mk)

theorem execHostLinkReset {discarded} : s.Yields (execHostLinkReset discarded t) := (h.when (·.eventH.startTraining)).next

theorem execPerstAssert {discarded} : s.Yields (execPerstAssert discarded t) := (h.mk.when (·.eventH)).mk.next

theorem execPerstRelease : s.Yields (execPerstRelease t) := h.mk.startTraining.next

theorem execModResetAssert : s.Yields (execModResetAssert t) := h.mk.warmReset.next

theorem execModResetRelease : s.Yields (execModResetRelease t) := h.mk.warmRelease.next

theorem execWarmResetRelease : s.Yields (execWarmResetRelease t) := (h.whenNot (·.warmRelease)).next

theorem glbWarmReset {v} : s.Evolves (t.glbWarmReset v) := h.warmReset.ite h.bump

theorem execGlbWarmReset {v} : s.Yields (execGlbWarmReset v t) := h.glbWarmReset.next

theorem holdMctp {c m} : s.Evolves (t.holdMctp c m) := h.mk

theorem execMctpWarmReset : s.Yields (execMctpWarmReset t) := (h.whenNot (·.warmReset.ite h.holdMctp)).next

/-! ### Machine/Idle.lean -/

theorem idleEnter {goal} : s.Evolves (t.idleEnter goal) := by
  unfold State.idleEnter
  exact h.setF.mk.setB.ccStart.ite (h.setF.foldl fun _ _ h => h.setB).event

theorem idleMove {goal} : s.Evolves (t.idleMove goal) := h.mk.setB.ite h.mk.setB.z2Hold

theorem idleCtrlWrite {v} : s.Evolves (t.idleCtrlWrite v) := (h.wr.when (·.wake)).ite (h.wr.whenNot (·.idleEnter.ite h.wr.idleMove))

theorem execIdleRequestZ1 {v} : s.Yields (execIdleRequestZ1 v t) := (h.when (·.idleCtrlWrite)).next

theorem execIdleRequestZ2 {v} : s.Yields (execIdleRequestZ2 v t) := (h.when (·.idleCtrlWrite)).next

theorem execIdleExitRequest {v} : s.Yields (execIdleExitRequest v t) := (h.when (·.idleCtrlWrite)).next

theorem execIdleMove {v} : s.Yields (execIdleMove v t) := (h.when (·.idleCtrlWrite)).next

theorem execIdleAuto : s.Yields (execIdleAuto t) := (h.when (·.idleEnter)).next

theorem enterIdle {goal} : s.Evolves (t.enterIdle goal) := h.setF.regEvent.mk

theorem enterZ2 : s.Evolves t.enterZ2 := by
  dsimp only [State.enterZ2]
  apply mk
  refine .foldl ?_ fun _ _ h => ?_
  · split
    exacts [h.checksClean.mk, h.checksClean]
  · exact h.when (·.setChan)

theorem execIdleEntryDone : s.Yields (execIdleEntryDone t) :=
  (h.whenNot (·.setB.mk.setF.releaseRestores.ite (h.setB.enterIdle.when (·.enterZ2)))).next

theorem execWake {src} : s.Yields (execWake src t) := h.wake.next

theorem execClusterPowerUp {nn} : s.Yields (execClusterPowerUp nn t) := (h.when (·.mk)).next

theorem execIdleExitDone : s.Yields (execIdleExitDone t) := (h.whenNot (·.setB.setF.releaseRestores.ite h.setB.enterIdle)).next

/-! ### Machine/Quiesce.lean -/

theorem detachSlot {i} : s.Evolves (t.detachSlot i).1 := by
  unfold State.detachSlot
  split
  exacts [h, h.putXfer]

theorem flushOp {i st} : s.Evolves (t.flushOp i st) := by
  unfold State.flushOp
  exact h.dropUnits.detachSlot.finishOp

theorem flushChain {src} : s.Evolves (t.flushChain src) := by
  dsimp only [State.flushChain]
  split
  exacts [h, h.cutChain.putQueue.pauseCheck]

theorem flushHeats {fn} : s.Evolves (t.flushHeats fn) := by
  dsimp only [State.flushHeats]
  refine .foldl h fun _ _ h => ?_
  split
  · exact h.stopHeat
  · refine .foldl h.stopHeat fun _ _ h => ?_
    split
    exacts [h, h.dropHeat.sendAborts]

theorem flushQps {fn} : s.Evolves (t.flushQps fn) := h.foldl fun _ _ h => h.when (·.qpError)

theorem flushFaults {fn} : s.Evolves (t.flushFaults fn) := by
  dsimp only [State.flushFaults]
  refine .foldl ?_ fun _ _ h => ?_
  · apply mk
    apply stallsEnd
    refine .foldl h fun _ _ h => ?_
    split
    exacts [h.putLeaf, h]
  · split
    exacts [h.whenNot (·.flushOp), h.whenNot (·.flushOp), h]

theorem flushFn {fn} : s.Evolves (t.flushFn fn) := by
  dsimp only [State.flushFn]
  apply mk
  refine .foldl (((h.foldl fun _ _ h => h.flushChain).foldl fun _ _ h => h.flushOp).flushHeats.flushQps.flushFaults) fun _ _ h => ?_
  exact h.whenNot (·.flushOp)

theorem instanceResetStart {fn v} : s.Evolves (t.instanceResetStart fn v) := h.setB.setB.wake.ite h.trnRefuse

theorem fnCtrlWrite {fn v} : s.Evolves (t.fnCtrlWrite fn v) := by
  dsimp only [State.fnCtrlWrite]
  exact h.whenNot (·.instanceResetStart.ite ((by split; exacts [h.setB.setB.when (·.flushFn), h.when (·.setB.flushFn), h.setF.setB.setB, h.setB])))

theorem execQuiesceStart {fn v} : s.Yields (execQuiesceStart fn v t) := (h.when (·.fnCtrlWrite)).next

theorem execQuiesceFlushEscalate {fn v} : s.Yields (execQuiesceFlushEscalate fn v t) := (h.when (·.fnCtrlWrite)).next

theorem execQuiesceEnd {fn v} : s.Yields (execQuiesceEnd fn v t) := (h.when (·.fnCtrlWrite)).next

theorem execQuiesced {fn} : s.Yields (execQuiesced fn t) := (h.when (·.setB.raiseInt)).next

theorem eraseOwned {fn} : s.Evolves (t.eraseOwned fn) := h.foldl fun _ _ h => h.when (·.mk.wr.when (·.eraseSlot))

theorem unmapAll {fn} : s.Evolves (t.unmapAll fn) := h.foldl fun _ _ h => h.setPte

theorem clearTiles {fn} : s.Evolves (t.clearTiles fn) := h.mk

theorem instanceReset {fn} : s.Evolves (t.instanceReset fn) := by
  unfold State.instanceReset
  exact ((h.keepRegs.eraseOwned.foldl fun _ _ h => h.delGroup).unmapAll.clearTiles.stallsEnd.mk.noteSlots.noteParity).wr

theorem execInstanceReset {fn v} : s.Yields (execInstanceReset fn v t) := (h.when (·.fnCtrlWrite)).next

theorem execInstanceResetDone {fn} : s.Yields (execInstanceResetDone fn t) := (h.when (·.instanceReset)).next

theorem removeFn {fn} : s.Evolves (t.removeFn fn) := h.instanceReset.ite h.setB.setB

theorem execVfRemove {numVfs} : s.Yields (execVfRemove numVfs t) := by
  dsimp only [Machine.execVfRemove]
  refine Evolves.next ?_
  split
  exacts [h.trnRefuse, (h.whenNot (·.wake)).mk.foldl fun _ _ h => h.removeFn]

/-! ### Machine/Power.lean -/

theorem noteClocks : s.Evolves t.noteClocks := h.foldl fun _ _ h => h.noteClock

theorem setTarget {c f} : s.Evolves (t.setTarget c f) := h.mk.noteClock

theorem clockStep {c} : s.Evolves (t.clockStep c) := h.whenNot (·.whenNot (·.mk.noteClock.trace))

theorem execClockStep {nn} : s.Yields (execClockStep nn t) := (h.when (·.clockStep)).next

theorem execRailReached {measured} : s.Yields (execRailReached measured t) := h.setF.setF.next

theorem noteCap : s.Evolves t.noteCap := h.whenNot (·.wr.raiseInt)

theorem capWrite {v} : s.Evolves (t.capWrite v) := h.writePlain.noteCap

theorem execCapWrite {v} : s.Yields (execCapWrite v t) := h.capWrite.next

theorem execMctpCap {watts} : s.Yields (execMctpCap watts t) := (h.when (·.mk.noteCap)).next

theorem execLowInput {mv} : s.Yields (execLowInput mv t) := (h.when (·.mk.when (·.noteCap.logEvent))).next

theorem execLowInputEnd {mv} : s.Yields (execLowInputEnd mv t) := (h.when (·.mk.when (·.noteCap.event))).next

theorem execPowerModelTick {counts hot vcore measured} : s.Yields (execPowerModelTick counts hot vcore measured t) := h.mk.wr.setF.setF.next

theorem execTrimTick {rails} : s.Yields (execTrimTick rails t) :=
  (h.whenNot (fun h => (h.when (·.foldl fun _ _ h => h.foldl fun _ _ h => h.mk)).mk)).next

theorem writeCoefs : s.Evolves t.writeCoefs := h.mk

theorem saveCoefs : s.Evolves t.saveCoefs := h.toInbox.ite (h.toMail.ite h.writeCoefs)

theorem execCoefficientSave : s.Yields (execCoefficientSave t) := (h.when (·.saveCoefs)).next

theorem execModelStale {percent} : s.Yields (execModelStale percent t) := (h.when (·.setB.setF.setB.raiseInt.logErr.event)).next

theorem execModelStaleClear {percent} : s.Yields (execModelStaleClear percent t) := (h.when (·.setB.setF.setB.event)).next

theorem execWorkUnitDispatch {nn t' offered} : s.Yields (execWorkUnitDispatch nn t' offered t) := (h.whenNot (·.dispatch.when (·.setTarget))).next

theorem execClusterIdleTimer {nn} : s.Yields (execClusterIdleTimer nn t) := (h.when (·.mk)).next

theorem execPhaseUpdate {obs} : s.Yields (execPhaseUpdate obs t) := (h.whenNot (·.foldl fun _ _ h => h.whenNot (·.mk.wr))).next

theorem fmaxNext : s.Evolves t.fmaxNext := by
  unfold State.fmaxNext
  split
  · exact h
  · split
    exacts [h.mk, h.when (·.setB)]

theorem fmaxAll : s.Evolves t.fmaxAll := h.mk.fmaxNext

theorem execFmaxRetrain : s.Yields (execFmaxRetrain t) := (h.when (·.fmaxAll)).next

theorem fmaxCtrlWrite {v} : s.Evolves (t.fmaxCtrlWrite v) := h.setF.when (·.setB.fmaxAll)

theorem execFmaxStart {v} : s.Yields (execFmaxStart v t) := h.fmaxCtrlWrite.next

theorem noteFmax {t'} : s.Evolves (t.noteFmax t') := h.wr

theorem fallTo {c limit} : s.Evolves (t.fallTo c limit) := (h.when (·.setTarget)).when (·.mk.noteClock.trace)

theorem rejoins {nn t'} : s.Evolves (t.rejoins nn t') := h.setB.setB.setB

theorem execSelfTestDone {nn t' pass} : s.Yields (execSelfTestDone nn t' pass t) :=
  (h.when (fun h => (h.setB.fallTo.rejoins.putTile.noteClock.recordTiles.ite h.setB.logErr).raiseInt)).next

theorem execFmaxTileTestDone {tile passed} : s.Yields (execFmaxTileTestDone tile passed t) :=
  (h.whenNot (fun h => ((h.fallTo.mk.when (·.raiseInt.logErr)).when (·.logEvent)).noteFmax.noteClock.fmaxNext)).next

theorem execCapControlTick : s.Yields (execCapControlTick t) := (h.mk.setB.foldl fun _ _ h => h.setTarget).fmaxNext.next

theorem execDroopDetect {nn} : s.Yields (execDroopDetect nn t) := (h.when (·.mk.bump.count.noteClock)).next

theorem execDroopEnd {nn} : s.Yields (execDroopEnd nn t) := (h.when (·.mk.noteClock)).next

theorem execDroopLong {nn} : s.Yields (execDroopLong nn t) := (h.when (·.raiseInt.logEvent)).next

theorem throttleBegins {sensor} : s.Evolves (t.throttleBegins sensor) := h.raiseInt.logErr.event

theorem throttleEnds : s.Evolves t.throttleEnds := h.raiseInt.event

theorem hotSensor {hot} : s.Evolves (t.hotSensor hot).2 := by
  unfold State.hotSensor
  split
  exacts [h, h.pick]

theorem thermalStep {hot conv measured} : s.Evolves (t.thermalStep hot conv measured) := by
  dsimp only [State.thermalStep]
  split
  · split
    exacts [((h.when (·.setB)).when (·.setB)).hotSensor.mk.throttleBegins, ((h.when (·.setB)).when (·.setB)).mk]
  · split
    exacts [h, h.when (·.mk.setB.setB.throttleEnds.ite h.mk)]

theorem execThermalCapTick {hot conv measured} : s.Yields (execThermalCapTick hot conv measured t) := (h.thermalStep.when (·.bump.count)).noteCap.next

theorem execDramThrottleTick {nn temp} : s.Yields (execDramThrottleTick nn temp t) := by
  unfold Machine.execDramThrottleTick
  exact (h.ite ((by split; exacts [h.when (·.mk.setB.setB.throttleBegins), h.mk.ite (h.when (·.mk.ite h.mk.setB.setB.throttleEnds))]))).next

theorem execInletHot {temp} : s.Yields (execInletHot temp t) := (h.when (·.event)).next

theorem execPaceLapse {group} : s.Yields (execPaceLapse group t) := (h.when (·.dropPace)).next

/-! ### Machine/Module.lean -/

theorem cagesHeld : s.Evolves t.cagesHeld := h.foldl fun _ _ h => h.emit.emit

theorem tryRamp : s.Evolves t.tryRamp := h.when (·.mk)

theorem powerDown {goal} : s.Evolves (t.powerDown goal) := ((h.when (·.emit)).ledsOff.updateCut.when (·.cagesHeld)).dieCleared.mk

theorem alert {m} : s.Evolves (t.alert m) := h.mk.when (·.emit)

theorem collect {m} : s.Evolves (t.collect m) := h.mk.when (·.emit)

theorem logFault {c} : s.Evolves (t.logFault c) := h.mk.alert

theorem execAuxEntry {addr1 addr0} : s.Yields (execAuxEntry addr1 addr0 t) := (h.when (fun h => (h.mk.cagesHeld.whenNot (·.emit)).tryRamp)).next

theorem execInputAccept : s.Yields (execInputAccept t) := (h.whenNot (·.mk.tryRamp)).next

theorem execBulkCharged : s.Yields (execBulkCharged t) := (h.when (·.mk)).next

theorem execRailGood : s.Yields (execRailGood t) := (h.when (·.mk)).next

theorem execOnEntry {straps} : s.Yields (execOnEntry straps t) := (h.when (·.dieCleared.emit.mk.wr.when (·.free.event))).next

theorem execInputRelease : s.Yields (execInputRelease t) := (h.mk.when (·.powerDown)).next

theorem execInputLockout : s.Yields (execInputLockout t) := ((h.mk.whenNot (·.logFault)).when (·.powerDown)).next

theorem execInputLockoutEnd : s.Yields (execInputLockoutEnd t) := (h.when (·.mk.tryRamp)).next

theorem execInputReversed : s.Yields (execInputReversed t) := ((h.mk.whenNot (·.logFault)).when (·.powerDown)).next

theorem execRailGoodLost {rail} : s.Yields (execRailGoodLost rail t) := (h.when (·.logFault.powerDown)).next

theorem execPwrdisRise : s.Yields (execPwrdisRise t) := (h.mk.when (·.powerDown)).next

theorem execPwrdisFall {highMs} : s.Yields (execPwrdisFall highMs t) := (h.whenNot (fun h => (h.mk.ite h.mk).tryRamp)).next

theorem execAuxLoss {mv} : s.Yields (execAuxLoss mv t) := (h.whenNot (fun h => (h.mk.when (·.event)).ite (h.mk.powerDown.ite h.mk.updateCut.mk))).next

theorem execAuxRestore {mv} : s.Yields (execAuxRestore mv t) := (h.when (·.mk.when (·.event))).next

theorem execHardwareTrip {sensor} : s.Yields (execHardwareTrip sensor t) := (h.when (fun h => (h.logFault.when (·.mk)).powerDown)).next

theorem execTripClear {sensor} : s.Yields (execTripClear sensor t) := h.mk.tryRamp.next

theorem execPldmSensorRead {sensor value} : s.Yields (execPldmSensorRead sensor value t) :=
  (h.whenNot (fun h => (h.whenNot (·.emit.ite h.holdMctp)).ite h.emit)).next

theorem execSmbusTimeout : s.Yields (execSmbusTimeout t) := (h.when (·.event)).next

theorem execCrewFreezeStuck : s.Yields (execCrewFreezeStuck t) := (h.when (·.mk.when (·.event))).next

theorem execCrewFreezeClear : s.Yields (execCrewFreezeClear t) := h.mk.next

theorem execCrewTimeLoss : s.Yields (execCrewTimeLoss t) := (h.when (·.mk.event)).next

theorem execCrewTimeRestored : s.Yields (execCrewTimeRestored t) := (h.when (·.mk.event)).next

/-! ### Machine/Firmware.lean -/

theorem fwEvent {b event code detail addr} : s.Evolves (t.fwEvent b event code detail addr) := h.raiseInt.event

theorem fwErr {code core cause} : s.Evolves (t.fwErr code core cause) := h.logErr

theorem putBank {b x} : s.Evolves (t.putBank b x) := h.mk

theorem noteBank : s.Evolves t.noteBank := h.wr

theorem updatePart {off data last unchecked} : s.Evolves (t.updatePart off data last unchecked) := h.putBank.mk.when (·.noteBank)

theorem execPldmFwUpdate {smbus off data last} : s.Yields (execPldmFwUpdate smbus off data last t) :=
  (h.whenNot (fun h => (h.whenNot (·.updatePart.ite h.holdMctp)).ite (h.when (·.updatePart)))).next

theorem execBankCheck {image} : s.Yields (execBankCheck image t) := (h.whenNot (·.putBank.mk.noteBank.ite h.putBank.logErr.noteBank)).next

theorem activate : s.Evolves t.activate := by
  unfold State.activate
  split
  exacts [h, h.mk.noteBank]

theorem commitBank : s.Evolves t.commitBank := h.whenNot (·.mk.setF.noteBank)

theorem bankCtrl {v} : s.Evolves (t.bankCtrl v) := h.whenNot (fun h => (h.when (·.activate)).when (·.commitBank))

theorem execBankActivate {v} : s.Yields (execBankActivate v t) := (h.when (·.bankCtrl)).next

theorem execBankCommit {v} : s.Yields (execBankCommit v t) := (h.when (·.bankCtrl)).next

theorem dumpReply {x} : s.Evolves (t.dumpReply x) := by
  unfold State.dumpReply
  split <;> exact h.emit.collect

theorem deliver {c x} : s.Evolves (t.deliver c x) := by
  unfold State.deliver
  split
  exacts [h.emit, h.freeze, h.warmReset, h.emit, h.dumpReply, h.updatePart.ite h.holdMctp, h.priResponse, h.atsCompletion, h.queueEvent,
    h.saveTiles.ite h.recordTiles, h.writeCoefs.ite h.saveCoefs]

theorem emptyInbox {c} : s.Evolves (t.emptyInbox c) := h.mk

theorem serveInbox {c} : s.Evolves (t.serveInbox c) := h.when (·.emptyInbox.foldl fun _ _ h => h.when (·.deliver))

theorem noteDumps : s.Evolves t.noteDumps := h.wr

theorem stageDump {core cause} : s.Evolves (t.stageDump core cause) := (h.mk.when (·.setF.fwErr)).noteDumps

theorem execDumpWrite {done} : s.Yields (execDumpWrite done t) := by
  unfold Machine.execDumpWrite
  exact (h.ite (by split; exacts [h.mk.noteDumps, h.mk.noteDumps.fwEvent.alert.serveInbox, h])).next

theorem dumpClear {v} : s.Evolves (t.dumpClear v) := h.mk.noteDumps

theorem execDumpClear {v} : s.Yields (execDumpClear v t) := h.dumpClear.next

theorem execDumpRead {op hv} : s.Yields (execDumpRead op hv t) := by
  unfold Machine.execDumpRead
  -- the image is a variable, so that no dump's 2 MB are ever spelled out
  obtain ⟨image, hi⟩ : ∃ image, dumpImage = image := ⟨_, rfl⟩
  rw [hi]
  refine Evolves.next ?_
  split
  · exact h
  · refine h.ite (h.finishOp.ite (h.finishOp.ite ?_))
    split
    · exact h.traceStart.finishOp
    · split
      exacts [(h.traceStart.vwrite.ofEq ‹_›).opFail, (h.traceStart.vwrite.ofEq ‹_›).noteData.finishOp]

theorem execMctpDumpRead {what} : s.Yields (execMctpDumpRead what t) := (h.dumpReply.ite (h.when (·.dumpReply.ite h.holdMctp))).next

theorem execMctpMessage {smbus kind payload} : s.Yields (execMctpMessage smbus kind payload t) := by
  unfold Machine.execMctpMessage
  exact ((h.whenNot (·.emit.ite h.holdMctp)).ite ((ite (by split; exacts [h.emit, h.emit, h.emit, h, h, h, h]) h))).next

/-! ### Machine/Security.lean -/

theorem setMeasure {i v} : s.Evolves (t.setMeasure i v) := h.mk

theorem measureState : s.Evolves t.measureState := h.setMeasure

theorem measureImage {m atBoot} : s.Evolves (t.measureImage m atBoot) :=
  (h.setMeasure.setMeasure.foldl fun _ _ h => h.setMeasure).setMeasure.setMeasure

theorem reattest : s.Evolves t.reattest := h.whenNot (·.mk.setB)

theorem loadSec {m} : s.Evolves (t.loadSec m) := h.setB.setB.setB.setB.wr

theorem execAttestCertReady {digest} : s.Yields (execAttestCertReady digest t) := (h.when (·.mk.setB.raiseInt)).next

theorem noteReqs {n} : s.Evolves (t.noteReqs n) := h.wr

theorem endSessions {but} : s.Evolves (t.endSessions but) := h.mk.noteReqs

theorem serveSpdm {doe r} : s.Evolves (t.serveSpdm doe r) := by
  dsimp only [State.serveSpdm]
  split
  exacts [h.emit.ite (h.emit.ite (h.emit.ite h.emit)), h.emit, h.emit.ite h.mk.noteReqs.emit, h.mk.noteReqs.emit.ite h.emit, h.emit.ite h.emit,
    h.emit.ite h.emit, h.emit.ite h.emit, h.emit, h.emit, h.emit, h.emit, h.emit, h.emit, h.emit, h.emit]

theorem execSpdmRequest {doe req} : s.Yields (execSpdmRequest doe req t) := (h.whenNot (·.emit.ite (h.mk.ite h.serveSpdm))).next

theorem serveWaiting : s.Evolves t.serveWaiting := h.mk.foldl fun _ _ h => h.serveSpdm

theorem eraseAll {cause} : s.Evolves (t.eraseAll cause) := h.foldl fun _ _ h => h.eraseSlot

theorem keyRefused {slot} : s.Evolves (t.keyRefused slot) := h.logErr.emit

theorem keySet {slot owner keyId key} : s.Evolves (t.keySet slot owner keyId key) := h.keyRefused.ite h.wr.wr.mk.emit

theorem keyErase {slot} : s.Evolves (t.keyErase slot) := (h.eraseAll.ite (h.when (·.eraseSlot))).emit

theorem keyQuery {slot} : s.Evolves (t.keyQuery slot) := h.emit

theorem setDebug {session open'} : s.Evolves (t.setDebug session open') :=
  h.whenNot (fun h => (h.setB.eraseAll.mk.ite h.setB.mk).measureState.reattest.endSessions)

theorem unlock {x serial nonce root sigOk} : s.Evolves (t.unlock x serial nonce root sigOk) := h.setDebug.emit.ite h.logErr.emit

theorem serveKey {session r} : s.Evolves (t.serveKey session r) := by
  dsimp only [State.serveKey]
  split
  · exact h.emit
  · split
    exacts [h.noteReqs.keySet, h.noteReqs.keyErase, h.noteReqs.keyQuery, h.noteReqs.free.mk.emit, h.noteReqs.unlock, h.noteReqs.setDebug.emit]

theorem keyRequest {session r} : s.Evolves (t.keyRequest session r) := h.whenNot (·.emit.ite (h.serveKey.ite (h.emit.ite h.mk.noteReqs)))

theorem serveKeys : s.Evolves t.serveKeys := h.mk.noteReqs.foldl fun _ _ h => h.serveKey

theorem execKeySet {session slot owner keyId key} : s.Yields (execKeySet session slot owner keyId key t) := h.keyRequest.next

theorem execKeyErase {session slot} : s.Yields (execKeyErase session slot t) := h.keyRequest.next

theorem execKeyQuery {session slot} : s.Yields (execKeyQuery session slot t) := h.keyRequest.next

theorem execDebugNonce {session} : s.Yields (execDebugNonce session t) := h.keyRequest.next

theorem execDebugUnlock {session serial nonce root sigOk} : s.Yields (execDebugUnlock session serial nonce root sigOk t) := h.keyRequest.next

theorem execDebugLock {session} : s.Yields (execDebugLock session t) := h.keyRequest.next

theorem coreServes {c} : s.Evolves (t.coreServes c) := h.serveInbox.when (·.serveWaiting.serveKeys)

theorem execDebugModuleAccess {core command arg} : s.Yields (execDebugModuleAccess core command arg t) :=
  (h.whenNot (·.emit.whenNot (·.mk.ite (h.emit.when (·.mk.coreServes))))).next

theorem execSecurityAlarm {alarm} : s.Yields (execSecurityAlarm alarm t) :=
  (h.whenNot (fun h => (h.mk.foldl fun _ _ h => h.eraseSlot).endSessions.setB.raiseInt.logErr.foldl fun _ _ h => h.event)).next

theorem execAlarmClear {alarm} : s.Yields (execAlarmClear alarm t) := (h.when (·.mk.when (·.serveWaiting.serveKeys))).next

theorem secErase {v} : s.Evolves (t.secErase v) := h.when (·.eraseAll)

theorem execSecEraseWrite {v} : s.Yields (execSecEraseWrite v t) := h.secErase.next

theorem noteBound {slot} : s.Evolves (t.noteBound slot) := h.setB

theorem bindingWrite {slots i v} : s.Evolves (t.bindingWrite slots i v) := h.uncodedErr.ite (h.writePlain.foldl fun _ _ h => h.noteBound)

theorem execBindingWrite {slots i v} : s.Yields (execBindingWrite slots i v t) := (h.when (·.bindingWrite)).next

/-! ### Machine/Restart.lean -/

theorem setCore {c x} : s.Evolves (t.setCore c x) := h.whenNot (·.setF.trace)

theorem coreBack {c} : s.Evolves (t.coreBack c) := h.mk.setCore.bump.coreServes

theorem backNext : s.Evolves t.backNext := by
  unfold State.backNext
  split
  exacts [h.setCore, h]

theorem rollBack {core back} : s.Evolves (t.rollBack core back) := h.mk.setF.fwErr.backNext

theorem noteCrash {core} : s.Evolves (t.noteCrash core) := h.mk.setF

theorem escalate {core cause} : s.Evolves (t.escalate core cause) := h.fwErr.fwEvent.branch (·.warmReset) (·.setCore)

theorem stopCore {core cause} : s.Evolves (t.stopCore core cause) := by
  dsimp only [State.stopCore]
  split
  exacts [(h.mk.setCore.stageDump.when (·.mk.noteDumps)).rollBack, h.mk.setCore.stageDump.when (·.mk.noteDumps)]

theorem crash {core cause} : s.Evolves (t.crash core cause) := h.stopCore.noteCrash.freeze.when (·.escalate)

theorem execCoreCrash {core cause access} : s.Yields (execCoreCrash core cause access t) := (h.whenNot (fun h => (h.when (·.bump)).crash)).next

theorem execWatchdogExpiry {core} : s.Yields (execWatchdogExpiry core t) := (h.whenNot (·.crash)).next

theorem execCoreRestartDone {core} : s.Yields (execCoreRestartDone core t) := by
  unfold Machine.execCoreRestartDone
  refine Evolves.next ?_
  split
  · exact h
  · split
    · exact h.mk.coreBack.fwErr.fwEvent.backNext
    · split
      exacts [h.when (·.mk.coreBack.backNext), h]

theorem coreRestartWrite {v} : s.Evolves (t.coreRestartWrite v) := h.uncodedErr.ite h.stopCore

theorem execCoreRestartWrite {v} : s.Yields (execCoreRestartWrite v t) := h.coreRestartWrite.next

theorem handoverWrite {v} : s.Evolves (t.handoverWrite v) := h.whenNot (·.fwErr.ite h.mk.wr.setCore)

theorem execHandoverStart {v} : s.Yields (execHandoverStart v t) := h.handoverWrite.next

theorem handoverEnd {b m} : s.Evolves (t.handoverEnd b m) :=
  h.mk.wr.wr.wr.noteBank.loadSec.measureImage.reattest.fwEvent.whenNot (·.foldl fun _ _ h => h.event)

theorem execHandoverCoreDone {ok} : s.Yields (execHandoverCoreDone ok t) := by
  dsimp only [Machine.execHandoverCoreDone]
  refine Evolves.next ?_
  split
  · exact h
  · split
    · exact h.coreBack.rollBack
    · split
      · split
        · split
          exacts [h.coreBack.handoverEnd, h.coreBack]
        · exact h.coreBack
      · exact h.coreBack.mk.wr.setCore

/-! ### Machine/Debug.lean -/

theorem cntClear {v} : s.Evolves (t.cntClear v) := h.mk.ite (h.mk.ite h.uncodedErr)

theorem execCntClearAll {v} : s.Yields (execCntClearAll v t) := h.cntClear.next

theorem execCntClearOne {v} : s.Yields (execCntClearOne v t) := h.cntClear.next

theorem thaw : s.Evolves t.thaw := h.mk.setB

theorem freezeWrite {v} : s.Evolves (t.freezeWrite v) := h.freeze.ite (h.thaw.ite h.logErr)

theorem execFreeze {v} : s.Yields (execFreeze v t) := h.freezeWrite.next

theorem execFreezeRelease {v} : s.Yields (execFreezeRelease v t) := h.freezeWrite.next

theorem execCrewFreezeFall : s.Yields (execCrewFreezeFall t) := (h.when (·.freeze)).next

theorem execMctpFreeze : s.Yields (execMctpFreeze t) := (h.whenNot (·.freeze.ite h.holdMctp)).next

theorem execCrewFreezePulseEnd : s.Yields (execCrewFreezePulseEnd t) := (h.when (·.emit.mk)).next

theorem traceCtrlWrite {v} : s.Evolves (t.traceCtrlWrite v) := h.writePlain.when (·.mk)

theorem execTraceSpill {hv} : s.Yields (execTraceSpill hv t) := by
  unfold Machine.execTraceSpill
  exact (h.whenNot (·.mk.logErr.ite ((by split; exacts [(h.vwrite.ofEq ‹_›).mk.logErr, (h.vwrite.ofEq ‹_›).mk])))).next

theorem belvCtrlWrite {v} : s.Evolves (t.belvCtrlWrite v) := h.writePlain.setB.whenNot (·.startCapture.when (·.setB))

theorem execBelvedereCapture {v} : s.Yields (execBelvedereCapture v t) := (h.when (·.belvCtrlWrite)).next

theorem execCaptureDone : s.Yields (execCaptureDone t) := by
  unfold Machine.execCaptureDone
  refine Evolves.next ?_
  split
  exacts [h, h.mk.setB.setF.setF.setB.setB.raiseInt]

theorem execHangDetect {condition} : s.Yields (execHangDetect condition t) := (h.whenNot (·.mk.startCapture.freeze)).next

theorem execDebugRead {op hv} : s.Yields (execDebugRead op hv t) := by
  dsimp only [Machine.execDebugRead]
  refine Evolves.next ?_
  split
  · exact h
  · split
    · exact h
    · split
      · exact h.finishOp
      · split
        · exact h.finishOp
        · split
          · exact h.finishOp
          · split
            · exact h.traceStart.finishOp
            · split
              · exact h.traceStart.finishOp
              · split
                exacts [(h.traceStart.vwrite.ofEq ‹_›).opFail, (h.traceStart.vwrite.ofEq ‹_›).noteData.finishOp]

/-! ### Machine/Boot.lean -/

theorem bankFails {b} : s.Evolves (t.bankFails b) := h.putBank.mk.fwErr.logErr

theorem bootBank {b m} : s.Evolves (t.bootBank b m) := h.mk

theorem chooseImage {ok} : s.Evolves (t.chooseImage ok).1 := by
  dsimp only [State.chooseImage]
  split
  · exact h.mk.bootBank
  · split
    exacts [h.mk.bankFails.bootBank, (h.mk.bankFails.when (·.bankFails)).mk]

theorem loadFlash : s.Evolves t.loadFlash := by
  dsimp only [State.loadFlash]
  apply noteDumps
  apply noteClocks
  split
  exacts [(((h.mk.foldl fun _ _ h => h.wr).foldl fun _ _ h => h.noteFmax).foldl fun _ _ h => h.wr).wr,
    ((h.mk.foldl fun _ _ h => h.wr).foldl fun _ _ h => h.noteFmax).foldl fun _ _ h => h.wr]

theorem execInternalBootDone {okA okB} : s.Yields (execInternalBootDone okA okB t) := by
  dsimp only [Machine.execInternalBootDone]
  refine Evolves.next ?_
  split
  · exact h
  · apply startTraining
    split
    exacts [
      (measureState (by split; exacts [h.chooseImage.mk.setB.noteBank.loadFlash.wr.wr.loadSec.measureImage,
          h.chooseImage.mk.setB.noteBank.loadFlash.setB])).reattest.fwEvent,
      (measureState (by split; exacts [h.chooseImage.mk.setB.noteBank.loadFlash.wr.wr.loadSec.measureImage,
          h.chooseImage.mk.setB.noteBank.loadFlash.setB])).reattest]

theorem setSpeed {fast} : s.Evolves (t.setSpeed fast) := h.foldl fun _ _ h => h.wr

theorem storeTraining {bad} : s.Evolves (t.storeTraining bad) := h.free.mk

theorem execMemoryTrainingDone {fast failed} : s.Yields (execMemoryTrainingDone fast failed t) :=
  (h.whenNot (fun h => (h.storeTraining.setSpeed.mk.foldl fun _ _ h => h.setChan).foldl fun _ _ h => h.channelFails)).next

theorem execSerdesCalDone {ok} : s.Yields (execSerdesCalDone ok t) := (h.when (·.mk)).next

theorem tileFails {k} : s.Evolves (t.tileFails k) := (h.whenNot (·.autoRetire)).logErr

theorem execTileSelftestDone {retested failed} : s.Yields (execTileSelftestDone retested failed t) :=
  (h.whenNot (fun h => (h.foldl fun _ _ h => h.tileFails).noteClocks.mk)).next

theorem execDramInitDone : s.Yields (execDramInitDone t) := (h.when (·.initMem)).next

theorem calibrated {coefs} : s.Evolves (t.calibrated coefs) := by
  unfold State.calibrated
  split
  exacts [h.mk.setB, h.setB.logErr]

theorem execCalibrationDone {coefs} : s.Yields (execCalibrationDone coefs t) := (h.when (·.calibrated.mk)).next

theorem loadTables : s.Evolves t.loadTables := (h.mk.ite h.mk.wr).foldl fun _ _ h => h.mk.setF.setB.setEntry

theorem loadConfig : s.Evolves t.loadConfig := h.foldl fun _ _ h => h.wr

theorem loadVpd : s.Evolves t.loadVpd := h.wr.wr.wr.wr

theorem trainAll : s.Evolves t.trainAll := by
  dsimp only [State.trainAll]
  refine .foldl ?_ fun _ _ h => ?_
  · refine .foldl h fun _ _ h => ?_
    exact h.when (·.portStart)
  · exact h.when (·.linkTrain)

theorem execRestoreDone : s.Yields (execRestoreDone t) :=
  (h.whenNot (fun h => (h.loadTables.loadConfig.loadVpd.noteParity.whenNot (·.setSpeed)).setB.setB.noteCap.trainAll)).next

theorem service {op action} {f : State → Op → State} (hf : ∀ u o, s.Evolves u → s.Evolves (f u o)) :
    s.Evolves (t.service op action f) := by
  unfold State.service
  split
  · exact h
  · split
    · exact h
    · split
      exacts [h.finishOp, hf _ _ h.traceStart]

theorem execServiceQuery {op} : s.Yields (execServiceQuery op t) := (h.service fun _ _ h => h.finishOp).next

theorem linksDown : s.Evolves t.linksDown := (h.foldl fun _ _ h => h.setPort).foldl fun _ _ h => h.setLink.setF

theorem setService {full} : s.Evolves (t.setService full) := h.setB.event

theorem execServiceRequestFull {op fast serdes retested calib} : s.Yields (execServiceRequestFull op fast serdes retested calib t) :=
  (h.service fun _ _ h => h.finishOp.ite (h.mk.finishOp.ite (((h.linksDown.mk.branch (·.setB) (·.calibrated)).setSpeed.when
      (·.setService)).finishOp.trainAll))).next

theorem execServiceHoldReduced {op} : s.Yields (execServiceHoldReduced op t) :=
  (h.service fun _ _ h => h.finishOp.ite (h.mk.finishOp.ite h.mk.linksDown.setSpeed.setService.finishOp.trainAll)).next

theorem execServiceSaveConfig {op} : s.Yields (execServiceSaveConfig op t) := (h.service fun _ _ h => h.mk.finishOp).next

theorem noteBreach : s.Evolves t.noteBreach := h.whenNot (·.mk.setB.event)

theorem execRosterSend : s.Yields (execRosterSend t) := (h.mk.foldl fun _ _ h => h.emit).next

theorem execRosterReceive {link r} : s.Yields (execRosterReceive link r t) :=
  (h.whenNot (·.whenNot (fun h => (h.mk.when (·.foldl fun _ _ h => h.whenNot (·.emit))).noteBreach))).next

theorem execCrewJoin : s.Yields (execCrewJoin t) := (h.when (·.mk.setB)).next

/-! ### Machine/Regs.lean -/

theorem accrued {page off} : s.Evolves (t.accrued page off) := h.cqStallCount.ite (h.when (·.stallCount))

theorem readWord {page off} : s.Evolves (t.readWord page off).2 := by
  dsimp only [State.readWord]
  split
  · exact h
  · split
    · exact h
    · exact h
    · exact h.accrued.wr
    · split
      · exact h.free
      · split
        exacts [h.when (·.wr), h]
    · split
      · exact h.free
      · split
        exacts [h.when (·.wr), h]
    · split
      · exact h.free
      · split
        exacts [h.when (·.wr), h]

theorem readWords {page off n} : s.Evolves (t.readWords page off n).2 := by
  induction n generalizing t off with
  | zero => exact h
  | succ n ih => exact ih h.readWord

theorem readRegs {page off words} : s.Evolves (t.readRegs page off words) := by
  unfold State.readRegs
  split
  exacts [h.emit, h.readWords.emit]

theorem execRcRead {page off words} : s.Yields (execRcRead page off words t) := h.readRegs.next

theorem execLoRead {page off words} : s.Yields (execLoRead page off words t) := h.readRegs.next

theorem writeCore {kind off idx v} : s.Evolves (t.writeCore kind off idx v) := by
  unfold State.writeCore
  split
  exacts [h.glbWarmReset, h.idleCtrlWrite, h.ccCtrlWrite, h.fnCtrlWrite, h.writePlain.ite h.quotaWrite, h.shareWrite, h.shareWrite,
    h.tqOwnerWrite, h.parRegWrite, h.parRegWrite, h.parRegWrite, h.parRegWrite, h.parLostClear, h.parDeclare, h.writePlain]

theorem writeLinks {kind off idx v} : s.Evolves (t.writeLinks kind off idx v) := by
  unfold State.writeLinks
  split
  exacts [h.netCtrlWrite, h.netShareWrite, h.netShareWrite, h.planArm, h.crwCtrlWrite, h.linkRetrain, h.epochWrite, h.crewIdWrite,
    h.when (·.writePlain), h.when (·.writePlain), h.capWrite, h.fmaxCtrlWrite, h.writePlain]

theorem writeManage {kind page off idx v} : s.Evolves (t.writeManage kind page off idx v) := by
  unfold State.writeManage
  split
  exacts [h.bindingWrite, h.bindingWrite, h.secErase, h.coreRestartWrite, h.bankCtrl, h.handoverWrite, h.dumpClear, h.freezeWrite,
    h.traceCtrlWrite, h.setPair, h.belvCtrlWrite, h.setPair, h.cntClear, h.tileCtrlWrite, h.injectWrite, h.retrainWrite, h.classSelWrite,
    h.writePlain]

theorem writePav {page fn off v} : s.Evolves (t.writePav page fn off v) := by
  unfold State.writePav
  split
  exacts [h.pavDoorbell, h.whenNot (·.writePlain), h.whenNot (·.setPair), h.evqCtrlWrite, h.evqSeenWrite, h.writePlain]

theorem writeRing {page fn r off v} : s.Evolves (t.writeRing page fn r off v) := by
  dsimp only [State.writeRing]
  split
  exacts [h.whenNot (·.writePlain), h.whenNot (·.setPair), h.ringCtrlWrite, h.ringDoorbell, h.resyncWrite, h.dcacheInv, h.setPair, h.cqCtrlWrite,
    h.hostSeenWrite, h.writePlain]

theorem writeWord {page off v} : s.Evolves (t.writeWord page off v) := by
  dsimp only [State.writeWord]
  split
  · split
    exacts [h.msixWrite, h]
  · split
    exacts [h.intStatusWrite, h.intEnableWrite, h.raiseInts, h.writeCore.ite (h.writeLinks.ite (h.writePav.ite (h.writeRing.ite h.writeManage)))]

theorem writeWords {page off data} : s.Evolves (t.writeWords page off data) := h.foldl fun _ _ h => h.writeWord.ite h.bump

theorem writePavPage {page off data} : s.Evolves (t.writePavPage page off data) :=
  h.writeWords.ite ((h.pavGo.ite h.bump).ite ((h.whenNot (·.writeWords)).when (·.pavSlotWrite)))

theorem execRegisterWrite {page off data} : s.Yields (execRegisterWrite page off data t) := (h.writePavPage.ite h.writeWords).next

/-! ### Machine/Dispatch.lean -/

theorem exec {i} : s.Yields (exec i t) := by
  unfold Machine.exec
  split
  exacts [h.execAuxEntry, h.execInputAccept, h.execBulkCharged, h.execRailGood, h.execOnEntry, h.execInputRelease, h.execInputLockout,
    h.execInputLockoutEnd, h.execRailGoodLost, h.execPwrdisRise, h.execPwrdisFall, h.execAuxLoss, h.execAuxRestore, h.execLowInput,
    h.execLowInputEnd, h.execHardwareTrip, h.execTripClear, h.execModResetAssert, h.execModResetRelease, h.execPerstAssert, h.execPerstRelease,
    h.execSmbusTimeout, h.execCrewFreezeStuck, h.execCrewFreezeClear, h.execCrewTimeLoss, h.execCrewTimeRestored, h.execCageI2cTimeout,
    h.execMctpMessage, h.execPldmFwUpdate, h.execPldmSensorRead, h.execMctpDumpRead, h.execMctpWarmReset, h.execHostLinkReset, h.execLinkTrained,
    h.execRefclkRetry, h.execLinkRecovery, h.execCcDisable, h.execCcWbInv, h.execCcWritebackDone, h.execSnoop, h.execMbxDoorbell, h.execMbxGo,
    h.execMbxSlotWrite, h.execPavilionTake, h.execEvqEnable, h.execEvqDisable, h.execEvqSeenWrite, h.execEventRecordWrite, h.execVisibleTimeRead,
    h.execProbePeriodic, h.execProbeReturn, h.execUnimplementedAccess, h.execIntStatusW1c, h.execIntSet, h.execRcRead, h.execLoRead,
    h.execRegisterWrite, h.execGlbWarmReset, h.execWarmResetRelease, h.execIdleRequestZ1, h.execIdleRequestZ2, h.execIdleExitRequest,
    h.execIdleMove, h.execIdleAuto, h.execIdleEntryDone, h.execWake, h.execIdleExitDone, h.execSelfRefreshExit, h.execClusterPowerUp,
    h.execRngDoorbell, h.execRingEnable, h.execRingDisable, h.execCqEnable, h.execCqDisable, h.execRingPause, h.execRingResume, h.execDcacheInv,
    h.execHostSeenWrite, h.execCqResync, h.execResyncSeqWrite, h.execDescriptorFetch, h.execFetchReturn, h.execDescriptorAdmit,
    h.execCompletionIssue, h.execCqModTimer, h.execTlbMiss, h.execTlbFill, h.execAtsCompletion, h.execAtsInvalidation, h.execFaultStallRelease,
    h.execPriRequest, h.execPriResponse, h.execPriTimeout, h.execMigrateOnFaultDone, h.execMap, h.execUnmap, h.execProtect, h.execMigrate,
    h.execAdvise, h.execQuotaWrite, h.execQuiesceStart, h.execQuiesceFlushEscalate, h.execQuiesceEnd, h.execQuiesced, h.execInstanceReset,
    h.execInstanceResetDone, h.execVfRemove, h.execWorkUnitDispatch, h.execTileBlock, h.execTileRetire, h.execTileRestore, h.execSelfTestDone,
    h.execCheckInject, h.execStretchInit, h.execAppend, h.execAttendDense, h.execAttendSelected, h.execSummarise, h.execTruncate,
    h.execPackWaitExpiry, h.execCtxShareWrite, h.execCopy, h.execWrite, h.execSend, h.execRead, h.execWindowSet, h.execWindowClose,
    h.execRecvPost, h.execQpModify, h.execNop, h.execTimestamp, h.execInvalidOpcode, h.execTriggerArm, h.execTriggerArmDone, h.execTriggerDisarm,
    h.execTriggerDisarmDone, h.execTriggerRunAdmit, h.execTqOwnerWrite, h.execScrubStep, h.execScrubWake, h.execOscillatorRead,
    h.execChannelRetrain, h.execMemRetrainRequest, h.execRetrainDone, h.execRefresh, h.execMemTempHot, h.execArbAgeExpiry, h.execClassSelWrite,
    h.execWritePacketReceive, h.execReadRequestReceive, h.execReconstructStaged, h.execStageExpiry, h.execReadResponderSend,
    h.execReadResponseReceive, h.execSendPacketReceive, h.execAckReceive, h.execNakReceive, h.execProbeReceive, h.execAckDelayTimer,
    h.execRetransmitTimeout, h.execHoldingEnd, h.execTrackerExpiry, h.execSendRecordExpiry, h.execPathProbe, h.execOrderedSendRelease,
    h.execCcPeriod, h.execRateIdleReset, h.execRateFloor, h.execCrewIdWrite, h.execQpPacketReceive, h.execNetModeWrite, h.execPortEnable,
    h.execPortTrainDone, h.execPortDown, h.execLaneFaultRetry, h.execFrameReceive, h.execPauseRepeat, h.execFrameTransmit, h.execShareWrite,
    h.execTimeSourceTimeout, h.execCrewTimeDrive, h.execCrewTimePulse, h.execTimeBlockReceive, h.execPlanSwitchArm, h.execPlanSwitch,
    h.execGateChange, h.execLinkEnable, h.execLinkRetrain, h.execLinkTrainDone, h.execLinkTrainRetry, h.execLaneExclude, h.execWidthChangeDone,
    h.execLinkTimeout, h.execControlBlockSend, h.execOzmenPacketReceive, h.execXoffRepeat, h.execOzmenTransmit, h.execXoffReceive,
    h.execHeadDrop, h.execEpochWrite, h.execTableXfer, h.execTableSave, h.execGroupSet, h.execGroupDelete, h.execHeat, h.execHeatAbort,
    h.execHeatDataReceive, h.execCreditReceive, h.execAbortReceive, h.execChunkSend, h.execChunkMerge, h.execHeatTimeout, h.execParitySync,
    h.execParityUnbind, h.execRecoverLandmarks, h.execRecoverBlocks, h.execRecoveryDone, h.execRescan, h.execRescanDone, h.execMemberLossDetect,
    h.execParDeclare, h.execParWithdraw, h.execParLostClear, h.execParCtrlWrite, h.execBurstRewrite, h.execSramPatrol, h.execPowerModelTick,
    h.execCapControlTick, h.execClockStep, h.execRailReached, h.execTrimTick, h.execModelStale, h.execModelStaleClear, h.execPhaseUpdate,
    h.execClusterIdleTimer, h.execDroopDetect, h.execDroopEnd, h.execDroopLong, h.execFmaxRetrain, h.execFmaxStart, h.execFmaxTileTestDone,
    h.execThermalCapTick, h.execDramThrottleTick, h.execPaceLapse, h.execCapWrite, h.execMctpCap, h.execInletHot, h.execCoreCrash,
    h.execWatchdogExpiry, h.execCoreRestartDone, h.execCoreRestartWrite, h.execBankActivate, h.execBankCommit, h.execBankCheck,
    h.execHandoverStart, h.execHandoverCoreDone, h.execDumpWrite, h.execDumpRead, h.execDumpClear, h.execSpdmRequest, h.execKeySet,
    h.execKeyErase, h.execKeyQuery, h.execDebugNonce, h.execDebugUnlock, h.execDebugLock, h.execDebugModuleAccess, h.execAttestCertReady,
    h.execSecurityAlarm, h.execSecEraseWrite, h.execBindingWrite, h.execCntClearAll, h.execCntClearOne, h.execFreeze, h.execFreezeRelease,
    h.execCrewFreezeFall, h.execMctpFreeze, h.execCrewFreezePulseEnd, h.execTraceSpill, h.execBelvedereCapture, h.execCaptureDone,
    h.execHangDetect, h.execDebugRead, h.execInternalBootDone, h.execMemoryTrainingDone, h.execSerdesCalDone, h.execTileSelftestDone,
    h.execDramInitDone, h.execCalibrationDone, h.execRestoreDone, h.execServiceQuery, h.execServiceRequestFull, h.execServiceHoldReduced,
    h.execServiceSaveConfig, h.execRosterSend, h.execRosterReceive, h.execCrewJoin, h.execInputReversed, h.execCagePresentChange,
    h.execAlarmClear, h.execCoefficientSave, h.execMsiXUnmask, h.execIntEnableWrite, h.execPauseQuantaExpiry, h.execMemTempNormal]

/-! ### Machine/Step.lean -/

theorem step : s.Yields (step t) := by
  unfold Machine.step
  split
  exacts [h.tick.next, h.mk.exec]

end State.Evolves
end Sys2Proof.Machine
end

section
/-! ## The statements -/

namespace Sys2Proof.Machine
open Sys2Proof

/-! ### Every command, every step -/

/-- Each way to evolve keeps the canonical form, by the laws of tables. -/
theorem State.Evolves.canonical {s t : State} (h : s.Evolves t) (hs : s.Canonical) : t.Canonical := by
  induction h with
  | refl => exact hs
  | wr _ ih =>
    obtain ⟨hm, hr⟩ := ih
    exact ⟨hm, Registers.wf_wr _ _ _ hr⟩
  | keepRegs _ ih =>
    obtain ⟨hm, hr⟩ := ih
    exact ⟨hm, Tab.wf_filter _ _ _ hr⟩
  | setDram _ ih =>
    obtain ⟨hm, hr⟩ := ih
    exact ⟨Memory.wf_setDram _ _ _ hm, hr⟩
  | dropMem _ ih =>
    obtain ⟨hm, hr⟩ := ih
    exact ⟨Tab.wf_filter _ _ _ hm, hr⟩
  | initMem _ ih =>
    obtain ⟨-, hr⟩ := ih
    exact ⟨rfl, hr⟩
  | frame _ hregs hmem hinit ih =>
    obtain ⟨hm, hr⟩ := ih
    exact ⟨Memory.wf_told hmem hinit hm, (congrArg (Tab.wf regDefault) hregs).trans hr⟩

theorem exec_yields (s : State) (c : Instr) : s.Yields (exec c s) := State.Evolves.refl.exec

theorem step_yields (s : State) : s.Yields (step s) := State.Evolves.refl.step

theorem evolves_of_step {s t : State} (h : step s = .next t) : s.Evolves t := by
  obtain ⟨u, hu, he⟩ := step_yields s
  obtain rfl : u = t := by injection hu.symm.trans h
  exact he

/-- Settles O3: whatever the command, its meaning answers a next state. -/
theorem everyCommandAnswersNext : Obligations.EveryCommandAnswersNext := by
  intro s c
  obtain ⟨t, ht, -⟩ := exec_yields s c
  exact ⟨t, ht⟩

/-- Settles O6: a step evolves the state, and evolving keeps the canonical form. -/
theorem stepKeepsCanonical : Obligations.StepKeepsCanonical :=
  fun _ _ hs hstep => (evolves_of_step hstep).canonical hs

/-- Settles O5: no register and no byte is listed at reset. -/
theorem resetIsCanonical : Obligations.ResetIsCanonical := ⟨Memory.wf_reset, Registers.wf_reset⟩

/-! ### The idle step -/

theorem step_of_pending_nil {s : State} (h : s.pending = []) : step s = .next s.tick := by rw [step, h]

theorem only_clocks (s : State) (u d : Nat) (n : Net) : Only [.uptime, .devTime, .net] s { s with uptime := u, devTime := d, net := n } := by
  refine ⟨rfl, fun p hp => ?_⟩
  cases p with
  | uptime | devTime | net => exact absurd (by decide) hp
  | regs | mem => exact fun _ => rfl
  | _ => rfl

/-- The number of device nanoseconds, in units of 10^-9, that one nanosecond of uptime brings (R392). -/
def State.tickNanos (s : State) : Nat := (s.net.rem + 1000000000 + sx 32 (s.rd R.NET_TIME_RATE).toNat).toNat

theorem tick_of_dieUp {s : State} (h : s.dieUp = true) :
    s.tick = { s with uptime := s.uptime + 1, devTime := (s.devTime + s.tickNanos / 1000000000) % 2 ^ 64,
                      net := { s.net with rem := s.tickNanos % 1000000000 } } :=
  if_pos h

theorem tick_of_dieDown {s : State} (h : s.dieUp = false) : s.tick = { s with uptime := s.uptime + 1 } :=
  if_neg (Bool.eq_false_iff.1 h)

theorem tickNanos_of_rate_zero {s : State} (h : s.rd R.NET_TIME_RATE = 0) : s.tickNanos = s.net.rem + 1000000000 := by
  simp [State.tickNanos, h, sx]
  omega

theorem uptime_tick (s : State) : s.tick.uptime = s.uptime + 1 := by
  cases h : s.dieUp with
  | true => rw [tick_of_dieUp h]
  | false => rw [tick_of_dieDown h]

theorem only_tick (s : State) : Only [.uptime, .devTime, .net] s s.tick := by
  cases h : s.dieUp with
  | true => exact tick_of_dieUp h ▸ only_clocks ..
  | false => exact tick_of_dieDown h ▸ only_clocks s _ s.devTime s.net

/-- Settles O2: with no command waiting a step is `State.tick`. -/
theorem idleStepLetsTimePass : Obligations.IdleStepLetsTimePass := by
  intro s hp
  refine ⟨s.tick, step_of_pending_nil hp, uptime_tick s, ?_, ?_, only_tick s⟩
  · rintro ⟨hup, hrate, hrem⟩
    have hone : s.tickNanos / 1000000000 = 1 := by rw [tickNanos_of_rate_zero hrate]; omega
    rw [tick_of_dieUp hup, hone]
  · intro hdown
    rw [tick_of_dieDown hdown]
    exact ⟨rfl, rfl⟩

/-! ### Bytes -/

theorem length_drams (s : State) (p n : Nat) : (s.drams p n).length = n := by simp [State.drams]

theorem drams_setDrams (s : State) (p : Nat) (l : List Byte) : (s.setDrams p l).drams p l.length = l := by
  refine List.ext_getElem (by rw [length_drams]) fun i _ hi => ?_
  simp only [State.drams, List.getElem_map, List.getElem_range]
  exact s.dram_setDrams_in p l i hi

theorem memBut_setDrams (s : State) (p : Nat) (l : List Byte) : MemBut p l.length s (s.setDrams p l) :=
  fun q hq => s.dram_setDrams_out p q l hq

theorem leNat_leBytes (n x : Nat) : leNat (leBytes n x) = x % 256 ^ n := by
  induction n generalizing x with
  | zero => rw [leBytes, leNat, Nat.pow_zero, Nat.mod_one]
  | succ n ih =>
    calc leNat (leBytes (n + 1) x) = x % 256 + 256 * (x / 256 % 256 ^ n) := by rw [leBytes, leNat, ih, BitVec.toNat_ofNat]
      _ = x % 256 ^ (n + 1) := by rw [Nat.pow_succ', Nat.mod_mul]

theorem getElem?_leBytes {n x i : Nat} (h : i < n) : (leBytes n x)[i]? = some (BitVec.ofNat 8 (x / 256 ^ i)) := by
  induction n generalizing x i with
  | zero => omega
  | succ n ih =>
    cases i with
    | zero => rw [leBytes, List.getElem?_cons_zero, Nat.pow_zero, Nat.div_one]
    | succ i => rw [leBytes, List.getElem?_cons_succ, ih (by omega), Nat.pow_succ', Nat.div_div_eq_div_mul]

/-- Settles O8: by the laws of `setDrams`, and by induction on the number of bytes. -/
theorem bytesReadBack : Obligations.BytesReadBack :=
  ⟨fun s p l => ⟨drams_setDrams s p l, memBut_setDrams s p l⟩,
    fun n x => ⟨leNat_leBytes n x, fun _ hi => getElem?_leBytes (List.mem_range.1 hi)⟩⟩

end Sys2Proof.Machine
end

section
/-! ### The step that takes a command -/

namespace Sys2Proof.Machine
open Sys2Proof

theorem step_of_pending_cons {s : State} {c : Instr} {r : List Instr} (h : s.pending = c :: r) :
    step s = exec c { s with pending := r } := by
  rw [step, h]

/-- Settles O1: the front of the queue is `c`, and putting `r` in its place forgets the queue `c :: r`. The queue is the model's
choice (log entry 1). -/
theorem stepRunsFrontCommand : Obligations.StepRunsFrontCommand := by
  intro s c r
  have hfront : { s with pending := c :: r }.pending = c :: r := rfl
  exact step_of_pending_cons hfront

end Sys2Proof.Machine
end

section
/-! PROOFS of the statements of 02_module_hardware. Each operation of the module's power states (`tryRamp`, `powerDown`, `logFault`) has one equation that says
what it can change; the power sequences (O16, O17) follow. -/

namespace Sys2Proof.Machine
open Sys2Proof

/-! ## Changes of one part -/

theorem Only.of_hw (s : State) (h : ModuleHw) : Only [.hw] s { s with hw := h } := by
  refine ⟨rfl, fun p hp => ?_⟩
  cases p with
  | hw => exact absurd (by decide) hp
  | regs | mem => exact fun _ => rfl
  | _ => rfl

theorem Only.of_out (s : State) (o : List Out) : Only [.out] s { s with out := o } := by
  refine ⟨rfl, fun p hp => ?_⟩
  cases p with
  | out => exact absurd (by decide) hp
  | regs | mem => exact fun _ => rfl
  | _ => rfl

theorem Only.of_hw_out (s : State) (h : ModuleHw) (o : List Out) : Only [.hw, .out] s { s with hw := h, out := o } :=
  ((Only.of_hw s h).mono (by decide)).trans ((Only.of_out _ o).mono (by decide))

theorem Only.of_dbg (s : State) (d : Dbg) : Only [.dbg] s { s with dbg := d } := by
  refine ⟨rfl, fun p hp => ?_⟩
  cases p with
  | dbg => exact absurd (by decide) hp
  | regs | mem => exact fun _ => rfl
  | _ => rfl

theorem Only.of_free (s : State) : Only [.freeCtr] s s.free.2 := by
  refine ⟨rfl, fun p hp => ?_⟩
  cases p with
  | freeCtr => exact absurd (by decide) hp
  | regs | mem => exact fun _ => rfl
  | _ => rfl

theorem Only.of_wr (s : State) (k : Nat) (v : Word) : Only [.regs] s (s.wr k v) := by
  refine ⟨rfl, fun p hp => ?_⟩
  cases p with
  | regs => exact absurd (by decide) hp
  | mem => exact fun _ => rfl
  | _ => rfl

/-! ## Changes that may tell an event beside -/

theorem TellsIn.trans {l : List Field} {ks : List Nat} {a b c : State} (h : TellsIn l ks a b) (h' : TellsIn l ks b c) : TellsIn l ks a c :=
  ⟨h.1.trans h'.1, fun k hk hn => (h'.2 k hk hn).trans (h.2 k hk hn)⟩

theorem TellsIn.mono {l m : List Field} {ks js : List Nat} {s t : State} (h : TellsIn l ks s t) (hl : l ⊆ m) (hk : ks ⊆ js) : TellsIn m js s t :=
  ⟨h.1.mono fun _ hp => (List.mem_append.1 hp).elim (List.mem_append_left _) fun hp => List.mem_append_right _ (hl hp),
    fun k ht hn => h.2 k ht fun hm => hn (hk hm)⟩

theorem Told.tellsIn {s t : State} (h : Told s t) (l : List Field) (ks : List Nat) : TellsIn l ks s t :=
  ⟨h.1.mono fun _ hp => List.mem_append_left _ hp, fun k hk _ => h.2 k hk⟩

theorem Only.tellsIn {s t : State} {l : List Field} (h : Only l s t) (ks : List Nat) (hr : ∀ k, t.rd k = s.rd k) : TellsIn l ks s t :=
  ⟨h.mono fun _ hp => List.mem_append_right _ hp, fun k _ _ => hr k⟩

theorem TellsIn.same {l : List Field} {ks : List Nat} {s t : State} (h : TellsIn l ks s t) {p : Field} (hp : p ∉ telling ++ l) : p.Same s t :=
  h.1.2 p hp

theorem TellsIn.rd_eq {l : List Field} {ks : List Nat} {s t : State} (h : TellsIn l ks s t) {k : Nat} (ht : tellKey k = false) (hk : k ∉ ks) :
    t.rd k = s.rd k :=
  h.2 k ht hk

theorem TellsIn.of_wr (s : State) (k : Nat) (v : Word) (l : List Field) : TellsIn l [k] s (s.wr k v) :=
  ⟨(Only.of_wr s k v).mono (by simp [telling]), fun j _ hj => s.rd_wr_ne v (fun h => hj (List.mem_singleton.2 h))⟩

theorem Told.hw_eq {s t : State} (h : Told s t) : t.hw = s.hw := h.1.2 .hw (by decide)

/-! ## The start of the rails (R51) -/

/-- R51: what AUX needs for the rails to start. -/
structure State.RampReady (s : State) : Prop where
  aux : s.hw.power = .aux
  accepted : s.hw.inputOk = true
  noLockout : s.hw.lockout = false
  allowed : s.hw.pwrdis = false
  noLatch : s.hw.thermalLatch = []

theorem tryRamp_of_ready {s : State} (h : s.RampReady) :
    s.tryRamp = { s with hw := { s.hw with power := .ramp, bulk := false, railsGood := 0 } } := by
  obtain ⟨hp, hi, hl, hd, ht⟩ := h
  simp [State.tryRamp, hp, hi, hl, hd, ht]

theorem tryRamp_of_not_ready {s : State} (h : ¬ s.RampReady) : s.tryRamp = s := by
  refine if_neg fun hc => h ?_
  simp only [Bool.and_eq_true, Bool.not_eq_true', decide_eq_true_eq, List.isEmpty_iff, and_assoc] at hc
  obtain ⟨hp, hi, hl, hd, ht⟩ := hc
  exact ⟨hp, hi, hl, hd, ht⟩

/-- `tryRamp` changes the power state and the rails alone. -/
theorem tryRamp_eq (s : State) :
    s.tryRamp = { s with hw := { s.hw with power := s.tryRamp.hw.power, bulk := s.tryRamp.hw.bulk, railsGood := s.tryRamp.hw.railsGood } } := by
  by_cases h : s.RampReady
  · rw [tryRamp_of_ready h]
  · rw [tryRamp_of_not_ready h]

theorem tryRamp_hw (s : State) :
    s.tryRamp.hw = { s.hw with power := s.tryRamp.hw.power, bulk := s.tryRamp.hw.bulk, railsGood := s.tryRamp.hw.railsGood } :=
  congrArg State.hw (tryRamp_eq s)

theorem only_tryRamp (s : State) : Only [.hw] s s.tryRamp := tryRamp_eq s ▸ Only.of_hw s _

@[simp] theorem tryRamp_auxIn (s : State) : s.tryRamp.hw.auxIn = s.hw.auxIn := by rw [tryRamp_hw]
@[simp] theorem tryRamp_inputOk (s : State) : s.tryRamp.hw.inputOk = s.hw.inputOk := by rw [tryRamp_hw]
@[simp] theorem tryRamp_lockout (s : State) : s.tryRamp.hw.lockout = s.hw.lockout := by rw [tryRamp_hw]
@[simp] theorem tryRamp_pwrdis (s : State) : s.tryRamp.hw.pwrdis = s.hw.pwrdis := by rw [tryRamp_hw]
@[simp] theorem tryRamp_smbAddr (s : State) : s.tryRamp.hw.smbAddr = s.hw.smbAddr := by rw [tryRamp_hw]
@[simp] theorem tryRamp_faultLog (s : State) : s.tryRamp.hw.faultLog = s.hw.faultLog := by rw [tryRamp_hw]
@[simp] theorem tryRamp_thermalLatch (s : State) : s.tryRamp.hw.thermalLatch = s.hw.thermalLatch := by rw [tryRamp_hw]

theorem tryRamp_power_of_ready {s : State} (h : s.RampReady) : s.tryRamp.hw.power = .ramp := by rw [tryRamp_of_ready h]

theorem tryRamp_power_of_not_ready {s : State} (h : ¬ s.RampReady) : s.tryRamp.hw.power = s.hw.power := by rw [tryRamp_of_not_ready h]

/-- With the input accepted and no lockout, what is left of `RampReady` is AUX, PWRDIS low and nothing latched. -/
theorem tryRamp_power_of_input {s : State} (hi : s.hw.inputOk = true) (hl : s.hw.lockout = false) :
    s.tryRamp.hw.power = if s.hw.power = .aux ∧ s.hw.pwrdis = false ∧ s.hw.thermalLatch = [] then .ramp else s.hw.power := by
  split
  · next h =>
    obtain ⟨hp, hd, ht⟩ := h
    exact tryRamp_power_of_ready ⟨hp, hi, hl, hd, ht⟩
  · next h => exact tryRamp_power_of_not_ready fun hr => h ⟨hr.aux, hr.allowed, hr.noLatch⟩

/-- In AUX with nothing latched the rails start as the 48 V input and PWRDIS allow. -/
theorem tryRamp_power_of_aux {s : State} (hp : s.hw.power = .aux) (ht : s.hw.thermalLatch = []) :
    s.tryRamp.hw.power = if s.hw.inputOk && !s.hw.lockout && !s.hw.pwrdis then .ramp else .aux := by
  split
  · next h =>
    simp only [Bool.and_eq_true, Bool.not_eq_true', and_assoc] at h
    obtain ⟨hi, hl, hd⟩ := h
    exact tryRamp_power_of_ready ⟨hp, hi, hl, hd, ht⟩
  · next h =>
    refine (tryRamp_power_of_not_ready fun hr => h ?_).trans hp
    simp [hr.accepted, hr.noLockout, hr.allowed]

theorem tryRamp_rails_of_power_ne {s : State} (h : s.tryRamp.hw.power ≠ s.hw.power) :
    s.tryRamp.hw.bulk = false ∧ s.tryRamp.hw.railsGood = 0 := by
  by_cases hr : s.RampReady
  · rw [tryRamp_of_ready hr]
    exact ⟨rfl, rfl⟩
  · exact absurd (tryRamp_power_of_not_ready hr) h

theorem tryRamp_rails_of_power_eq {s : State} (h : s.tryRamp.hw.power = s.hw.power) :
    s.tryRamp.hw.bulk = s.hw.bulk ∧ s.tryRamp.hw.railsGood = s.hw.railsGood := by
  by_cases hr : s.RampReady
  · rw [tryRamp_power_of_ready hr, hr.aux] at h
    cases h
  · rw [tryRamp_of_not_ready hr]
    exact ⟨rfl, rfl⟩

/-! ## Pins and the die -/

theorem cagesHeld_eq (s : State) : ∃ out, s.cagesHeld = { s with out := out } :=
  List.foldlRecOn (motive := fun t => ∃ out, t = { s with out := out }) _ _ ⟨_, rfl⟩ fun _ ht c _ => by
    obtain ⟨out, rfl⟩ := ht
    exact ⟨_, rfl⟩

theorem ledsOff_eq (s : State) : ∃ out led, s.ledsOff = { s with out := out, hw := { s.hw with ledOn := led } } :=
  List.foldlRecOn (motive := fun t => ∃ out led, t = { s with out := out, hw := { s.hw with ledOn := led } }) _ _ ⟨_, _, rfl⟩ fun _ ht c _ => by
    obtain ⟨out, led, rfl⟩ := ht
    exact ⟨_, _, rfl⟩

/-- What the die has lost stays lost whatever the pins, the flash and the always-on domain hold. -/
theorem dieCold_dieCleared (s : State) (o : List Out) (f : Flash) (h : ModuleHw) :
    DieCold { s.dieCleared with out := o, flash := f, hw := h } :=
  ⟨fun _ => rfl, rfl, rfl, rfl, rfl, rfl, rfl, rfl, rfl, rfl, rfl, rfl, rfl, rfl, rfl, rfl, rfl, rfl, rfl, rfl, rfl, rfl, rfl, rfl⟩

/-! ## Leaving ON or RAMP (R52) -/

theorem powerDown_eq (s : State) (goal : PowerState) :
    ∃ out led, s.powerDown goal = { s.dieCleared with
      out := out, flash := s.updateCut.flash,
      hw := { s.hw with
        power := if s.hw.auxIn then goal else .dark, bulk := false, railsGood := 0, pwrgd := false, dieHeld := false, warm := none,
        lowInput := false, cageSuspended := [], ledOn := led, lastOn := s.onSecond, mctpHeld := [] } } := by
  have hpins : ∃ out, (if s.hw.pwrgd then s.emit (.pin "PWRGD" false) else s) = { s with out := out } := by
    split
    exacts [⟨_, rfl⟩, ⟨_, rfl⟩]
  obtain ⟨o1, h1⟩ := hpins
  obtain ⟨o2, led, h2⟩ := ledsOff_eq { s with out := o1 }
  obtain ⟨o3, h3⟩ := cagesHeld_eq { s with out := o2, flash := s.updateCut.flash, hw := { s.hw with ledOn := led } }
  unfold State.powerDown
  rw [h1, h2]
  cases ha : s.hw.auxIn with
  | true =>
    refine ⟨o3, led, ?_⟩
    simp only [State.updateCut, ha, if_true] at h3 ⊢
    rw [h3]
    rfl
  | false =>
    refine ⟨o2, led, ?_⟩
    simp only [State.updateCut, ha]
    rfl

section
variable (s : State) (goal : PowerState)

theorem powerDown_dieCold : DieCold (s.powerDown goal) := by
  obtain ⟨out, led, h⟩ := powerDown_eq s goal
  exact h ▸ dieCold_dieCleared s _ _ _

@[simp] theorem powerDown_pending : (s.powerDown goal).pending = s.pending := by
  obtain ⟨out, led, h⟩ := powerDown_eq s goal
  rw [h]; rfl

@[simp] theorem powerDown_flash :
    (s.powerDown goal).flash = { s.flash with banks := s.flash.banks.mapv (fun _ b => b.cutOff) } := by
  obtain ⟨out, led, h⟩ := powerDown_eq s goal
  rw [h]; rfl

/-- What `powerDown` leaves of the module hardware. -/
theorem powerDown_hw : (s.powerDown goal).hw = { s.hw with
    power := if s.hw.auxIn then goal else .dark, bulk := false, railsGood := 0, pwrgd := false, dieHeld := false, warm := none,
    lowInput := false, cageSuspended := [], ledOn := (s.powerDown goal).hw.ledOn, lastOn := s.onSecond, mctpHeld := [] } := by
  obtain ⟨out, led, h⟩ := powerDown_eq s goal
  rw [h]

@[simp] theorem powerDown_power : (s.powerDown goal).hw.power = if s.hw.auxIn then goal else .dark := by rw [powerDown_hw]
@[simp] theorem powerDown_pwrgd : (s.powerDown goal).hw.pwrgd = false := by rw [powerDown_hw]
@[simp] theorem powerDown_railsGood : (s.powerDown goal).hw.railsGood = 0 := by rw [powerDown_hw]
@[simp] theorem powerDown_auxIn : (s.powerDown goal).hw.auxIn = s.hw.auxIn := by rw [powerDown_hw]
@[simp] theorem powerDown_inputOk : (s.powerDown goal).hw.inputOk = s.hw.inputOk := by rw [powerDown_hw]
@[simp] theorem powerDown_lockout : (s.powerDown goal).hw.lockout = s.hw.lockout := by rw [powerDown_hw]
@[simp] theorem powerDown_pwrdis : (s.powerDown goal).hw.pwrdis = s.hw.pwrdis := by rw [powerDown_hw]
@[simp] theorem powerDown_inputFaultSeen : (s.powerDown goal).hw.inputFaultSeen = s.hw.inputFaultSeen := by rw [powerDown_hw]
@[simp] theorem powerDown_faultLog : (s.powerDown goal).hw.faultLog = s.hw.faultLog := by rw [powerDown_hw]
@[simp] theorem powerDown_thermalLatch : (s.powerDown goal).hw.thermalLatch = s.hw.thermalLatch := by rw [powerDown_hw]

/-- R52: PWRGD is low, no rail is good, the die and DRAM hold nothing, and an update was cut off (R60). -/
theorem powerDown_leaves :
    (s.powerDown goal).hw.pwrgd = false ∧ (s.powerDown goal).hw.railsGood = 0 ∧ DieCold (s.powerDown goal) ∧
    (s.powerDown goal).flash = { s.flash with banks := s.flash.banks.mapv (fun _ b => b.cutOff) } ∧
    (s.powerDown goal).pending = s.pending :=
  ⟨powerDown_pwrgd s goal, powerDown_railsGood s goal, powerDown_dieCold s goal, powerDown_flash s goal, powerDown_pending s goal⟩

end

/-! ## The fault log (R57) -/

/-- The always-on domain with one entry more in the fault log, and these events awaiting collection. -/
def ModuleHw.faulted (h : ModuleHw) (c : FaultCause) (time : Nat) (al : List MgmtEvent) : ModuleHw :=
  { h with alerts := al, faultLog := h.faultLog ++ [⟨c, time⟩] }

/-- R57: an entry of the fault log, announced by SMB_ALERT# (log entry 113). -/
theorem logFault_eq (s : State) (c : FaultCause) : ∃ out al, s.logFault c = { s with out := out, hw := s.hw.faulted c s.onSecond al } := by
  unfold State.logFault State.alert
  split
  exacts [⟨_, _, rfl⟩, ⟨_, _, rfl⟩]

theorem powered_iff {s : State} : s.powered = true ↔ s.hw.power = .on ∨ s.hw.power = .ramp := by
  simp [State.powered]

/-! ## Faults of the input and of a rail (R47, R51, R63) -/

/-- The always-on domain as a lockout of the input leaves it. -/
def ModuleHw.lockedOut (h : ModuleHw) : ModuleHw := { h with lockout := true, inputOk := false, inputFaultSeen := true }

/-- The always-on domain as a reversed input leaves it. -/
def ModuleHw.reversed (h : ModuleHw) : ModuleHw := { h with inputOk := false, lowInput := false, inputFaultSeen := true }

/-- R47, R63: a lockout is entered in the fault log, which runs on 3.3 V auxiliary. -/
theorem exec_inputLockout {s : State} (h : s.hw.power ≠ .dark) : ∃ t out al,
    exec .inputLockout s = .next (if s.powered then t.powerDown .aux else t) ∧
    t = { s with out := out, hw := s.hw.lockedOut.faulted .overVoltage s.onSecond al } := by
  obtain ⟨out, al, hlog⟩ := logFault_eq { s with hw := s.hw.lockedOut } .overVoltage
  refine ⟨_, out, al, ?_, hlog⟩
  show execInputLockout s = _
  simp only [execInputLockout, if_neg h]
  rfl

/-- R63: a reversed input is entered in the fault log. -/
theorem exec_inputReversed {s : State} (h : s.hw.power ≠ .dark) : ∃ t out al,
    exec .inputReversed s = .next (if s.powered then t.powerDown .aux else t) ∧
    t = { s with out := out, hw := s.hw.reversed.faulted .reversed s.onSecond al } := by
  obtain ⟨out, al, hlog⟩ := logFault_eq { s with hw := s.hw.reversed } .reversed
  refine ⟨_, out, al, ?_, hlog⟩
  show execInputReversed s = _
  simp only [execInputReversed, if_neg h]
  rfl

/-- R51, R52: a rail that was good and is lost. -/
theorem exec_railGoodLost {s : State} {rail : Nat} (hr : rail < 10) (h : s.hw.power = .on ∨ (s.hw.power = .ramp ∧ rail < s.hw.railsGood)) :
    ∃ out al, exec (.railGoodLost rail) s =
      .next ({ s with out := out, hw := s.hw.faulted (.railLost rail) s.onSecond al }.powerDown .fault) := by
  obtain ⟨out, al, hlog⟩ := logFault_eq s (.railLost rail)
  have hc : (rail < 10 && (s.hw.power = .on || (s.hw.power = .ramp && rail < s.hw.railsGood))) = true := by simpa [hr] using h
  exact ⟨out, al, hlog ▸ congrArg Host.Outcome.next (if_pos hc)⟩

/-! ## Trips (R53, R57) -/

/-- R53: what a trip makes of the thermal latch. -/
def latchTrip (l : List Nat) (i : Nat) : List Nat := if thermalSensor i && i ∉ l then l ++ [i] else l

theorem mem_latchTrip {l : List Nat} {i : Nat} (h : thermalSensor i = true) : i ∈ latchTrip l i := by
  by_cases hm : i ∈ l <;> simp [latchTrip, h, hm]

theorem latchTrip_of_not_thermal {l : List Nat} {i : Nat} (h : thermalSensor i = false) : latchTrip l i = l := by
  simp [latchTrip, h]

theorem thermalSensor_iff {i : Nat} : thermalSensor i = true ↔ 2 ≤ i ∧ i ≤ 26 := by simp [thermalSensor]

theorem exec_hardwareTrip {s : State} {i : Nat} (hp : s.powered = true) (hi : (2 ≤ i ∧ i ≤ 26) ∨ (31 ≤ i ∧ i ≤ 37)) :
    ∃ out al, exec (.hardwareTrip i) s = .next ({ s with
      out := out,
      hw := { s.hw.faulted (.trip i) s.onSecond al with thermalLatch := latchTrip s.hw.thermalLatch i } }.powerDown .fault) := by
  obtain ⟨out, al, hlog⟩ := logFault_eq s (.trip i)
  have hc : (s.powered && (thermalSensor i || (31 ≤ i && i ≤ 37))) = true := by simpa [hp, thermalSensor_iff] using hi
  refine ⟨out, al, congrArg Host.Outcome.next ((if_pos hc).trans ?_)⟩
  rw [hlog]
  refine congrArg (State.powerDown · .fault) ?_
  by_cases hl : (thermalSensor i && i ∉ s.hw.thermalLatch) = true
  · rw [latchTrip, if_pos hl]
    exact if_pos hl
  · rw [latchTrip, if_neg hl]
    exact if_neg hl

/-! ## The power sequences -/

/-- The always-on domain at entry to AUX: the straps are sampled, and a thermal latch keeps FAULT (R39, R51, R53). -/
def ModuleHw.auxEntered (h : ModuleHw) (a1 a0 : Bool) : ModuleHw :=
  { h with power := if h.thermalLatch.isEmpty then .aux else .fault, auxIn := true, smbAddr := 0x64 + 2 * b2n a1 + b2n a0 }

theorem exec_auxEntry {s : State} (h : s.hw.power = .dark) (a1 a0 : Bool) :
    ∃ out, exec (.auxEntry a1 a0) s = .next { s with out := out, hw := s.hw.auxEntered a1 a0 }.tryRamp := by
  obtain ⟨out, hc⟩ := cagesHeld_eq { s with hw := s.hw.auxEntered a1 a0 }
  have hx : exec (.auxEntry a1 a0) s = .next (if s.hw.alerts.isEmpty then { s with hw := s.hw.auxEntered a1 a0 }.cagesHeld
      else { s with hw := s.hw.auxEntered a1 a0 }.cagesHeld.emit (.pin "SMB_ALERT#" false)).tryRamp :=
    congrArg Host.Outcome.next (if_pos h)
  rw [hx, hc]
  split
  exacts [⟨_, rfl⟩, ⟨_, rfl⟩]

theorem auxEntered_power (s : State) (a1 a0 : Bool) (out : List Out) :
    { s with out := out, hw := s.hw.auxEntered a1 a0 }.tryRamp.hw.power =
      if s.hw.thermalLatch ≠ [] then .fault else if s.hw.inputOk && !s.hw.lockout && !s.hw.pwrdis then .ramp else .aux := by
  by_cases ht : s.hw.thermalLatch = []
  · have hp : (s.hw.auxEntered a1 a0).power = .aux := if_pos (by simp [ht])
    rw [if_neg (not_not.2 ht)]
    exact tryRamp_power_of_aux hp ht
  · have hp : (s.hw.auxEntered a1 a0).power = .fault := if_neg (by simp [ht])
    rw [if_pos ht]
    have hn : ¬ { s with out := out, hw := s.hw.auxEntered a1 a0 }.RampReady := fun hr => ht hr.noLatch
    exact (tryRamp_power_of_not_ready hn).trans hp

/-- R51, R55, R43: ON as it is entered: PWRGD is high, the die starts from power-on reset, held while MOD_RESET# is low, and MEMBER_ID is sampled. -/
def State.onEntered (s : State) (straps : Nat) : State :=
  { s.dieCleared with
    out := .pin "PWRGD" true :: s.out,
    hw := { s.hw with power := .on, pwrgd := true, dieHeld := s.hw.modResetLow, inputFaultSeen := false } }.wr R.GLB_MEMBER (word (straps % 8))

theorem tellsIn_onEntered (s : State) (straps : Nat) : TellsIn [.hw] [R.GLB_MEMBER] s.dieCleared (s.onEntered straps) := by
  have hon := Only.of_hw_out s.dieCleared { s.hw with power := .on, pwrgd := true, dieHeld := s.hw.modResetLow, inputFaultSeen := false }
    (.pin "PWRGD" true :: s.out)
  have htold : TellsIn [.hw] [R.GLB_MEMBER] s.dieCleared _ := ⟨hon.mono (by decide), fun _ _ _ => rfl⟩
  exact htold.trans (TellsIn.of_wr ..)

/-- An input fault recorded meanwhile raises its event (R63, R94). -/
theorem exec_onEntry {s : State} (hp : s.hw.power = .ramp) (hr : s.hw.railsGood = 10) (straps : Nat) :
    ∃ t, exec (.onEntry straps) s = .next t ∧ TellsIn [.freeCtr] [] (s.onEntered straps) t := by
  refine ⟨_, congrArg Host.Outcome.next (if_pos (by simp [hp, hr])), ?_⟩
  show TellsIn [.freeCtr] [] (s.onEntered straps) (if s.hw.inputFaultSeen then
    (s.onEntered straps).free.2.event 0 pPWR 0x0005 4 clsPower 0 0 ((s.onEntered straps).free.1 % 2 ^ 32) 0 else s.onEntered straps)
  split
  · have hfree : TellsIn [.freeCtr] [] (s.onEntered straps) (s.onEntered straps).free.2 := (Only.of_free _).tellsIn _ fun _ => rfl
    exact hfree.trans ((Told.event _ _ _ _ _ _ _ _ _ _ (by decide)).tellsIn _ _)
  · exact (Told.refl _).tellsIn _ _

/-- The always-on domain as PWRDIS falls: after 100 ms FAULT without a thermal latch is left for AUX (R53). -/
def ModuleHw.pwrdisFallen (h : ModuleHw) (ms : Nat) : ModuleHw :=
  { h with pwrdis := false, power := if h.power = .fault ∧ 100 ≤ ms ∧ h.thermalLatch = [] then .aux else h.power }

theorem exec_pwrdisFall {s : State} (h : s.hw.pwrdis = true) (ms : Nat) :
    exec (.pwrdisFall ms) s = .next { s with hw := s.hw.pwrdisFallen ms }.tryRamp := by
  refine congrArg Host.Outcome.next ((if_neg (by simp [h])).trans (congrArg State.tryRamp ?_))
  by_cases hc : s.hw.power = .fault ∧ 100 ≤ ms ∧ s.hw.thermalLatch = []
  · rw [ModuleHw.pwrdisFallen, if_pos hc]
    exact if_pos (by simp [hc])
  · rw [ModuleHw.pwrdisFallen, if_neg hc]
    exact if_neg (by simpa using hc)

/-- AUX_LOSS in ON at most tells an event. -/
theorem exec_auxLoss_on {s : State} (ha : s.hw.auxIn = true) (hp : s.hw.power = .on) (mv : Nat) :
    ∃ t, exec (.auxLoss mv) s = .next t ∧ Told { s with hw := { s.hw with auxIn := false } } t := by
  refine ⟨_, congrArg Host.Outcome.next ((if_neg (by simp [ha])).trans (if_pos hp)), ?_⟩
  split
  exacts [Told.event _ _ _ _ _ _ _ _ _ _ (by decide), Told.refl _]

/-- AUX_LOSS in another state: nothing feeds the always-on domain. -/
theorem exec_auxLoss_not_on {s : State} (ha : s.hw.auxIn = true) (hp : s.hw.power ≠ .on) (mv : Nat) :
    ∃ t, exec (.auxLoss mv) s = .next t ∧ t.hw.auxIn = false ∧ t.hw.power = .dark := by
  refine ⟨_, congrArg Host.Outcome.next ((if_neg (by simp [ha])).trans (if_neg hp)), ?_⟩
  split
  · exact ⟨powerDown_auxIn _ _, powerDown_power _ _⟩
  · exact ⟨rfl, rfl⟩

/-- Settles O16, by what `tryRamp` can do. What the end of a lockout resumes is the model's choice (log entry 67). -/
theorem powerUpSequence : Obligations.PowerUpSequence := by
  refine ⟨fun s a1 a0 hp => ?_, fun s hl => ?_, fun s hp => ?_, fun s hp hb hr => ?_, fun s straps hp hr => ?_, fun s hl => ?_,
    fun s sensor hin hp => ?_, fun s ms hd => ?_⟩
  · obtain ⟨out, hx⟩ := exec_auxEntry hp a1 a0
    refine ⟨_, hx, tryRamp_auxIn _, tryRamp_smbAddr _, auxEntered_power s a1 a0 out, tryRamp_thermalLatch _, tryRamp_faultLog _, ?_⟩
    exact (Only.of_hw_out s _ out).trans ((only_tryRamp _).mono (by decide))
  · refine ⟨_, congrArg Host.Outcome.next (if_neg (Bool.eq_false_iff.1 hl)), tryRamp_hw _, tryRamp_power_of_input rfl hl,
      tryRamp_rails_of_power_ne, tryRamp_rails_of_power_eq, ?_⟩
    exact (Only.of_hw s _).trans (only_tryRamp _)
  · exact ⟨_, congrArg Host.Outcome.next (if_pos hp), rfl, Only.of_hw s _⟩
  · exact ⟨_, congrArg Host.Outcome.next (if_pos (by simp [hp, hb, hr])), rfl, Only.of_hw s _⟩
  · obtain ⟨t, hx, ht⟩ := exec_onEntry hp hr straps
    have hmember : t.rd R.GLB_MEMBER = word (straps % 8) := (ht.rd_eq (by decide) (by simp)).trans (State.rd_wr_self _ _ _)
    refine ⟨t, hx, ht.same (p := .hw) (by decide), hmember, dieCold_dieCleared s _ _ _, rfl, ?_⟩
    exact ((tellsIn_onEntered s straps).mono (by simp) (by simp)).trans (ht.mono (by simp) (by simp))
  · refine ⟨_, congrArg Host.Outcome.next (if_pos hl), tryRamp_lockout _, tryRamp_inputOk _, tryRamp_power_of_input rfl rfl, ?_⟩
    exact (Only.of_hw s _).trans (only_tryRamp _)
  · exact ⟨_, congrArg Host.Outcome.next (tryRamp_of_not_ready fun h => hp h.aux), rfl, Only.of_hw s _⟩
  · refine ⟨_, exec_pwrdisFall hd ms, tryRamp_pwrdis _, tryRamp_thermalLatch _, fun hf hstay => ?_, fun hf hms ht => ?_,
      (Only.of_hw s _).trans (only_tryRamp _)⟩
    · have hp : (s.hw.pwrdisFallen ms).power = .fault := (if_neg fun hc => by
        obtain ⟨-, hms, ht⟩ := hc
        exact hstay.elim (Nat.not_lt.2 hms) (· ht)).trans hf
      have hn : ¬ { s with hw := s.hw.pwrdisFallen ms }.RampReady := fun hr => by simpa [hp] using hr.aux
      exact (tryRamp_power_of_not_ready hn).trans hp
    · have hp : (s.hw.pwrdisFallen ms).power = .aux := if_pos ⟨hf, hms, ht⟩
      refine (tryRamp_power_of_aux (s := { s with hw := s.hw.pwrdisFallen ms }) hp ht).trans ?_
      simp [ModuleHw.pwrdisFallen]

/-- Settles O17, by what `powerDown` and `logFault` leave. That a lockout is logged, and with the time of the last ON second, is the model's choice
(log entry 67). -/
theorem powerDownSequence : Obligations.PowerDownSequence := by
  refine ⟨fun s hp => ?_, fun s hp => ?_, fun s hp => ?_, fun s rail hr hp => ?_, fun s hp => ?_, fun s mv ha => ?_, fun s i hp hi => ?_⟩
  · exact ⟨_, congrArg Host.Outcome.next (if_pos (powered_iff.2 hp)), powerDown_power _ _, powerDown_inputOk _ _, powerDown_leaves _ _⟩
  · obtain ⟨t, out, al, hx, rfl⟩ := exec_inputLockout hp
    by_cases hpow : s.powered = true
    · refine ⟨_, hx.trans (congrArg _ (if_pos hpow)), powerDown_lockout _ _, powerDown_inputOk _ _, powerDown_inputFaultSeen _ _,
        powerDown_faultLog _ _, fun _ => ⟨powerDown_power _ _, powerDown_dieCold _ _⟩, fun h => ?_⟩
      rcases powered_iff.1 hpow with h' | h' <;> simp [h'] at h
    · exact ⟨_, hx.trans (congrArg _ (if_neg hpow)), rfl, rfl, rfl, rfl, fun h => absurd (powered_iff.2 h) hpow,
        fun _ => ⟨rfl, Only.of_hw_out s _ _⟩⟩
  · have hdark : s.hw.power ≠ .dark := by rcases hp with h | h <;> simp [h]
    obtain ⟨t, out, al, hx, rfl⟩ := exec_inputReversed hdark
    exact ⟨_, hx.trans (congrArg _ (if_pos (powered_iff.2 hp))), powerDown_inputOk _ _, powerDown_inputFaultSeen _ _, powerDown_faultLog _ _,
      powerDown_power _ _, powerDown_dieCold _ _⟩
  · obtain ⟨out, al, hx⟩ := exec_railGoodLost hr hp
    exact ⟨_, hx, powerDown_power _ _, powerDown_faultLog _ _, powerDown_leaves _ _⟩
  · exact ⟨_, congrArg Host.Outcome.next (if_pos (powered_iff.2 hp)), powerDown_pwrdis _ _, powerDown_power _ _, powerDown_leaves _ _⟩
  · by_cases hp : s.hw.power = .on
    · obtain ⟨t, hx, ht⟩ := exec_auxLoss_on ha hp mv
      have hhw := ht.hw_eq
      have htells : TellsIn [.hw] [] s { s with hw := { s.hw with auxIn := false } } := (Only.of_hw s _).tellsIn _ fun _ => rfl
      exact ⟨t, hx, hhw ▸ rfl, fun _ => ⟨hhw, htells.trans (ht.tellsIn _ _)⟩, fun h => absurd hp h⟩
    · obtain ⟨t, hx, hsupply, hpower⟩ := exec_auxLoss_not_on ha hp mv
      exact ⟨t, hx, hsupply, fun h => absurd h hp, fun _ => hpower⟩
  · obtain ⟨out, al, hx⟩ := exec_hardwareTrip (powered_iff.2 hp) hi
    refine ⟨_, hx, powerDown_power _ _, powerDown_faultLog _ _, fun h => ?_, fun h => ?_, powerDown_leaves _ _⟩
    · rw [powerDown_thermalLatch]
      exact mem_latchTrip (thermalSensor_iff.2 (by omega))
    · rw [powerDown_thermalLatch]
      exact latchTrip_of_not_thermal (by simp [thermalSensor]; omega)

end Sys2Proof.Machine
end

section
/-! ## Counters and freezes (R548 to R552)

A freeze, a capture, a trace record and an error write registers one after another. Two relations say what such a run of writes leaves: `Captured` while nothing
freezes, `DebugTold` in general. -/

namespace Sys2Proof.Machine
open Sys2Proof

/-! ### Bits of registers -/

theorem bitOf_eq_testBit (n i : Nat) : bitOf n i = n.testBit i := by
  rw [bitOf, Nat.testBit_eq_decide_div_mod_eq]
  rfl

theorem bit_eq_getLsbD (v : Word) (i : Nat) : bit v i = v.getLsbD i := bitOf_eq_testBit _ _

/-- A number with bit i replaced, cut at bit i. -/
theorem putBits_one (n i x : Nat) : putBits n i 1 x = 2 ^ i * (2 * (n / 2 ^ i / 2) + x % 2) + n % 2 ^ i := by
  obtain ⟨p, hp⟩ : ∃ p, p = 2 ^ i := ⟨_, rfl⟩
  have hsplit : n = p * (2 * (n / p / 2)) + p * (n / p % 2) + n % p := by
    rw [← Nat.mul_add, Nat.div_add_mod, Nat.div_add_mod]
  rw [putBits, bitsOf, ← hp, Nat.pow_one, Nat.mul_add, Nat.mul_comm (n / p % 2) p, Nat.mul_comm (x % 2) p]
  omega

theorem testBit_putBits_one (n i x j : Nat) : (putBits n i 1 x).testBit j = if j = i then x.testBit 0 else n.testBit j := by
  have hr : n % 2 ^ i < 2 ^ i := Nat.mod_lt _ (Nat.two_pow_pos i)
  rw [putBits_one, Nat.testBit_two_pow_mul_add _ hr]
  rcases Nat.lt_trichotomy j i with h | rfl | h
  · rw [if_pos h, if_neg h.ne, Nat.testBit_mod_two_pow, decide_eq_true h, Bool.true_and]
  · rw [if_neg (Nat.lt_irrefl j), if_pos rfl, Nat.sub_self, Nat.testBit_zero, Nat.testBit_zero]
    congr 1
    exact propext (by omega)
  · obtain ⟨d, rfl⟩ := Nat.exists_eq_add_of_lt h
    have hd : i + d + 1 - i = d + 1 := by omega
    have hhalf : (2 * (n / 2 ^ i / 2) + x % 2) / 2 = n / 2 ^ i / 2 := by omega
    rw [if_neg (by omega), if_neg (by omega), hd, Nat.testBit_succ, hhalf, ← Nat.testBit_succ, Nat.testBit_div_two_pow]
    congr 1
    omega

theorem bit_setBit {i j : Nat} (v : Word) (b : Bool) (hj : j < 32) : bit (setBit v i b) j = if j = i then b else bit v j := by
  rw [bit_eq_getLsbD, bit_eq_getLsbD, setBit, setFld, BitVec.getLsbD_ofNat, testBit_putBits_one, decide_eq_true hj, Bool.true_and]
  cases b <;> rfl

theorem getB_setB_self (s : State) (k : Nat) {i : Nat} (b : Bool) (hi : i < 32) : (s.setB k i b).getB k i = b :=
  (congrArg (bit · i) (s.rd_wr_self k _)).trans ((bit_setBit _ b hi).trans (if_pos rfl))

theorem getB_setB_ne (s : State) (k : Nat) {i j : Nat} (b : Bool) (hj : j < 32) (h : j ≠ i) : (s.setB k i b).getB k j = s.getB k j :=
  (congrArg (bit · j) (s.rd_wr_self k _)).trans ((bit_setBit _ b hj).trans (if_neg h))

theorem rd_setB_ne (s : State) {k j : Nat} (i : Nat) (b : Bool) (h : j ≠ k) : (s.setB k i b).rd j = s.rd j := s.rd_wr_ne _ h

theorem getB_congr {s t : State} {k : Nat} (h : t.rd k = s.rd k) (i : Nat) : t.getB k i = s.getB k i := congrArg (bit · i) h

theorem bit_or (v w : Word) (i : Nat) : bit (v ||| w) i = (bit v i || bit w i) := by
  simp only [bit_eq_getLsbD, BitVec.getLsbD_or]

theorem bit_and (v w : Word) (i : Nat) : bit (v &&& w) i = (bit v i && bit w i) := by
  simp only [bit_eq_getLsbD, BitVec.getLsbD_and]

theorem bit_word_two_pow {i : Nat} (hi : i < 32) : bit (word (2 ^ i)) i = true := by
  rw [bit_eq_getLsbD, word, BitVec.getLsbD_ofNat, Nat.testBit_two_pow_self, decide_eq_true hi, Bool.true_and]

/-! ### Interrupt causes (R107, R109) -/

theorem rd_msix (s : State) (fn v k : Nat) : (s.msix fn v).rd k = s.rd k := by
  unfold State.msix
  extract_lets m
  split
  · rfl
  · split <;> rfl

theorem rd_raiseInts (s : State) (page : Nat) (m : Word) (k : Nat) :
    (s.raiseInts page m).rd k = (s.wr (intK page) (s.rd (intK page) ||| (m &&& pageIntMask page))).rd k := by
  unfold State.raiseInts
  extract_lets was u
  split
  exacts [rd_msix _ _ _ _, rfl]

theorem rd_raiseInt_ne (s : State) {page k : Nat} (b : Nat) (h : k ≠ intK page) : (s.raiseInt page b).rd k = s.rd k :=
  (rd_raiseInts ..).trans (s.rd_wr_ne _ h)

theorem getB_raiseInt (s : State) (page b i : Nat) :
    (s.raiseInt page b).getB (intK page) i = (s.getB (intK page) i || (bit (word (2 ^ b)) i && bit (pageIntMask page) i)) := by
  rw [State.getB, State.raiseInt, rd_raiseInts, State.rd_wr_self, bit_or, bit_and]
  rfl

theorem getB_raiseInt_self (s : State) {page b : Nat} (hb : b < 32) (hm : bit (pageIntMask page) b = true) :
    (s.raiseInt page b).getB (intK page) b = true := by
  rw [getB_raiseInt, bit_word_two_pow hb, hm, Bool.and_true, Bool.or_true]

theorem getB_raiseInt_of_set (s : State) (page b : Nat) {i : Nat} (h : s.getB (intK page) i = true) :
    (s.raiseInt page b).getB (intK page) i = true := by
  rw [getB_raiseInt, h, Bool.true_or]

@[simp] theorem msix_dbg (s : State) (fn v : Nat) : (s.msix fn v).dbg = s.dbg := by
  unfold State.msix
  extract_lets m
  split
  · rfl
  · split <;> rfl

@[simp] theorem raiseInt_dbg (s : State) (page b : Nat) : (s.raiseInt page b).dbg = s.dbg := by
  unfold State.raiseInt State.raiseInts
  extract_lets was u
  split
  exacts [msix_dbg _ _ _, rfl]

/-! ### Errors (R112) -/

/-- R112: an error is captured while LOG_VALID is 0. -/
def State.errCapture (s : State) (page code cls fn : Nat) (t : Tags) (addr detail : Nat) : State :=
  if s.getB (statusK page) 31 then s
  else ((((((((s.wr (errLogK page 0) (word (code + 256 * cls + 65536 * fn))).wr (errLogK page 1) (word s.devTime)).wr
    (errLogK page 2) (word (s.devTime / 2 ^ 32))).wr (errLogK page 3) (word (t.layer + 65536 * t.oper))).wr (errLogK page 4) (word t.job)).wr
    (errLogK page 5) (word addr)).wr (errLogK page 6) (word (addr / 2 ^ 32))).wr (errLogK page 7) (word detail)).setB (statusK page) 31 true

theorem logOnly_eq (s : State) (page code cls fn : Nat) (t : Tags) (addr detail : Nat) :
    s.logOnly page code cls fn t addr detail = ((s.bump (errCountK page)).errCapture page code cls fn t addr detail).raiseInt page 31 := rfl

section
variable (s : State) (page code cls fn : Nat) (t : Tags) (addr detail : Nat)

/-- Every register but STATUS and ERR_LOG is as it was. -/
theorem rd_errCapture {k : Nat} (hs : k ≠ statusK page) (he : ∀ j < 8, k ≠ errLogK page j) :
    (s.errCapture page code cls fn t addr detail).rd k = s.rd k := by
  unfold State.errCapture
  split
  · rfl
  · rw [rd_setB_ne _ _ _ hs, State.rd_wr_ne _ _ (he 7 (by omega)), State.rd_wr_ne _ _ (he 6 (by omega)), State.rd_wr_ne _ _ (he 5 (by omega)),
      State.rd_wr_ne _ _ (he 4 (by omega)), State.rd_wr_ne _ _ (he 3 (by omega)), State.rd_wr_ne _ _ (he 2 (by omega)),
      State.rd_wr_ne _ _ (he 1 (by omega)), State.rd_wr_ne _ _ (he 0 (by omega))]

theorem statusK_ne_errLogK {page j : Nat} : statusK page ≠ errLogK page j := by
  simp only [statusK, errLogK, rkey]; omega

/-- Of STATUS only LOG_VALID can change. -/
theorem getB_errCapture_status {i : Nat} (hi : i < 31) :
    (s.errCapture page code cls fn t addr detail).getB (statusK page) i = s.getB (statusK page) i := by
  unfold State.errCapture
  split
  · rfl
  · rw [getB_setB_ne _ _ _ (by omega) (by omega)]
    exact getB_congr (by simp only [State.rd_wr_ne _ _ statusK_ne_errLogK]) i

@[simp] theorem errCapture_dbg : (s.errCapture page code cls fn t addr detail).dbg = s.dbg := by
  unfold State.errCapture
  split
  · rfl
  · rw [State.setB_dbg]
    iterate 8 rw [State.wr_dbg]

@[simp] theorem logOnly_dbg : (s.logOnly page code cls fn t addr detail).dbg = s.dbg := by
  rw [logOnly_eq, raiseInt_dbg, errCapture_dbg, State.bump_dbg]

/-- R8, R112: the error is counted. -/
theorem rd_logOnly_errCount :
    (s.logOnly page code cls fn t addr detail).rd (errCountK page) = word (min 0xFFFFFFFF ((s.rd (errCountK page)).toNat + 1)) := by
  have hint : errCountK page ≠ intK page := by simp only [errCountK, intK, rkey]; omega
  have hstatus : errCountK page ≠ statusK page := by simp only [errCountK, statusK, rkey]; omega
  have hlog : ∀ j < 8, errCountK page ≠ errLogK page j := fun j _ => by simp only [errCountK, errLogK, rkey]; omega
  rw [logOnly_eq, rd_raiseInt_ne _ _ hint, rd_errCapture _ _ _ _ _ _ _ _ hstatus hlog]
  exact State.rd_wr_self _ _ _

/-- R110: INT_STATUS.ERROR is set. -/
theorem getB_logOnly_error (hm : bit (pageIntMask page) 31 = true) :
    (s.logOnly page code cls fn t addr detail).getB (intK page) 31 = true :=
  getB_raiseInt_self _ (by omega) hm

end

/-! ### What a capture and a wake leave -/

/-- The registers that a capture, a trace record, a wake and an error of the debug page write: the debug page's common registers, what Belvedere
and the trace count, and two of the idle state. -/
def captureKey (k : Nat) : Bool :=
  (keyPage k == pDBG && decide (keyOff k < 0x40)) ||
    k ∈ [R.DBG_BELV_STATUS, R.DBG_BELV_REFUSED, R.DBG_TRACE_LOST, R.DBG_TRACE_COUNT, R.GLB_WAKE_CAUSE, R.GLB_IDLE_STATUS]

/-- No register but those of `captureKey` changes, no freeze begins or ends, and no cause of the debug page is cleared. -/
structure Captured (s t : State) : Prop where
  regs : ∀ k, captureKey k = false → t.rd k = s.rd k
  frozen : t.frozen = s.frozen
  causes : ∀ i, s.getB (intK pDBG) i = true → t.getB (intK pDBG) i = true

namespace Captured
variable {s t u : State}

theorem of_rd (h : ∀ k, t.rd k = s.rd k) : Captured s t :=
  ⟨fun k _ => h k, getB_congr (h _) _, fun i hi => (getB_congr (h _) i).trans hi⟩

theorem refl (s : State) : Captured s s := of_rd fun _ => rfl

theorem trans (h : Captured s t) (h' : Captured t u) : Captured s u :=
  ⟨fun k hk => (h'.regs k hk).trans (h.regs k hk), h'.frozen.trans h.frozen, fun i hi => h'.causes i (h.causes i hi)⟩

theorem wr (s : State) {k : Nat} (v : Word) (hk : captureKey k = true) (hs : statusK pDBG ≠ k) (hi : intK pDBG ≠ k) : Captured s (s.wr k v) :=
  ⟨fun j hj => s.rd_wr_ne v (by rintro rfl; simp [hk] at hj), getB_congr (s.rd_wr_ne v hs) 0, fun i h => (getB_congr (s.rd_wr_ne v hi) i).trans h⟩

theorem setStatus (s : State) {i : Nat} (b : Bool) (hi : 0 ≠ i) : Captured s (s.setB (statusK pDBG) i b) :=
  ⟨fun j hj => rd_setB_ne s i b (by rintro rfl; exact absurd hj (by decide)), getB_setB_ne _ _ _ (by decide) hi,
    fun j h => (getB_congr (rd_setB_ne s i b (by decide)) j).trans h⟩

theorem raiseInt (s : State) (b : Nat) : Captured s (s.raiseInt pDBG b) :=
  ⟨fun k hk => rd_raiseInt_ne s b (by rintro rfl; exact absurd hk (by decide)), getB_congr (rd_raiseInt_ne s b (by decide)) 0,
    fun _ h => getB_raiseInt_of_set s _ b h⟩

theorem errCapture (s : State) (code cls fn : Nat) (t : Tags) (addr detail : Nat) : Captured s (s.errCapture pDBG code cls fn t addr detail) :=
  ⟨fun k hk => rd_errCapture _ _ _ _ _ _ _ _ (by rintro rfl; exact absurd hk (by decide)) (by
      rintro j hj rfl; interval_cases j <;> exact absurd hk (by decide)),
    getB_errCapture_status _ _ _ _ _ _ _ _ (by decide),
    fun i h => (getB_congr (rd_errCapture _ _ _ _ _ _ _ _ (by decide) (by decide)) i).trans h⟩

theorem logOnly (s : State) (code cls fn : Nat) (t : Tags) (addr detail : Nat) : Captured s (s.logOnly pDBG code cls fn t addr detail) :=
  ((wr s _ (by decide) (by decide) (by decide)).trans (errCapture ..)).trans (raiseInt ..)

theorem startCapture (s : State) (cause : Nat) : Captured s (s.startCapture cause) := by
  unfold State.startCapture
  extract_lets st newest slot d u
  split
  · exact (wr s _ (by decide) (by decide) (by decide)).trans (logOnly ..)
  · have hdbg : Captured s u := of_rd fun _ => rfl
    exact (hdbg.trans (wr _ _ (by decide) (by decide) (by decide))).trans (setStatus _ _ (by decide))

/-- Pauses and XOFF leave every register. -/
theorem z2Hold (s : State) : Captured s s.z2Hold := by
  refine List.foldlRecOn (motive := Captured s) _ _ (List.foldlRecOn (motive := Captured s) _ _ (refl s) fun u h p _ => ?_) fun u h k _ => ?_
  · dsimp only
    split
    exacts [h.trans (of_rd fun _ => rfl), h]
  · split
    exacts [h.trans (of_rd fun _ => rfl), h]

theorem wake (s : State) (w : WakeSource) : Captured s (s.wake w) := by
  have cause : Captured s (s.setB R.GLB_WAKE_CAUSE (wakeBit w) true) := wr s _ (by decide) (by decide) (by decide)
  unfold State.wake
  extract_lets caused idle z2 exits i held
  split
  · exact cause.trans (of_rd fun _ => rfl)
  · split
    · split
      exacts [refl s, cause.trans (of_rd fun _ => rfl)]
    · split
      · exact refl s
      · have hexits : Captured s exits := cause.trans (wr _ _ (by decide) (by decide) (by decide))
        have hheld : Captured s held := hexits.trans (of_rd fun _ => rfl)
        split
        exacts [hheld.trans (z2Hold held), hheld]

end Captured

theorem z2Hold_dbg (s : State) : s.z2Hold.dbg = s.dbg := by
  refine List.foldlRecOn (motive := fun (u : State) => u.dbg = s.dbg) _ _
    (List.foldlRecOn (motive := fun (u : State) => u.dbg = s.dbg) _ _ rfl fun u h p _ => ?_) fun u h k _ => ?_
  · dsimp only
    split <;> exact h
  · split <;> exact h

theorem wake_dbg (s : State) (w : WakeSource) : (s.wake w).dbg = s.dbg := by
  unfold State.wake
  extract_lets caused idle z2 exits i held
  split
  · rfl
  · split
    · split <;> rfl
    · split
      · rfl
      · split
        exacts [z2Hold_dbg held, rfl]

theorem startCapture_dbg (s : State) (cause : Nat) : ∃ c l, (s.startCapture cause).dbg = { s.dbg with capturing := c, slots := l } := by
  unfold State.startCapture
  extract_lets st newest slot d u
  split
  exacts [⟨_, _, logOnly_dbg ..⟩, ⟨_, _, rfl⟩]

/-! ### Freezes (R549, R550) -/

/-- A freeze source can act: software and MCTP always, another where DBG_FREEZE_ENABLE has its bit (R549). -/
def State.FreezeOpen (s : State) (src : Nat) : Prop := src = 0 ∨ src = 7 ∨ s.getB R.DBG_FREEZE_ENABLE src = true

/-- The registers of the freeze itself: its cause, FROZEN, device time, and the interrupt (R549, R550). -/
def State.freezeRegs (s : State) (src : Nat) : State :=
  (((s.setB R.DBG_FREEZE_CAUSE src true).setB (statusK pDBG) 0 true).wr R.DBG_FREEZE_TIME_LO (word s.devTime)).raiseInt pDBG 0

/-- The freeze itself, with the records still let in (R550). -/
def State.freezeNow (s : State) (src : Nat) : State :=
  let t := s.freezeRegs src
  { t with dbg := { t.dbg with postLeft := some (t.getF R.DBG_TRACE_CTRL 16 16), freezeTime := t.devTime } }

/-- R550: the capture under SNAP_ON_FREEZE. -/
def State.freezeSnap (s : State) (en : Word) : State := if bit en 17 then s.startCapture 2 else s

/-- R550: CREW_FREEZE# is driven under DRIVE_CREW, but not for a freeze that came by it. -/
def State.driveCrew (s : State) (src : Nat) (en : Word) : State :=
  if src ≠ 1 && bit en 16 then { s.emit (.pin "CREW_FREEZE#" false) with dbg := { s.dbg with crewDriven := true } } else s

theorem freezeGuard_iff {s : State} {src : Nat} :
    (!(src = 0 || src = 7 || bit (s.rd R.DBG_FREEZE_ENABLE) src)) = true ↔ ¬ s.FreezeOpen src := by
  simp [State.FreezeOpen, State.getB, and_assoc]

theorem freeze_of_closed {s : State} {src : Nat} (h : ¬ s.FreezeOpen src) : s.freeze src = s := if_pos (freezeGuard_iff.2 h)

theorem frozen_setCause (s : State) (src : Nat) : (s.setB R.DBG_FREEZE_CAUSE src true).frozen = s.frozen :=
  getB_congr (rd_setB_ne s src true (by decide)) 0

theorem freeze_of_frozen {s : State} {src : Nat} (h : s.FreezeOpen src) (hf : s.frozen = true) :
    s.freeze src = s.setB R.DBG_FREEZE_CAUSE src true :=
  (if_neg (freezeGuard_iff.not.2 (not_not.2 h))).trans (if_pos ((frozen_setCause s src).trans hf))

theorem freeze_of_running {s : State} {src : Nat} (h : s.FreezeOpen src) (hf : s.frozen = false) :
    s.freeze src = (((s.freezeNow src).freezeSnap (s.rd R.DBG_FREEZE_ENABLE)).driveCrew src (s.rd R.DBG_FREEZE_ENABLE)).wake .freeze :=
  (if_neg (freezeGuard_iff.not.2 (not_not.2 h))).trans (if_neg (by rw [frozen_setCause, hf]; decide))

theorem captured_freezeSnap (s : State) (en : Word) : Captured s (s.freezeSnap en) := by
  unfold State.freezeSnap
  split
  exacts [.startCapture s 2, .refl s]

theorem captured_driveCrew (s : State) (src : Nat) (en : Word) : Captured s (s.driveCrew src en) := by
  unfold State.driveCrew
  split
  exacts [.of_rd fun _ => rfl, .refl s]

/-- What follows the freeze itself freezes nothing and clears no cause. -/
theorem captured_freezeNow {s : State} {src : Nat} (h : s.FreezeOpen src) (hf : s.frozen = false) : Captured (s.freezeNow src) (s.freeze src) :=
  freeze_of_running h hf ▸ ((captured_freezeSnap _ _).trans (captured_driveCrew _ _ _)).trans (.wake _ _)

theorem freezeSnap_dbg (s : State) (en : Word) : ∃ c l, (s.freezeSnap en).dbg = { s.dbg with capturing := c, slots := l } := by
  unfold State.freezeSnap
  split
  exacts [startCapture_dbg s 2, ⟨_, _, rfl⟩]

theorem driveCrew_dbg (s : State) (src : Nat) (en : Word) :
    (s.driveCrew src en).dbg = { s.dbg with crewDriven := if src ≠ 1 && bit en 16 then true else s.dbg.crewDriven } := by
  unfold State.driveCrew
  split <;> rfl

/-- The registers of the freeze itself, but for its own. -/
theorem rd_freezeRegs (s : State) (src : Nat) {k : Nat} (hc : k ≠ R.DBG_FREEZE_CAUSE) (hs : k ≠ statusK pDBG) (ht : k ≠ R.DBG_FREEZE_TIME_LO)
    (hi : k ≠ intK pDBG) : (s.freezeRegs src).rd k = s.rd k := by
  rw [State.freezeRegs, rd_raiseInt_ne _ _ hi, State.rd_wr_ne _ _ ht, rd_setB_ne _ _ _ hs, rd_setB_ne _ _ _ hc]

theorem freezeNow_dbg (s : State) (src : Nat) :
    (s.freezeNow src).dbg = { s.dbg with postLeft := some (s.getF R.DBG_TRACE_CTRL 16 16), freezeTime := s.devTime } := by
  have hdbg : (s.freezeRegs src).dbg = s.dbg := raiseInt_dbg _ _ _
  have htime : (s.freezeRegs src).devTime = s.devTime := (Told.raiseInt _ pDBG 0).1.2 .devTime (by decide)
  have hctrl : (s.freezeRegs src).rd R.DBG_TRACE_CTRL = s.rd R.DBG_TRACE_CTRL :=
    rd_freezeRegs s src (by decide) (by decide) (by decide) (by decide)
  simp only [State.freezeNow, State.getF, hdbg, htime, hctrl]

theorem freeze_dbg {s : State} {src : Nat} (h : s.FreezeOpen src) (hf : s.frozen = false) : ∃ c l, (s.freeze src).dbg =
    { s.dbg with
      postLeft := some (s.getF R.DBG_TRACE_CTRL 16 16), freezeTime := s.devTime, capturing := c, slots := l,
      crewDriven := if src ≠ 1 && s.getB R.DBG_FREEZE_ENABLE 16 then true else s.dbg.crewDriven } := by
  obtain ⟨c, l, hsnap⟩ := freezeSnap_dbg (s.freezeNow src) (s.rd R.DBG_FREEZE_ENABLE)
  refine ⟨c, l, ?_⟩
  rw [freeze_of_running h hf, wake_dbg, driveCrew_dbg, hsnap, freezeNow_dbg]
  rfl

/-- What a freeze by a source leaves (R549, R550): FROZEN and its cause, the time, the records still let in, the interrupt, and CREW_FREEZE# under
DRIVE_CREW. -/
def Froze (src : Nat) (crew : Bool) (s t : State) : Prop :=
  t.frozen = true ∧ t.getB R.DBG_FREEZE_CAUSE src = true ∧ t.dbg.freezeTime = s.devTime ∧ t.rd R.DBG_FREEZE_TIME_LO = word s.devTime ∧
  t.dbg.postLeft = some (s.getF R.DBG_TRACE_CTRL 16 16) ∧ t.getB (intK pDBG) 0 = true ∧ t.ops = s.ops ∧ SameMem s t ∧
  (s.getB R.DBG_FREEZE_ENABLE 16 = true → t.dbg.crewDriven = crew)

/-- The registers of the freeze itself hold what it records. -/
theorem freezeNow_regs (s : State) {src : Nat} (hsrc : src < 32) :
    (s.freezeNow src).frozen = true ∧ (s.freezeNow src).getB R.DBG_FREEZE_CAUSE src = true ∧
    (s.freezeNow src).rd R.DBG_FREEZE_TIME_LO = word s.devTime ∧ (s.freezeNow src).getB (intK pDBG) 0 = true := by
  have hregs : ∀ k, (s.freezeNow src).rd k = (s.freezeRegs src).rd k := fun _ => rfl
  refine ⟨?_, ?_, ?_, ?_⟩
  · rw [State.frozen, getB_congr (hregs _), State.freezeRegs, getB_congr (rd_raiseInt_ne _ _ (by decide)), getB_congr (State.rd_wr_ne _ _ (by decide)),
      getB_setB_self _ _ _ (by decide)]
  · rw [getB_congr (hregs _), State.freezeRegs, getB_congr (rd_raiseInt_ne _ _ (by decide)), getB_congr (State.rd_wr_ne _ _ (by decide)),
      getB_congr (rd_setB_ne _ _ _ (by decide)), getB_setB_self _ _ _ hsrc]
  · rw [hregs, State.freezeRegs, rd_raiseInt_ne _ _ (by decide), State.rd_wr_self]
  · rw [getB_congr (hregs _)]
    exact getB_raiseInt_self _ (by decide) (by decide)

theorem froze_freeze {s : State} {src : Nat} (hsrc : src < 32) (h : s.FreezeOpen src) (hf : s.frozen = false) :
    Froze src (if src = 1 then s.dbg.crewDriven else true) s (s.freeze src) := by
  obtain ⟨hfrozen, hcause, htime, hint⟩ := freezeNow_regs s hsrc
  have hafter := captured_freezeNow h hf
  have htold := Told.freeze s src
  obtain ⟨c, l, hdbg⟩ := freeze_dbg h hf
  refine ⟨hafter.frozen.trans hfrozen, (getB_congr (hafter.regs _ (by decide)) _).trans hcause, by rw [hdbg],
    (hafter.regs _ (by decide)).trans htime, by rw [hdbg], hafter.causes 0 hint, htold.1.2 .ops (by decide), htold.1.2 .mem (by decide), fun hd => ?_⟩
  rw [hdbg]
  by_cases h1 : src = 1 <;> simp [h1, hd]

/-! ### Traces and errors -/

/-- What a trace record and a freeze source leave: no register outside the debug page but the two of the idle state changes, no freeze ends, no cause of the
debug page is cleared, and no counter changes. -/
structure DebugTold (s t : State) : Prop where
  regs : ∀ k, keyPage k ≠ pDBG → k ≠ R.GLB_WAKE_CAUSE → k ≠ R.GLB_IDLE_STATUS → t.rd k = s.rd k
  frozen : s.frozen = true → t.frozen = true
  causes : ∀ i, s.getB (intK pDBG) i = true → t.getB (intK pDBG) i = true
  counters : t.dbg.counters = s.dbg.counters

namespace DebugTold
variable {s t u : State}

theorem refl (s : State) : DebugTold s s := ⟨fun _ _ _ _ => rfl, id, fun _ => id, rfl⟩

theorem trans (h : DebugTold s t) (h' : DebugTold t u) : DebugTold s u :=
  ⟨fun k hp hw hi => (h'.regs k hp hw hi).trans (h.regs k hp hw hi), h'.frozen ∘ h.frozen, fun i => h'.causes i ∘ h.causes i,
    h'.counters.trans h.counters⟩

theorem captureKey_of_page_ne {k : Nat} (hp : keyPage k ≠ pDBG) (hw : k ≠ R.GLB_WAKE_CAUSE) (hi : k ≠ R.GLB_IDLE_STATUS) : captureKey k = false := by
  refine Bool.eq_false_iff.2 fun h => ?_
  simp only [captureKey, Bool.or_eq_true, Bool.and_eq_true, beq_iff_eq, decide_eq_true_eq, List.mem_cons, List.not_mem_nil, or_false] at h
  rcases h with ⟨h, -⟩ | rfl | rfl | rfl | rfl | h | h
  exacts [hp h, hp (by decide), hp (by decide), hp (by decide), hp (by decide), hw h, hi h]

theorem of_captured (h : Captured s t) (hc : t.dbg.counters = s.dbg.counters) : DebugTold s t :=
  ⟨fun k hp hw hi => h.regs k (captureKey_of_page_ne hp hw hi), fun hf => h.frozen.trans hf, h.causes, hc⟩

theorem setCause (s : State) (src : Nat) : DebugTold s (s.setB R.DBG_FREEZE_CAUSE src true) :=
  ⟨fun _ hp _ _ => rd_setB_ne s src true fun hk => hp (hk ▸ by decide), fun hf => (frozen_setCause s src).trans hf,
    fun i hi => (getB_congr (rd_setB_ne s src true (by decide)) i).trans hi, rfl⟩

theorem freezeNow (hf : s.frozen = false) (src : Nat) : DebugTold s (s.freezeNow src) := by
  refine ⟨fun k hp _ _ => ?_, fun h => absurd h (by rw [hf]; decide), fun i hi => ?_, by rw [freezeNow_dbg]⟩
  · have hne : ∀ j, keyPage j = pDBG → k ≠ j := fun j hj hk => hp (hk ▸ hj)
    exact rd_freezeRegs s src (hne _ (by decide)) (hne _ (by decide)) (hne _ (by decide)) (hne _ (by decide))
  · refine getB_raiseInt_of_set _ _ _ ?_
    rw [getB_congr (State.rd_wr_ne _ _ (by decide)), getB_congr (rd_setB_ne _ _ _ (by decide)), getB_congr (rd_setB_ne _ _ _ (by decide)), hi]

theorem freeze (s : State) (src : Nat) : DebugTold s (s.freeze src) := by
  by_cases h : s.FreezeOpen src
  · cases hf : s.frozen with
    | true => exact freeze_of_frozen h hf ▸ setCause s src
    | false =>
      obtain ⟨c, l, hdbg⟩ := freeze_dbg h hf
      refine (freezeNow hf src).trans (of_captured (captured_freezeNow h hf) ?_)
      rw [hdbg, freezeNow_dbg]
  · rw [freeze_of_closed h]
    exact refl s

end DebugTold

/-- A trace record: beside what a capture may do it is at most a freeze source. -/
theorem trace_cases (s : State) (block inst event fn : Nat) (t : Option Tags) (a b : Nat) : ∃ u, Captured s u ∧ u.dbg.counters = s.dbg.counters ∧
    (s.trace block inst event fn t a b = u ∨ s.trace block inst event fn t a b = u.freeze 4) := by
  unfold State.trace
  extract_lets full tg r keep d recorded u g
  have hrecorded : Captured s recorded := .of_rd fun _ => rfl
  have hu : Captured s u := hrecorded.trans (.wr recorded (k := R.DBG_TRACE_COUNT) _ (by decide) (by decide) (by decide))
  split
  · exact ⟨s, .refl s, rfl, .inl rfl⟩
  · split
    · have hlost : Captured s (s.bump R.DBG_TRACE_LOST) := .wr s _ (by decide) (by decide) (by decide)
      exact ⟨_, hlost.trans (.raiseInt _ 2), congrArg Dbg.counters (raiseInt_dbg ..), .inl rfl⟩
    · split
      exacts [⟨u, hu, rfl, .inr rfl⟩, ⟨u, hu, rfl, .inl rfl⟩]

theorem DebugTold.trace (s : State) (block inst event fn : Nat) (t : Option Tags) (a b : Nat) :
    DebugTold s (s.trace block inst event fn t a b) := by
  obtain ⟨u, hu, hc, h | h⟩ := trace_cases s block inst event fn t a b
  · exact h ▸ .of_captured hu hc
  · exact h ▸ (DebugTold.of_captured hu hc).trans (.freeze u 4)

/-- With no freeze source enabled a trace record freezes nothing. -/
theorem Captured.trace {s : State} (hen : s.rd R.DBG_FREEZE_ENABLE = 0) (block inst event fn : Nat) (t : Option Tags) (a b : Nat) :
    Captured s (s.trace block inst event fn t a b) := by
  obtain ⟨u, hu, -, h | h⟩ := trace_cases s block inst event fn t a b
  · exact h ▸ hu
  · have hclosed : ¬ u.FreezeOpen 4 := by
      simp only [State.FreezeOpen, State.getB, hu.regs _ (by decide : captureKey R.DBG_FREEZE_ENABLE = false), hen]
      decide
    rw [h, freeze_of_closed hclosed]
    exact hu

section
variable (s : State) (page code cls fn : Nat) (t : Tags) (addr detail : Nat)

/-- What an error does beyond counting, capturing and telling its cause. -/
theorem DebugTold.logErr : DebugTold (s.logOnly page code cls fn t addr detail) (s.logErr page code cls fn t addr detail) := by
  unfold State.logErr
  extract_lets captured u v
  have hv : DebugTold u v := .trace ..
  split
  · split
    exacts [hv.trans (.freeze v 2), hv]
  · exact .refl u

/-- With no freeze source enabled an error freezes nothing. -/
theorem Captured.logErr (hen : (s.logOnly page code cls fn t addr detail).rd R.DBG_FREEZE_ENABLE = 0) :
    Captured (s.logOnly page code cls fn t addr detail) (s.logErr page code cls fn t addr detail) := by
  unfold State.logErr
  extract_lets captured u v
  have hv : Captured u v := .trace hen ..
  have hoff : ¬ v.getB R.DBG_FREEZE_ENABLE (8 + cls) = true := by
    rw [State.getB, hv.regs _ (by decide), hen, bit_eq_getLsbD]
    simp
  split
  · exact hv
  · exact .refl u

end

/-! ### Counters (R548) -/

theorem counter_congr {s t : State} (h : t.dbg.counters = s.dbg.counters) (i : Nat) : t.counter i = s.counter i := by rw [State.counter, h]; rfl

/-- An error of CNT is counted and told, and leaves the counters. -/
theorem uncodedErr_cnt (s : State) (fn detail : Nat) :
    (∀ i, (s.uncodedErr pCNT fn detail).counter i = s.counter i) ∧
    (s.uncodedErr pCNT fn detail).rd (errCountK pCNT) = word (min 0xFFFFFFFF ((s.rd (errCountK pCNT)).toNat + 1)) ∧
    (s.uncodedErr pCNT fn detail).getB (intK pCNT) 31 = true ∧ TellsIn [.freeCtr] [errCountK pCNT] s (s.uncodedErr pCNT fn detail) := by
  have htold : DebugTold _ (s.uncodedErr pCNT fn detail) := .logErr s.free.2 pCNT (s.free.1 % 256) clsDevice fn noTags 0 detail
  have hcount : (s.uncodedErr pCNT fn detail).rd (errCountK pCNT) = _ := htold.regs _ (by decide) (by decide) (by decide)
  have hint := getB_congr (htold.regs (intK pCNT) (by decide) (by decide) (by decide)) 31
  have hfree : TellsIn [.freeCtr] [errCountK pCNT] s s.free.2 := (Only.of_free s).tellsIn _ fun _ => rfl
  exact ⟨counter_congr (htold.counters.trans (congrArg Dbg.counters (logOnly_dbg ..))), hcount.trans (rd_logOnly_errCount ..),
    hint.trans (getB_logOnly_error _ _ _ _ _ _ _ _ (by decide)), hfree.trans ((Told.logErr ..).tellsIn _ _)⟩

theorem cntClear_of_all (s : State) : s.cntClear 0xB8800600 = { s with dbg := { s.dbg with counters := [] } } := rfl

theorem cntClear_of_one (s : State) {i : Nat} (hi : i < 64) :
    s.cntClear (BitVec.ofNat 32 (0xB8800700 + i)) = { s with dbg := { s.dbg with counters := s.dbg.counters.del i } } := by
  have hv : (BitVec.ofNat 32 (0xB8800700 + i)).toNat = 0xB8800700 + i := by rw [BitVec.toNat_ofNat]; omega
  have hne : BitVec.ofNat 32 (0xB8800700 + i) ≠ 0xB8800600#32 := fun h => by
    have htoNat : 0xB8800700 + i = 0xB8800600 := hv.symm.trans (congrArg BitVec.toNat h)
    omega
  simp [State.cntClear, hne, hv, hi]

theorem cntClear_of_other (s : State) {v : Word} (hall : v ≠ 0xB8800600) (hone : v.toNat < 0xB8800700 ∨ 0xB8800740 ≤ v.toNat) :
    s.cntClear v = s.uncodedErr pCNT 0 v.toNat := by
  refine (if_neg hall).trans (if_neg ?_)
  simp only [Bool.and_eq_true, decide_eq_true_eq]
  omega

/-! ### Writes of DBG_FREEZE -/

theorem freezeWrite_of_freeze (s : State) : s.freezeWrite 0xB8800500 = s.freeze 0 := if_pos rfl

theorem freezeWrite_of_release (s : State) : s.freezeWrite 0xB8800501 = s.thaw := (if_neg (by decide)).trans (if_pos rfl)

theorem freezeWrite_of_other (s : State) {v : Word} (h0 : v ≠ 0xB8800500) (h1 : v ≠ 0xB8800501) :
    s.freezeWrite v = s.logErr pDBG 0x03 clsDevice 0 noTags 0 0 :=
  (if_neg h0).trans (if_neg h1)

/-- Settles O57, by what `cntClear`, `freeze` and `logErr` leave. -/
theorem countersAndFreezes : Obligations.CountersAndFreezes := by
  have hother : ∀ (s : State) (v : Word), v ≠ 0xB8800600 → (v.toNat < 0xB8800700 ∨ 0xB8800740 ≤ v.toNat) →
      (∀ i ∈ List.range 64, s.counter i ≤ (s.cntClear v).counter i) ∧
      (s.cntClear v).rd (errCountK pCNT) = word (min 0xFFFFFFFF ((s.rd (errCountK pCNT)).toNat + 1)) ∧
      (s.cntClear v).getB (intK pCNT) 31 = true ∧ TellsIn [.freeCtr] [errCountK pCNT] s (s.cntClear v) := by
    intro s v hall hone
    obtain ⟨hsame, hrest⟩ := uncodedErr_cnt s 0 v.toNat
    rw [cntClear_of_other s hall hone]
    exact ⟨fun i _ => (hsame i).ge, hrest⟩
  refine ⟨fun s => ?_, fun s i v hi hv => ?_, fun s v hall hone => ⟨_, rfl, hother s v hall hone⟩,
    fun s v hall hone => ⟨_, rfl, hother s v hall hone⟩, fun s hf => ?_, fun s hf => ?_, fun s => ?_, fun s v h0 h1 => ?_,
    fun s hf hd hi he => ?_, fun s he => ?_, fun s hf hd hc => ?_, fun s hc => ?_⟩
  · exact ⟨_, congrArg Host.Outcome.next (cntClear_of_all s), fun _ _ => rfl, Only.of_dbg s _⟩
  · subst hv
    refine ⟨_, congrArg Host.Outcome.next (cntClear_of_one s hi), fun j _ => ?_, Only.of_dbg s _⟩
    by_cases h : j = i
    · rw [if_pos h, h, State.counter, Tab.look_del_self]
      rfl
    · rw [if_neg h, State.counter, Tab.look_del_ne _ h]
      rfl
  · exact ⟨_, congrArg Host.Outcome.next (freezeWrite_of_freeze s), froze_freeze (by decide) (.inl rfl) hf⟩
  · have hx : s.freezeWrite 0xB8800500 = s.setB R.DBG_FREEZE_CAUSE 0 true := (freezeWrite_of_freeze s).trans (freeze_of_frozen (.inl rfl) hf)
    exact ⟨_, congrArg Host.Outcome.next hx, rfl, getB_setB_self _ _ _ (by decide),
      fun k hk => rd_setB_ne s 0 true fun h => hk (List.mem_singleton.2 h), Only.of_wr s _ _⟩
  · refine ⟨_, congrArg Host.Outcome.next (freezeWrite_of_release s), getB_setB_self _ _ _ (by decide), rfl,
      fun k hk => rd_setB_ne _ 0 false fun h => hk (List.mem_singleton.2 h), ?_⟩
    exact ((Only.of_dbg s _).mono (by decide)).trans ((Only.of_wr _ _ _).mono (by decide))
  · refine ⟨_, congrArg Host.Outcome.next (freezeWrite_of_other s h0 h1), ?_⟩
    have hlog := Captured.logOnly s 0x03 clsDevice 0 noTags 0 0
    have htold := DebugTold.logErr s pDBG 0x03 clsDevice 0 noTags 0 0
    refine ⟨fun hf => htold.frozen (hlog.frozen.trans hf), fun hen => ?_, htold.causes 31 (getB_logOnly_error _ _ _ _ _ _ _ _ (by decide)), Told.logErr ..⟩
    exact (Captured.logErr s pDBG _ _ _ _ _ _ ((hlog.regs _ (by decide)).trans hen)).frozen.trans hlog.frozen
  · have hx : exec .crewFreezeFall s = .next (s.freeze 1) := congrArg Host.Outcome.next (if_pos (by simp [hd, hi]))
    exact ⟨_, hx, froze_freeze (by decide) (.inr (.inr he)) hf⟩
  · have hclosed : ¬ s.FreezeOpen 1 := by simp [State.FreezeOpen, he]
    have hx : exec .crewFreezeFall s = .next (if s.dieUp && !s.hw.freezeIgnored then s.freeze 1 else s) := rfl
    rw [freeze_of_closed hclosed, ite_self] at hx
    exact ⟨_, hx, rfl⟩
  · have hx : exec .mctpFreeze s = .next (s.freeze 7) := congrArg Host.Outcome.next ((if_neg (by simp [hd])).trans (if_pos hc))
    exact ⟨_, hx, froze_freeze (by decide) (.inr (.inl rfl)) hf⟩
  · refine ⟨_, congrArg Host.Outcome.next (if_pos hc), rfl, rfl, ?_⟩
    exact ((Only.of_out s _).mono (by decide)).trans ((Only.of_dbg _ _).mono (by decide))

end Sys2Proof.Machine
end

section
/-! ## Firmware and dumps: the end of a dump's write (R61, R62, R508) -/

namespace Sys2Proof.Machine
open Sys2Proof

/-- Core 0 writes the one crash dump that is staged into slot 0. -/
def dumpBeingWritten : State :=
  { State.reset with fwc := { Fwc.reset with writing := some 0, staged := [⟨0, 0, 1, 0, 0, 0, false⟩] } }

/-- The same with one part of a firmware update, which waits (R61). -/
def updateSuspended : State := dumpBeingWritten.holdMctp 0 (.update 0 [] false)

/-- R61: while a dump is being written a part of an update waits, so that the model itself comes to `updateSuspended`. -/
theorem exec_pldmFwUpdate_dumpBeingWritten : exec (.pldmFwUpdate true 0 [] false) dumpBeingWritten = .next updateSuspended :=
  congrArg Host.Outcome.next ((if_neg (by decide +kernel)).trans ((if_pos rfl).trans ((if_neg (by decide +kernel)).trans (if_neg (by decide +kernel)))))

/-- The dump's write ends: core 0 takes what waited for it. -/
theorem mctpHeld_of_dumpWrite_updateSuspended {t : State} (h : exec (.dumpWrite true) updateSuspended = .next t) : t.hw.mctpHeld = [] := by
  have hrun : (match exec (.dumpWrite true) updateSuspended with
      | .next u => some u.hw.mctpHeld
      | _ => none) = some [] := by decide +kernel
  rw [h] at hrun
  exact Option.some.inj hrun

/-- Refutes O53: the clause on the end of DUMP_WRITE says that of the module hardware only the alerts change where core 0's queue from the fabric is
empty, but as the write ends core 0 also takes the part of an update that the management controller held for it meanwhile (R61, R62). -/
theorem not_firmwareAndDumps : ¬ Obligations.FirmwareAndDumps := by
  intro h
  obtain ⟨-, -, -, -, -, -, -, -, -, -, -, -, dumpWriteEnds, -⟩ := h
  obtain ⟨t, hx, -, -, -, -, -, -, halerts, -⟩ := dumpWriteEnds updateSuspended _ _ 0 (by decide +kernel) (by decide +kernel) rfl rfl rfl
  have hkept : t.hw.mctpHeld = [(0, .update 0 [] false)] := by rw [halerts]; rfl
  rw [mctpHeld_of_dumpWrite_updateSuspended hx] at hkept
  cases hkept

end Sys2Proof.Machine
end

section
/-! PROOFS of the statements of 03_host_interface: the registers at reset (O4), and the link and the coherent cache (O21). Telling about an event changes of
the host interface at most the MSI-X table (`MsixAtMost`), so that the link's own part stays as training leaves it. -/

namespace Sys2Proof.Machine
open Sys2Proof

/-! ## Reset (R9) -/

theorem rd_reset (k : Nat) : State.reset.rd k = regDefault k := rfl

/-- Settles O4: right after reset a register reads the Reset value of its row (R73, R85, R118, R137, R196, R271, R305, R334, R374, R377, R414, R416, R445,
R467, R492, R513, R538, R548, R561). That no command waits and that no byte is listed are the model's choices (log entries 1 and 6). -/
theorem resetRegisters : Obligations.ResetRegisters := by
  refine ⟨?_, rfl, rfl, rfl⟩
  simp only [rd_reset]
  decide +kernel

/-! ## Changes of one part -/

theorem Only.of_hif (s : State) (h : Hif) : Only [.hif] s { s with hif := h } := by
  refine ⟨rfl, fun p hp => ?_⟩
  cases p with
  | hif => exact absurd (by decide) hp
  | regs | mem => exact fun _ => rfl
  | _ => rfl

theorem RegsBut.of_wr (s : State) (k : Nat) (v : Word) : RegsBut [k] s (s.wr k v) :=
  fun _ hj => s.rd_wr_ne v fun h => hj (List.mem_singleton.2 h)

theorem RegsBut.trans {ks : List Nat} {a b c : State} (h : RegsBut ks a b) (h' : RegsBut ks b c) : RegsBut ks a c :=
  fun k hk => (h' k hk).trans (h k hk)

/-! ## Telling and the host interface (R90, R94) -/

/-- Of the host interface at most the MSI-X table changes: a vector that is masked becomes pending (R90). -/
def MsixAtMost (s t : State) : Prop := ∃ m, t.hif = { s.hif with msix := m }

namespace MsixAtMost
variable {s t u : State}

theorem of_hif (h : t.hif = s.hif) : MsixAtMost s t := ⟨s.hif.msix, h⟩

theorem refl (s : State) : MsixAtMost s s := of_hif rfl

theorem trans (h : MsixAtMost s t) (h' : MsixAtMost t u) : MsixAtMost s u := by
  obtain ⟨m, hm⟩ := h
  obtain ⟨n, hn⟩ := h'
  exact ⟨n, by rw [hn, hm]⟩

theorem training (h : MsixAtMost s t) : t.hif.training = s.hif.training := by
  obtain ⟨m, hm⟩ := h
  rw [hm]

theorem prevWidth (h : MsixAtMost s t) : t.hif.prevWidth = s.hif.prevWidth := by
  obtain ⟨m, hm⟩ := h
  rw [hm]

theorem prevSpeed (h : MsixAtMost s t) : t.hif.prevSpeed = s.hif.prevSpeed := by
  obtain ⟨m, hm⟩ := h
  rw [hm]

theorem msix (s : State) (fn v : Nat) : MsixAtMost s (s.msix fn v) := by
  unfold State.msix
  extract_lets m
  split
  · exact ⟨_, rfl⟩
  · split
    exacts [of_hif rfl, refl s]

theorem raiseInt (s : State) (page b : Nat) : MsixAtMost s (s.raiseInt page b) := by
  unfold State.raiseInt State.raiseInts
  extract_lets was u
  have hu : MsixAtMost s u := of_hif rfl
  split
  exacts [hu.trans (msix ..), hu]

theorem errCapture (s : State) (page code cls fn : Nat) (t : Tags) (addr detail : Nat) :
    MsixAtMost s (s.errCapture page code cls fn t addr detail) := by
  unfold State.errCapture
  split
  · exact refl s
  · refine of_hif ?_
    rw [State.setB_hif]
    iterate 8 rw [State.wr_hif]

theorem logOnly (s : State) (page code cls fn : Nat) (t : Tags) (addr detail : Nat) : MsixAtMost s (s.logOnly page code cls fn t addr detail) := by
  have hcounted : MsixAtMost s (s.bump (errCountK page)) := of_hif rfl
  exact logOnly_eq s page code cls fn t addr detail ▸ (hcounted.trans (errCapture ..)).trans (raiseInt ..)

theorem startCapture (s : State) (cause : Nat) : MsixAtMost s (s.startCapture cause) := by
  unfold State.startCapture
  extract_lets st newest slot d u
  split
  · have hrefused : MsixAtMost s (s.bump R.DBG_BELV_REFUSED) := of_hif rfl
    exact hrefused.trans (logOnly ..)
  · exact of_hif rfl

/-- Pauses and XOFF leave the host interface. -/
theorem z2Hold_hif (s : State) : s.z2Hold.hif = s.hif := by
  refine List.foldlRecOn (motive := fun (u : State) => u.hif = s.hif) _ _
    (List.foldlRecOn (motive := fun (u : State) => u.hif = s.hif) _ _ rfl fun u h p _ => ?_) fun u h k _ => ?_
  · dsimp only
    split <;> exact h
  · split <;> exact h

theorem wake_hif (s : State) (w : WakeSource) : (s.wake w).hif = s.hif := by
  unfold State.wake
  extract_lets caused idle z2 exits i held
  split
  · rfl
  · split
    · split <;> rfl
    · split
      · rfl
      · split
        exacts [z2Hold_hif held, rfl]

theorem freezeSnap (s : State) (en : Word) : MsixAtMost s (s.freezeSnap en) := by
  unfold State.freezeSnap
  split
  exacts [startCapture s 2, refl s]

theorem driveCrew (s : State) (src : Nat) (en : Word) : MsixAtMost s (s.driveCrew src en) := by
  unfold State.driveCrew
  split
  exacts [of_hif rfl, refl s]

theorem freezeNow (s : State) (src : Nat) : MsixAtMost s (s.freezeNow src) := raiseInt _ pDBG 0

theorem freeze (s : State) (src : Nat) : MsixAtMost s (s.freeze src) := by
  by_cases h : s.FreezeOpen src
  · cases hf : s.frozen with
    | true => exact freeze_of_frozen h hf ▸ of_hif rfl
    | false => exact freeze_of_running h hf ▸ (((freezeNow s src).trans (freezeSnap ..)).trans (driveCrew ..)).trans (of_hif (wake_hif ..))
  · rw [freeze_of_closed h]
    exact refl s

theorem trace (s : State) (block inst event fn : Nat) (t : Option Tags) (a b : Nat) : MsixAtMost s (s.trace block inst event fn t a b) := by
  unfold State.trace
  extract_lets full tg r keep d recorded u g
  have hu : MsixAtMost s u := of_hif rfl
  split
  · exact refl s
  · split
    · have hlost : MsixAtMost s (s.bump R.DBG_TRACE_LOST) := of_hif rfl
      exact hlost.trans (raiseInt ..)
    · split
      exacts [hu.trans (freeze ..), hu]

theorem queueEvent (s : State) (dest : Nat) (e : EvRec) : MsixAtMost s (s.queueEvent dest e) := by
  unfold State.queueEvent
  extract_lets f
  split
  exacts [of_hif rfl, of_hif rfl]

theorem event (s : State) (dest page event code cls inst fn detail addr : Nat) :
    MsixAtMost s (s.event dest page event code cls inst fn detail addr) := by
  unfold State.event State.raiseTo
  extract_lets traced
  have htraced : MsixAtMost s traced := trace ..
  split
  · split
    exacts [htraced.trans (queueEvent ..), htraced.trans (of_hif rfl)]
  · exact htraced.trans (queueEvent ..)

end MsixAtMost

/-! ## The link (R66, R67, R74 to R77) -/

/-- Beside what telling changes, only HIF_LINK_EVENTS can have changed, and of the host interface only the MSI-X table. -/
structure LinkTold (s t : State) : Prop where
  tells : TellsIn [] [R.HIF_LINK_EVENTS] s t
  hif : MsixAtMost s t

namespace LinkTold
variable {s t u : State}

theorem trans (h : LinkTold s t) (h' : LinkTold t u) : LinkTold s u := ⟨h.tells.trans h'.tells, h.hif.trans h'.hif⟩

theorem trace (s : State) (block inst event fn : Nat) (t : Option Tags) (a b : Nat) : LinkTold s (s.trace block inst event fn t a b) :=
  ⟨(Told.trace ..).tellsIn _ _, .trace ..⟩

/-- R77: the event's bit is set, and the event is told. -/
theorem linkEvent (s : State) (b : Nat) : LinkTold s (s.linkEvent b) := by
  have hbit : MsixAtMost s (s.setB R.HIF_LINK_EVENTS b true) := .of_hif rfl
  exact ⟨(TellsIn.of_wr ..).trans ((Told.event _ _ _ _ _ _ _ _ _ _ (by decide)).tellsIn _ _), hbit.trans (.event ..)⟩

theorem linkEvent_if (p : Prop) [Decidable p] (s : State) (b : Nat) : LinkTold s (if p then s.linkEvent b else s) := by
  split
  exacts [linkEvent s b, ⟨(Told.refl s).tellsIn _ _, .refl s⟩]

end LinkTold

theorem getB_linkEvent (s : State) {b : Nat} (hb : b < 32) : (s.linkEvent b).getB R.HIF_LINK_EVENTS b = true :=
  (getB_congr ((Told.event _ _ _ _ _ _ _ _ _ _ (by decide)).2 _ (by decide)) b).trans (getB_setB_self _ _ _ hb)

/-- R74: HIF_LINK_STATUS of a link that is up: its width and speed, CXL.io and CXL.cache, the lane order, the reference clock mode. -/
def linkStatus (width speed : Nat) (cxl cache rev sris : Bool) : Nat :=
  width + 32 * speed + 256 + 512 * b2n cxl + 1024 * b2n cache + 2048 * b2n rev + 4096 * b2n sris

theorem b2n_le_one (b : Bool) : b2n b ≤ 1 := by cases b <;> decide

theorem toNat_word {n : Nat} (hn : n < 2 ^ 32) : (word n).toNat = n := by rw [word, BitVec.toNat_ofNat, Nat.mod_eq_of_lt hn]

theorem fld_word {n lo w : Nat} (hn : n < 2 ^ 32) : fld (word n) lo w = n / 2 ^ lo % 2 ^ w := by rw [fld, toNat_word hn, bitsOf]

theorem bit_word {n i : Nat} {b : Bool} (hn : n < 2 ^ 32) (h : n / 2 ^ i % 2 = b2n b) : bit (word n) i = b := by
  rw [bit, toNat_word hn, bitOf, h]
  cases b <;> rfl

/-- The fields of the register, each in its place. -/
theorem linkStatus_fields {width speed : Nat} (cxl cache rev sris : Bool) (hw : width ≤ 16) (hs : speed ≤ 5) :
    let v := word (linkStatus width speed cxl cache rev sris)
    fld v 0 5 = width ∧ fld v 5 3 = speed ∧ bit v 8 = true ∧ bit v 9 = cxl ∧ bit v 10 = cache ∧ bit v 11 = rev := by
  intro v
  obtain ⟨n, hn⟩ : ∃ n, n = linkStatus width speed cxl cache rev sris := ⟨_, rfl⟩
  have hv : v = word n := congrArg word hn.symm
  have hcxl := b2n_le_one cxl
  have hcache := b2n_le_one cache
  have hrev := b2n_le_one rev
  have hsris := b2n_le_one sris
  have hup : b2n true = 1 := rfl
  rw [linkStatus] at hn
  have hlt : n < 2 ^ 32 := by omega
  rw [hv, fld_word hlt, fld_word hlt]
  refine ⟨?_, ?_, bit_word hlt ?_, bit_word hlt ?_, bit_word hlt ?_, bit_word hlt ?_⟩ <;> omega

/-- R66, R74: the link as training has found it, before anything is told. -/
def State.trained (s : State) (width speed : Nat) (cxl rev : Bool) : State :=
  { s with hif := { s.hif with training := false, refOther := false, prevWidth := width, prevSpeed := speed } }.wr R.HIF_LINK_STATUS
    (word (linkStatus width speed cxl (cxl && s.getB R.HIF_LINK_CTRL 1) rev (s.getB R.HIF_LINK_CTRL 2 != s.hif.refOther)))

/-- R66: the link comes up in CXL mode where CXL is allowed, the host negotiates it, and speed and width allow it. -/
def State.cxlMode (s : State) (width speed : Nat) (negotiated : Bool) : Bool :=
  s.getB R.HIF_LINK_CTRL 0 && negotiated && decide (3 ≤ speed) && decide (4 ≤ width)

theorem linkShapeOk_bounds {cxl : Bool} {width speed : Nat} (h : linkShapeOk cxl width speed = true) :
    width ≤ 16 ∧ speed ≤ 5 ∧ (cxl = true → 3 ≤ speed ∧ 4 ≤ width) := by
  cases cxl with
  | false =>
    simp only [linkShapeOk, Bool.false_eq_true, if_false, Bool.and_eq_true, Bool.or_eq_true, decide_eq_true_eq] at h
    exact ⟨by omega, by omega, nofun⟩
  | true =>
    simp only [linkShapeOk, if_true, Bool.and_eq_true, Bool.or_eq_true, decide_eq_true_eq] at h
    exact ⟨by omega, by omega, fun _ => by omega⟩

/-- Training that ends in a shape its mode allows brings the link up, and tells of it. -/
theorem exec_linkTrained {s : State} {width speed : Nat} {neg cxl : Bool} (rev : Bool) (ht : s.hif.training = true)
    (hmode : s.cxlMode width speed neg = cxl) (hshape : linkShapeOk cxl width speed = true)
    (htop : speed ≤ if fld (s.rd R.HIF_LINK_CTRL) 4 3 = 0 then 5 else fld (s.rd R.HIF_LINK_CTRL) 4 3) :
    ∃ t, exec (.linkTrained width speed neg rev) s = .next t ∧ LinkTold (s.trained width speed cxl rev) t := by
  subst hmode
  refine ⟨_, congrArg Host.Outcome.next (if_pos ?_), ?_⟩
  · simp only [Bool.and_eq_true, decide_eq_true_eq]
    exact ⟨⟨ht, hshape⟩, htop⟩
  · exact (((LinkTold.trace ..).trans (.linkEvent_if ..)).trans (.linkEvent_if ..)).trans (.linkEvent_if ..)

theorem tellsIn_trained (s : State) (width speed : Nat) (cxl rev : Bool) :
    TellsIn [] [R.HIF_LINK_STATUS, R.HIF_LINK_EVENTS] s (s.trained width speed cxl rev) := by
  have hhif : TellsIn [] [R.HIF_LINK_STATUS] s
      { s with hif := { s.hif with training := false, refOther := false, prevWidth := width, prevSpeed := speed } } :=
    (Told.of_only ((Only.of_hif s _).mono (by decide))).tellsIn _ _
  exact (hhif.trans (TellsIn.of_wr ..)).mono (by simp) (by simp)

/-- What the status register and the host interface hold once the link is up. -/
theorem linkTold_trained {s t : State} {width speed : Nat} {cxl rev : Bool} (hw : width ≤ 16) (hs : speed ≤ 5)
    (h : LinkTold (s.trained width speed cxl rev) t) :
    t.linkUp = true ∧ t.cacheActive = (cxl && s.getB R.HIF_LINK_CTRL 1) ∧ t.getB R.HIF_LINK_STATUS 9 = cxl ∧
    t.getF R.HIF_LINK_STATUS 0 5 = width ∧ t.getF R.HIF_LINK_STATUS 5 3 = speed ∧ t.getB R.HIF_LINK_STATUS 11 = rev ∧
    TellsIn [] [R.HIF_LINK_STATUS, R.HIF_LINK_EVENTS] s t := by
  have hrd : t.rd R.HIF_LINK_STATUS = _ := (h.tells.rd_eq (by decide) (by decide)).trans (State.rd_wr_self ..)
  simp only [State.linkUp, State.cacheActive, State.getB, State.getF, hrd]
  obtain ⟨hwidth, hspeed, hup, hcxl, hcache, hrev⟩ :=
    linkStatus_fields cxl (cxl && s.getB R.HIF_LINK_CTRL 1) rev (s.getB R.HIF_LINK_CTRL 2 != s.hif.refOther) hw hs
  exact ⟨hup, hcache, hcxl, hwidth, hspeed, hrev, (tellsIn_trained ..).trans (h.tells.mono (by simp) (by simp))⟩

/-! ## The coherent cache (R78, R82, R83) -/

/-- R83: a write of HIF_CC_CTRL that takes ENABLE from 1 to 0 starts a write-back, after the one that WB_INV asks for; ENABLE stays. -/
theorem ccCtrlWrite_disable {s : State} {v : Word} (hen : s.getB R.HIF_CC_CTRL 0 = true) (hv : bit v 0 = false) :
    s.ccCtrlWrite v = (if bit v 1 then (s.setB R.HIF_CC_CTRL 1 true).ccStart .wbInv else s).ccStart .disable :=
  if_pos (by simp [hen, hv])

/-- R83: a write of HIF_CC_CTRL with ENABLE and WB_INV 1 starts a write-back; both read 1. -/
theorem ccCtrlWrite_wbInv (s : State) {v : Word} (hen : bit v 0 = true) (hv : bit v 1 = true) :
    s.ccCtrlWrite v = ((s.setB R.HIF_CC_CTRL 1 true).ccStart .wbInv).setB R.HIF_CC_CTRL 0 true := by
  simp [State.ccCtrlWrite, hen, hv]

theorem only_ccStart (s : State) (a : CcAction) : Only [.hif] s (s.ccStart a) := Only.of_hif s _

theorem hostRoute_congr {s t : State} (hr : ∀ fn, t.rd (R.TRN_FN_PASID fn) = s.rd (R.TRN_FN_PASID fn)) (ht : t.trn = s.trn) (fn va : Nat) :
    t.hostRoute fn va = s.hostRoute fn va := by
  have henabled : t.getB (R.TRN_FN_PASID fn) 31 = s.getB (R.TRN_FN_PASID fn) 31 := getB_congr (hr fn) 31
  have hpasid : t.getF (R.TRN_FN_PASID fn) 0 20 = s.getF (R.TRN_FN_PASID fn) 0 20 := congrArg (fld · 0 20) (hr fn)
  rw [State.hostRoute, State.hostRoute, henabled, hpasid, ht]

theorem pasid_ne_snoopCount (fn : Nat) : R.TRN_FN_PASID fn ≠ R.HIF_SNOOP_COUNT := by
  simp only [R.TRN_FN_PASID, R.HIF_SNOOP_COUNT, rkey]
  omega

/-- A dirty line's bytes go to the host (R82, R83). -/
theorem ccWriteBack_eq (s : State) (fn line : Nat) (l : CcLine) : s.ccWriteBack fn line l =
    { s with out := (if l.dirty then [.hostWrite fn (64 * line) l.data .writeBack (s.hostRoute fn (64 * line))] else []) ++ s.out } := by
  unfold State.ccWriteBack
  split <;> rfl

/-- R82: the lines of the cache once a snoop of line k has been answered. -/
def snooped (lines : Tab CcLine) (k : Nat) (l : CcLine) (inv : Bool) : Tab CcLine :=
  if inv then lines.del k else lines.put k { l with dirty := false }

theorem look_snooped (lines : Tab CcLine) (k : Nat) (l : CcLine) (inv : Bool) :
    (snooped lines k l inv).look k = if inv then none else some { l with dirty := false } := by
  cases inv
  · exact Tab.look_put_self ..
  · exact Tab.look_del_self ..

theorem exec_snoop_absent {s : State} {fn line : Nat} (inv : Bool) (h : s.hif.lines.look (ccKey fn line) = none) :
    exec (.snoop fn line inv) s = .next ((s.bump R.HIF_SNOOP_COUNT).emit (.snoopReply line false false)) := by
  show execSnoop fn line inv s = _
  simp only [execSnoop, State.bump_hif, h]

/-- What the host is sent for a snoop of a line that the cache holds. -/
def State.snoopOut (s : State) (fn line : Nat) (l : CcLine) : List Out :=
  (if l.dirty then [.hostWrite fn (64 * line) l.data .writeBack (s.hostRoute fn (64 * line))] else []) ++ .snoopReply line true l.dirty :: s.out

theorem exec_snoop_held {s : State} {fn line : Nat} {l : CcLine} (inv : Bool) (h : s.hif.lines.look (ccKey fn line) = some l) :
    exec (.snoop fn line inv) s = .next { s.bump R.HIF_SNOOP_COUNT with
      out := s.snoopOut fn line l, hif := { s.hif with lines := snooped s.hif.lines (ccKey fn line) l inv } } := by
  have hroute : ((s.bump R.HIF_SNOOP_COUNT).emit (.snoopReply line true l.dirty)).hostRoute fn (64 * line) = s.hostRoute fn (64 * line) :=
    hostRoute_congr (fun f => s.rd_wr_ne _ (pasid_ne_snoopCount f)) rfl _ _
  show execSnoop fn line inv s = _
  simp only [execSnoop, State.bump_hif, h, ccWriteBack_eq, hroute, snooped]
  cases inv <;> rfl

theorem only_wr_out_hif (s : State) (k : Nat) (v : Word) (o : List Out) (h : Hif) :
    Only [.out, .regs, .hif] s { s.wr k v with out := o, hif := h } :=
  (((Only.of_wr s k v).mono (by decide)).trans ((Only.of_out _ o).mono (by decide))).trans ((Only.of_hif _ h).mono (by decide))

/-- Settles O21, by what training tells (`exec_linkTrained`), what a write of HIF_CC_CTRL starts, and what a snoop answers. -/
theorem hostLinkAndCache : Obligations.HostLinkAndCache := by
  refine ⟨fun s w sp neg rev ht hmode hshape htop => ?_, fun s w sp rev ht hallowed hshape htop => ?_, fun s ht hauto => ?_, fun s hup => ?_,
    fun s v hen hv => ?_, fun s v hen hv => ?_, fun s fn line inv h => ?_, fun s fn line l inv h => ?_⟩
  · obtain ⟨t, hx, htold⟩ := exec_linkTrained rev ht hmode hshape htop
    obtain ⟨hw, hs, -⟩ := linkShapeOk_bounds hshape
    obtain ⟨hup, hcache, -, hwidth, hspeed, hrev, htells⟩ := linkTold_trained hw hs htold
    exact ⟨t, hx, hup, hcache, hwidth, hspeed, hrev, htold.hif.training, htold.hif.prevWidth, htold.hif.prevSpeed, htells⟩
  · obtain ⟨hw, hs, hcxl⟩ := linkShapeOk_bounds hshape
    obtain ⟨hs3, hw4⟩ := hcxl rfl
    have hmode : s.cxlMode w sp true = true := by simp [State.cxlMode, State.getB, hallowed, hs3, hw4]
    obtain ⟨t, hx, htold⟩ := exec_linkTrained rev ht hmode hshape htop
    obtain ⟨hup, hcache, hcxl, hwidth, -, -, htells⟩ := linkTold_trained hw hs htold
    exact ⟨t, hx, hup, hcache, hcxl, hwidth, htells⟩
  · exact ⟨_, congrArg Host.Outcome.next (if_pos (by simp [ht, hauto])), rfl, Only.of_hif s _⟩
  · exact ⟨_, congrArg Host.Outcome.next (if_pos hup), getB_linkEvent s (by decide), (LinkTold.linkEvent s 1).tells⟩
  · refine ⟨_, congrArg Host.Outcome.next ((if_pos (by simp [hen, hv])).trans (ccCtrlWrite_disable hen hv)), ?_⟩
    cases bit v 1 with
    | false => exact ⟨by simp [State.ccStart], hen, rfl, fun _ _ => rfl, (only_ccStart s _).mono (by decide)⟩
    | true =>
      refine ⟨rfl, (getB_setB_ne s _ true (by decide) (by decide)).trans hen, rfl, RegsBut.of_wr s _ _, ?_⟩
      exact (((Only.of_wr s _ _).mono (by decide)).trans ((only_ccStart _ _).mono (by decide))).trans ((only_ccStart _ _).mono (by decide))
  · refine ⟨_, congrArg Host.Outcome.next ((if_pos hv).trans (ccCtrlWrite_wbInv s hen hv)), rfl, ?_, getB_setB_self _ _ _ (by decide), rfl, ?_, ?_⟩
    · exact (getB_setB_ne _ _ true (by decide) (by decide)).trans (getB_setB_self s _ true (by decide))
    · exact (RegsBut.of_wr s R.HIF_CC_CTRL _).trans (RegsBut.of_wr _ _ _)
    · exact (((Only.of_wr s _ _).mono (by decide)).trans ((only_ccStart _ _).mono (by decide))).trans ((Only.of_wr _ _ _).mono (by decide))
  · refine ⟨_, exec_snoop_absent inv h, rfl, State.rd_wr_self _ _ _, RegsBut.of_wr s _ _, ?_⟩
    exact ((Only.of_wr s _ _).mono (by decide)).trans ((Only.of_out _ _).mono (by decide))
  · exact ⟨_, exec_snoop_held inv h, rfl, look_snooped .., RegsBut.of_wr s _ _, only_wr_out_hif ..⟩

end Sys2Proof.Machine
end

section
/-! COUNTEREXAMPLES to statements of 03_host_interface: a host link loss (O20), a write into the slot area (O22) and an event record (O23). -/

namespace Sys2Proof.Machine
open Sys2Proof

/-! ## A host link loss with a ring that interrupts (R90, R103, R109, R160) -/

/-- R103, R104: an event H up to the queues of the functions: the link is down, and the lines, the MSI-X tables, the probes, the virtual functions and
the host's translations are gone. -/
def State.linkDropped (s : State) (discarded : Nat) : State :=
  let cut := s.ccCut
  let counted := (cut.bump R.HIF_RETRAIN_COUNT).bump R.HIF_DISCARD_COUNT (if cut.idleState = 0 then discarded + cut.dirtyLines else 0)
  let u := counted.regEvent evH
  { u with
    hif := { u.hif with lines := [], msix := [], writesSinceProbe := u.hif.writesSinceProbe || !u.hif.probes.isEmpty, probes := [], training := false },
    trn := { u.trn with numVfs := 0, tlb := u.trn.tlb.filter (fun e => match e.target with | .device _ => true | _ => false) },
    sec := { u.sec with sessions := u.sec.sessions.filter (fun x => !x.doe), waitSpdm := u.sec.waitSpdm.filter (fun x => !x.1) } }

/-- R103: then each function loses its rings and its Pavilion page, the trigger queues their entries, and the fault queue its host pages; the loss is told. -/
theorem eventH_of_linkUp {s : State} (h : s.linkUp = true) (n : Nat) :
    s.eventH n = ((((List.range 64).foldl (fun s f => (s.hostLost f).pavLost f) (s.linkDropped n)).tqsLost.faultsH.trace 2 0 0x07 0 none 0 1).linkEvent
      0).ccFinish :=
  if_neg (by simp [h])

/-- A function with no ring and no completion queue enabled has none to lose. -/
theorem hostLost_of_disabled {s : State} {fn : Nat}
    (h : ∀ r < 16, s.getB (R.RNG_RING_CTRL fn r) 0 = false ∧ s.getB (R.RNG_CQ_CTRL fn r) 0 = false) : s.hostLost fn = s := by
  refine List.foldlRecOn (motive := fun t => t = s) _ _ rfl fun t ht r hr => ?_
  obtain ⟨hring, hcq⟩ := h r (List.mem_range.1 hr)
  subst ht
  simp [hring, hcq]

/-- With no descriptor in Cox none is without an entry. -/
theorem withoutEntries_of_no_ops {s : State} (h : s.ops = []) (src : Source) : s.withoutEntries src = s := by
  obtain ⟨⟩ := s
  subst h
  rfl

/-- A Pavilion page with nothing submitted and no chain, of a device with no descriptor, has nothing to lose. -/
theorem pavLost_of_empty {s : State} (hq : s.queues = []) (ho : s.ops = []) (fn : Nat) : s.pavLost fn = s := by
  have hqueue : s.queue (.pav fn) = ⟨[], none, none, false, 0, 0, none⟩ := by rw [State.queue, hq]; rfl
  simp only [State.pavLost, hqueue, withoutEntries_of_no_ops ho]
  rfl

/-- The link is up, and the last ring of the last function is enabled, with the interrupt cause HOST_LOST of its page enabled; every vector is masked, as
after reset. -/
def lossInterrupts : State :=
  ((State.reset.setB R.HIF_LINK_STATUS 8 true).setB (R.RNG_RING_CTRL 63 15) 0 true).setB (enK (ringPage 63 15)) 2 true

/-- Only function 63 has a ring to lose. -/
theorem lost_lossInterrupts :
    (List.range 64).foldl (fun s f => (s.hostLost f).pavLost f) (lossInterrupts.linkDropped 0) =
      ((lossInterrupts.linkDropped 0).hostLost 63).pavLost 63 := by
  have hoff : ∀ f < 63, ∀ r < 16, (lossInterrupts.linkDropped 0).getB (R.RNG_RING_CTRL f r) 0 = false ∧
      (lossInterrupts.linkDropped 0).getB (R.RNG_CQ_CTRL f r) 0 = false := by decide +kernel
  have hothers : (List.range 63).foldl (fun s f => (s.hostLost f).pavLost f) (lossInterrupts.linkDropped 0) = lossInterrupts.linkDropped 0 :=
    List.foldlRecOn (motive := fun t => t = lossInterrupts.linkDropped 0) _ _ rfl fun t ht f hf => by
      rw [ht, hostLost_of_disabled (hoff f (List.mem_range.1 hf)), pavLost_of_empty rfl rfl]
  have hlast : List.range 64 = List.range 63 ++ [63] := List.range_succ
  rw [hlast, List.foldl_append, hothers, List.foldl_cons, List.foldl_nil]

/-- The ring enters HOST_LOST, and the masked vector of its page becomes pending. -/
theorem pending_of_hostLinkReset_lossInterrupts {t : State} (h : exec (.hostLinkReset 0) lossInterrupts = .next t) :
    (t.msixEntry 63 0).pending = true := by
  have hup : lossInterrupts.linkUp = true := by decide +kernel
  have hx : exec (.hostLinkReset 0) lossInterrupts = .next (lossInterrupts.eventH 0).startTraining := congrArg Host.Outcome.next (if_pos hup)
  rw [eventH_of_linkUp hup, lost_lossInterrupts, h] at hx
  injection hx with ht
  rw [ht]
  decide +kernel

/-- Refutes O20: the clauses on HOST_LINK_RESET and PERST_ASSERT say that no MSI-X entry is left, but a ring that enters HOST_LOST raises its interrupt
after the tables are dropped (R103, R160), and the vector, masked as after reset, then becomes pending (R90): a new entry. -/
theorem not_hostLinkLoss : ¬ Obligations.HostLinkLoss := by
  intro h
  obtain ⟨hostLinkReset, -⟩ := h
  obtain ⟨t, hx, -, -, hmsix, -⟩ := hostLinkReset lossInterrupts 0 (by decide +kernel) rfl
  have hpending := pending_of_hostLinkReset_lossInterrupts hx
  rw [State.msixEntry, hmsix] at hpending
  cases hpending

/-! ## A slot write of no bytes (R88, R114) -/

/-- Slot 0 of the manager's Pavilion page is busy. -/
def slotZeroBusy : State := State.reset.setB (R.MBX_SLOT_BUSY 0) 0 true

theorem exec_mbxSlotWrite_slotZeroBusy : exec (.mbxSlotWrite 0 0x401 []) slotZeroBusy = .next slotZeroBusy := rfl

/-- Refutes O22: the clause on MBX_SLOT_WRITE counts a refusal for slot 0 where a write of no bytes stands at 0x401 and slot 0 is busy, but such a write
touches no slot, and nothing is refused (R88, R114). -/
theorem not_pavilionSubmits : ¬ Obligations.PavilionSubmits := by
  intro h
  obtain ⟨-, -, -, -, -, slotWrite, -⟩ := h
  obtain ⟨t, hx, -, -, hcount, -⟩ := slotWrite slotZeroBusy 0 0x401 [] (by decide) (by decide) (by decide)
  rw [exec_mbxSlotWrite_slotZeroBusy] at hx
  injection hx with ht
  subst ht
  exact absurd hcount (by decide +kernel)

/-! ## An event record whose own write raises an event (R95, R319) -/

/-- The event record that the manager's event queue holds, and host memory that finds a single-bit error in the burst at 0. -/
def heldRecord : EvRec := ⟨3, 0, clsDevice, 2, 0, 0, 4, 0, 9⟩
def correctedBurst : HostView := ⟨[], [], [0], []⟩

/-- The link is up, and the manager's event queue is enabled at 0 in a page of device memory, whose first burst has been corrected twice; the error
log of that burst's package is taken, and one record is held. -/
def queueInCorrectedBurst : State :=
  let enabled := ((State.reset.setB R.HIF_LINK_STATUS 8 true).setB (R.MBX_EVQ_CTRL 0) 0 true).setB (statusK (memPage 0)) 31 true
  let mapped := { enabled with dramInit := true }.putLeaf 0 true 0 ⟨false, true, true, false, false, false, 0⟩
  ((mapped.ceRead 0).ceRead 0).queueEvent 0 heldRecord

/-- The write of the record corrects the burst a third time, which raises CE_REPEAT's event for the manager (R319); that event is held. -/
theorem held_of_eventRecordWrite {t : State} (h : exec (.eventRecordWrite 0 correctedBurst) queueInCorrectedBurst = .next t) :
    (t.fnEvents 0).held ≠ [] := by
  have hrun : (match exec (.eventRecordWrite 0 correctedBurst) queueInCorrectedBurst with
      | .next u => (u.fnEvents 0).held
      | _ => []) ≠ [] := by decide +kernel
  rw [h] at hrun
  exact hrun

/-- Refutes O23: the clause on EVENT_RECORD_WRITE with room and a good address says that no record stays held. In a queue in device memory the write itself
can raise an event for the same function, which waits behind the record that was written (R95, R319). -/
theorem not_eventQueues : ¬ Obligations.EventQueues := by
  intro h
  obtain ⟨-, -, -, -, -, recordWrite, -⟩ := h
  obtain ⟨t, hx, -, hheld, -⟩ := recordWrite queueInCorrectedBurst 0 correctedBurst heldRecord (by decide) (by decide +kernel) (by decide +kernel)
    (by decide +kernel) (by decide +kernel) (by decide +kernel)
  exact held_of_eventRecordWrite hx hheld

end Sys2Proof.Machine
end

section
/-! PROOFS of the statements of 04_register_model: warm resets (O19), by what `warmReset` starts, what the die held in reset keeps, and what completes with a
write-back of the coherent cache. -/

namespace Sys2Proof.Machine
open Sys2Proof

/-! ## Registers over an event (R9, R10) -/

theorem getD_keep {β : Type} (d : Nat → β) (t : Tab β) (p : Nat → Bool) (k : Nat) :
    Tab.getD d (t.keep fun j _ => p j) k = if p k then Tab.getD d t k else d k := by
  rw [Tab.getD, Tab.keep, Tab.look_filter]
  split <;> rfl

/-! ## The die held in a warm reset (R125, R126) -/

theorem warmHeld_eq (s : State) (c : ResetCause) :
    ∃ out led, s.warmHeld c = { s.dieCleared with
      out := out, flash := s.updateCut.flash, regs := s.regs.keep (fun k _ => keptOn evW k), mem := s.mem, dramInit := s.dramInit,
      msys := { MemSys.reset with poison := s.msys.poison },
      trn := { Trn.reset with pt := s.trn.pt.mapv (fun _ e => putBits e 7 1 0), roots := s.trn.roots, nextTable := s.trn.nextTable },
      par := { Par.reset with bindings := s.par.bindings }, fwc := { Fwc.reset with staged := s.fwc.staged },
      dbg := { Dbg.reset with slots := s.dbg.slots }, idle := { Idle.reset with selfRefresh := s.dramInit },
      boot := { Boot.reset with warm := true }, hw := { s.hw with ledOn := led, warm := some (c, .held), mctpHeld := [] } } := by
  obtain ⟨out, led, h⟩ := ledsOff_eq s
  unfold State.warmHeld
  rw [h]
  by_cases hd : s.dbg.crewDriven = true
  · exact ⟨.pin "CREW_FREEZE#" true :: out, led, by simp only [hd, if_true]; rfl⟩
  · exact ⟨out, led, by simp only [hd]; rfl⟩

@[simp] theorem warmHeld_warm (s : State) (c : ResetCause) : (s.warmHeld c).hw.warm = some (c, .held) := rfl

@[simp] theorem warmHeld_modResetLow (s : State) (c : ResetCause) : (s.warmHeld c).hw.modResetLow = s.hw.modResetLow := by
  obtain ⟨out, led, h⟩ := warmHeld_eq s c
  rw [h]

theorem warmLeaves_warmHeld (s : State) (c : ResetCause) : WarmLeaves s (s.warmHeld c) := by
  obtain ⟨out, led, h⟩ := warmHeld_eq s c
  rw [h]
  exact ⟨getD_keep regDefault s.regs (keptOn evW), fun _ => rfl, rfl, rfl, rfl, rfl, rfl, rfl, rfl, rfl, rfl, rfl, rfl, rfl, rfl, rfl, rfl, rfl, rfl, rfl,
    rfl, rfl, rfl, rfl, rfl, rfl⟩

/-- What a warm reset leaves does not depend on what goes out, on the host interface, or on a register that the reset returns to its Reset value. -/
theorem WarmLeaves.of_only {s u t : State} (h : WarmLeaves u t) (ho : Only [.out, .regs, .hif] s u)
    (hr : ∀ k, keptOn evW k = true → u.rd k = s.rd k) : WarmLeaves s t := by
  obtain ⟨hpending, hsame⟩ := ho
  have hmem : ∀ p, u.dram p = s.dram p := hsame .mem (by decide)
  have hinit : u.dramInit = s.dramInit := hsame .dramInit (by decide)
  have hmsys : u.msys = s.msys := hsame .msys (by decide)
  have hpar : u.par = s.par := hsame .par (by decide)
  have hfwc : { u.fwc with inq := [] } = { s.fwc with inq := [] } := hsame .fwc (by decide)
  have hstaged : u.fwc.staged = s.fwc.staged := (congrArg Fwc.staged hfwc :)
  have hdbg : u.dbg = s.dbg := hsame .dbg (by decide)
  have htrn : u.trn = s.trn := hsame .trn (by decide)
  have hflash : u.flash = s.flash := hsame .flash (by decide)
  rw [WarmLeaves, hinit, hmsys, hpar, hstaged, hdbg, htrn, hflash, hpending] at h
  obtain ⟨hregs, hdram, hrest⟩ := h
  refine ⟨fun k => (hregs k).trans ?_, fun p => (hdram p).trans (hmem p), hrest⟩
  split
  · next hk => exact hr k hk
  · rfl

/-! ## The start of a warm reset (R125) -/

section
variable {s : State} {c : ResetCause} (hp : s.hw.power = .on) (hd : s.hw.dieHeld = false) (hw : s.hw.warm = none)
include hp hd hw

theorem warmReset_of_linkUp (hl : s.linkUp = true) :
    s.warmReset c = { s with hw := { s.hw with warm := some (c, .writeBack) } }.ccStart .warm := by
  simp [State.warmReset, hp, hd, hw, hl]

theorem warmReset_of_linkDown (hl : s.linkUp = false) : s.warmReset c = s.warmHeld c := by
  simp [State.warmReset, hp, hd, hw, hl]

theorem warmReset_modResetLow : (s.warmReset c).hw.modResetLow = s.hw.modResetLow := by
  cases hl : s.linkUp with
  | true => rw [warmReset_of_linkUp hp hd hw hl]; rfl
  | false => rw [warmReset_of_linkDown hp hd hw hl, warmHeld_modResetLow]

/-- With the link up the coherent cache is written back first; with the link down the die is held at once. -/
theorem warmReset_starts :
    (s.linkUp = true → (s.warmReset c).hw = { s.hw with warm := some (c, .writeBack) } ∧
      (s.warmReset c).hif.ccActions = s.hif.ccActions ++ [.warm] ∧ Only [.hw, .hif] s (s.warmReset c)) ∧
    (s.linkUp = false → (s.warmReset c).hw.warm = some (c, .held) ∧ WarmLeaves s (s.warmReset c)) := by
  refine ⟨fun hl => ?_, fun hl => ?_⟩
  · rw [warmReset_of_linkUp hp hd hw hl]
    exact ⟨rfl, rfl, ((Only.of_hw s _).mono (by decide)).trans ((only_ccStart _ _).mono (by decide))⟩
  · rw [warmReset_of_linkDown hp hd hw hl]
    exact ⟨warmHeld_warm s c, warmLeaves_warmHeld s c⟩

theorem dieUp_of_on : s.dieUp = true := by simp [State.dieUp, hp, hd, hw]

end

/-! ## The end of a write-back (R83) -/

/-- The dirty lines go out, and no line stays. -/
theorem ccFlush_eq (s : State) : ∃ out, s.ccFlush = { s with out := out, hif := { s.hif with lines := [] } } := by
  have hfold : ∃ out, s.hif.lines.foldl (fun s e => s.ccWriteBack e.2.fn (e.1 % 2 ^ 51) e.2) s = { s with out := out } :=
    List.foldlRecOn (motive := fun t => ∃ out, t = { s with out := out }) _ _ ⟨_, rfl⟩ fun _ ht e _ => by
      obtain ⟨out, rfl⟩ := ht
      exact ⟨_, ccWriteBack_eq ..⟩
  obtain ⟨out, h⟩ := hfold
  exact ⟨out, by rw [State.ccFlush, h]⟩

/-- The actions that waited for the write-back, but for a warm reset, completed. -/
def State.ccActed (s : State) : State := s.hif.ccActions.foldl (fun s a => s.ccAction a) { s with hif := { s.hif with ccActions := [] } }

theorem ccAction_cases (s : State) (a : CcAction) : s.ccAction a = s ∨ ∃ v, s.ccAction a = s.wr R.HIF_CC_CTRL v := by
  cases a with
  | disable | wbInv => exact .inr ⟨_, rfl⟩
  | idle | warm => exact .inl rfl

theorem only_ccAction (s : State) (a : CcAction) : Only [.regs] s (s.ccAction a) := by
  rcases ccAction_cases s a with h | ⟨v, h⟩
  exacts [h.symm ▸ Only.refl _ s, h.symm ▸ Only.of_wr ..]

theorem regsBut_ccAction (s : State) (a : CcAction) : RegsBut [R.HIF_CC_CTRL] s (s.ccAction a) := by
  rcases ccAction_cases s a with h | ⟨v, h⟩
  exacts [fun _ _ => by rw [h], h.symm ▸ RegsBut.of_wr s _ v]

/-- An action sets no bit of HIF_CC_CTRL. -/
theorem getB_ccAction_of_clear {s : State} {i : Nat} (hi : i < 32) (h : s.getB R.HIF_CC_CTRL i = false) (a : CcAction) :
    (s.ccAction a).getB R.HIF_CC_CTRL i = false := by
  have hclear : ∀ j, (s.setB R.HIF_CC_CTRL j false).getB R.HIF_CC_CTRL i = false := fun j => by
    by_cases hj : i = j
    · exact hj ▸ getB_setB_self s _ false hi
    · exact (getB_setB_ne s _ false hi hj).trans h
  cases a with
  | disable => exact hclear 0
  | wbInv => exact hclear 1
  | idle | warm => exact h

/-- A bit of HIF_CC_CTRL that one of the actions clears is 0 after them all. -/
theorem getB_foldl_ccAction {i : Nat} (hi : i < 32) {a : CcAction} (ha : ∀ s : State, (s.ccAction a).getB R.HIF_CC_CTRL i = false)
    {l : List CcAction} (hm : a ∈ l) (s : State) : (l.foldl (fun s a => s.ccAction a) s).getB R.HIF_CC_CTRL i = false := by
  obtain ⟨l₁, l₂, rfl⟩ := List.append_of_mem hm
  rw [List.foldl_append, List.foldl_cons]
  exact List.foldlRecOn (motive := fun (t : State) => t.getB R.HIF_CC_CTRL i = false) _ _ (ha _) fun _ ht b _ => getB_ccAction_of_clear hi ht b

section
variable (s : State)

theorem ccActed_frame :
    Only [.regs] { s with hif := { s.hif with ccActions := [] } } s.ccActed ∧ RegsBut [R.HIF_CC_CTRL] s s.ccActed :=
  List.foldlRecOn (motive := fun t => Only [.regs] { s with hif := { s.hif with ccActions := [] } } t ∧ RegsBut [R.HIF_CC_CTRL] s t) _ _
    ⟨Only.refl _ _, fun _ _ => rfl⟩ fun t ⟨ho, hr⟩ a _ => ⟨ho.trans (only_ccAction t a), hr.trans (regsBut_ccAction t a)⟩

theorem ccActed_hif : s.ccActed.hif = { s.hif with ccActions := [] } := (ccActed_frame s).1.2 .hif (by decide)

theorem ccActed_hw : s.ccActed.hw = s.hw := (ccActed_frame s).1.2 .hw (by decide)

theorem only_ccActed : Only [.regs, .hif] s s.ccActed :=
  ((Only.of_hif s _).mono (by decide)).trans ((ccActed_frame s).1.mono (by decide))

theorem getB_ccActed_disable (h : CcAction.disable ∈ s.hif.ccActions) : s.ccActed.getB R.HIF_CC_CTRL 0 = false :=
  getB_foldl_ccAction (a := .disable) (by decide) (fun t => getB_setB_self t R.HIF_CC_CTRL false (by decide)) h
    { s with hif := { s.hif with ccActions := [] } }

theorem getB_ccActed_wbInv (h : CcAction.wbInv ∈ s.hif.ccActions) : s.ccActed.getB R.HIF_CC_CTRL 1 = false :=
  getB_foldl_ccAction (a := .wbInv) (by decide) (fun t => getB_setB_self t R.HIF_CC_CTRL false (by decide)) h
    { s with hif := { s.hif with ccActions := [] } }

/-- The cache once it is written back, with the actions that waited for it completed. -/
theorem ccFlush_ccActed_frame : Only [.out, .regs, .hif] s s.ccFlush.ccActed ∧ RegsBut [R.HIF_CC_CTRL] s s.ccFlush.ccActed := by
  obtain ⟨out, h⟩ := ccFlush_eq s
  rw [h]
  refine ⟨?_, (ccActed_frame _).2⟩
  exact (((Only.of_out s out).mono (by decide)).trans ((Only.of_hif _ _).mono (by decide))).trans ((only_ccActed _).mono (by decide))

end

theorem ccFinish_of_warm {s : State} {c : ResetCause} (h : s.hw.warm = some (c, .writeBack)) (hm : CcAction.warm ∈ s.hif.ccActions) :
    s.ccFinish = s.ccActed.warmHeld c := by
  unfold State.ccFinish
  extract_lets acts hif acted
  have hwarm : acted.hw.warm = some (c, .writeBack) := (congrArg ModuleHw.warm (ccActed_hw s)).trans h
  rw [hwarm]
  exact if_pos hm

theorem ccFinish_of_no_warm {s : State} (h : s.hw.warm = none) : s.ccFinish = s.ccActed := by
  unfold State.ccFinish
  extract_lets acts hif acted
  have hwarm : acted.hw.warm = none := (congrArg ModuleHw.warm (ccActed_hw s)).trans h
  rw [hwarm]
  rfl

theorem exec_ccWritebackDone {s : State} (h : s.hif.ccActions ≠ []) : exec .ccWritebackDone s = .next s.ccFlush.ccFinish :=
  congrArg Host.Outcome.next (if_neg (by simpa using h))

theorem ccFlush_hw (s : State) : s.ccFlush.hw = s.hw := by
  obtain ⟨out, h⟩ := ccFlush_eq s
  rw [h]

theorem ccFlush_hif (s : State) : s.ccFlush.hif = { s.hif with lines := [] } := by
  obtain ⟨out, h⟩ := ccFlush_eq s
  rw [h]

/-! ## The release of the die (R120, R125) -/

theorem warmRelease_of_held {s : State} {c : ResetCause} (h : s.hw.warm = some (c, .held)) :
    s.warmRelease = { s with hw := { s.hw with warm := none } }.wr R.GLB_RESET_CAUSE (word (2 ^ resetBit c)) := by
  simp only [State.warmRelease, h]

theorem warmRelease_of_none {s : State} (h : s.hw.warm = none) : s.warmRelease = s := by
  simp only [State.warmRelease, h]

theorem only_warmRelease_of_held {s : State} {c : ResetCause} (h : s.hw.warm = some (c, .held)) : Only [.hw, .regs] s s.warmRelease := by
  rw [warmRelease_of_held h]
  exact ((Only.of_hw s _).mono (by decide)).trans ((Only.of_wr _ _ _).mono (by decide))

/-- Settles O19, by what `warmReset`, `ccFinish` and `warmRelease` do. That page tables without BUSY, parity bindings, poison and staged dumps stay is the
model's choice (log entry 65); that a reset command waits for core 0 rests on R62. -/
theorem warmResets : Obligations.WarmResets := by
  refine ⟨fun s hp hd hw => ?_, fun s hp hd hw => ?_, fun s v hv => ?_, fun s hp hd hw hc => ?_, fun s hp hd hw hc => ?_,
    fun s c ha hw hm => ?_, fun s ha hw => ?_, fun s c hw => ?_, fun s hw => ?_, fun s c hl hw => ?_⟩
  · obtain ⟨hup, hdown⟩ := warmReset_starts (s := { s with hw := { s.hw with modResetLow := true } }) (c := .pin) hp hd hw
    refine ⟨_, rfl, warmReset_modResetLow (s := { s with hw := { s.hw with modResetLow := true } }) hp hd hw, fun hl => ?_, hdown⟩
    obtain ⟨hhw, hacts, honly⟩ := hup hl
    exact ⟨hhw, hacts, ((Only.of_hw s _).mono (by decide)).trans honly⟩
  · exact ⟨_, congrArg Host.Outcome.next (if_pos rfl), warmReset_starts hp hd hw⟩
  · exact ⟨_, congrArg Host.Outcome.next (if_neg hv), State.rd_wr_self _ _ _, RegsBut.of_wr s _ _, Only.of_wr s _ _⟩
  · have hx : exec .mctpWarmReset s = .next (s.warmReset .mctp) :=
      congrArg Host.Outcome.next ((if_neg (by simp [dieUp_of_on hp hd hw])).trans (if_pos hc))
    exact ⟨_, hx, warmReset_starts hp hd hw⟩
  · have hx : exec .mctpWarmReset s = .next (s.holdMctp 0 .warmReset) :=
      congrArg Host.Outcome.next ((if_neg (by simp [dieUp_of_on hp hd hw])).trans (if_neg (by simp [hc])))
    exact ⟨_, hx, rfl, Only.of_hw s _⟩
  · have hfinish : s.ccFlush.ccFinish = s.ccFlush.ccActed.warmHeld c :=
      ccFinish_of_warm (by rw [ccFlush_hw, hw]) (by rw [ccFlush_hif]; exact hm)
    obtain ⟨honly, hregs⟩ := ccFlush_ccActed_frame s
    have hkept : ∀ k, keptOn evW k = true → s.ccFlush.ccActed.rd k = s.rd k := fun k hk =>
      hregs k fun hm => absurd hk (by rw [List.mem_singleton.1 hm]; decide)
    exact ⟨_, (exec_ccWritebackDone ha).trans (congrArg _ hfinish), warmHeld_warm _ c, (warmLeaves_warmHeld _ c).of_only honly hkept⟩
  · have hfinish : s.ccFlush.ccFinish = s.ccFlush.ccActed := ccFinish_of_no_warm (by rw [ccFlush_hw, hw])
    obtain ⟨-, hsame⟩ := (ccFlush_ccActed_frame s).1
    have hacts : s.ccFlush.hif.ccActions = s.hif.ccActions := by rw [ccFlush_hif]
    refine ⟨_, (exec_ccWritebackDone ha).trans (congrArg _ hfinish), by rw [ccActed_hif, ccFlush_hif], by rw [ccActed_hif],
      fun h => getB_ccActed_disable _ (hacts ▸ h), fun h => getB_ccActed_wbInv _ (hacts ▸ h), hsame .mem (by decide), hsame .hw (by decide),
      hsame .ops (by decide), hsame .trn (by decide), hsame .flash (by decide)⟩
  · have hheld : { s with hw := { s.hw with modResetLow := false, dieHeld := false } }.hw.warm = some (c, .held) := hw
    refine ⟨_, congrArg Host.Outcome.next (warmRelease_of_held hheld), rfl, State.rd_wr_self _ _ _, RegsBut.of_wr _ _ _, ?_⟩
    exact warmRelease_of_held hheld ▸ ((Only.of_hw s _).mono (by decide)).trans (only_warmRelease_of_held hheld)
  · have hnone : { s with hw := { s.hw with modResetLow := false, dieHeld := false } }.hw.warm = none := hw
    exact ⟨_, congrArg Host.Outcome.next (warmRelease_of_none hnone), rfl, Only.of_hw s _⟩
  · have hx : exec .warmResetRelease s = .next s.warmRelease := congrArg Host.Outcome.next (if_neg (by simp [hl]))
    have honly := only_warmRelease_of_held hw
    rw [warmRelease_of_held hw] at hx honly
    exact ⟨_, hx, rfl, State.rd_wr_self _ _ _, RegsBut.of_wr _ _ _, honly⟩

end Sys2Proof.Machine
end

section
/-! COUNTEREXAMPLE to a statement of 04_register_model: the self-refresh exit of a move from Z2 to Z1 (O27). -/

namespace Sys2Proof.Machine
open Sys2Proof

/-- A device in Z2, every channel in self-refresh and every cluster gated. The memory controllers are traced, records of no descriptor pass, and a channel's
change of state (R554) triggers a freeze, which DBG_FREEZE_ENABLE allows (R549). -/
def z2Armed : State :=
  let z2 := { State.reset.setF R.GLB_IDLE_STATUS 0 2 2 with idle := ⟨2, false, [], true⟩ }
  let refreshed := (List.range 80).foldl (fun s c => s.setChan c 3) z2
  let traced := ((refreshed.setB R.DBG_TRACE_CTRL 0 true).setB R.DBG_TRACE_SOURCE 8 true).setB R.DBG_TRACE_FN 9 true
  (traced.wr R.DBG_TRACE_TRIGGER 0x80000708).setB R.DBG_FREEZE_ENABLE 4 true

/-- The same once TARGET = 1 is written: on its way to Z1 (R133). -/
def leavingForZ1 : State := z2Armed.idleCtrlWrite 1

/-- R133: the model itself comes to `leavingForZ1` by IDLE_MOVE. -/
theorem exec_idleMove_z2Armed : exec (.idleMove 1) z2Armed = .next leavingForZ1 := congrArg Host.Outcome.next (if_pos (by decide +kernel))

/-- The first channel that leaves self-refresh triggers the freeze, whose wake turns the move into an exit to the active state (R124, R127, R550). -/
theorem goal_of_selfRefreshExit_leavingForZ1 {t : State} (h : exec .selfRefreshExit leavingForZ1 = .next t) : t.idle.goal = 0 := by
  have hrun : (match exec .selfRefreshExit leavingForZ1 with
      | .next u => some u.idle.goal
      | _ => none) = some 0 := by decide +kernel
  rw [h] at hrun
  exact Option.some.inj hrun

/-- Refutes O27: the clause on SELF_REFRESH_EXIT says that of the idle state only SELF_REFRESH changes, but the channels' changes of state are traced, and a
record that matches DBG_TRACE_TRIGGER is a freeze source (R549, R554). The freeze leaves Z1 and Z2 (R550): it wakes the device and the goal of a move
from Z2 to Z1 becomes the active state. -/
theorem not_idleStates : ¬ Obligations.IdleStates := by
  intro h
  obtain ⟨-, -, -, -, -, -, -, -, -, -, -, -, -, -, selfRefreshExit, -⟩ := h
  obtain ⟨t, hx, hidle, -⟩ := selfRefreshExit leavingForZ1 (by decide +kernel) (by decide +kernel)
  have hgoal : t.idle.goal = 1 := by
    rw [hidle]
    decide +kernel
  rw [goal_of_selfRefreshExit_leavingForZ1 hx] at hgoal
  cases hgoal

end Sys2Proof.Machine
end

section
/-! PROOFS of the statements of 05_rings_and_descriptors: the control of rings and completion queues (O25). Telling about an event and refusing a write leave
what a ring page shows of its ring and its completion queue (`PageKept`), so that each command leaves what its write stored. Registers of the page are
named by their offsets (R137). -/

namespace Sys2Proof.Machine
open Sys2Proof

/-! ## Fields of registers -/

/-- A number with a field replaced, cut at the field. -/
theorem putBits_eq (n lo w x : Nat) : putBits n lo w x = 2 ^ lo * (2 ^ w * (n / 2 ^ lo / 2 ^ w) + x % 2 ^ w) + n % 2 ^ lo := by
  have hhigh : n / 2 ^ lo = 2 ^ w * (n / 2 ^ lo / 2 ^ w) + n / 2 ^ lo % 2 ^ w := (Nat.div_add_mod _ _).symm
  have hsplit : n = 2 ^ lo * (2 ^ w * (n / 2 ^ lo / 2 ^ w)) + 2 ^ lo * (n / 2 ^ lo % 2 ^ w) + n % 2 ^ lo := by
    rw [← Nat.mul_add, ← hhigh, Nat.div_add_mod]
  rw [putBits, bitsOf, Nat.mul_add, Nat.mul_comm _ (2 ^ lo), Nat.mul_comm (x % 2 ^ w)]
  omega

theorem testBit_putBits (n lo w x j : Nat) :
    (putBits n lo w x).testBit j = if lo ≤ j ∧ j < lo + w then x.testBit (j - lo) else n.testBit j := by
  have hlow : n % 2 ^ lo < 2 ^ lo := Nat.mod_lt _ (Nat.two_pow_pos lo)
  have hfield : x % 2 ^ w < 2 ^ w := Nat.mod_lt _ (Nat.two_pow_pos w)
  rw [putBits_eq, Nat.testBit_two_pow_mul_add _ hlow, Nat.testBit_two_pow_mul_add _ hfield]
  by_cases hj : j < lo
  · rw [if_pos hj, if_neg (by omega), Nat.testBit_mod_two_pow, decide_eq_true hj, Bool.true_and]
  · by_cases hw : j - lo < w
    · rw [if_neg hj, if_pos hw, if_pos (by omega), Nat.testBit_mod_two_pow, decide_eq_true hw, Bool.true_and]
    · have hback : lo + (w + (j - lo - w)) = j := by omega
      rw [if_neg hj, if_neg hw, if_neg (by omega), Nat.testBit_div_two_pow, Nat.testBit_div_two_pow]
      congr 1
      omega

theorem bit_setFld {j : Nat} (v : Word) (lo w x : Nat) (hj : j < 32) :
    bit (setFld v lo w x) j = if lo ≤ j ∧ j < lo + w then x.testBit (j - lo) else bit v j := by
  rw [bit_eq_getLsbD, bit_eq_getLsbD, setFld, BitVec.getLsbD_ofNat, testBit_putBits, decide_eq_true hj, Bool.true_and]
  rfl

theorem testBit_fld (v : Word) (lo w i : Nat) : (fld v lo w).testBit i = (decide (i < w) && bit v (lo + i)) := by
  rw [fld, bitsOf, Nat.testBit_mod_two_pow, Nat.testBit_div_two_pow, bit, bitOf_eq_testBit, Nat.add_comm]

/-- A field is what its bits are. -/
theorem fld_congr {v u : Word} {lo w : Nat} (h : ∀ j < lo + w, lo ≤ j → bit u j = bit v j) : fld u lo w = fld v lo w := by
  refine Nat.eq_of_testBit_eq fun i => ?_
  rw [testBit_fld, testBit_fld]
  by_cases hi : i < w
  · rw [h (lo + i) (by omega) (by omega)]
  · rw [decide_eq_false hi, Bool.false_and, Bool.false_and]

theorem fld_setFld_self (v : Word) {lo w x : Nat} (hw : lo + w ≤ 32) (hx : x < 2 ^ w) : fld (setFld v lo w x) lo w = x := by
  refine Nat.eq_of_testBit_eq fun i => ?_
  rw [testBit_fld]
  by_cases hi : i < w
  · rw [bit_setFld _ _ _ _ (by omega), if_pos (by omega), decide_eq_true hi, Bool.true_and, Nat.add_sub_cancel_left]
  · have hhigh : x < 2 ^ i := hx.trans_le (Nat.pow_le_pow_right (by omega) (by omega))
    rw [decide_eq_false hi, Bool.false_and, Nat.testBit_lt_two_pow hhigh]

theorem fld_setFld_ne (v : Word) {lo w : Nat} (lo' w' x : Nat) (hw : lo + w ≤ 32) (h : lo + w ≤ lo' ∨ lo' + w' ≤ lo) :
    fld (setFld v lo' w' x) lo w = fld v lo w :=
  fld_congr fun j hj hlo => (bit_setFld _ _ _ _ (by omega)).trans (if_neg (by omega))

/-- A mask that has all bits of a field leaves it. -/
theorem fld_and (v : Word) {m : Word} {lo w : Nat} (h : ∀ j < lo + w, lo ≤ j → bit m j = true) : fld (v &&& m) lo w = fld v lo w :=
  fld_congr fun j hj hlo => by rw [bit_and, h j hj hlo, Bool.and_true]

theorem bit_and_mask (v : Word) {m : Word} {i : Nat} (h : bit m i = true) : bit (v &&& m) i = bit v i := by rw [bit_and, h, Bool.and_true]

/-! ## Changes of one part -/

theorem Only.of_queues (s : State) (q : Tab Queue) : Only [.queues] s { s with queues := q } := by
  refine ⟨rfl, fun p hp => ?_⟩
  cases p with
  | queues => exact absurd (by decide) hp
  | regs | mem => exact fun _ => rfl
  | _ => rfl

/-- Cox's descriptors and chains. -/
theorem Only.of_cox (s : State) (o : Tab Op) (c : Tab Chain) : Only [.ops, .chains] s { s with ops := o, chains := c } := by
  refine ⟨rfl, fun p hp => ?_⟩
  cases p with
  | ops | chains => exact absurd (by decide) hp
  | regs | mem => exact fun _ => rfl
  | _ => rfl

theorem Only.rd_eq {l : List Field} {s t : State} (h : Only l s t) (hl : Field.regs ∉ l) (k : Nat) : t.rd k = s.rd k := h.2 .regs hl k

namespace TellsIn
variable {l : List Field} {ks : List Nat} {s t u : State}

theorem refl (l : List Field) (ks : List Nat) (s : State) : TellsIn l ks s s := (Told.refl s).tellsIn l ks

theorem wr (h : TellsIn l ks s t) {k : Nat} (v : Word) (hk : k ∈ ks) : TellsIn l ks s (t.wr k v) :=
  h.trans ((TellsIn.of_wr t k v l).mono (fun _ hp => hp) (by simpa using hk))

theorem told (h : TellsIn l ks s t) (h' : Told t u) : TellsIn l ks s u := h.trans (h'.tellsIn l ks)

theorem only (h : TellsIn l ks s t) {m : List Field} (h' : Only m t u) (hm : m ⊆ l) (hr : Field.regs ∉ m) : TellsIn l ks s u :=
  h.trans ((h'.tellsIn ks (h'.rd_eq hr)).mono hm fun _ hk => hk)

end TellsIn

theorem queue_congr {s t : State} (h : t.queues = s.queues) (q : Source) : t.queue q = s.queue q := by rw [State.queue, h]; rfl

/-! ## What telling leaves of a page

A ring page is a page of a function's window: beside the registers common to all pages its own are those from 0x040 on (R137). -/

/-- No register of the page changes but the common ones. -/
def OwnKept (page : Nat) (s t : State) : Prop := ∀ off, 0x40 ≤ off → off < 4096 → t.rd (rkey page off 0) = s.rd (rkey page off 0)

/-- Nor does STATUS but for LOG_VALID, and no interrupt cause is cleared. -/
structure PageKept (page : Nat) (s t : State) : Prop where
  own : OwnKept page s t
  status : ∀ i < 31, t.getB (statusK page) i = s.getB (statusK page) i
  causes : ∀ i, s.getB (intK page) i = true → t.getB (intK page) i = true

theorem OwnKept.trans {page : Nat} {s t u : State} (h : OwnKept page s t) (h' : OwnKept page t u) : OwnKept page s u :=
  fun off hlo hhi => (h' off hlo hhi).trans (h off hlo hhi)

/-- A write of one of a page's common registers. -/
theorem OwnKept.wr_common (page : Nat) (s : State) {q off : Nat} (v : Word) (h : off < 0x40) : OwnKept page s (s.wr (rkey q off 0) v) :=
  fun off' hlo hhi => s.rd_wr_ne v (by simp only [rkey]; omega)

namespace PageKept
variable {page : Nat} {s t u : State}

theorem of_rd (h : ∀ off < 4096, t.rd (rkey page off 0) = s.rd (rkey page off 0)) : PageKept page s t :=
  ⟨fun off _ hhi => h off hhi, fun i _ => getB_congr (h 0x00C (by decide)) i, fun i hi => (getB_congr (h 0x010 (by decide)) i).trans hi⟩

theorem refl (page : Nat) (s : State) : PageKept page s s := of_rd fun _ _ => rfl

theorem trans (h : PageKept page s t) (h' : PageKept page t u) : PageKept page s u :=
  ⟨h.own.trans h'.own, fun i hi => (h'.status i hi).trans (h.status i hi), fun i hi => h'.causes i (h.causes i hi)⟩

theorem raiseInt (page : Nat) (s : State) (q b : Nat) : PageKept page s (s.raiseInt q b) := by
  refine ⟨fun off hlo hhi => rd_raiseInt_ne s b (by simp only [intK, rkey]; omega),
    fun i _ => getB_congr (rd_raiseInt_ne s b (by simp only [statusK, intK, rkey]; omega)) i, fun i hi => ?_⟩
  by_cases hq : q = page
  · exact hq ▸ getB_raiseInt_of_set s q b (hq ▸ hi)
  · exact (getB_congr (rd_raiseInt_ne s b (by simp only [intK, rkey]; omega)) i).trans hi

theorem errCapture (page : Nat) (s : State) (q code cls fn : Nat) (t : Tags) (addr detail : Nat) :
    PageKept page s (s.errCapture q code cls fn t addr detail) := by
  have hrd : ∀ {k}, k ≠ statusK q → (∀ j < 8, k ≠ errLogK q j) → (s.errCapture q code cls fn t addr detail).rd k = s.rd k :=
    fun hs he => rd_errCapture s q code cls fn t addr detail hs he
  refine ⟨fun off hlo hhi => hrd (by simp only [statusK, rkey]; omega) fun j hj => by simp only [errLogK, rkey]; omega,
    fun i hi => ?_, fun i hi => ?_⟩
  · by_cases hq : q = page
    · exact hq ▸ getB_errCapture_status s q code cls fn t addr detail hi
    · refine getB_congr (hrd ?_ fun j hj => ?_) i
      · simp only [statusK, rkey]; omega
      · simp only [statusK, errLogK, rkey]; omega
  · refine (getB_congr (hrd ?_ fun j hj => ?_) i).trans hi
    · simp only [statusK, intK, rkey]; omega
    · simp only [intK, errLogK, rkey]; omega

theorem logOnly (page : Nat) (s : State) (q code cls fn : Nat) (t : Tags) (addr detail : Nat) :
    PageKept page s (s.logOnly q code cls fn t addr detail) := by
  have hcount : PageKept page s (s.bump (errCountK q)) :=
    ⟨fun off hlo hhi => s.rd_wr_ne _ (by simp only [errCountK, rkey]; omega),
      fun i _ => getB_congr (s.rd_wr_ne _ (by simp only [statusK, errCountK, rkey]; omega)) i,
      fun i hi => (getB_congr (s.rd_wr_ne _ (by simp only [intK, errCountK, rkey]; omega)) i).trans hi⟩
  exact logOnly_eq s q code cls fn t addr detail ▸ (hcount.trans (errCapture ..)).trans (raiseInt ..)

end PageKept

/-! ## Rings (R138 to R141) -/

section
variable {fn r : Nat} {s t : State}

theorem PageKept.ringState (h : PageKept (ringPage fn r) s t) : t.ringState fn r = s.ringState fn r :=
  fld_congr fun j hj _ => h.status j (by omega)

theorem PageKept.cqState (h : PageKept (ringPage fn r) s t) : t.cqState fn r = s.cqState fn r :=
  fld_congr fun j hj _ => h.status j (by omega)

theorem ringState_congr (h : t.rd (statusK (ringPage fn r)) = s.rd (statusK (ringPage fn r))) : t.ringState fn r = s.ringState fn r :=
  congrArg (fld · 0 3) h

theorem ringState_setRingState (s : State) (fn r : Nat) {x : Nat} (hx : x < 8) : (s.setRingState fn r x).ringState fn r = x :=
  (congrArg (fld · 0 3) (s.rd_wr_self _ _)).trans (fld_setFld_self _ (by decide) hx)

theorem cqState_setCqState (s : State) (fn r : Nat) {x : Nat} (hx : x < 4) : (s.setCqState fn r x).cqState fn r = x :=
  (congrArg (fld · 5 2) (s.rd_wr_self _ _)).trans (fld_setFld_self _ (by decide) hx)

/-- CQ_WAIT lies beside CQ_STATE. -/
theorem cqState_setWait (s : State) (fn r : Nat) (b : Bool) : (s.setB (statusK (ringPage fn r)) 4 b).cqState fn r = s.cqState fn r :=
  (congrArg (fld · 5 2) (s.rd_wr_self _ _)).trans (fld_setFld_ne _ _ _ _ (by decide) (by decide))

end

theorem rd_status_bump_reject (s : State) (fn r : Nat) :
    (s.bump (R.RNG_REJECT_COUNT fn r)).rd (statusK (ringPage fn r)) = s.rd (statusK (ringPage fn r)) :=
  s.rd_wr_ne _ (by simp only [R.RNG_REJECT_COUNT, statusK, rkey]; omega)

theorem rd_rejectCount_wr_ctrl (s : State) (fn r : Nat) (v : Word) :
    (s.wr (R.RNG_RING_CTRL fn r) v).rd (R.RNG_REJECT_COUNT fn r) = s.rd (R.RNG_REJECT_COUNT fn r) :=
  s.rd_wr_ne v (by simp only [R.RNG_REJECT_COUNT, R.RNG_RING_CTRL, rkey]; omega)

theorem ringState_wr_own (s : State) (fn r : Nat) {off : Nat} (v : Word) (hlo : 0x40 ≤ off) (hhi : off < 4096) :
    (s.wr (rkey (ringPage fn r) off 0) v).ringState fn r = s.ringState fn r :=
  ringState_congr (s.rd_wr_ne v (by simp only [statusK, rkey]; omega))

theorem ringState_setB_ctrl (s : State) (fn r i : Nat) (b : Bool) : (s.setB (R.RNG_RING_CTRL fn r) i b).ringState fn r = s.ringState fn r :=
  ringState_wr_own s fn r _ (by decide) (by decide)

/-! ### Telling about a ring -/

section
variable {fn r : Nat} (hfn : fn < 64) (hr : r < 16)
include hfn hr

theorem keyPage_ring {off : Nat} (h : off < 4096) : keyPage (rkey (ringPage fn r) off 0) = ringPage fn r :=
  keyPage_rkey _ _ _ h (by simp only [ringPage]; omega)

/-- What leaves every register outside the debug page and the idle state leaves a ring page. -/
theorem PageKept.of_regs {s t : State}
    (h : ∀ k, keyPage k ≠ pDBG → k ≠ R.GLB_WAKE_CAUSE → k ≠ R.GLB_IDLE_STATUS → t.rd k = s.rd k) : PageKept (ringPage fn r) s t :=
  .of_rd fun off hoff => by
    have hpage : ∀ {k}, keyPage k < 64 → keyPage (rkey (ringPage fn r) off 0) ≠ keyPage k := fun hk => by
      rw [keyPage_ring hfn hr hoff, ringPage]; omega
    have hkey : ∀ {k}, keyPage k < 64 → rkey (ringPage fn r) off 0 ≠ k := fun hk h => hpage hk (congrArg keyPage h)
    exact h _ (hpage (k := statusK pDBG) (by decide)) (hkey (by decide)) (hkey (by decide))

theorem PageKept.trace (s : State) (block inst event f : Nat) (t : Option Tags) (a b : Nat) :
    PageKept (ringPage fn r) s (s.trace block inst event f t a b) :=
  .of_regs hfn hr (DebugTold.trace s block inst event f t a b).regs

theorem PageKept.wake (s : State) (w : WakeSource) : PageKept (ringPage fn r) s (s.wake w) :=
  .of_regs hfn hr fun k hp hw hi => (Captured.wake s w).regs k (DebugTold.captureKey_of_page_ne hp hw hi)

theorem PageKept.logErr (s : State) (q code cls f : Nat) (t : Tags) (addr detail : Nat) :
    PageKept (ringPage fn r) s (s.logErr q code cls f t addr detail) :=
  (PageKept.logOnly _ s q code cls f t addr detail).trans (.of_regs hfn hr (DebugTold.logErr s q code cls f t addr detail).regs)

/-! ### Refusals (R143) -/

theorem bit_pageIntMask_ring (h1 : 1 ≤ r) {b : Nat} (hb : b < 6) : bit (pageIntMask (ringPage fn r)) b = true := by
  have hlo : 64 ≤ ringPage fn r := by simp only [ringPage]; omega
  have hhi : ringPage fn r < 64 + 1024 := by simp only [ringPage]; omega
  have hown : ¬ (ringPage fn r - 64) % 16 = 0 := by simp only [ringPage]; omega
  have hkind : pageKind (ringPage fn r) = some 19 := by
    rw [pageKind, if_neg (by omega), if_neg (by omega), if_neg (by omega), if_neg (by omega), if_pos hhi, if_neg hown]
  have hpage : ringPage fn r ≠ 32 := by omega
  have hmask : pageIntMask (ringPage fn r) = intMask 19 ||| 0 := by simp only [pageIntMask, hkind, if_neg hpage]
  rw [hmask]
  revert b
  decide

theorem getB_raiseInt_ring (s : State) (h1 : 1 ≤ r) {b : Nat} (hb : b < 6) :
    (s.raiseInt (ringPage fn r) b).getB (intK (ringPage fn r)) b = true :=
  getB_raiseInt_self s (by omega) (bit_pageIntMask_ring hfn hr h1 hb)

/-- A refused write is counted and logged, in the page and in the manager's RNG page, and leaves the ring and its queue. -/
theorem PageKept.ringRefuse (s : State) (code detail : Nat) :
    PageKept (ringPage fn r) (s.bump (R.RNG_REJECT_COUNT fn r)) (s.ringRefuse fn r code detail) :=
  ((PageKept.raiseInt ..).trans (.logErr hfn hr ..)).trans (.logErr hfn hr ..)

theorem rd_rejectCount_ringRefuse (s : State) (code detail : Nat) :
    (s.ringRefuse fn r code detail).rd (R.RNG_REJECT_COUNT fn r) = word (min 0xFFFFFFFF ((s.rd (R.RNG_REJECT_COUNT fn r)).toNat + 1)) :=
  ((PageKept.ringRefuse hfn hr s code detail).own 0x080 (by decide) (by decide)).trans (s.rd_wr_self _ _)

theorem getB_refused_ringRefuse (s : State) (h1 : 1 ≤ r) (code detail : Nat) :
    (s.ringRefuse fn r code detail).getB (intK (ringPage fn r)) 3 = true :=
  ((PageKept.logErr hfn hr _ (ringPage fn r) code clsDevice fn noTags 0 detail).trans (.logErr hfn hr ..)).causes 3
    (getB_raiseInt_ring hfn hr _ h1 (by decide))

/-- Every other register of the ring is as it was. -/
theorem rd_ringRefuse_ne (s : State) (code detail : Nat) {off : Nat} (hlo : 0x40 ≤ off) (hhi : off < 4096) (hne : off ≠ 0x080) :
    (s.ringRefuse fn r code detail).rd (rkey (ringPage fn r) off 0) = s.rd (rkey (ringPage fn r) off 0) :=
  ((PageKept.ringRefuse hfn hr s code detail).own off hlo hhi).trans
    (s.rd_wr_ne _ (by simp only [R.RNG_REJECT_COUNT, rkey]; omega))

theorem ringState_ringRefuse (s : State) (code detail : Nat) : (s.ringRefuse fn r code detail).ringState fn r = s.ringState fn r :=
  (PageKept.ringRefuse hfn hr s code detail).ringState.trans (congrArg (fld · 0 3) (rd_status_bump_reject s fn r))

theorem cqState_ringRefuse (s : State) (code detail : Nat) : (s.ringRefuse fn r code detail).cqState fn r = s.cqState fn r :=
  (PageKept.ringRefuse hfn hr s code detail).cqState.trans (congrArg (fld · 5 2) (rd_status_bump_reject s fn r))

end

/-! ## The state of a ring (R141, R149) -/

theorem Told.ringErr (s : State) (fn r code cls : Nat) (t : Tags) (addr detail : Nat) : Told s (s.ringErr fn r code cls t addr detail) :=
  (Told.logErr ..).trans (Told.logErr ..)

/-- Beside being told a refusal is counted. -/
theorem tellsIn_ringRefuse {l : List Field} {ks : List Nat} {s t : State} {fn r : Nat} (h : TellsIn l ks s t) (hk : R.RNG_REJECT_COUNT fn r ∈ ks)
    (code detail : Nat) : TellsIn l ks s (t.ringRefuse fn r code detail) :=
  (h.wr _ hk).told ((Told.raiseInt ..).trans (Told.ringErr ..))

theorem Told.moveRing (s : State) (fn r x : Nat) : Told s (s.moveRing fn r x) := by
  unfold State.moveRing
  extract_lets old
  split
  exacts [Told.refl s, (Told.setF s _ _ _ (tellKey_statusK _)).trans (Told.trace ..)]

theorem Told.ringPaused (s : State) (fn r : Nat) : Told s (s.ringPaused fn r) := (Told.moveRing ..).trans (Told.raiseInt ..)

section
variable {fn r : Nat} (hfn : fn < 64) (hr : r < 16)
include hfn hr

theorem ownKept_moveRing (s : State) (x : Nat) : OwnKept (ringPage fn r) s (s.moveRing fn r x) := by
  unfold State.moveRing
  extract_lets old
  split
  exacts [(PageKept.refl _ s).own, (OwnKept.wr_common _ s _ (by decide)).trans (PageKept.trace hfn hr ..).own]

theorem ringState_moveRing (s : State) {x : Nat} (hx : x < 8) : (s.moveRing fn r x).ringState fn r = x := by
  unfold State.moveRing
  extract_lets old
  split
  · next h => exact h
  · exact (PageKept.trace hfn hr ..).ringState.trans (ringState_setRingState s fn r hx)

theorem ownKept_ringPaused (s : State) : OwnKept (ringPage fn r) s (s.ringPaused fn r) :=
  (ownKept_moveRing hfn hr s 3).trans (PageKept.raiseInt ..).own

theorem ringState_ringPaused (s : State) : (s.ringPaused fn r).ringState fn r = 3 :=
  (PageKept.raiseInt ..).ringState.trans (ringState_moveRing hfn hr s (by decide))

end

/-- What a write of PAUSE does to a ring's state: the last step of `ringPauseSet`, once PAUSE is stored. -/
theorem ringPauseSet_cases (s : State) (fn r : Nat) (p : Bool) :
    s.ringPauseSet fn r p = s.setB (R.RNG_RING_CTRL fn r) 1 p ∨ s.ringPauseSet fn r p = (s.setB (R.RNG_RING_CTRL fn r) 1 p).ringPaused fn r ∨
    ∃ x, s.ringPauseSet fn r p = (s.setB (R.RNG_RING_CTRL fn r) 1 p).moveRing fn r x := by
  unfold State.ringPauseSet
  extract_lets u st
  split
  · split
    · split
      exacts [.inr (.inr ⟨2, rfl⟩), .inr (.inl rfl)]
    · exact .inl rfl
  · split
    exacts [.inr (.inr ⟨1, rfl⟩), .inl rfl]

theorem told_ringPauseSet (s : State) (fn r : Nat) (p : Bool) : Told (s.setB (R.RNG_RING_CTRL fn r) 1 p) (s.ringPauseSet fn r p) := by
  obtain h | h | ⟨x, h⟩ := ringPauseSet_cases s fn r p
  exacts [h ▸ Told.refl _, h ▸ Told.ringPaused .., h ▸ Told.moveRing ..]

theorem tellsIn_ringPauseSet {l : List Field} {ks : List Nat} {s t : State} {fn r : Nat} (h : TellsIn l ks s t) (hk : R.RNG_RING_CTRL fn r ∈ ks)
    (p : Bool) : TellsIn l ks s (t.ringPauseSet fn r p) :=
  (h.wr _ hk).told (told_ringPauseSet t fn r p)

theorem ownKept_ringPauseSet {fn r : Nat} (hfn : fn < 64) (hr : r < 16) (s : State) (p : Bool) :
    OwnKept (ringPage fn r) (s.setB (R.RNG_RING_CTRL fn r) 1 p) (s.ringPauseSet fn r p) := by
  obtain h | h | ⟨x, h⟩ := ringPauseSet_cases s fn r p
  exacts [h ▸ (PageKept.refl _ _).own, h ▸ ownKept_ringPaused hfn hr _, h ▸ ownKept_moveRing hfn hr _ x]

/-- R149: the state that a write of PAUSE leaves. -/
theorem ringState_ringPauseSet {fn r : Nat} (hfn : fn < 64) (hr : r < 16) (s : State) (p : Bool) : (s.ringPauseSet fn r p).ringState fn r =
    if p then (if s.ringState fn r = 1 then (if (s.queue (.ring fn r)).chain.isSome then 2 else 3) else s.ringState fn r)
    else if s.ringState fn r = 2 ∨ s.ringState fn r = 3 then 1 else s.ringState fn r := by
  have hsame : (s.setB (R.RNG_RING_CTRL fn r) 1 p).ringState fn r = s.ringState fn r := ringState_setB_ctrl ..
  unfold State.ringPauseSet
  extract_lets u st
  have hst : st = s.ringState fn r := hsame
  have hchain : (u.queue (.ring fn r)).chain = (s.queue (.ring fn r)).chain := rfl
  rw [hst, hchain]
  cases p with
  | true =>
    rw [if_pos rfl, if_pos rfl]
    split
    · split
      exacts [ringState_moveRing hfn hr u (by decide), ringState_ringPaused hfn hr u]
    · exact hsame
  | false =>
    simp only [Bool.false_eq_true, if_false, Bool.or_eq_true, decide_eq_true_eq]
    split
    exacts [ringState_moveRing hfn hr u (by decide), hsame]

/-! ## A ring's queue and chains -/

theorem dropChain_eq (s : State) (c : Nat) : ∃ chains, s.dropChain c = { s with chains := chains } := by
  unfold State.dropChain
  split
  · split
    exacts [⟨_, rfl⟩, ⟨_, rfl⟩]
  · exact ⟨_, rfl⟩

theorem closeChain_eq (s : State) (fn r : Nat) : ∃ chains, s.closeChain fn r = { s with chains := chains } := by
  unfold State.closeChain
  split
  · exact ⟨_, rfl⟩
  · next c _ =>
    obtain ⟨chains, h⟩ := dropChain_eq { s with chains := s.chains.upd c (fun ch => { ch with lastSeen := true }) } c
    exact ⟨chains, h⟩

theorem withoutEntries_eq (s : State) (src : Source) : ∃ ops chains, s.withoutEntries src = { s with ops := ops, chains := chains } := by
  unfold State.withoutEntries
  extract_lets gone left u
  refine List.foldlRecOn (motive := fun (t : State) => ∃ ops chains, t = { s with ops := ops, chains := chains }) _ _ ⟨u.ops, u.chains, rfl⟩
    fun t ht c _ => ?_
  obtain ⟨ops, chains, rfl⟩ := ht
  obtain ⟨dropped, h⟩ := dropChain_eq { s with ops := ops, chains := chains } c
  exact ⟨ops, dropped, h⟩

theorem only_emptyQueue (s : State) (fn r : Nat) : Only [.queues] s (s.emptyQueue fn r) := Only.of_queues s _

theorem only_closeChain (s : State) (fn r : Nat) : Only [.ops, .chains] s (s.closeChain fn r) := by
  obtain ⟨chains, h⟩ := closeChain_eq s fn r
  exact h ▸ Only.of_cox s s.ops chains

theorem only_withoutEntries (s : State) (src : Source) : Only [.ops, .chains] s (s.withoutEntries src) := by
  obtain ⟨ops, chains, h⟩ := withoutEntries_eq s src
  exact h ▸ Only.of_cox s ops chains

/-- Nothing is prefetched, no fetch is in flight and no chain is open. -/
def State.RingEmpty (s : State) (fn r : Nat) : Prop :=
  (s.queue (.ring fn r)).cache = [] ∧ (s.queue (.ring fn r)).fetch = none ∧ (s.queue (.ring fn r)).chain = none

theorem ringEmpty_emptyQueue (s : State) (fn r : Nat) : (s.emptyQueue fn r).RingEmpty fn r := by
  simp only [State.RingEmpty, State.emptyQueue, State.queue_putQueue_self, and_self]

theorem State.RingEmpty.congr {s t : State} {fn r : Nat} (h : s.RingEmpty fn r) (hq : t.queues = s.queues) : t.RingEmpty fn r := by
  rwa [State.RingEmpty, queue_congr hq]

/-! ## A ring starts, stops and restarts (R138, R140, R164) -/

/-- R138: the ring as its enable finds it: counts 0 and nothing prefetched. -/
def State.ringFresh (s : State) (fn r : Nat) (v : Word) : State :=
  ((((s.wr (R.RNG_RING_CTRL fn r) (v &&& 0x000F1F07)).wr (R.RNG_PRODUCER_SEQ fn r) 0).wr (R.RNG_CONSUMED_SEQ fn r) 0).wr
    (R.RNG_COMPLETED_SEQ fn r) 0).emptyQueue fn r

theorem rd_ringFresh (s : State) (fn r : Nat) (v : Word) :
    (s.ringFresh fn r v).rd (R.RNG_RING_CTRL fn r) = v &&& 0x000F1F07 ∧ (s.ringFresh fn r v).rd (R.RNG_PRODUCER_SEQ fn r) = 0 ∧
    (s.ringFresh fn r v).rd (R.RNG_CONSUMED_SEQ fn r) = 0 ∧ (s.ringFresh fn r v).rd (R.RNG_COMPLETED_SEQ fn r) = 0 := by
  have hrd : ∀ k, (s.ringFresh fn r v).rd k = ((((s.wr (R.RNG_RING_CTRL fn r) (v &&& 0x000F1F07)).wr (R.RNG_PRODUCER_SEQ fn r) 0).wr
    (R.RNG_CONSUMED_SEQ fn r) 0).wr (R.RNG_COMPLETED_SEQ fn r) 0).rd k := fun _ => rfl
  simp [hrd, State.rd_wr, R.RNG_RING_CTRL, R.RNG_PRODUCER_SEQ, R.RNG_CONSUMED_SEQ, R.RNG_COMPLETED_SEQ, rkey]

theorem tellsIn_ringFresh (s : State) (fn r : Nat) (v : Word) :
    TellsIn [.queues] [R.RNG_RING_CTRL fn r, R.RNG_PRODUCER_SEQ fn r, R.RNG_CONSUMED_SEQ fn r, R.RNG_COMPLETED_SEQ fn r] s (s.ringFresh fn r v) :=
  (((((TellsIn.refl _ _ s).wr _ (by simp)).wr _ (by simp)).wr _ (by simp)).wr _ (by simp)).only (only_emptyQueue ..) (by simp) (by decide)

/-- The completion queue that a value of RNG_RING_CTRL names: CQ 0 is the page's own (R138). -/
def namedCq (r : Nat) (v : Word) : Nat := if fld v 16 4 = 0 then r else fld v 16 4

theorem namedCq_and (r : Nat) (v : Word) : namedCq r (v &&& 0x000F1F07) = namedCq r v := by
  rw [namedCq, fld_and v (by decide), namedCq]

theorem ringEnable_of_cqEnabled {s : State} {fn r : Nat} {v : Word} (h : s.getB (R.RNG_CQ_CTRL fn (namedCq r v)) 0 = true) :
    s.ringEnable fn r v = if bit v 1 then ((s.ringFresh fn r v).moveRing fn r 1).ringPaused fn r else (s.ringFresh fn r v).moveRing fn r 1 := by
  rw [← namedCq_and] at h
  rw [← bit_and_mask v (m := 0x000F1F07) (by decide)]
  exact if_pos h

theorem ringEnable_of_cqDisabled {s : State} {fn r : Nat} {v : Word} (h : s.getB (R.RNG_CQ_CTRL fn (namedCq r v)) 0 = false) :
    s.ringEnable fn r v =
      (s.wr (R.RNG_RING_CTRL fn r) (setBit (v &&& 0x000F1F07) 0 false)).ringRefuse fn r 0x05 (v &&& 0x000F1F07).toNat := by
  rw [← namedCq_and] at h
  exact if_neg (Bool.eq_false_iff.1 h)

/-- The ring starts RUNNING, or PAUSED with PAUSE 1; nothing else happens to it. -/
theorem ringEnable_starts {s : State} {fn r : Nat} {v : Word} (hfn : fn < 64) (hr : r < 16)
    (h : s.getB (R.RNG_CQ_CTRL fn (namedCq r v)) 0 = true) :
    (s.ringEnable fn r v).ringState fn r = (if bit v 1 then 3 else 1) ∧ Told (s.ringFresh fn r v) (s.ringEnable fn r v) ∧
    OwnKept (ringPage fn r) (s.ringFresh fn r v) (s.ringEnable fn r v) := by
  rw [ringEnable_of_cqEnabled h]
  have hown := ownKept_moveRing hfn hr (s.ringFresh fn r v) 1
  split
  · exact ⟨ringState_ringPaused hfn hr _, (Told.moveRing ..).trans (Told.ringPaused ..), hown.trans (ownKept_ringPaused hfn hr _)⟩
  · exact ⟨ringState_moveRing hfn hr _ (by decide), Told.moveRing .., hown⟩

/-- R140: the ring as its disable leaves it, but for STATE. -/
def State.ringCleared (s : State) (fn r : Nat) (v : Word) : State :=
  let u := ((s.wr (R.RNG_RING_CTRL fn r) (v &&& 0x000F1F07)).closeChain fn r).emptyQueue fn r
  { u with ops := u.ops.keep (fun _ o => !(o.src == Source.ring fn r && o.issued)) }

theorem only_ringCleared (s : State) (fn r : Nat) (v : Word) :
    Only [.queues, .ops, .chains] (s.wr (R.RNG_RING_CTRL fn r) (v &&& 0x000F1F07)) (s.ringCleared fn r v) :=
  (((only_closeChain ..).mono (by decide)).trans ((only_emptyQueue ..).mono (by decide))).trans ((Only.of_cox _ _ _).mono (by decide))

theorem tellsIn_ringCleared (s : State) (fn r : Nat) (v : Word) :
    TellsIn [.queues, .ops, .chains] [R.RNG_RING_CTRL fn r] s (s.ringCleared fn r v) :=
  ((TellsIn.refl _ _ s).wr _ (by simp)).only (only_ringCleared s fn r v) (fun _ h => h) (by decide)

theorem ringEmpty_ringCleared (s : State) (fn r : Nat) (v : Word) : (s.ringCleared fn r v).RingEmpty fn r :=
  (ringEmpty_emptyQueue ((s.wr (R.RNG_RING_CTRL fn r) (v &&& 0x000F1F07)).closeChain fn r) fn r).congr rfl

/-- R140: the states in which a ring that has nothing outstanding can be disabled. -/
theorem ringDisable_of_stopped {s : State} {fn r : Nat} (v : Word) (h : s.ringState fn r ∈ [0, 3, 4, 5])
    (hseq : s.rd (R.RNG_COMPLETED_SEQ fn r) = s.rd (R.RNG_CONSUMED_SEQ fn r)) : s.ringDisable fn r v = (s.ringCleared fn r v).moveRing fn r 0 := by
  refine if_pos ?_
  simp only [List.mem_cons, List.not_mem_nil, or_false] at h
  simp only [hseq, Bool.and_eq_true, Bool.or_eq_true, decide_eq_true_eq, and_true]
  omega

theorem ringDisable_of_busy {s : State} {fn r : Nat} (v : Word)
    (h : s.ringState fn r = 1 ∨ s.ringState fn r = 2 ∨ s.rd (R.RNG_COMPLETED_SEQ fn r) ≠ s.rd (R.RNG_CONSUMED_SEQ fn r)) :
    s.ringDisable fn r v = (s.ringPauseSet fn r (bit v 1)).ringRefuse fn r 0x05 v.toNat := by
  refine if_neg fun hc => ?_
  simp only [Bool.and_eq_true, Bool.or_eq_true, decide_eq_true_eq] at hc
  obtain ⟨hstopped, hseq⟩ := hc
  rcases h with h | h | h
  · omega
  · omega
  · exact h hseq

/-- R164: the ring as a resynchronisation leaves it, but for STATE. -/
def State.ringResynced (s : State) (fn r : Nat) (v : Word) : State :=
  ((((s.wr (R.RNG_CONSUMED_SEQ fn r) v).wr (R.RNG_COMPLETED_SEQ fn r) v).closeChain fn r).emptyQueue fn r).withoutEntries (.ring fn r)

theorem only_ringResynced (s : State) (fn r : Nat) (v : Word) :
    Only [.queues, .ops, .chains] ((s.wr (R.RNG_CONSUMED_SEQ fn r) v).wr (R.RNG_COMPLETED_SEQ fn r) v) (s.ringResynced fn r v) :=
  (((only_closeChain ..).mono (by decide)).trans ((only_emptyQueue ..).mono (by decide))).trans ((only_withoutEntries ..).mono (by decide))

theorem tellsIn_ringResynced (s : State) (fn r : Nat) (v : Word) :
    TellsIn [.queues, .ops, .chains] [R.RNG_CONSUMED_SEQ fn r, R.RNG_COMPLETED_SEQ fn r] s (s.ringResynced fn r v) :=
  (((TellsIn.refl _ _ s).wr v (by simp)).wr v (by simp)).only (only_ringResynced s fn r v) (fun _ h => h) (by decide)

theorem ringEmpty_ringResynced (s : State) (fn r : Nat) (v : Word) : (s.ringResynced fn r v).RingEmpty fn r :=
  (ringEmpty_emptyQueue _ fn r).congr ((only_withoutEntries ..).2 .queues (by decide))

theorem rd_ringResynced (s : State) (fn r : Nat) (v : Word) :
    (s.ringResynced fn r v).rd (R.RNG_CONSUMED_SEQ fn r) = v ∧ (s.ringResynced fn r v).rd (R.RNG_COMPLETED_SEQ fn r) = v := by
  have hne : R.RNG_CONSUMED_SEQ fn r ≠ R.RNG_COMPLETED_SEQ fn r := by simp only [R.RNG_CONSUMED_SEQ, R.RNG_COMPLETED_SEQ, rkey]; omega
  have hrd := (only_ringResynced s fn r v).rd_eq (by decide)
  exact ⟨(hrd _).trans ((State.rd_wr_ne _ v hne).trans (State.rd_wr_self ..)), (hrd _).trans (State.rd_wr_self ..)⟩

/-- The ring restarts RUNNING, or PAUSED while PAUSE is 1. -/
theorem resyncWrite_restarts {s : State} {fn r : Nat} {v : Word} (hfn : fn < 64) (hr : r < 16) (h : s.ringState fn r = 4 ∨ s.ringState fn r = 5)
    (hdepth : (s.rd (R.RNG_PRODUCER_SEQ fn r) - v).toNat ≤ s.ringDepth fn r) :
    (s.resyncWrite fn r v).ringState fn r = (if s.getB (R.RNG_RING_CTRL fn r) 1 then 3 else 1) ∧
    Told (s.ringResynced fn r v) (s.resyncWrite fn r v) ∧ OwnKept (ringPage fn r) (s.ringResynced fn r v) (s.resyncWrite fn r v) := by
  have hpause : (s.ringResynced fn r v).getB (R.RNG_RING_CTRL fn r) 1 = s.getB (R.RNG_RING_CTRL fn r) 1 :=
    getB_congr (((only_ringResynced s fn r v).rd_eq (by decide) _).trans ((State.rd_wr_ne _ v
      (by simp only [R.RNG_RING_CTRL, R.RNG_COMPLETED_SEQ, rkey]; omega)).trans (State.rd_wr_ne _ v
      (by simp only [R.RNG_RING_CTRL, R.RNG_CONSUMED_SEQ, rkey]; omega)))) 1
  have hx : s.resyncWrite fn r v = if (s.ringResynced fn r v).getB (R.RNG_RING_CTRL fn r) 1 then (s.ringResynced fn r v).ringPaused fn r
      else (s.ringResynced fn r v).moveRing fn r 1 :=
    if_pos (by simpa only [Bool.and_eq_true, Bool.or_eq_true, decide_eq_true_eq] using ⟨h, hdepth⟩)
  rw [hx, hpause]
  split
  · exact ⟨ringState_ringPaused hfn hr _, Told.ringPaused .., ownKept_ringPaused hfn hr _⟩
  · exact ⟨ringState_moveRing hfn hr _ (by decide), Told.moveRing .., ownKept_moveRing hfn hr _ 1⟩

/-! ## Completion queues (R139, R157, R164) -/

/-- R139: the completion queue as its enable leaves its registers, before depth and base come into force. -/
def State.cqFresh (s : State) (fn r : Nat) (v : Word) : State :=
  ((((s.wr (R.RNG_CQ_CTRL fn r) (v &&& 0x1F01)).wr (R.RNG_CQ_WRITTEN_SEQ fn r) 0).wr (R.RNG_HOST_SEEN_SEQ fn r) 0).setCqState fn r 1).setB
    (statusK (ringPage fn r)) 4 false

/-- R139: the completion queue started: with depth and base in force, and no entry that waits to be announced. -/
def State.cqStarted (s : State) (fn r : Nat) (v : Word) : State :=
  let u := (s.cqFresh fn r v).cqLatch fn r
  u.putQueue (.ring fn r) { u.queue (.ring fn r) with unannounced := 0 }

theorem cqCtrlWrite_enable {s : State} {fn r : Nat} {v : Word} (hv : bit v 0 = true) (hoff : s.getB (R.RNG_CQ_CTRL fn r) 0 = false) :
    s.cqCtrlWrite fn r v = s.cqStarted fn r v := by
  simp only [State.cqCtrlWrite, hv, hoff, State.cqStarted, State.cqFresh]

theorem cqCtrlWrite_disable {s : State} {fn r : Nat} {v : Word} (hv : bit v 0 = false) (hon : s.getB (R.RNG_CQ_CTRL fn r) 0 = true) :
    s.cqCtrlWrite fn r v =
      if s.cqNamed fn r then s.ringRefuse fn r 0x05 v.toNat else (s.wr (R.RNG_CQ_CTRL fn r) (v &&& 0x1F01)).setCqState fn r 0 := by
  simp only [State.cqCtrlWrite, hv, hon]

theorem hostSeenWrite_of_running {s : State} {fn r : Nat} {v : Word} (h : s.cqState fn r = 1)
    (h0 : 0 ≤ serial v (s.rd (R.RNG_HOST_SEEN_SEQ fn r)))
    (hle : (v - s.rd (R.RNG_HOST_SEEN_SEQ fn r)).toNat ≤ (s.rd (R.RNG_CQ_WRITTEN_SEQ fn r) - s.rd (R.RNG_HOST_SEEN_SEQ fn r)).toNat) :
    s.hostSeenWrite fn r v = s.wr (R.RNG_HOST_SEEN_SEQ fn r) v :=
  if_pos (by simpa only [Bool.and_eq_true, decide_eq_true_eq] using ⟨h, h0, hle⟩)

theorem hostSeenWrite_of_lost {s : State} {fn r : Nat} {v : Word} (h : s.cqState fn r = 2 ∨ s.cqState fn r = 3)
    (h0 : 0 ≤ serial v (s.rd (R.RNG_HOST_SEEN_SEQ fn r)))
    (hle : (v - s.rd (R.RNG_HOST_SEEN_SEQ fn r)).toNat ≤ (s.rd (R.RNG_CQ_WRITTEN_SEQ fn r) - s.rd (R.RNG_HOST_SEEN_SEQ fn r)).toNat) :
    s.hostSeenWrite fn r v =
      (((s.wr (R.RNG_HOST_SEEN_SEQ fn r) v).wr (R.RNG_CQ_WRITTEN_SEQ fn r) v).setCqState fn r 1).setB (statusK (ringPage fn r)) 4 false := by
  have hrun : s.cqState fn r ≠ 1 := by omega
  exact (if_neg (by simp [hrun])).trans (if_pos (by simpa only [Bool.and_eq_true, Bool.or_eq_true, decide_eq_true_eq] using ⟨h, h0, hle⟩))

theorem RegsBut.refl (ks : List Nat) (s : State) : RegsBut ks s s := fun _ _ => rfl

theorem RegsBut.wr {ks : List Nat} {s t : State} (h : RegsBut ks s t) {k : Nat} (v : Word) (hk : k ∈ ks) : RegsBut ks s (t.wr k v) :=
  fun j hj => (t.rd_wr_ne v (by rintro rfl; exact hj hk)).trans (h j hj)

theorem Only.wr {l : List Field} {s t : State} (h : Only l s t) (hl : Field.regs ∈ l) (k : Nat) (v : Word) : Only l s (t.wr k v) :=
  h.trans ((Only.of_wr t k v).mono (by simpa using hl))

theorem RegsBut.mono {ks js : List Nat} {s t : State} (h : RegsBut ks s t) (hk : ks ⊆ js) : RegsBut js s t := fun k hn => h k fun hm => hn (hk hm)

section
variable (s : State) (fn r : Nat) (v : Word)

theorem regsBut_cqFresh :
    RegsBut [R.RNG_CQ_CTRL fn r, R.RNG_CQ_WRITTEN_SEQ fn r, R.RNG_HOST_SEEN_SEQ fn r, statusK (ringPage fn r)] s (s.cqFresh fn r v) :=
  (((((RegsBut.refl _ s).wr _ (by simp)).wr _ (by simp)).wr _ (by simp)).wr _ (by simp)).wr _ (by simp)

theorem only_cqFresh : Only [.regs] s (s.cqFresh fn r v) :=
  (((((Only.refl _ s).wr (by decide) _ _).wr (by decide) _ _).wr (by decide) _ _).wr (by decide) _ _).wr (by decide) _ _

theorem cqState_cqFresh : (s.cqFresh fn r v).cqState fn r = 1 :=
  (cqState_setWait _ fn r false).trans (cqState_setCqState _ fn r (by decide))

theorem rd_cqFresh :
    (s.cqFresh fn r v).rd (R.RNG_CQ_CTRL fn r) = v &&& 0x1F01 ∧ (s.cqFresh fn r v).rd (R.RNG_CQ_WRITTEN_SEQ fn r) = 0 ∧
    (s.cqFresh fn r v).rd (R.RNG_HOST_SEEN_SEQ fn r) = 0 := by
  simp [State.cqFresh, State.setCqState, State.setB, State.setF, State.rd_wr, R.RNG_CQ_CTRL, R.RNG_CQ_WRITTEN_SEQ, R.RNG_HOST_SEEN_SEQ, statusK, rkey]

theorem regsBut_cqLatch :
    RegsBut [R.RNG_CQ_CTRL fn r + pairKey, R.RNG_CQ_BASE_LO fn r + 2 * pairKey, R.RNG_CQ_BASE_HI fn r + 2 * pairKey] s (s.cqLatch fn r) :=
  (((RegsBut.refl _ s).wr _ (by simp)).wr _ (by simp)).wr _ (by simp)

theorem only_cqLatch : Only [.regs] s (s.cqLatch fn r) :=
  (((Only.refl _ s).wr (by decide) _ _).wr (by decide) _ _).wr (by decide) _ _

/-- What is in force lies above the registers of the page. -/
theorem rd_cqLatch {k : Nat} (hk : k < pairKey) : (s.cqLatch fn r).rd k = s.rd k := by
  refine regsBut_cqLatch s fn r k fun hm => ?_
  simp only [List.mem_cons, List.not_mem_nil, or_false] at hm
  omega

theorem cqDepth_cqLatch : (s.cqLatch fn r).cqDepth fn r = depthOf (s.getF (R.RNG_CQ_CTRL fn r) 8 5) := by
  have hlo : R.RNG_CQ_CTRL fn r + pairKey ≠ R.RNG_CQ_BASE_LO fn r + 2 * pairKey := by
    simp only [R.RNG_CQ_CTRL, R.RNG_CQ_BASE_LO, rkey, pairKey]; omega
  have hhi : R.RNG_CQ_CTRL fn r + pairKey ≠ R.RNG_CQ_BASE_HI fn r + 2 * pairKey := by
    simp only [R.RNG_CQ_CTRL, R.RNG_CQ_BASE_HI, rkey, pairKey]; omega
  rw [State.cqDepth, State.getF, State.cqLatch, State.rd_wr_ne _ _ hhi, State.rd_wr_ne _ _ hlo, State.rd_wr_self, State.getF]

theorem pair_lt (lo hi : Nat) : s.pair lo hi < 2 ^ 64 := by
  have hlo := (s.rd (lo + pairKey)).isLt
  have hhi := (s.rd hi).isLt
  rw [State.pair]
  omega

theorem cqBase_cqLatch : (s.cqLatch fn r).cqBase fn r = s.pair (R.RNG_CQ_BASE_LO fn r) (R.RNG_CQ_BASE_HI fn r) := by
  have hne : R.RNG_CQ_BASE_LO fn r + 2 * pairKey ≠ R.RNG_CQ_BASE_HI fn r + 2 * pairKey := by
    simp only [R.RNG_CQ_BASE_LO, R.RNG_CQ_BASE_HI, rkey]; omega
  have hlt := pair_lt s (R.RNG_CQ_BASE_LO fn r) (R.RNG_CQ_BASE_HI fn r)
  rw [State.cqBase, State.cqLatch, State.rd_wr_self, State.rd_wr_ne _ _ hne, State.rd_wr_self, word, word, BitVec.toNat_ofNat, BitVec.toNat_ofNat]
  omega

theorem rd_cqStarted (k : Nat) : (s.cqStarted fn r v).rd k = ((s.cqFresh fn r v).cqLatch fn r).rd k :=
  State.rd_congr (State.putQueue_regs ..) k

theorem unannounced_cqStarted : ((s.cqStarted fn r v).queue (.ring fn r)).unannounced = 0 := by
  rw [State.cqStarted, State.queue_putQueue_self]

theorem cqDepth_cqStarted : (s.cqStarted fn r v).cqDepth fn r = depthOf (bitsOf v.toNat 8 5) := by
  obtain ⟨hctrl, -⟩ := rd_cqFresh s fn r v
  calc (s.cqStarted fn r v).cqDepth fn r
    _ = ((s.cqFresh fn r v).cqLatch fn r).cqDepth fn r := by rw [State.cqDepth, State.getF, rd_cqStarted, State.cqDepth, State.getF]
    _ = depthOf (fld (v &&& 0x1F01) 8 5) := by rw [cqDepth_cqLatch, State.getF, hctrl]
    _ = depthOf (bitsOf v.toNat 8 5) := by rw [fld_and v (by decide), fld]

theorem pair_cqFresh :
    (s.cqFresh fn r v).pair (R.RNG_CQ_BASE_LO fn r) (R.RNG_CQ_BASE_HI fn r) = s.pair (R.RNG_CQ_BASE_LO fn r) (R.RNG_CQ_BASE_HI fn r) := by
  have hlo := regsBut_cqFresh s fn r v (R.RNG_CQ_BASE_LO fn r + pairKey) (by
    simp only [List.mem_cons, List.not_mem_nil, or_false, R.RNG_CQ_BASE_LO, R.RNG_CQ_CTRL, R.RNG_CQ_WRITTEN_SEQ, R.RNG_HOST_SEEN_SEQ,
      statusK, rkey, pairKey]
    omega)
  have hhi := regsBut_cqFresh s fn r v (R.RNG_CQ_BASE_HI fn r) (by
    simp only [List.mem_cons, List.not_mem_nil, or_false, R.RNG_CQ_BASE_HI, R.RNG_CQ_CTRL, R.RNG_CQ_WRITTEN_SEQ, R.RNG_HOST_SEEN_SEQ,
      statusK, rkey]
    omega)
  rw [State.pair, hlo, hhi, State.pair]

theorem cqBase_cqStarted : (s.cqStarted fn r v).cqBase fn r = s.pair (R.RNG_CQ_BASE_LO fn r) (R.RNG_CQ_BASE_HI fn r) := by
  calc (s.cqStarted fn r v).cqBase fn r
    _ = ((s.cqFresh fn r v).cqLatch fn r).cqBase fn r := by rw [State.cqBase, rd_cqStarted, rd_cqStarted, State.cqBase]
    _ = s.pair (R.RNG_CQ_BASE_LO fn r) (R.RNG_CQ_BASE_HI fn r) := by rw [cqBase_cqLatch, pair_cqFresh]

theorem regsBut_cqStarted :
    RegsBut [R.RNG_CQ_CTRL fn r, R.RNG_CQ_WRITTEN_SEQ fn r, R.RNG_HOST_SEEN_SEQ fn r, statusK (ringPage fn r), R.RNG_CQ_CTRL fn r + pairKey,
      R.RNG_CQ_BASE_LO fn r + 2 * pairKey, R.RNG_CQ_BASE_HI fn r + 2 * pairKey] s (s.cqStarted fn r v) :=
  fun k hk => (rd_cqStarted s fn r v k).trans
    (((regsBut_cqFresh s fn r v).mono (by simp)).trans ((regsBut_cqLatch _ fn r).mono (by simp)) k hk)

theorem only_cqStarted : Only [.regs, .queues] s (s.cqStarted fn r v) :=
  ((only_cqFresh s fn r v).mono (by decide)).trans (((only_cqLatch _ fn r).mono (by decide)).trans ((Only.of_queues _ _).mono (by decide)))

/-- The registers of the page, where nothing is latched. -/
theorem rd_cqStarted_own (hfn : fn < 64) (hr : r < 16) {off : Nat} (hoff : off < 4096) :
    (s.cqStarted fn r v).rd (rkey (ringPage fn r) off 0) = (s.cqFresh fn r v).rd (rkey (ringPage fn r) off 0) := by
  have hkey : rkey (ringPage fn r) off 0 < pairKey := by simp only [rkey, ringPage, pairKey]; omega
  rw [rd_cqStarted, rd_cqLatch _ fn r hkey]

theorem cqState_cqStarted (hfn : fn < 64) (hr : r < 16) : (s.cqStarted fn r v).cqState fn r = 1 :=
  (congrArg (fld · 5 2) (rd_cqStarted_own s fn r v hfn hr (off := 0x00C) (by decide))).trans (cqState_cqFresh s fn r v)

end

/-! ## The commands -/

section
variable {s : State} {fn r : Nat} {v : Word}

theorem exec_rngDoorbell_accepted (h : s.doorbellOk fn r v = true) :
    exec (.rngDoorbell fn r v) s = .next ((s.wr (R.RNG_PRODUCER_SEQ fn r) v).wake .doorbell) :=
  congrArg Host.Outcome.next (if_pos h)

theorem exec_rngDoorbell_refused (h : s.doorbellOk fn r v = false) : exec (.rngDoorbell fn r v) s = .next (s.ringRefuse fn r 0x01 v.toNat) :=
  congrArg Host.Outcome.next (if_neg (Bool.eq_false_iff.1 h))

theorem exec_ringEnable (hv : bit v 0 = true) (hoff : s.getB (R.RNG_RING_CTRL fn r) 0 = false) :
    exec (.ringEnable fn r v) s = .next (s.ringEnable fn r v) :=
  congrArg Host.Outcome.next (if_pos (by simp [hv, hoff]))

theorem exec_ringDisable (hv : bit v 0 = false) (hon : s.getB (R.RNG_RING_CTRL fn r) 0 = true) :
    exec (.ringDisable fn r v) s = .next (s.ringDisable fn r v) :=
  congrArg Host.Outcome.next (if_pos (by simp [hv, hon]))

theorem exec_cqEnable (hv : bit v 0 = true) (hoff : s.getB (R.RNG_CQ_CTRL fn r) 0 = false) :
    exec (.cqEnable fn r v) s = .next (s.cqCtrlWrite fn r v) :=
  congrArg Host.Outcome.next (if_pos (by simp [hv, hoff]))

theorem exec_cqDisable (hv : bit v 0 = false) (hon : s.getB (R.RNG_CQ_CTRL fn r) 0 = true) :
    exec (.cqDisable fn r v) s = .next (s.cqCtrlWrite fn r v) :=
  congrArg Host.Outcome.next (if_pos (by simp [hv, hon]))

/-- R138: with ENABLE kept at 1, SEQ_CHECK is stored and PAUSE acts. -/
theorem ringCtrlWrite_enabled (hv : bit v 0 = true) (hon : s.getB (R.RNG_RING_CTRL fn r) 0 = true) :
    s.ringCtrlWrite fn r v = (s.setB (R.RNG_RING_CTRL fn r) 2 (bit v 2)).ringPauseSet fn r (bit v 1) := by
  simp only [State.ringCtrlWrite, hv, hon]

theorem exec_ringPause (hv : (bit v 0 && bit v 1) = true) (hon : s.getB (R.RNG_RING_CTRL fn r) 0 = true) :
    exec (.ringPause fn r v) s = .next ((s.setB (R.RNG_RING_CTRL fn r) 2 (bit v 2)).ringPauseSet fn r true) := by
  obtain ⟨h0, h1⟩ := Bool.and_eq_true_iff.1 hv
  exact congrArg Host.Outcome.next ((if_pos (by simp [h0, h1, hon])).trans (h1 ▸ ringCtrlWrite_enabled h0 hon))

theorem exec_ringResume (h0 : bit v 0 = true) (h1 : bit v 1 = false) (hon : s.getB (R.RNG_RING_CTRL fn r) 0 = true) :
    exec (.ringResume fn r v) s = .next ((s.setB (R.RNG_RING_CTRL fn r) 2 (bit v 2)).ringPauseSet fn r false) :=
  congrArg Host.Outcome.next ((if_pos (by simp [h0, h1, hon])).trans (h1 ▸ ringCtrlWrite_enabled h0 hon))

/-- PAUSE reads what was written. -/
theorem getB_pause_ringPauseSet (hfn : fn < 64) (hr : r < 16) (p : Bool) : (s.ringPauseSet fn r p).getB (R.RNG_RING_CTRL fn r) 1 = p :=
  (getB_congr (ownKept_ringPauseSet hfn hr s p 0x048 (by decide) (by decide)) 1).trans (getB_setB_self s _ p (by decide))

theorem exec_dcacheInv (hv : bit v 0 = true) (h : s.ringState fn r = 3) : exec (.dcacheInv fn r v) s =
    .next (s.putQueue (.ring fn r) { s.queue (.ring fn r) with cache := [], fetch := none }) :=
  congrArg Host.Outcome.next ((if_pos hv).trans (if_pos h))

theorem exec_hostSeenWrite (h : s.cqState fn r = 1) : exec (.hostSeenWrite fn r v) s = .next (s.hostSeenWrite fn r v) :=
  congrArg Host.Outcome.next (if_neg (by simp [h]))

theorem exec_cqResync (h : s.cqState fn r = 2 ∨ s.cqState fn r = 3) : exec (.cqResync fn r v) s = .next (s.hostSeenWrite fn r v) :=
  congrArg Host.Outcome.next (if_pos (by simpa using h))

end

/-- Settles O25, clause by clause: what the write stores (`ringFresh`, `ringCleared`, `ringResynced`, `cqStarted`), and what the ring's move to its
new state tells. What a write that changes ENABLE does with its other fields is deduced (log entry 14); that the PAUSE of a refused
disable acts is the model's choice (log entry 101). -/
theorem ringControl : Obligations.RingControl := by
  refine ⟨fun s fn r v hfn h1 hr hok => ?_, fun s fn r v hfn h1 hr hok => ?_, fun s fn r v hfn h1 hr hv hoff hcq => ?_,
    fun s fn r v hfn h1 hr hv hoff hcq => ?_, fun s fn r v hfn h1 hr hv hon hst hseq => ?_, fun s fn r v hfn h1 hr hv hon hbusy => ?_,
    fun s fn r v hfn h1 hr hv hoff => ?_, fun s fn r v hfn h1 hr hv hon hfree => ?_, fun s fn r v hfn h1 hr hv hon hnamed => ?_,
    fun s fn r v hfn h1 hr hv hon hst => ?_, fun s fn r v hfn h1 hr hv hp hon hst => ?_, fun s fn r v hfn h1 hr hv hst => ?_,
    fun s fn r v hfn h1 hr hst h0 hle => ?_, fun s fn r v hfn h1 hr hst h0 hle => ?_, fun s fn r v hfn h1 hr hst hdepth => ?_⟩
  · -- RNG_DOORBELL, accepted
    refine ⟨_, exec_rngDoorbell_accepted hok, ?_, ((TellsIn.refl _ _ s).wr v (by simp)).told (Told.wake ..)⟩
    exact ((PageKept.wake hfn hr ..).own 0x050 (by decide) (by decide)).trans (s.rd_wr_self _ v)
  · -- RNG_DOORBELL, refused
    exact ⟨_, exec_rngDoorbell_refused hok, rd_rejectCount_ringRefuse hfn hr ..,
      rd_ringRefuse_ne hfn hr s _ _ (off := 0x050) (by decide) (by decide) (by decide), getB_refused_ringRefuse hfn hr s h1 ..,
      tellsIn_ringRefuse (TellsIn.refl _ _ s) (by simp) ..⟩
  · -- RING_ENABLE
    obtain ⟨hstate, htold, hown⟩ := ringEnable_starts hfn hr hcq
    obtain ⟨hctrl, hproducer, hconsumed, hcompleted⟩ := rd_ringFresh s fn r v
    have hempty : (s.ringFresh fn r v).RingEmpty fn r := ringEmpty_emptyQueue _ fn r
    obtain ⟨hcache, hfetch, hchain⟩ := hempty.congr (htold.1.2 .queues (by decide))
    exact ⟨_, exec_ringEnable hv hoff, hstate, (hown 0x048 (by decide) (by decide)).trans hctrl,
      (hown 0x050 (by decide) (by decide)).trans hproducer, (hown 0x054 (by decide) (by decide)).trans hconsumed,
      (hown 0x058 (by decide) (by decide)).trans hcompleted, hcache, hfetch, hchain,
      (tellsIn_ringFresh s fn r v).told htold⟩
  · -- RING_ENABLE, refused
    refine ⟨_, (exec_ringEnable hv hoff).trans (congrArg _ (ringEnable_of_cqDisabled hcq)), ?_, ?_, ?_, ?_⟩
    · refine (getB_congr (rd_ringRefuse_ne hfn hr _ _ _ (off := 0x048) (by decide) (by decide) (by decide)) 0).trans ?_
      exact (congrArg (bit · 0) (s.rd_wr_self _ _)).trans (bit_setBit _ _ (by decide))
    · rw [rd_rejectCount_ringRefuse hfn hr, rd_rejectCount_wr_ctrl]
    · exact (ringState_ringRefuse hfn hr ..).trans (ringState_wr_own s fn r _ (by decide) (by decide))
    · exact tellsIn_ringRefuse ((TellsIn.refl _ _ s).wr _ (by simp)) (by simp) ..
  · -- RING_DISABLE
    have htold := Told.moveRing (s.ringCleared fn r v) fn r 0
    obtain ⟨hcache, -, hchain⟩ := (ringEmpty_ringCleared s fn r v).congr (htold.1.2 .queues (by decide))
    refine ⟨_, (exec_ringDisable hv hon).trans (congrArg _ (ringDisable_of_stopped v hst hseq)), ringState_moveRing hfn hr _ (by decide), ?_,
      hcache, hchain, (tellsIn_ringCleared s fn r v).told htold⟩
    exact (ownKept_moveRing hfn hr _ 0 0x048 (by decide) (by decide)).trans
      (((only_ringCleared s fn r v).rd_eq (by decide) _).trans (s.rd_wr_self _ _))
  · -- RING_DISABLE, refused
    have hown := ownKept_ringPauseSet hfn hr s (bit v 1)
    refine ⟨_, (exec_ringDisable hv hon).trans (congrArg _ (ringDisable_of_busy v hbusy)), ?_, ?_, ?_, ?_⟩
    · refine (getB_congr (rd_ringRefuse_ne hfn hr _ _ _ (off := 0x048) (by decide) (by decide) (by decide)) 0).trans ?_
      exact (getB_congr (hown 0x048 (by decide) (by decide)) 0).trans ((getB_setB_ne s _ _ (by decide) (by decide)).trans hon)
    · have hsame : (s.ringPauseSet fn r (bit v 1)).rd (R.RNG_REJECT_COUNT fn r) = s.rd (R.RNG_REJECT_COUNT fn r) :=
        (hown 0x080 (by decide) (by decide)).trans (rd_rejectCount_wr_ctrl ..)
      rw [rd_rejectCount_ringRefuse hfn hr, hsame]
    · exact (ringState_ringRefuse hfn hr ..).trans (ringState_ringPauseSet hfn hr s _)
    · exact tellsIn_ringRefuse (tellsIn_ringPauseSet (TellsIn.refl _ _ s) (by simp) _) (by simp) ..
  · -- CQ_ENABLE
    obtain ⟨hctrl, hwritten, hseen⟩ := rd_cqFresh s fn r v
    have hown : ∀ off < 4096, (s.cqStarted fn r v).rd (rkey (ringPage fn r) off 0) = _ := fun _ hoff => rd_cqStarted_own s fn r v hfn hr hoff
    exact ⟨_, (exec_cqEnable hv hoff).trans (congrArg _ (cqCtrlWrite_enable hv hoff)), cqState_cqStarted s fn r v hfn hr,
      (hown 0x06C (by decide)).trans hctrl, (hown 0x070 (by decide)).trans hwritten, (hown 0x074 (by decide)).trans hseen,
      unannounced_cqStarted s fn r v, cqDepth_cqStarted s fn r v, cqBase_cqStarted s fn r v, regsBut_cqStarted s fn r v, only_cqStarted s fn r v⟩
  · -- CQ_DISABLE
    refine ⟨_, (exec_cqDisable hv hon).trans (congrArg _ ((cqCtrlWrite_disable hv hon).trans (if_neg (Bool.eq_false_iff.1 hfree)))),
      cqState_setCqState _ fn r (by decide), ?_, ((RegsBut.refl _ s).wr _ (by simp)).wr _ (by simp),
      ((Only.refl _ s).wr (by decide) _ _).wr (by decide) _ _⟩
    exact (State.rd_wr_ne _ _ (by simp only [R.RNG_CQ_CTRL, statusK, rkey]; omega)).trans (s.rd_wr_self _ _)
  · -- CQ_DISABLE, refused
    refine ⟨_, (exec_cqDisable hv hon).trans (congrArg _ ((cqCtrlWrite_disable hv hon).trans (if_pos hnamed))), cqState_ringRefuse hfn hr .., ?_,
      tellsIn_ringRefuse (TellsIn.refl _ _ s) (by simp) ..⟩
    exact (getB_congr (rd_ringRefuse_ne hfn hr s _ _ (off := 0x06C) (by decide) (by decide) (by decide)) 0).trans hon
  · -- RING_PAUSE
    refine ⟨_, exec_ringPause hv hon, ?_, getB_pause_ringPauseSet hfn hr true,
      tellsIn_ringPauseSet ((TellsIn.refl _ _ s).wr _ (by simp)) (by simp) _⟩
    have hsame : (s.setB (R.RNG_RING_CTRL fn r) 2 (bit v 2)).ringState fn r = 1 := (ringState_setB_ctrl ..).trans hst
    exact (ringState_ringPauseSet hfn hr _ true).trans ((if_pos rfl).trans (if_pos hsame))
  · -- RING_RESUME
    refine ⟨_, exec_ringResume hv hp hon, ?_, getB_pause_ringPauseSet hfn hr false,
      tellsIn_ringPauseSet ((TellsIn.refl _ _ s).wr _ (by simp)) (by simp) _⟩
    have hsame : (s.setB (R.RNG_RING_CTRL fn r) 2 (bit v 2)).ringState fn r = s.ringState fn r := ringState_setB_ctrl ..
    exact (ringState_ringPauseSet hfn hr _ false).trans ((if_neg (by decide)).trans (if_pos (hsame ▸ hst)))
  · -- DCACHE_INV
    exact ⟨_, exec_dcacheInv hv hst, State.queue_putQueue_self .., Only.of_queues s _⟩
  · -- HOST_SEEN_WRITE
    exact ⟨_, (exec_hostSeenWrite hst).trans (congrArg _ (hostSeenWrite_of_running hst h0 hle)), s.rd_wr_self _ v, RegsBut.of_wr s _ v,
      Only.of_wr s _ v⟩
  · -- CQ_RESYNC
    refine ⟨_, (exec_cqResync hst).trans (congrArg _ (hostSeenWrite_of_lost hst h0 hle)), ?_, ?_,
      (cqState_setWait _ fn r false).trans (cqState_setCqState _ fn r (by decide)), ?_, ?_⟩
    · simp [State.setCqState, State.setB, State.setF, State.rd_wr, R.RNG_CQ_WRITTEN_SEQ, R.RNG_HOST_SEEN_SEQ, statusK, rkey]
    · simp [State.setCqState, State.setB, State.setF, State.rd_wr, R.RNG_CQ_WRITTEN_SEQ, R.RNG_HOST_SEEN_SEQ, statusK, rkey]
    · exact ((((RegsBut.refl _ s).wr v (by simp)).wr v (by simp)).wr _ (by simp)).wr _ (by simp)
    · exact ((((Only.refl _ s).wr (by decide) _ v).wr (by decide) _ v).wr (by decide) _ _).wr (by decide) _ _
  · -- RESYNC_SEQ_WRITE
    obtain ⟨hstate, htold, hown⟩ := resyncWrite_restarts hfn hr hst hdepth
    obtain ⟨hconsumed, hcompleted⟩ := rd_ringResynced s fn r v
    obtain ⟨hcache, -, hchain⟩ := (ringEmpty_ringResynced s fn r v).congr (htold.1.2 .queues (by decide))
    exact ⟨_, rfl, (hown 0x054 (by decide) (by decide)).trans hconsumed, (hown 0x058 (by decide) (by decide)).trans hcompleted, hstate, hcache,
      hchain, (tellsIn_ringResynced s fn r v).told htold⟩

end Sys2Proof.Machine
end

section
/-! COUNTEREXAMPLE to a statement of 05_rings_and_descriptors: a lost ring's entry dropped where another ring's entry waits for space (O26). -/

namespace Sys2Proof.Machine
open Sys2Proof

/-- A NOP of ring r of the manager that has ended, and its chain: it alone. -/
def endedNop (r : Nat) : Op :=
  { fn := 0, src := .ring 0 r, seq := 0, queue := r, desc := 0x301, chain := r, pos := 0, st := .done, status := stOK, result := 0, issued := false,
    progress := 0, early := false, waitFault := false, nonSnoop := false, cached := false, probe := 0, est := (0, 0), fresh := false, store := false,
    aux := [] }
def chainOfNop (r : Nat) : Chain :=
  { fn := 0, src := .ring 0 r, coalesce := false, count := 1, lastSeen := true, cut := none, cutStatus := stInvalid, fail := none, alone := false,
    start := 0, last := none }

/-- Rings 1 and 2 of the manager name completion queue 1, which is RUNNING and full; ring 1 is HOST_LOST, ring 2 RUNNING, and each has a descriptor
that has ended. Counter 0 counts the time that entries wait for space, its first microsecond is a freeze source (R544, R546, R549), and a freeze
drives CREW_FREEZE# (R550). -/
def sharedQueueFull : State :=
  let full := ((State.reset.wr (R.RNG_CQ_CTRL 0 1) 0x601).wr (R.RNG_CQ_WRITTEN_SEQ 0 1) 64).setCqState 0 1 1
  let named := (full.wr (R.RNG_RING_CTRL 0 1) 0x601).wr (R.RNG_RING_CTRL 0 2) 0x10601
  let counted := ((named.wr (R.CNT_CTR_EVENT 0) 0xC003FF04).wr (R.CNT_CTR_COMPARE_LO 0 + pairKey) 1).wr R.DBG_FREEZE_ENABLE 0x10008
  { (counted.setRingState 0 1 4).setRingState 0 2 1 with
    ops := [(0, endedNop 1), (1, endedNop 2)], chains := [(1, chainOfNop 1), (2, chainOfNop 2)], nextOp := 2, nextChain := 3 }

/-- Host memory is not read. -/
def unreadHost : HostView := ⟨[], [], [], []⟩

/-- Ring 2's entry waits for space (R157). -/
def entryWaits : State := sharedQueueFull.issueEntry unreadHost (.ring 0 2) 0 1

/-- R157: the model itself comes to `entryWaits` by COMPLETION_ISSUE. -/
theorem exec_completionIssue_sharedQueueFull : exec (.completionIssue (.ring 0 2) unreadHost) sharedQueueFull = .next entryWaits := by
  have hcq : sharedQueueFull.srcCq (.ring 0 2) = 1 := by decide +kernel
  have hx : exec (.completionIssue (.ring 0 2) unreadHost) sharedQueueFull =
      .next (sharedQueueFull.issueEntry unreadHost (.ring 0 2) 0 (sharedQueueFull.srcCq (.ring 0 2))) := rfl
  rw [hx, hcq, entryWaits]

/-- A microsecond later. -/
def entryWaited : State := { entryWaits with uptime := 1000 }

/-- As ring 1's entry is dropped, the time that ring 2's has waited is counted: the counter freezes the module, which drives a pin. -/
theorem out_of_completionIssue_entryWaited {t : State} (h : exec (.completionIssue (.ring 0 1) unreadHost) entryWaited = .next t) :
    t.out = .pin "CREW_FREEZE#" false :: entryWaited.out := by
  have hrun : (match exec (.completionIssue (.ring 0 1) unreadHost) entryWaited with
      | .next u => u.out
      | _ => []) = .pin "CREW_FREEZE#" false :: entryWaited.out := by decide +kernel
  rwa [h] at hrun

/-- Refutes O26: the clause on COMPLETION_ISSUE of a lost ring says that nothing goes out of the device, but where another source's entry waits in the
same completion queue the drop ends that queue's wait, and the time waited enters RNG_CQ_STALL_TIME and its counter event (R157, R544). A counter that
reaches its compare value can freeze the module (R546), and a freeze drives CREW_FREEZE# (R550). -/
theorem not_fetchAdmitComplete : ¬ Obligations.FetchAdmitComplete := by
  intro h
  obtain ⟨-, -, -, -, dropped, -⟩ := h
  have hnext : entryWaited.nextEntry (.ring 0 1) = some (opEntry 0 (endedNop 1) (chainOfNop 1)) := by decide +kernel
  have hlost : entryWaited.ringState 0 1 = 4 := by decide +kernel
  obtain ⟨t, hx, -, -, -, hout, -⟩ := dropped entryWaited 0 1 unreadHost _ (by decide) (by decide) (by decide) hnext (.inl hlost)
  rw [out_of_completionIssue_entryWaited hx] at hout
  exact List.cons_ne_self _ _ hout

end Sys2Proof.Machine
end

section
/-! PROOFS of the statements of 06_translation_and_instances: the device page tables (O31). Page tables that are well formed are trees that share no table, so
that an entry is met by the walks of one region of one function's addresses alone (`entry_inj`); a walk's leaf is what the entries of levels 2 and 3 hold
(`walk_eq_some_iff`), and a write of one entry changes the walks of its region alone. -/

namespace Sys2Proof.Machine
open Sys2Proof

/-! ## Tables with rising keys -/

namespace Tab
variable {β : Type}

theorem mem_of_look {t : Tab β} {k : Nat} {v : β} (h : look t k = some v) : (k, v) ∈ t := by
  induction t with
  | nil => cases h
  | cons e r ih =>
    obtain ⟨i, w⟩ := e
    simp only [look] at h
    split at h
    · next hi => cases h; exact hi ▸ List.mem_cons_self
    · exact List.mem_cons_of_mem _ (ih h)

theorem lt_of_risingFrom {t : Tab β} {i : Nat} (h : risingFrom (some i) t = true) {e : Nat × β} (he : e ∈ t) : i < e.1 := by
  induction t generalizing i with
  | nil => cases he
  | cons x r ih =>
    simp only [risingFrom, Bool.and_eq_true, decide_eq_true_eq] at h
    obtain ⟨hx, hr⟩ := h
    rcases List.mem_cons.1 he with rfl | he
    · exact hx
    · exact hx.trans (ih hr he)

theorem look_of_mem {t : Tab β} (h : rising t = true) {k : Nat} {v : β} (hm : (k, v) ∈ t) : look t k = some v := by
  induction t with
  | nil => cases hm
  | cons e r ih =>
    obtain ⟨i, w⟩ := e
    rcases List.mem_cons.1 hm with heq | hm
    · cases heq
      exact if_pos rfl
    · have hlt : i < k := lt_of_risingFrom h hm
      exact (if_neg hlt.ne).trans (ih (rising_of_risingFrom (some i) r h) hm)

/-- Where the keys rise, an entry stands beside what its key's removal leaves. -/
theorem put_perm {t : Tab β} (h : rising t = true) (k : Nat) (v : β) : (put t k v).Perm ((k, v) :: del t k) := by
  induction t with
  | nil => exact .refl _
  | cons e r ih =>
    obtain ⟨i, w⟩ := e
    have hlt : ∀ x ∈ r, i < x.1 := fun x hx => lt_of_risingFrom h hx
    have hkeep : ∀ {l : Tab β}, (∀ x ∈ l, x.1 ≠ k) → del l k = l := fun hl => List.filter_eq_self.2 fun x hx => decide_eq_true (hl x hx)
    simp only [put]
    split
    · next hk =>
      rw [hkeep fun x hx => (List.mem_cons.1 hx).elim (fun hx => by rw [hx]; exact hk.ne') fun hx => (hk.trans (hlt x hx)).ne']
    · split
      · next hk =>
        subst hk
        have hhead : del ((k, w) :: r) k = del r k := List.filter_cons_of_neg (by simp)
        rw [hhead, hkeep fun x hx => (hlt x hx).ne']
      · next hk =>
        have hhead : del ((i, w) :: r) k = (i, w) :: del r k := List.filter_cons_of_pos (by simpa using Ne.symm hk)
        rw [hhead]
        exact ((ih (rising_of_risingFrom (some i) r h)).cons _).trans (.swap ..)

end Tab

/-! ## Entries (R172) -/

/-- The table that an entry names (R172). -/
def namedTable (e : Nat) : Nat := bitsOf e 12 40 * 4096

@[simp] theorem isTable_zero : isTable 0 = false := rfl

@[simp] theorem dec_zero : Leaf.dec 0 = none := rfl

theorem dec_of_isTable {e : Nat} (h : isTable e = true) : Leaf.dec e = none := by
  simp only [isTable, Bool.and_eq_true, decide_eq_true_eq] at h
  simp [Leaf.dec, h.2]

theorem valid_of_dec {e : Nat} {l : Leaf} (h : Leaf.dec e = some l) : bitOf e 0 = true := by
  unfold Leaf.dec at h
  split at h
  · next hv => exact (Bool.and_eq_true_iff.1 hv).1
  · cases h

theorem not_isTable_of_dec {e : Nat} {l : Leaf} (h : Leaf.dec e = some l) : isTable e = false := by
  by_contra ht
  rw [dec_of_isTable (by simpa using ht)] at h
  cases h

/-- The entry that names the table at an address whose bits lie in the entry's 40. -/
theorem tableEntry {a : Nat} (ha : a % 4096 = 0) (hb : a < 2 ^ 52) :
    isTable (1 + a) = true ∧ namedTable (1 + a) = a ∧ bitOf (1 + a) 0 = true := by
  have hkind : bitsOf (1 + a) 1 2 = 0 := by simp only [bitsOf]; omega
  have hvalid : bitOf (1 + a) 0 = true := by simp only [bitOf, beq_iff_eq]; omega
  refine ⟨by simp [isTable, hkind, hvalid], ?_, hvalid⟩
  simp only [namedTable, bitsOf]; omega

theorem walkIndex_lt (va lvl : Nat) : walkIndex va lvl < 512 := by
  unfold walkIndex bitsOf
  split <;> omega

/-! ## Page tables that are well formed (R170 to R172) -/

/-- `PageTables.wf`, clause by clause. -/
structure PageTables.Sound (s : State) : Prop where
  canonical : Tab.wf (fun _ => 0) s.trn.pt = true
  roots : s.trn.roots.rising = true
  placed : ∀ e ∈ s.trn.pt, bitOf e.2 0 = true ∧ tableAt 0 ≤ e.1 ∧ e.1 < tableAt s.trn.nextTable
  named : ∀ a ∈ s.tablesNamed, a % 4096 = 0 ∧ tableAt 0 ≤ a ∧ a < tableAt s.trn.nextTable
  once : s.tablesNamed.Nodup

theorem PageTables.wf_iff_sound {s : State} : PageTables.wf s = true ↔ PageTables.Sound s := by
  simp only [PageTables.wf, Bool.and_eq_true, List.all_eq_true, decide_eq_true_eq, and_assoc]
  exact ⟨fun ⟨hc, hr, hp, hn, ho⟩ => ⟨hc, hr, hp, hn, ho⟩, fun ⟨hc, hr, hp, hn, ho⟩ => ⟨hc, hr, hp, hn, ho⟩⟩

theorem tablesNamed_eq (s : State) :
    s.tablesNamed = s.trn.roots.map Prod.snd ++ (s.trn.pt.filter fun e => isTable e.2).map fun e => namedTable e.2 := rfl

theorem mem_tablesNamed_of_root {s : State} {f t : Nat} (h : s.trn.roots.look f = some t) : t ∈ s.tablesNamed :=
  List.mem_append_left _ (List.mem_map.2 ⟨(f, t), Tab.mem_of_look h, rfl⟩)

theorem mem_pt_of_pte {s : State} {a : Nat} (h : s.pte a ≠ 0) : (a, s.pte a) ∈ s.trn.pt := by
  cases hl : s.trn.pt.look a with
  | none => exact absurd (congrArg (·.getD 0) hl) h
  | some e =>
    have he : s.pte a = e := congrArg (·.getD 0) hl
    exact he ▸ Tab.mem_of_look hl

theorem mem_pt_of_isTable {s : State} {a : Nat} (h : isTable (s.pte a) = true) : (a, s.pte a) ∈ s.trn.pt.filter fun e => isTable e.2 :=
  List.mem_filter.2 ⟨mem_pt_of_pte fun h0 => (by rw [h0] at h; cases h), h⟩

theorem mem_tablesNamed_of_entry {s : State} {a : Nat} (h : isTable (s.pte a) = true) : namedTable (s.pte a) ∈ s.tablesNamed :=
  List.mem_append_right _ (List.mem_map.2 ⟨_, mem_pt_of_isTable h, rfl⟩)

/-! ## The tables of a walk (R171) -/

/-- The table of a level, 0 to 3, that the walk of a function's address enters. -/
def State.walkTable (s : State) (fn va : Nat) : Nat → Option Nat
  | 0 => s.trn.roots.look fn
  | k + 1 => (s.walkTable fn va k).bind fun t =>
    if isTable (s.pte (t + 8 * walkIndex va k)) then some (namedTable (s.pte (t + 8 * walkIndex va k))) else none

/-- The leaf that the entry of a level holds. -/
def State.leafIn (s : State) (fn va lvl : Nat) : Option Leaf := (s.walkTable fn va lvl).bind fun t => Leaf.dec (s.pte (t + 8 * walkIndex va lvl))

/-- The level of the leaves of a page size. -/
def leafLevel (g : Bool) : Nat := if g then 2 else 3

/-- Two addresses whose walks use the same indices down to a level. -/
abbrev SameRegion (lvl va va' : Nat) : Prop := ∀ j ≤ lvl, walkIndex va j = walkIndex va' j

theorem walkFrom_eq_leaf_above {s : State} {va n lvl t : Nat} (hl : lvl < 2) {g : Bool} {a : Nat} {l : Leaf} :
    s.walkFrom va (n + 1) lvl t = .leaf g a l ↔
      isTable (s.pte (t + 8 * walkIndex va lvl)) = true ∧ s.walkFrom va n (lvl + 1) (namedTable (s.pte (t + 8 * walkIndex va lvl))) = .leaf g a l := by
  have hl3 : lvl < 3 := by omega
  simp only [State.walkFrom, hl, hl3, if_true]
  cases ht : isTable (s.pte (t + 8 * walkIndex va lvl)) with
  | true => 
    have hv : bitOf (s.pte (t + 8 * walkIndex va lvl)) 0 = true := (Bool.and_eq_true_iff.1 ht).1
    simp [hv, namedTable]
  | false =>
    simp only [Bool.false_eq_true, if_false, false_and, iff_false]
    split <;> exact WalkEnd.noConfusion

theorem walkFrom_eq_leaf_two {s : State} {va t : Nat} {g : Bool} {a : Nat} {l : Leaf} :
    s.walkFrom va 2 2 t = .leaf g a l ↔
      (g = true ∧ a = t + 8 * walkIndex va 2 ∧ Leaf.dec (s.pte (t + 8 * walkIndex va 2)) = some l) ∨
      (isTable (s.pte (t + 8 * walkIndex va 2)) = true ∧ s.walkFrom va 1 3 (namedTable (s.pte (t + 8 * walkIndex va 2))) = .leaf g a l) := by
  rw [State.walkFrom]
  generalize t + 8 * walkIndex va 2 = b
  cases hd : Leaf.dec (s.pte b) with
  | some l' =>
    simp only [valid_of_dec hd, not_isTable_of_dec hd]
    grind
  | none =>
    cases ht : isTable (s.pte b) with
    | true => simp [(Bool.and_eq_true_iff.1 ht).1, namedTable]
    | false =>
      simp only [Bool.false_eq_true, if_false, false_and, reduceCtorEq, and_false, or_false, iff_false]
      split <;> simp

theorem walkFrom_eq_leaf_three {s : State} {va t : Nat} {g : Bool} {a : Nat} {l : Leaf} :
    s.walkFrom va 1 3 t = .leaf g a l ↔ g = false ∧ a = t + 8 * walkIndex va 3 ∧ Leaf.dec (s.pte (t + 8 * walkIndex va 3)) = some l := by
  rw [State.walkFrom]
  generalize t + 8 * walkIndex va 3 = b
  cases hd : Leaf.dec (s.pte b) with
  | some l' =>
    simp only [valid_of_dec hd, not_isTable_of_dec hd]
    grind
  | none =>
    simp only [reduceCtorEq, and_false, iff_false]
    split
    · simp
    · split <;> simp

theorem walkTable_succ {s : State} {fn va k t : Nat} :
    s.walkTable fn va (k + 1) = some t ↔
      ∃ u, s.walkTable fn va k = some u ∧ isTable (s.pte (u + 8 * walkIndex va k)) = true ∧ namedTable (s.pte (u + 8 * walkIndex va k)) = t := by
  simp only [State.walkTable, Option.bind_eq_some_iff, Option.ite_none_right_eq_some, Option.some.injEq]

theorem leafIn_eq_some {s : State} {fn va lvl : Nat} {l : Leaf} :
    s.leafIn fn va lvl = some l ↔ ∃ t, s.walkTable fn va lvl = some t ∧ Leaf.dec (s.pte (t + 8 * walkIndex va lvl)) = some l :=
  Option.bind_eq_some_iff

/-- R171, R172: a walk ends in the leaf of a size where the entry of the size's level holds one. -/
theorem walkEnd_eq_leaf_iff {s : State} {fn va : Nat} {g : Bool} {a : Nat} {l : Leaf} :
    s.walkEnd fn va = .leaf g a l ↔ ∃ t, s.walkTable fn va (leafLevel g) = some t ∧ a = t + 8 * walkIndex va (leafLevel g) ∧ Leaf.dec (s.pte a) = some l := by
  unfold State.walkEnd
  cases hr : s.trn.roots.look fn with
  | none => 
    have hnone : ∀ k, s.walkTable fn va k = none := fun k => by
      induction k with
      | zero => exact hr
      | succ k ih => rw [State.walkTable, ih]; rfl
    simp [hnone]
  | some r =>
    have hroot : s.walkTable fn va 0 = some r := hr
    simp only [walkFrom_eq_leaf_above (show (0 : Nat) < 2 by decide), walkFrom_eq_leaf_above (show (0 + 1 : Nat) < 2 by decide), Nat.reduceAdd,
      walkFrom_eq_leaf_two, walkFrom_eq_leaf_three]
    cases g <;> simp [leafLevel, walkTable_succ, hroot] <;> grind

/-- R171: the leaf that covers an address. -/
theorem walk_eq_some_iff {s : State} {fn va : Nat} {g : Bool} {l : Leaf} : s.walk fn va = some (g, l) ↔ s.leafIn fn va (leafLevel g) = some l := by
  have hend : s.walk fn va = some (g, l) ↔ ∃ a, s.walkEnd fn va = .leaf g a l := by
    unfold State.walk
    cases s.walkEnd fn va <;> simp
  rw [hend, leafIn_eq_some]
  simp only [walkEnd_eq_leaf_iff]
  grind

/-! ## Each entry is met by one walk alone -/

theorem walkTable_congr_va {s : State} {fn va va' k : Nat} (h : ∀ j < k, walkIndex va j = walkIndex va' j) : s.walkTable fn va k = s.walkTable fn va' k := by
  induction k with
  | zero => rfl
  | succ k ih => rw [State.walkTable, State.walkTable, ih fun j hj => h j (by omega), h k (by omega)]

theorem leafIn_congr_va {s : State} {fn va va' k : Nat} (h : SameRegion k va va') : s.leafIn fn va k = s.leafIn fn va' k := by
  rw [State.leafIn, State.leafIn, walkTable_congr_va fun j hj => h j (by omega), h k (Nat.le_refl k)]

theorem walkTable_none_of_le {s : State} {fn va k j : Nat} (h : s.walkTable fn va k = none) (hj : k ≤ j) : s.walkTable fn va j = none := by
  induction hj with
  | refl => exact h
  | step _ ih => rw [State.walkTable, ih]; rfl

theorem leafIn_none_of_walkTable {s : State} {fn va k : Nat} (h : s.walkTable fn va k = none) : s.leafIn fn va k = none := by
  rw [State.leafIn, h]; rfl

theorem walkTable_mem_tablesNamed {s : State} {fn va k t : Nat} (h : s.walkTable fn va k = some t) : t ∈ s.tablesNamed := by
  cases k with
  | zero => exact mem_tablesNamed_of_root h
  | succ k =>
    obtain ⟨u, -, ht, rfl⟩ := walkTable_succ.1 h
    exact mem_tablesNamed_of_entry ht

section
variable {s : State} (hs : PageTables.Sound s)
include hs

theorem root_unique {f f' t : Nat} (h : s.trn.roots.look f = some t) (h' : s.trn.roots.look f' = some t) : f = f' := by
  have honce := hs.once
  rw [tablesNamed_eq] at honce
  exact congrArg Prod.fst (List.inj_on_of_nodup_map (List.Nodup.of_append_left honce) (Tab.mem_of_look h) (Tab.mem_of_look h') rfl)

theorem entry_unique {a a' : Nat} (h : isTable (s.pte a) = true) (h' : isTable (s.pte a') = true) (hn : namedTable (s.pte a) = namedTable (s.pte a')) :
    a = a' := by
  have honce := hs.once
  rw [tablesNamed_eq] at honce
  exact congrArg Prod.fst (List.inj_on_of_nodup_map (List.Nodup.of_append_right honce) (mem_pt_of_isTable h) (mem_pt_of_isTable h') hn)

theorem root_ne_named {f t a : Nat} (h : s.trn.roots.look f = some t) (ha : isTable (s.pte a) = true) : t ≠ namedTable (s.pte a) := by
  have honce := hs.once
  rw [tablesNamed_eq] at honce
  exact fun heq => List.disjoint_of_nodup_append honce (List.mem_map.2 ⟨_, Tab.mem_of_look h, rfl⟩) (List.mem_map.2 ⟨_, mem_pt_of_isTable ha, heq.symm⟩)

/-- The places of two entries of tables at multiples of 4 KiB. -/
theorem table_eq_of_entry_eq {t t' i i' : Nat} (ht : t ∈ s.tablesNamed) (ht' : t' ∈ s.tablesNamed) (hi : i < 512) (hi' : i' < 512)
    (h : t + 8 * i = t' + 8 * i') : t = t' ∧ i = i' := by
  have ha := (hs.named t ht).1
  have ha' := (hs.named t' ht').1
  omega

/-- A table is entered at one level, by one function, with the same indices above. -/
theorem walkTable_inj {f f' va va' k k' t : Nat} (h : s.walkTable f va k = some t) (h' : s.walkTable f' va' k' = some t) :
    f = f' ∧ k = k' ∧ ∀ j < k, walkIndex va j = walkIndex va' j := by
  induction k generalizing k' t with
  | zero =>
    cases k' with
    | zero => exact ⟨root_unique hs h h', rfl, fun j hj => absurd hj (Nat.not_lt_zero j)⟩
    | succ k' =>
      obtain ⟨u, -, ht, hn⟩ := walkTable_succ.1 h'
      exact absurd hn.symm (root_ne_named hs h ht)
  | succ k ih =>
    obtain ⟨u, hu, ht, hn⟩ := walkTable_succ.1 h
    cases k' with
    | zero => exact absurd hn.symm (root_ne_named hs h' ht)
    | succ k' =>
      obtain ⟨u', hu', ht', hn'⟩ := walkTable_succ.1 h'
      obtain ⟨rfl, hindex⟩ := table_eq_of_entry_eq hs (walkTable_mem_tablesNamed hu) (walkTable_mem_tablesNamed hu') (walkIndex_lt ..)
        (walkIndex_lt ..) (entry_unique hs ht ht' (hn.trans hn'.symm))
      obtain ⟨hf, rfl, habove⟩ := ih hu hu'
      refine ⟨hf, rfl, fun j hj => ?_⟩
      rcases Nat.lt_succ_iff_lt_or_eq.1 hj with hj | rfl
      · exact habove j hj
      · exact hindex

/-- An entry is met at one level, by one function, in one region. -/
theorem entry_inj {f f' va va' k k' t t' : Nat} (h : s.walkTable f va k = some t) (h' : s.walkTable f' va' k' = some t')
    (he : t + 8 * walkIndex va k = t' + 8 * walkIndex va' k') : f = f' ∧ k = k' ∧ SameRegion k va va' := by
  obtain ⟨rfl, hindex⟩ := table_eq_of_entry_eq hs (walkTable_mem_tablesNamed h) (walkTable_mem_tablesNamed h') (walkIndex_lt ..) (walkIndex_lt ..) he
  obtain ⟨hf, rfl, habove⟩ := walkTable_inj hs h h'
  refine ⟨hf, rfl, fun j hj => ?_⟩
  rcases Nat.lt_or_eq_of_le hj with hj | rfl
  · exact habove j hj
  · exact hindex

end

/-! ## A write of one entry -/

theorem pte_setPte (s : State) (a e b : Nat) : (s.setPte a e).pte b = if b = a then e else s.pte b := by
  split
  · next h => exact h ▸ Tab.getD_setD_self _ _ _ _
  · next h => exact Tab.getD_setD_ne _ _ _ h

/-- The walks go by the roots and the entries. -/
theorem walkTable_congr {s t : State} (hr : t.trn.roots = s.trn.roots) (hp : t.trn.pt = s.trn.pt) (fn va k : Nat) :
    t.walkTable fn va k = s.walkTable fn va k := by
  induction k with
  | zero => exact congrArg (Tab.look · fn) hr
  | succ k ih => rw [State.walkTable, State.walkTable, ih]; simp only [State.pte, hp]; rfl

section
variable {s : State} (hs : PageTables.Sound s) {fn va₀ m t₀ : Nat} (ht : s.walkTable fn va₀ m = some t₀) (e : Nat)
include hs ht

/-- The write of an entry of level m leaves the tables above it and those of other regions. -/
theorem walkTable_setPte_other {f va k : Nat} (h : ¬(f = fn ∧ m < k ∧ SameRegion m va va₀)) :
    (s.setPte (t₀ + 8 * walkIndex va₀ m) e).walkTable f va k = s.walkTable f va k := by
  induction k with
  | zero => rfl
  | succ k ih =>
    rw [State.walkTable, State.walkTable, ih fun ⟨hf, hm, hr⟩ => h ⟨hf, by omega, hr⟩]
    refine Option.bind_congr fun t hk => ?_
    have hne : t + 8 * walkIndex va k ≠ t₀ + 8 * walkIndex va₀ m := fun heq => by
      obtain ⟨hf, rfl, hr⟩ := entry_inj hs hk ht heq
      exact h ⟨hf, Nat.lt_succ_self k, hr⟩
    simp only [pte_setPte, if_neg hne]

theorem leafIn_setPte_other {f va k : Nat} (h : ¬(f = fn ∧ m ≤ k ∧ SameRegion m va va₀)) :
    (s.setPte (t₀ + 8 * walkIndex va₀ m) e).leafIn f va k = s.leafIn f va k := by
  rw [State.leafIn, State.leafIn, walkTable_setPte_other hs ht e fun ⟨hf, hm, hr⟩ => h ⟨hf, hm.le, hr⟩]
  refine Option.bind_congr fun t hk => ?_
  have hne : t + 8 * walkIndex va k ≠ t₀ + 8 * walkIndex va₀ m := fun heq => by
    obtain ⟨hf, rfl, hr⟩ := entry_inj hs hk ht heq
    exact h ⟨hf, Nat.le_refl k, hr⟩
  rw [pte_setPte, if_neg hne]

theorem walkTable_setPte_self {va : Nat} (h : SameRegion m va va₀) : (s.setPte (t₀ + 8 * walkIndex va₀ m) e).walkTable fn va m = some t₀ :=
  (walkTable_setPte_other hs ht e fun ⟨_, hm, _⟩ => Nat.lt_irrefl m hm).trans ((walkTable_congr_va fun j hj => h j hj.le).trans ht)

theorem walkTable_setPte_succ {va : Nat} (h : SameRegion m va va₀) :
    (s.setPte (t₀ + 8 * walkIndex va₀ m) e).walkTable fn va (m + 1) = if isTable e then some (namedTable e) else none := by
  rw [State.walkTable, walkTable_setPte_self hs ht e h, h m (Nat.le_refl m)]
  simp only [Option.bind_some, pte_setPte, if_true]

theorem leafIn_setPte_self {va : Nat} (h : SameRegion m va va₀) : (s.setPte (t₀ + 8 * walkIndex va₀ m) e).leafIn fn va m = Leaf.dec e := by
  rw [State.leafIn, walkTable_setPte_self hs ht e h, h m (Nat.le_refl m)]
  simp only [Option.bind_some, pte_setPte, if_true]

/-- A leaf written, or removed, in the entry of its size's level is what the walks of its region find, and no other walk changes. -/
theorem walk_setPte_eq_some_iff {g : Bool} (hm : m = leafLevel g) (he : isTable e = false) {f va : Nat} {g' : Bool} {l : Leaf} :
    (s.setPte (t₀ + 8 * walkIndex va₀ m) e).walk f va = some (g', l) ↔
      if f = fn ∧ SameRegion m va va₀ then g' = g ∧ Leaf.dec e = some l else s.walk f va = some (g', l) := by
  rw [walk_eq_some_iff]
  by_cases hin : f = fn ∧ SameRegion m va va₀
  · rw [if_pos hin]
    obtain ⟨rfl, hr⟩ := hin
    by_cases hg : g' = g
    · rw [hg, ← hm, leafIn_setPte_self hs ht e hr, eq_self_iff_true, true_and]
    · have hnone : (s.setPte (t₀ + 8 * walkIndex va₀ m) e).leafIn f va (leafLevel g') = none := by
        cases g with
        | true =>
          have hg' : leafLevel g' = m + 1 := by rw [Bool.eq_false_of_not_eq_true hg, hm]; rfl
          refine leafIn_none_of_walkTable ?_
          rw [hg', walkTable_setPte_succ hs ht e hr, he]
          rfl
        | false =>
          have hg' : g' = true := by simpa using hg
          have hm2 : m = 2 + 1 := hm
          have htable : s.walkTable f va (2 + 1) = some t₀ := hm2 ▸ (walkTable_congr_va fun j hj => hr j hj.le).trans ht
          obtain ⟨u, hu, hut, -⟩ := walkTable_succ.1 htable
          rw [leafIn_setPte_other hs ht e fun ⟨_, hle, _⟩ => by rw [hg', hm2] at hle; exact absurd hle (by decide), hg']
          rw [State.leafIn, leafLevel, if_pos rfl, hu]
          exact dec_of_isTable hut
      rw [hnone]
      simp [hg]
  · rw [if_neg hin, leafIn_setPte_other hs ht e fun ⟨hf, _, hr⟩ => hin ⟨hf, hr⟩, walk_eq_some_iff]

end

/-! ## Page tables stay well formed -/

/-- The tables that roots and entries name, an entry's place aside. -/
def State.namedBut (s : State) (a : Nat) : List Nat :=
  s.trn.roots.map Prod.snd ++ ((s.trn.pt.del a).filter fun e => isTable e.2).map fun e => namedTable e.2

theorem namedBut_sublist (s : State) (a : Nat) : (s.namedBut a).Sublist s.tablesNamed :=
  (List.Sublist.refl _).append ((List.filter_sublist.filter _).map _)

theorem mem_tablesNamed_setPte {s : State} (hs : PageTables.Sound s) (a e : Nat) (he : e ≠ 0) :
    (s.setPte a e).tablesNamed.Perm (if isTable e then namedTable e :: s.namedBut a else s.namedBut a) := by
  have hpt : (s.setPte a e).trn.pt = s.trn.pt.put a e := if_neg he
  have hrising : s.trn.pt.rising = true := (Bool.and_eq_true_iff.1 hs.canonical).1
  have hentries := ((Tab.put_perm hrising a e).filter fun x => isTable x.2).map fun x => namedTable x.2
  have h : (s.setPte a e).tablesNamed.Perm (s.trn.roots.map Prod.snd ++ (((a, e) :: s.trn.pt.del a).filter fun x => isTable x.2).map fun x => namedTable x.2) := by
    rw [tablesNamed_eq, hpt]
    exact hentries.append_left _
  split
  · next ht =>
    rw [List.filter_cons_of_pos (p := fun x : Nat × Nat => isTable x.2) ht, List.map_cons] at h
    exact h.trans List.perm_middle
  · next ht =>
    rwa [List.filter_cons_of_neg (p := fun x : Nat × Nat => isTable x.2) ht] at h

namespace PageTables.Sound
variable {s : State} (hs : PageTables.Sound s)
include hs

/-- An entry written, which names no table, or one that nothing names. -/
theorem setPte {a e : Nat} (hlo : tableAt 0 ≤ a) (hhi : a < tableAt s.trn.nextTable) (hv : bitOf e 0 = true)
    (hnew : isTable e = true → namedTable e ∉ s.tablesNamed ∧ namedTable e % 4096 = 0 ∧ tableAt 0 ≤ namedTable e ∧ namedTable e < tableAt s.trn.nextTable) :
    PageTables.Sound (s.setPte a e) := by
  have he : e ≠ 0 := by rintro rfl; cases hv
  have hperm := mem_tablesNamed_setPte hs a e he
  have hpt : (s.setPte a e).trn.pt = s.trn.pt.put a e := if_neg he
  have hbut : ∀ t ∈ s.namedBut a, t ∈ s.tablesNamed := (namedBut_sublist s a).subset
  have honce : (s.namedBut a).Nodup := hs.once.sublist (namedBut_sublist s a)
  refine ⟨Tab.wf_setD _ _ _ _ hs.canonical, hs.roots, fun x hx => ?_, fun t ht => ?_, hperm.nodup_iff.2 ?_⟩
  · rcases Tab.mem_put (hpt ▸ hx) with rfl | hx
    · exact ⟨hv, hlo, hhi⟩
    · exact hs.placed x hx
  · have ht := hperm.mem_iff.1 ht
    split at ht
    · next hte =>
      rcases List.mem_cons.1 ht with rfl | ht
      · exact (hnew hte).2
      · exact hs.named t (hbut t ht)
    · exact hs.named t (hbut t ht)
  · split
    · next hte => exact List.nodup_cons.2 ⟨fun hm => (hnew hte).1 (hbut _ hm), honce⟩
    · exact honce

/-- An entry removed. -/
theorem setPte_zero (a : Nat) : PageTables.Sound (s.setPte a 0) := by
  have hnamed : (s.setPte a 0).tablesNamed = s.namedBut a := rfl
  exact ⟨Tab.wf_setD _ _ a 0 hs.canonical, hs.roots, fun x hx => hs.placed x (List.mem_filter.1 hx).1,
    fun t ht => hs.named t ((namedBut_sublist s a).subset (hnamed ▸ ht)), hnamed ▸ hs.once.sublist (namedBut_sublist s a)⟩

/-- Tables taken. -/
theorem newTable : PageTables.Sound s.newTable.2 := by
  have hle : tableAt s.trn.nextTable ≤ tableAt (s.trn.nextTable + 1) := by simp only [tableAt]; omega
  exact ⟨hs.canonical, hs.roots, fun x hx => (hs.placed x hx).imp_right (.imp_right (Nat.lt_of_lt_of_le · hle)),
    fun t ht => (hs.named t ht).imp_right (.imp_right (Nat.lt_of_lt_of_le · hle)), hs.once⟩

/-- The next table is named by nothing. -/
theorem newTable_not_named : s.newTable.1 ∉ s.tablesNamed := fun h => Nat.lt_irrefl _ (hs.named _ h).2.2

/-- The next table is empty. -/
theorem pte_newTable (i : Nat) : s.pte (s.newTable.1 + i) = 0 := by
  by_contra h
  exact absurd (hs.placed _ (mem_pt_of_pte h)).2.2 (by simp only [State.newTable]; omega)

/-- The place of an entry that a walk meets. -/
theorem entry_placed {fn va k t : Nat} (h : s.walkTable fn va k = some t) :
    tableAt 0 ≤ t + 8 * walkIndex va k ∧ t + 8 * walkIndex va k < tableAt s.trn.nextTable := by
  obtain ⟨hmod, hlo, hhi⟩ := hs.named t (walkTable_mem_tablesNamed h)
  have hi := walkIndex_lt va k
  simp only [tableAt, gib, frameCount] at hlo hhi ⊢
  omega

end PageTables.Sound

theorem newTable_entry {s : State} (hroom : s.trn.nextTable < 2 ^ 39) :
    isTable (1 + s.newTable.1) = true ∧ namedTable (1 + s.newTable.1) = s.newTable.1 ∧ bitOf (1 + s.newTable.1) 0 = true :=
  tableEntry (by simp only [State.newTable, tableAt, gib, frameCount]; omega) (by simp only [State.newTable, tableAt, gib, frameCount]; omega)

/-! ## The way to a page's entry -/

/-- Only page tables differ, and every walk finds what it found. -/
structure WalksKept (s t : State) (n : Nat) : Prop where
  sound : PageTables.Sound t
  room : t.trn.nextTable ≤ s.trn.nextTable + n
  walks : ∀ f va, t.walk f va = s.walk f va

theorem WalksKept.trans {s t u : State} {m n : Nat} (h : WalksKept s t m) (h' : WalksKept t u n) : WalksKept s u (m + n) :=
  ⟨h'.sound, by have := h.room; have := h'.room; omega, fun f va => (h'.walks f va).trans (h.walks f va)⟩

theorem walk_ext {s t : State} {f va f' va' : Nat} (h : ∀ g, t.leafIn f va (leafLevel g) = s.leafIn f' va' (leafLevel g)) : t.walk f va = s.walk f' va' :=
  Option.ext fun ⟨g, l⟩ => by rw [walk_eq_some_iff, walk_eq_some_iff, h g]

theorem walk_congr_tables {s t : State} (hr : t.trn.roots = s.trn.roots) (hp : t.trn.pt = s.trn.pt) (f va : Nat) : t.walk f va = s.walk f va :=
  walk_ext fun g => by simp only [State.leafIn, walkTable_congr hr hp, State.pte, hp]

theorem leafLevel_ge (g : Bool) : 2 ≤ leafLevel g := by cases g <;> decide

section
variable {s : State} (hs : PageTables.Sound s) (hroom : s.trn.nextTable < 2 ^ 39) {fn va₀ m t₀ : Nat} (ht : s.walkTable fn va₀ m = some t₀)
include hs hroom ht

/-- A table entered where the walk of an address ends without a leaf: walks of its region now go on into the new table, and find nothing there. -/
theorem walksKept_enter (hentry : isTable (s.pte (t₀ + 8 * walkIndex va₀ m)) = false) (hleaf : 2 ≤ m → s.leafIn fn va₀ m = none) :
    WalksKept s (s.newTable.2.setPte (t₀ + 8 * walkIndex va₀ m) (1 + s.newTable.1)) 1 := by
  obtain ⟨htable, hnamed, hvalid⟩ := newTable_entry hroom
  have hu : PageTables.Sound s.newTable.2 := hs.newTable
  have htu : s.newTable.2.walkTable fn va₀ m = some t₀ := (walkTable_congr (s := s) (t := s.newTable.2) rfl rfl ..).trans ht
  have hfresh : s.newTable.1 ∉ s.newTable.2.tablesNamed := hs.newTable_not_named
  obtain ⟨hlo, hhi⟩ := hu.entry_placed htu
  have hsound : PageTables.Sound (s.newTable.2.setPte (t₀ + 8 * walkIndex va₀ m) (1 + s.newTable.1)) :=
    hu.setPte hlo hhi hvalid fun _ => by
      rw [hnamed]
      exact ⟨hfresh, by simp only [State.newTable, tableAt, gib, frameCount]; omega, by simp only [State.newTable, tableAt, gib, frameCount]; omega,
        by simp only [State.newTable, tableAt, gib, frameCount]; omega⟩
  have hcongr : ∀ f va k, s.newTable.2.leafIn f va k = s.leafIn f va k := fun f va k => by
    simp only [State.leafIn, walkTable_congr (s := s) (t := s.newTable.2) rfl rfl]; rfl
  refine ⟨hsound, Nat.le_refl _, fun f va => walk_ext fun g => ?_⟩
  by_cases hin : f = fn ∧ m ≤ leafLevel g ∧ SameRegion m va va₀
  · obtain ⟨rfl, hle, hr⟩ := hin
    rcases Nat.lt_or_eq_of_le hle with hlt | heq
    · have hbelow : s.walkTable f va (m + 1) = none := by
        rw [State.walkTable, walkTable_congr_va fun j hj => hr j hj.le, ht, Option.bind_some, hr m (Nat.le_refl m), hentry]
        rfl
      have hsucc := walkTable_setPte_succ hu htu (1 + s.newTable.1) hr
      rw [htable, if_pos rfl, hnamed] at hsucc
      have hempty : ∀ i, (s.newTable.2.setPte (t₀ + 8 * walkIndex va₀ m) (1 + s.newTable.1)).pte (s.newTable.1 + i) = 0 := fun i => by
        have hne : s.newTable.1 + i ≠ t₀ + 8 * walkIndex va₀ m := by
          have := (hs.entry_placed ht).2
          simp only [State.newTable]; omega
        exact (pte_setPte ..).trans ((if_neg hne).trans (hs.pte_newTable i))
      rw [leafIn_none_of_walkTable (walkTable_none_of_le hbelow hlt)]
      rcases Nat.lt_or_eq_of_le hlt with hlt | heq
      · refine leafIn_none_of_walkTable (walkTable_none_of_le (k := m + 2) ?_ hlt)
        rw [State.walkTable, hsucc, Option.bind_some, hempty]
        rfl
      · rw [State.leafIn, ← heq, hsucc, Option.bind_some, hempty]
        rfl
    · rw [← heq, leafIn_setPte_self hu htu _ hr, dec_of_isTable htable, leafIn_congr_va hr, hleaf (heq ▸ leafLevel_ge g)]
  · rw [leafIn_setPte_other hu htu _ hin, hcongr]

/-- The new table is the next that the walk enters. -/
theorem walkTable_enter :
    (s.newTable.2.setPte (t₀ + 8 * walkIndex va₀ m) (1 + s.newTable.1)).walkTable fn va₀ (m + 1) = some s.newTable.1 := by
  obtain ⟨htable, hnamed, -⟩ := newTable_entry hroom
  have htu : s.newTable.2.walkTable fn va₀ m = some t₀ := (walkTable_congr (s := s) (t := s.newTable.2) rfl rfl ..).trans ht
  rw [walkTable_setPte_succ hs.newTable htu _ fun _ _ => rfl, htable, if_pos rfl, hnamed]

end

theorem leafIn_two_eq_none {s : State} {fn va : Nat} (h : ∀ l, s.walk fn va ≠ some (true, l)) : s.leafIn fn va 2 = none :=
  Option.eq_none_iff_forall_ne_some.2 fun l hl => h l (walk_eq_some_iff.2 hl)

/-- The entry of an address n levels below a table, with the tables on the way entered (R171). -/
theorem entryFor_spec {fn va n : Nat} {s : State} {lvl t : Nat} (hs : PageTables.Sound s) (hroom : s.trn.nextTable + n ≤ 2 ^ 39)
    (ht : s.walkTable fn va lvl = some t) (hl : lvl + n ≤ 3) (hfree : lvl + n = 3 → ∀ l, s.walk fn va ≠ some (true, l)) :
    WalksKept s (s.entryFor va n lvl t).1 n ∧
      ∃ u, (s.entryFor va n lvl t).1.walkTable fn va (lvl + n) = some u ∧ (s.entryFor va n lvl t).2 = u + 8 * walkIndex va (lvl + n) := by
  induction n generalizing s lvl t with
  | zero => exact ⟨⟨hs, Nat.le_refl _, fun _ _ => rfl⟩, t, ht, rfl⟩
  | succ n ih =>
    have hlvl : lvl + (n + 1) = lvl + 1 + n := by omega
    simp only [hlvl] at hl hfree ⊢
    by_cases hentry : isTable (s.pte (t + 8 * walkIndex va lvl)) = true
    · have hx : s.entryFor va (n + 1) lvl t = s.entryFor va n (lvl + 1) (namedTable (s.pte (t + 8 * walkIndex va lvl))) := if_pos hentry
      rw [hx]
      obtain ⟨hkept, hend⟩ := ih hs (by omega) (walkTable_succ.2 ⟨t, ht, hentry, rfl⟩) hl hfree
      exact ⟨⟨hkept.sound, by have := hkept.room; omega, hkept.walks⟩, hend⟩
    · have hx : s.entryFor va (n + 1) lvl t =
          (s.newTable.2.setPte (t + 8 * walkIndex va lvl) (1 + s.newTable.1)).entryFor va n (lvl + 1) s.newTable.1 := if_neg hentry
      rw [hx]
      have henter := walksKept_enter hs (by omega) ht (by simpa using hentry) fun hge => by
        have hlvl2 : lvl = 2 := by omega
        exact hlvl2 ▸ leafIn_two_eq_none (hfree (by omega))
      obtain ⟨hkept, hend⟩ := ih henter.sound (by have := henter.room; omega) (walkTable_enter hs (by omega) ht) hl
        fun h3 l => (henter.walks fn va).symm ▸ hfree h3 l
      exact ⟨by simpa only [Nat.add_comm] using henter.trans hkept, hend⟩

/-- A function's first mapping takes its root (R171). -/
def State.withRoot (s : State) (fn : Nat) : State :=
  { s.newTable.2 with trn := { s.newTable.2.trn with roots := s.newTable.2.trn.roots.put fn s.newTable.1 } }

section
variable {s : State} (hs : PageTables.Sound s) {fn : Nat} (hr : s.trn.roots.look fn = none)
include hs hr

theorem tablesNamed_withRoot : (s.withRoot fn).tablesNamed.Perm (s.newTable.1 :: s.tablesNamed) := by
  have hdel : s.trn.roots.del fn = s.trn.roots := List.filter_eq_self.2 fun x hx => decide_eq_true fun hf => by
    rw [← hf, Tab.look_of_mem hs.roots hx] at hr
    cases hr
  have hput := Tab.put_perm hs.roots fn s.newTable.1
  rw [hdel] at hput
  exact (hput.map Prod.snd).append_right _

theorem sound_withRoot : PageTables.Sound (s.withRoot fn) := by
  have hperm := tablesNamed_withRoot hs hr
  have hu := hs.newTable
  refine ⟨hu.canonical, Tab.rising_put _ _ _ hs.roots, hu.placed, fun t ht => ?_, hperm.nodup_iff.2 (List.nodup_cons.2 ⟨hs.newTable_not_named, hs.once⟩)⟩
  rcases List.mem_cons.1 (hperm.mem_iff.1 ht) with rfl | ht
  · simp only [State.withRoot, State.newTable, tableAt, gib, frameCount]
    omega
  · exact hu.named t ht

theorem walk_withRoot (f va : Nat) : (s.withRoot fn).walk f va = s.walk f va := by
  refine walk_ext fun g => ?_
  by_cases hf : f = fn
  · subst hf
    have hroot : (s.withRoot f).walkTable f va 0 = some s.newTable.1 := Tab.look_put_self ..
    have hempty : ∀ i, (s.withRoot f).pte (s.newTable.1 + i) = 0 := hs.pte_newTable
    have hnext : (s.withRoot f).walkTable f va 1 = none := by
      rw [State.walkTable, hroot, Option.bind_some, hempty]
      rfl
    have hg : 1 ≤ leafLevel g := Nat.le_of_succ_le (leafLevel_ge g)
    rw [leafIn_none_of_walkTable (walkTable_none_of_le hnext hg), leafIn_none_of_walkTable (walkTable_none_of_le (k := 0) hr (Nat.zero_le _))]
  · have htable : ∀ k, (s.withRoot fn).walkTable f va k = s.walkTable f va k := fun k => by
      induction k with
      | zero => exact Tab.look_put_ne _ _ hf
      | succ k ih => rw [State.walkTable, State.walkTable, ih]; rfl
    rw [State.leafIn, State.leafIn, htable]
    rfl

end

theorem rootFor_spec {s : State} (hs : PageTables.Sound s) (fn va : Nat) :
    WalksKept s (s.rootFor fn).1 1 ∧ (s.rootFor fn).1.walkTable fn va 0 = some (s.rootFor fn).2 := by
  cases hr : s.trn.roots.look fn with
  | some t =>
    have hx : s.rootFor fn = (s, t) := by rw [State.rootFor, hr]
    rw [hx]
    exact ⟨⟨hs, Nat.le_add_right _ _, fun _ _ => rfl⟩, hr⟩
  | none =>
    have hx : s.rootFor fn = (s.withRoot fn, s.newTable.1) := by rw [State.rootFor, hr]; rfl
    rw [hx]
    exact ⟨⟨sound_withRoot hs hr, Nat.le_refl _, walk_withRoot hs hr⟩, Tab.look_put_self ..⟩

/-! ## Leaves written and removed (R169 to R172) -/

/-- A leaf written is found by the walks of its page, and every other walk finds what it found. -/
theorem putLeaf_spec {s : State} (hs : PageTables.Sound s) (hroom : s.trn.nextTable + 4 ≤ 2 ^ 39) {fn page : Nat} {g : Bool} {l l' : Leaf}
    (hdec : Leaf.dec l.enc = some l') (hfree : g = false → ∀ x, s.walk fn (page * pageBytes g) ≠ some (true, x)) :
    PageTables.Sound (s.putLeaf fn g page l) ∧ (s.putLeaf fn g page l).trn.nextTable ≤ s.trn.nextTable + 4 ∧
      ∀ f va, (s.putLeaf fn g page l).walk f va =
        if f = fn ∧ SameRegion (leafLevel g) va (page * pageBytes g) then some (g, l') else s.walk f va := by
  obtain ⟨hroot, hrootTable⟩ := rootFor_spec hs fn (page * pageBytes g)
  have hlevel : 0 + leafLevel g ≤ 3 := by cases g <;> decide
  obtain ⟨hway, t, ht, ha⟩ := entryFor_spec (n := leafLevel g) hroot.sound (by have := hroot.room; omega) hrootTable hlevel fun h3 x => by
    rw [hroot.walks]
    exact hfree (by cases g; rfl; cases h3) x
  rw [Nat.zero_add] at ht ha
  have hkept := hroot.trans hway
  have hx : s.putLeaf fn g page l =
      ((s.rootFor fn).1.entryFor (page * pageBytes g) (leafLevel g) 0 (s.rootFor fn).2).1.setPte (t + 8 * walkIndex (page * pageBytes g) (leafLevel g)) l.enc := by
    rw [← ha]; rfl
  have hnot := not_isTable_of_dec hdec
  obtain ⟨hlo, hhi⟩ := hkept.sound.entry_placed ht
  rw [hx]
  refine ⟨hkept.sound.setPte hlo hhi (valid_of_dec hdec) fun h => (by rw [hnot] at h; cases h), ?_, fun f va => Option.ext fun ⟨g', x⟩ => ?_⟩
  · have := hkept.room
    show _ ≤ _
    simp only [State.setPte]
    omega
  · rw [walk_setPte_eq_some_iff hkept.sound ht l.enc rfl hnot, hdec, hkept.walks]
    split
    · simp [eq_comm]
    · rfl

/-- A leaf removed: the walks of its page find none, and every other walk finds what it found. -/
theorem delLeaf_of_walk {s : State} (hs : PageTables.Sound s) {fn page : Nat} {g : Bool} {l : Leaf} (hl : s.walk fn (page * pageBytes g) = some (g, l)) :
    PageTables.Sound (s.delLeaf fn g page) ∧ (s.delLeaf fn g page).trn.nextTable = s.trn.nextTable ∧
      ∀ f va, (s.delLeaf fn g page).walk f va = if f = fn ∧ SameRegion (leafLevel g) va (page * pageBytes g) then none else s.walk f va := by
  obtain ⟨t, ht, hdec⟩ := leafIn_eq_some.1 (walk_eq_some_iff.1 hl)
  have hend : s.walkEnd fn (page * pageBytes g) = .leaf g (t + 8 * walkIndex (page * pageBytes g) (leafLevel g)) l :=
    walkEnd_eq_leaf_iff.2 ⟨t, ht, rfl, hdec⟩
  have hx : s.delLeaf fn g page = s.setPte (t + 8 * walkIndex (page * pageBytes g) (leafLevel g)) 0 := by
    rw [State.delLeaf, hend]
    exact if_pos rfl
  rw [hx]
  refine ⟨hs.setPte_zero _, rfl, fun f va => Option.ext fun ⟨g', x⟩ => (walk_setPte_eq_some_iff hs ht 0 (f := f) (va := va) rfl rfl).trans ?_⟩
  split
  · exact ⟨fun h => (by cases h.2), fun h => (by cases h)⟩
  · rfl

/-- A leaf removed is found by no walk, and every walk outside its page finds what it found. -/
theorem delLeaf_spec {s : State} (hs : PageTables.Sound s) (fn page : Nat) (g : Bool) :
    PageTables.Sound (s.delLeaf fn g page) ∧ (∀ l, (s.delLeaf fn g page).walk fn (page * pageBytes g) ≠ some (g, l)) ∧
      ∀ f va, ¬(f = fn ∧ SameRegion (leafLevel g) va (page * pageBytes g)) → (s.delLeaf fn g page).walk f va = s.walk f va := by
  by_cases hleaf : ∃ l, s.walk fn (page * pageBytes g) = some (g, l)
  · obtain ⟨l, hl⟩ := hleaf
    obtain ⟨hsound, -, hwalk⟩ := delLeaf_of_walk hs hl
    refine ⟨hsound, fun x hx => ?_, fun f va hout => (hwalk f va).trans (if_neg hout)⟩
    rw [hwalk, if_pos ⟨rfl, fun _ _ => rfl⟩] at hx
    cases hx
  · have hx : s.delLeaf fn g page = s := by
      unfold State.delLeaf
      split
      · next g' a l hend =>
        refine if_neg fun hg => hleaf ⟨l, ?_⟩
        rw [State.walk, hend, hg]
      · rfl
    rw [hx]
    exact ⟨hs, fun l hl => hleaf ⟨l, hl⟩, fun _ _ _ => rfl⟩

theorem pageBytes_pos (g : Bool) : 0 < pageBytes g := by cases g <;> decide

theorem page_div (g : Bool) (page : Nat) : page * pageBytes g / pageBytes g = page := Nat.mul_div_cancel _ (pageBytes_pos g)

/-- R167, R171: below 2^57 the indices of a walk down to a page size's level are those of the page. -/
theorem sameRegion_iff {g : Bool} {va va' : Nat} (h : va < 2 ^ 57) (h' : va' < 2 ^ 57) :
    SameRegion (leafLevel g) va va' ↔ va / pageBytes g = va' / pageBytes g := by
  cases g with
  | true =>
    have hlevels : SameRegion 2 va va' ↔ walkIndex va 0 = walkIndex va' 0 ∧ walkIndex va 1 = walkIndex va' 1 ∧ walkIndex va 2 = walkIndex va' 2 :=
      ⟨fun h => ⟨h 0 (by decide), h 1 (by decide), h 2 (by decide)⟩, fun ⟨h0, h1, h2⟩ j hj => by interval_cases j <;> assumption⟩
    rw [leafLevel, if_pos rfl, hlevels]
    simp [walkIndex, bitsOf, pageBytes, gib]
    omega
  | false =>
    have hlevels : SameRegion 3 va va' ↔
        walkIndex va 0 = walkIndex va' 0 ∧ walkIndex va 1 = walkIndex va' 1 ∧ walkIndex va 2 = walkIndex va' 2 ∧ walkIndex va 3 = walkIndex va' 3 :=
      ⟨fun h => ⟨h 0 (by decide), h 1 (by decide), h 2 (by decide), h 3 (by decide)⟩, fun ⟨h0, h1, h2, h3⟩ j hj => by interval_cases j <;> assumption⟩
    rw [leafLevel, if_neg (by decide), hlevels]
    simp [walkIndex, bitsOf, pageBytes, mib32]
    omega

theorem leafAt_eq_some_iff {s : State} {fn page : Nat} {g : Bool} {l : Leaf} :
    s.leafAt fn g page = some l ↔ s.walk fn (page * pageBytes g) = some (g, l) := by
  unfold State.leafAt
  cases s.walk fn (page * pageBytes g) with
  | none => simp
  | some x =>
    obtain ⟨g', l'⟩ := x
    by_cases hg : g' = g <;> simp [hg]

theorem leafAt_eq_none_iff {s : State} {fn page : Nat} {g : Bool} : s.leafAt fn g page = none ↔ ∀ l, s.walk fn (page * pageBytes g) ≠ some (g, l) := by
  simp only [Option.eq_none_iff_forall_ne_some, ne_eq, leafAt_eq_some_iff]

/-- A 32 MiB page that no 1 GiB page covers (R171, REASON 5 of R187). -/
theorem walk_ne_gib_of_otherSize {s : State} {fn page : Nat} {g : Bool} (ho : s.otherSize fn g page = false) (hg : g = false) (l : Leaf) :
    s.walk fn (page * pageBytes g) ≠ some (true, l) := fun hw => by
  subst hg
  have hnone : s.leafAt fn true (page / 32) = none := by simpa [State.otherSize] using ho
  refine leafAt_eq_none_iff.1 hnone l (walk_eq_some_iff.2 ?_)
  rw [← walk_eq_some_iff.1 hw]
  refine leafIn_congr_va fun j hj => ?_
  have hj2 : j ≤ 2 := hj
  simp only [walkIndex, bitsOf, pageBytes, mib32, gib]
  interval_cases j <;> simp <;> omega

theorem walk_ne_gib_of_leafAt {s : State} {fn page : Nat} {g : Bool} {l : Leaf} (h : s.leafAt fn g page = some l) (hg : g = false) (x : Leaf) :
    s.walk fn (page * pageBytes g) ≠ some (true, x) := by
  rw [leafAt_eq_some_iff.1 h, hg]
  simp

/-- Settles O31: by what a leaf written and a leaf removed leave to every walk (`putLeaf_spec`, `delLeaf_spec`); below 2^57 the region of a page is its addresses. -/
theorem pageTablesReadBack : Obligations.PageTablesReadBack := by
  refine ⟨fun s fn page g l htables hpage hdec hother => ?_, fun s fn page g l f va htables hpage hdec hother hva hout => ?_,
    fun s fn page g f va hwf hpage hva => ?_, by decide +kernel⟩
  · obtain ⟨hsound, -, hwalk⟩ := putLeaf_spec (PageTables.wf_iff_sound.1 htables.1) htables.2.le hdec (walk_ne_gib_of_otherSize hother)
    exact ⟨leafAt_eq_some_iff.2 ((hwalk ..).trans (if_pos ⟨rfl, fun _ _ => rfl⟩)), PageTables.wf_iff_sound.2 hsound⟩
  · obtain ⟨-, -, hwalk⟩ := putLeaf_spec (PageTables.wf_iff_sound.1 htables.1) htables.2.le hdec (walk_ne_gib_of_otherSize hother)
    refine (hwalk ..).trans (if_neg fun ⟨hf, hr⟩ => ?_)
    rw [sameRegion_iff hva hpage, page_div] at hr
    exact hout.elim (· hf) (· hr)
  · obtain ⟨hsound, hgone, hwalk⟩ := delLeaf_spec (PageTables.wf_iff_sound.1 hwf) fn page g
    refine ⟨leafAt_eq_none_iff.2 hgone, PageTables.wf_iff_sound.2 hsound, fun hout => hwalk f va fun ⟨hf, hr⟩ => ?_⟩
    rw [sameRegion_iff hva hpage, page_div] at hr
    exact hout.elim (· hf) (· hr)

end Sys2Proof.Machine
end

section
/-! PROOFS of the statements of 06_translation_and_instances: the TLB and the fault queue (O28). Each operation on translation (`served`, `missDone`, `tlbFill`,
`raiseFault`, `stallsEnd`) has one lemma that says what it leaves; the walks of R171 do not see any of them. -/

namespace Sys2Proof.Machine
open Sys2Proof

/-! ## Changes of one part -/

theorem Only.of_trn (s : State) (x : Trn) : Only [.trn] s { s with trn := x } := by
  refine ⟨rfl, fun p hp => ?_⟩
  cases p with
  | trn => exact absurd (by decide) hp
  | regs | mem => exact fun _ => rfl
  | _ => rfl

theorem Only.of_msys (s : State) (x : MemSys) : Only [.msys] s { s with msys := x } := by
  refine ⟨rfl, fun p hp => ?_⟩
  cases p with
  | msys => exact absurd (by decide) hp
  | regs | mem => exact fun _ => rfl
  | _ => rfl

theorem Only.of_tiles (s : State) (x : Tiles) : Only [.tiles] s { s with tiles := x } := by
  refine ⟨rfl, fun p hp => ?_⟩
  cases p with
  | tiles => exact absurd (by decide) hp
  | regs | mem => exact fun _ => rfl
  | _ => rfl

theorem Only.of_toInbox (s : State) (c : Nat) (m : CoreMsg) : Only [.inbox] s (s.toInbox c m) := by
  refine ⟨rfl, fun p hp => ?_⟩
  cases p with
  | inbox => exact absurd (by decide) hp
  | regs | mem => exact fun _ => rfl
  | _ => rfl

theorem Only.trn_eq {l : List Field} {s t : State} (h : Only l s t) (hl : Field.trn ∉ l) : t.trn = s.trn := h.2 .trn hl

theorem Told.trn_eq {s t : State} (h : Told s t) : t.trn = s.trn := h.1.2 .trn (by decide)

theorem TellsIn.trn {l : List Field} {ks : List Nat} {s t : State} (h : TellsIn l ks s t) (x : Trn) (hl : Field.trn ∈ l) :
    TellsIn l ks s { t with trn := x } :=
  h.only (Only.of_trn t x) (by simpa using hl) (by decide)

/-! ## What walks do not see -/

theorem walk_of_trn_eq {s t : State} (h : t.trn = s.trn) (fn va : Nat) : t.walk fn va = s.walk fn va := walk_congr_tables (by rw [h]) (by rw [h]) fn va

theorem leafAt_congr {s t : State} (h : ∀ f va, t.walk f va = s.walk f va) (fn : Nat) (g : Bool) (page : Nat) : t.leafAt fn g page = s.leafAt fn g page := by
  rw [State.leafAt, State.leafAt, h]

theorem faultPage_congr {s t : State} (h : ∀ f va, t.walk f va = s.walk f va) (fn va : Nat) : t.faultPage fn va = s.faultPage fn va := by
  rw [State.faultPage, State.faultPage, h]

theorem tlbPage_congr {s t : State} (h : ∀ f va, t.walk f va = s.walk f va) (fn va : Nat) : t.tlbPage fn va = s.tlbPage fn va := by
  rw [State.tlbPage, State.tlbPage, faultPage_congr h]

/-! ## Misses and fills (R173 to R176) -/

theorem only_served (s : State) (cls n : Nat) : Only [.regs, .msys] s (s.served cls n) := by
  unfold State.served
  extract_lets sel t m
  split
  · exact ((Only.of_msys s _).mono (by decide)).trans ((Only.of_wr _ _ _).mono (by decide))
  · exact Only.refl _ s

theorem regsBut_served (s : State) (cls n : Nat) : RegsBut [R.MEM00_CLASS_BYTES] s (s.served cls n) := by
  unfold State.served
  extract_lets sel t m
  split
  · exact RegsBut.of_wr { s with msys := m } _ _
  · exact fun _ _ => rfl

theorem served_trn (s : State) (cls n : Nat) : (s.served cls n).trn = s.trn := (only_served s cls n).trn_eq (by decide)

theorem only_missDone (s : State) (fn va : Nat) : Only [.trn] s (s.missDone fn va) := Only.of_trn s _

theorem walk_missDone (s : State) (fn va f a : Nat) : (s.missDone fn va).walk f a = s.walk f a := walk_congr_tables rfl rfl f a

theorem not_mem_missDone (s : State) (fn va : Nat) : (fn, s.tlbPage fn va) ∉ (s.missDone fn va).trn.misses := fun h =>
  absurd (List.mem_filter.1 h).2 (by simp)

theorem only_tlbPut (s : State) (e : TlbEntry) : Only [.trn] s (s.tlbPut e) := by
  unfold State.tlbPut
  extract_lets rest x u
  have hu : Only [.trn] s u := Only.of_trn s _
  split
  · exact hu.trans (Only.of_trn u _)
  · split
    exacts [hu.trans (Only.of_trn u _), hu]

/-- R173: with room in the TLB an entry becomes the newest, beside those of other pages. -/
theorem tlbPut_of_room {s : State} {e : TlbEntry} {k : Nat} (hk : e.key = k) (h : (s.trn.tlb.filter (fun x => x.key ≠ k)).length < 4096) :
    (s.tlbPut e).trn = { s.trn with tlb := e :: s.trn.tlb.filter (fun x => x.key ≠ k) } := by
  subst hk
  unfold State.tlbPut
  extract_lets rest x u
  rw [if_pos h]

theorem only_tlbFill (s : State) (fn va : Nat) (t : TlbTarget) : Only [.trn] s (s.tlbFill fn va t) := by
  unfold State.tlbFill
  split
  exacts [Only.refl _ s, only_tlbPut s _]

theorem tlbFill_of_walk {s : State} {fn va : Nat} {g : Bool} {l : Leaf} (h : s.walk fn va = some (g, l)) (t : TlbTarget) :
    s.tlbFill fn va t = s.tlbPut ⟨fn, g, va / pageBytes g, t, l.read, l.write, l.shared⟩ := by
  rw [State.tlbFill, h]

/-- A walk that ends in a leaf finds no entry that its level does not allow. -/
theorem walkEnd_of_walk {s : State} {fn va : Nat} {g : Bool} {l : Leaf} (h : s.walk fn va = some (g, l)) : ∃ a, s.walkEnd fn va = .leaf g a l := by
  unfold State.walk at h
  cases hx : s.walkEnd fn va with
  | leaf g' a l' => rw [hx] at h; cases h; exact ⟨a, rfl⟩
  | _ => rw [hx] at h; cases h

section
variable {s : State} {fn va : Nat} (hm : (fn, s.tlbPage fn va) ∈ s.trn.misses) (hc : s.coreUp coreTrn = true)
include hm hc

/-- TLB_FILL of a page with a leaf. -/
theorem exec_tlbFill_of_walk {g : Bool} {l : Leaf} (hw : s.walk fn va = some (g, l)) (w ats : Bool) :
    exec (.tlbFill fn va w ats) s = .next (let u := s.served 5 (8 * s.walkReads fn va)
      if !l.host then (u.missDone fn va).tlbFill fn va (.device l.addr)
      else if ats then u.emit (.atsRequest fn (va / pageBytes g * pageBytes g)) else (u.missDone fn va).tlbFill fn va .hostUntranslated) := by
  obtain ⟨a, ha⟩ := walkEnd_of_walk hw
  have hu : (s.served 5 (8 * s.walkReads fn va)).walk fn va = some (g, l) := (walk_of_trn_eq (served_trn ..) fn va).trans hw
  have hue : ∃ a, (s.served 5 (8 * s.walkReads fn va)).walkEnd fn va = .leaf g a l := walkEnd_of_walk hu
  obtain ⟨b, hb⟩ := hue
  show execTlbFill fn va w ats s = _
  rw [execTlbFill, if_pos (by simp [hm, hc])]
  simp only [hb, hu]

/-- TLB_FILL without a leaf: the event of R172, where the walk met an entry that its level does not allow, and a fault. -/
theorem exec_tlbFill_of_no_walk (hw : s.walk fn va = none) (w ats : Bool) :
    ∃ u, Told (s.served 5 (8 * s.walkReads fn va)) u ∧ exec (.tlbFill fn va w ats) s = .next ((u.missDone fn va).raiseFault fn va w false .remote).1 := by
  show ∃ u, _ ∧ execTlbFill fn va w ats s = _
  rw [execTlbFill, if_pos (by simp [hm, hc])]
  extract_lets v u
  have hu : Told v u := by
    simp only [u]
    split
    exacts [Told.event _ _ _ _ _ _ _ _ _ _ (by decide), Told.refl v]
  have hwu : u.walk fn va = none := (walk_of_trn_eq (hu.trn_eq.trans (served_trn ..)) fn va).trans hw
  refine ⟨u, hu, ?_⟩
  rw [hwu]

end

/-! ## Faults (R178 to R182) -/

/-- What a fault leaves: of the translation state only the fault queue and the stalls change, and it is counted. -/
structure FaultRaised (fn : Nat) (s t : State) : Prop where
  trn : ∃ q w, t.trn = { s.trn with faults := q, stalls := w }
  counted : t.rd (R.TRN_FN_FAULT_COUNT fn) = word (min 0xFFFFFFFF ((s.rd (R.TRN_FN_FAULT_COUNT fn)).toNat + 1))

/-- TRN's own registers tell nothing. -/
theorem tellKey_trn {off : Nat} (i : Nat) (hlo : 0x40 ≤ off) (hhi : off < 4096) : tellKey (rkey 4 off i) = false := by
  have ho : keyOff (rkey 4 off i) = off := keyOff_rkey 4 off i hhi
  have hp : keyPage (rkey 4 off i) = 4 := keyPage_rkey 4 off i hhi (by decide)
  have hwake : rkey 4 off i ≠ R.GLB_WAKE_CAUSE := fun h => absurd (congrArg keyPage h) (by rw [hp]; decide)
  have hidle : rkey 4 off i ≠ R.GLB_IDLE_STATUS := fun h => absurd (congrArg keyPage h) (by rw [hp]; decide)
  simp only [tellKey, ho, hp, beq_eq_false_iff_ne.2 hwake, beq_eq_false_iff_ne.2 hidle, decide_eq_false (Nat.not_lt.2 hlo)]
  rfl

namespace FaultRaised
variable {fn : Nat} {s t u : State}

theorem told (h : FaultRaised fn s t) (h' : Told t u) : FaultRaised fn s u := by
  obtain ⟨q, w, hq⟩ := h.trn
  exact ⟨⟨q, w, h'.trn_eq.trans hq⟩, (h'.2 _ (tellKey_trn fn (by decide) (by decide))).trans h.counted⟩

theorem queue (h : FaultRaised fn s t) (q : List FaultQ) (w : List Stall) : FaultRaised fn s { t with trn := { t.trn with faults := q, stalls := w } } := by
  obtain ⟨q', w', hq⟩ := h.trn
  exact ⟨⟨q, w, by rw [hq]⟩, h.counted⟩

theorem flags (h : FaultRaised fn s t) (i : Nat) (b : Bool) : FaultRaised fn s (t.setB R.TRN_FQ_FLAGS i b) :=
  ⟨h.trn, (rd_setB_ne t i b (by simp only [R.TRN_FN_FAULT_COUNT, R.TRN_FQ_FLAGS, rkey]; omega)).trans h.counted⟩

end FaultRaised

/-- The access of a remote packet faults: it is counted, and then ends, shares its page's entry, takes one, or stalls. -/
theorem faultRaised_remote (s : State) (fn va : Nat) (wr prefer : Bool) : FaultRaised fn s (s.raiseFault fn va wr prefer .remote).1 := by
  have hwaits : s.faultWaits fn va .remote = false := rfl
  unfold State.raiseFault
  rw [hwaits, if_neg Bool.false_ne_true]
  extract_lets tags u pg
  have hcounted : FaultRaised fn s (s.bump (R.TRN_FN_FAULT_COUNT fn)) := ⟨⟨_, _, rfl⟩, s.rd_wr_self _ _⟩
  have hu : FaultRaised fn s u := hcounted.told (Told.count ..)
  split
  · exact hu.told (Told.raiseInt ..)
  · split
    · exact hu.queue _ _
    · split
      · exact hu.queue _ _
      · exact ((hu.queue _ _).flags 0 true).told (Told.raiseInt ..)

/-! ## Stalls (R180) -/

theorem tellsIn_addUnits (s : State) (k n unit : Nat) : TellsIn [.tiles] [k] s (s.addUnits k n unit) :=
  ((TellsIn.refl _ _ s).only (Only.of_tiles s _) (by decide) (by decide)).wr _ (by simp)

theorem stallCount_spec (s : State) :
    TellsIn [.trn, .tiles] [R.TRN_FQ_STALL_CYCLES] s s.stallCount ∧ ∃ w, s.stallCount.trn = { s.trn with stalls := w } := by
  unfold State.stallCount
  split
  · exact ⟨TellsIn.refl _ _ s, _, rfl⟩
  · extract_lets since w u
    have hu : TellsIn [.trn, .tiles] [R.TRN_FQ_STALL_CYCLES] s u := (TellsIn.refl _ _ s).trn _ (by decide)
    have hunits : TellsIn [.tiles] [R.TRN_FQ_STALL_CYCLES] u (u.addUnits R.TRN_FQ_STALL_CYCLES (6 * (u.uptime - since)) 5) := tellsIn_addUnits ..
    have hcount := Told.count (u.addUnits R.TRN_FQ_STALL_CYCLES (6 * (u.uptime - since)) 5) 5 0 0x03 0 none (6 * (u.uptime - since) / 5)
    exact ⟨(hu.trans (hunits.mono (by decide) (by decide))).told hcount, _, hcount.trn_eq⟩

/-- R180: the stalls that end leave, the time stalled is counted, and those that are left count from now. -/
theorem stallsEnd_spec {s : State} {gone : Stall → Bool} (h : s.trn.stalls.any gone = true) :
    TellsIn [.trn, .tiles] [R.TRN_FQ_STALL_CYCLES] s (s.stallsEnd gone) ∧
      (s.stallsEnd gone).trn = { s.trn with stalls := (s.trn.stalls.filter fun x => !gone x).map fun (y : Stall) => ({ y with since := s.uptime } : Stall) } := by
  obtain ⟨htells, w, htrn⟩ := stallCount_spec s
  have huptime : s.stallCount.uptime = s.uptime := htells.same (p := .uptime) (by decide)
  unfold State.stallsEnd
  rw [if_pos h]
  refine ⟨htells.trn _ (by decide), ?_⟩
  simp only [htrn, huptime]

/-! ## The commands -/

section
variable {s : State} {fn va : Nat}

/-- The walk that an access without a TLB entry starts, and its count (R173, R175). -/
theorem exec_tlbMiss_of_miss (h : s.tlbHit fn va = false) :
    ∃ u, Told (s.bump R.TRN_TLB_MISS_COUNT) u ∧
      exec (.tlbMiss fn va) s = .next (if (fn, s.tlbPage fn va) ∈ s.trn.misses then u
        else { u with trn := { s.trn with misses := s.trn.misses ++ [(fn, s.tlbPage fn va)] } }) := by
  have hcount := Told.count (s.bump R.TRN_TLB_MISS_COUNT) 5 0 0x01 fn none 1
  refine ⟨_, hcount, congrArg Host.Outcome.next ((if_neg (by rw [h]; exact Bool.false_ne_true)).trans ?_)⟩
  have htrn : ((s.bump R.TRN_TLB_MISS_COUNT).count 5 0 0x01 fn none 1).trn = s.trn := hcount.trn_eq
  simp only [tlbPage_congr (walk_of_trn_eq htrn), htrn]

/-- TLB_MISS counts and starts, or joins, the walk of its page. -/
theorem tlbMiss_starts_walk (h : s.tlbHit fn va = false) :
    ∃ t, exec (.tlbMiss fn va) s = .next t ∧ (fn, s.tlbPage fn va) ∈ t.trn.misses ∧ t.trn.tlb = s.trn.tlb ∧
      t.rd R.TRN_TLB_MISS_COUNT = word (min 0xFFFFFFFF ((s.rd R.TRN_TLB_MISS_COUNT).toNat + 1)) ∧ TellsIn [.trn] [R.TRN_TLB_MISS_COUNT] s t := by
  obtain ⟨u, hu, hx⟩ := exec_tlbMiss_of_miss h
  have htrn : u.trn = s.trn := hu.trn_eq
  have hcounted : u.rd R.TRN_TLB_MISS_COUNT = word (min 0xFFFFFFFF ((s.rd R.TRN_TLB_MISS_COUNT).toNat + 1)) :=
    (hu.2 _ (by decide)).trans (s.rd_wr_self _ _)
  have htells : TellsIn [.trn] [R.TRN_TLB_MISS_COUNT] s u := (TellsIn.of_wr s _ _ _).told hu
  refine ⟨_, hx, ?_⟩
  split
  · next hm => exact ⟨htrn ▸ hm, by rw [htrn], hcounted, htells⟩
  · exact ⟨List.mem_append_right _ (List.mem_singleton.2 rfl), rfl, hcounted, htells.trn _ (by decide)⟩

/-- A fill of a page that has room in the TLB: its miss is over, and its translation is the newest entry (R173). -/
theorem missDone_tlbFill_trn {g : Bool} {l : Leaf} (hw : s.walk fn va = some (g, l))
    (hroom : (s.trn.tlb.filter (fun x => x.key ≠ ptKey fn g (va / pageBytes g))).length < 4096) (t : TlbTarget) :
    ((s.missDone fn va).tlbFill fn va t).trn = { (s.missDone fn va).trn with
      tlb := ⟨fn, g, va / pageBytes g, t, l.read, l.write, l.shared⟩ :: s.trn.tlb.filter (fun x => x.key ≠ ptKey fn g (va / pageBytes g)) } := by
  rw [tlbFill_of_walk ((walk_missDone ..).trans hw)]
  exact tlbPut_of_room rfl hroom

/-- ATS_COMPLETION while the core that serves translation is up (R176). -/
theorem exec_atsCompletion_of_up (hm : (fn, s.tlbPage fn va) ∈ s.trn.misses) (hc : s.coreUp coreTrn = true) (whole : Option Nat) (w : Bool) :
    exec (.atsCompletion fn va whole true w) s = .next (match whole with
      | some a => (s.missDone fn va).tlbFill fn va (.hostAt a)
      | none =>
        let u := (s.missDone fn va).bump R.TRN_ATS_SHORT_COUNT
        let v := if (fn, s.tlbPage fn va) ∈ u.trn.shortLogged then u
          else { u with trn := { u.trn with shortLogged := u.trn.shortLogged ++ [(fn, s.tlbPage fn va)] } }.logErr pTRN 0x08 clsMemory fn noTags va 0
        v.tlbFill fn va .hostUntranslated) := by
  refine congrArg Host.Outcome.next ((if_pos hc).trans ((if_pos hm).trans ?_))
  cases whole <;> rfl

/-- A translation of less than the page counts, is logged at the first of its page, and leaves the page untranslated (R176). -/
theorem atsCompletion_short_counts (hm : (fn, s.tlbPage fn va) ∈ s.trn.misses) (hc : s.coreUp coreTrn = true) (w : Bool) :
    ∃ t, exec (.atsCompletion fn va none true w) s = .next t ∧
      t.rd R.TRN_ATS_SHORT_COUNT = word (min 0xFFFFFFFF ((s.rd R.TRN_ATS_SHORT_COUNT).toNat + 1)) ∧ TellsIn [.trn] [R.TRN_ATS_SHORT_COUNT] s t := by
  refine ⟨_, exec_atsCompletion_of_up hm hc none w, ?_⟩
  extract_lets u x v
  have hu : TellsIn [.trn] [R.TRN_ATS_SHORT_COUNT] s u := ((TellsIn.refl _ _ s).trn _ (by decide)).wr _ (by decide)
  have hcounted : u.rd R.TRN_ATS_SHORT_COUNT = word (min 0xFFFFFFFF ((s.rd R.TRN_ATS_SHORT_COUNT).toNat + 1)) := (s.missDone fn va).rd_wr_self _ _
  have hv : TellsIn [.trn] [R.TRN_ATS_SHORT_COUNT] s v ∧ v.rd R.TRN_ATS_SHORT_COUNT = u.rd R.TRN_ATS_SHORT_COUNT := by
    simp only [v]
    split
    · exact ⟨hu, rfl⟩
    · have hlog := Told.logErr { u with trn := { u.trn with shortLogged := u.trn.shortLogged ++ [(fn, s.tlbPage fn va)] } } pTRN 0x08 clsMemory fn
        noTags va 0
      exact ⟨(hu.trn _ (by decide)).told hlog, hlog.2 _ (by decide)⟩
  have hfill := only_tlbFill v fn va .hostUntranslated
  exact ⟨(hfill.rd_eq (by decide) _).trans (hv.2.trans hcounted), hv.1.only hfill (by decide) (by decide)⟩

end

section
variable {s : State} {fn va : Nat} (hm : (fn, s.tlbPage fn va) ∈ s.trn.misses) (hc : s.coreUp coreTrn = true)
include hm hc

/-- TLB_FILL of a DEVICE page with room in the TLB enters its leaf (R173, R175). -/
theorem tlbFill_enters_device {g : Bool} {l : Leaf} (hw : s.walk fn va = some (g, l)) (hdev : l.host = false)
    (hroom : (s.trn.tlb.filter (fun x => x.key ≠ ptKey fn g (va / pageBytes g))).length < 4096) (w ats : Bool) :
    ∃ t, exec (.tlbFill fn va w ats) s = .next t ∧ t.trn.tlb.head? = some ⟨fn, g, va / pageBytes g, .device l.addr, l.read, l.write, l.shared⟩ ∧
      (fn, s.tlbPage fn va) ∉ t.trn.misses ∧ t.trn.pt = s.trn.pt ∧ RegsBut [R.MEM00_CLASS_BYTES] s t ∧ Only [.trn, .regs, .msys] s t := by
  have htrn : (s.served 5 (8 * s.walkReads fn va)).trn = s.trn := served_trn ..
  have hserved := only_served s 5 (8 * s.walkReads fn va)
  have hregs := regsBut_served s 5 (8 * s.walkReads fn va)
  have hx := exec_tlbFill_of_walk hm hc hw w ats
  generalize s.served 5 (8 * s.walkReads fn va) = u at *
  have hpage : u.tlbPage fn va = s.tlbPage fn va := tlbPage_congr (walk_of_trn_eq htrn) fn va
  have hfill := missDone_tlbFill_trn ((walk_of_trn_eq htrn fn va).trans hw) (by rw [htrn]; exact hroom) (.device l.addr)
  have honly := (only_missDone u fn va).trans (only_tlbFill (u.missDone fn va) fn va (.device l.addr))
  refine ⟨(u.missDone fn va).tlbFill fn va (.device l.addr), hx.trans (by simp only [hdev]; rfl), by rw [hfill]; rfl, ?_, ?_, ?_, ?_⟩
  · rw [hfill, ← hpage]
    exact not_mem_missDone u fn va
  · rw [hfill, ← htrn]
    rfl
  · exact fun k hk => (honly.rd_eq (by decide) k).trans (hregs k hk)
  · exact (hserved.mono (by decide)).trans (honly.mono (by decide))

/-- TLB_FILL of a HOST page with ATS asks the host for the whole page (R176). -/
theorem tlbFill_asks_host {g : Bool} {l : Leaf} (hw : s.walk fn va = some (g, l)) (hhost : l.host = true) (w : Bool) :
    ∃ t, exec (.tlbFill fn va w true) s = .next t ∧ t.out = .atsRequest fn (va / pageBytes g * pageBytes g) :: s.out ∧
      RegsBut [R.MEM00_CLASS_BYTES] s t ∧ Only [.out, .regs, .msys] s t := by
  have hserved := only_served s 5 (8 * s.walkReads fn va)
  refine ⟨(s.served 5 (8 * s.walkReads fn va)).emit (.atsRequest fn (va / pageBytes g * pageBytes g)),
    (exec_tlbFill_of_walk hm hc hw w true).trans (by simp only [hhost]; rfl), congrArg (List.cons _) (hserved.2 .out (by decide)),
    regsBut_served s _ _, (hserved.mono (by decide)).trans ((Only.of_out _ _).mono (by decide))⟩

/-- TLB_FILL without a leaf raises a fault (R178). -/
theorem tlbFill_faults (hw : s.walk fn va = none) (w ats : Bool) :
    ∃ t, exec (.tlbFill fn va w ats) s = .next t ∧ t.trn.tlb = s.trn.tlb ∧ (fn, s.tlbPage fn va) ∉ t.trn.misses ∧
      t.rd (R.TRN_FN_FAULT_COUNT fn) = word (min 0xFFFFFFFF ((s.rd (R.TRN_FN_FAULT_COUNT fn)).toNat + 1)) := by
  obtain ⟨u, hu, hx⟩ := exec_tlbFill_of_no_walk hm hc hw w ats
  have htrn : u.trn = s.trn := hu.trn_eq.trans (served_trn ..)
  have hpage : u.tlbPage fn va = s.tlbPage fn va := tlbPage_congr (walk_of_trn_eq htrn) fn va
  have hrd : (u.missDone fn va).rd (R.TRN_FN_FAULT_COUNT fn) = s.rd (R.TRN_FN_FAULT_COUNT fn) :=
    (hu.2 _ (tellKey_trn fn (by decide) (by decide))).trans
      (regsBut_served s _ _ _ (by simp only [R.MEM00_CLASS_BYTES, rkey, List.mem_singleton]; omega))
  obtain ⟨⟨q, x, hq⟩, hcounted⟩ := faultRaised_remote (u.missDone fn va) fn va w false
  refine ⟨_, hx, by rw [hq, ← htrn]; rfl, ?_, by rw [hcounted, hrd]⟩
  rw [hq, ← hpage]
  exact not_mem_missDone u fn va

/-- ATS_COMPLETION for the whole page, with room in the TLB, fills the host's address (R176). -/
theorem atsCompletion_fills {g : Bool} {l : Leaf} (hw : s.walk fn va = some (g, l))
    (hroom : (s.trn.tlb.filter (fun x => x.key ≠ ptKey fn g (va / pageBytes g))).length < 4096) (a : Nat) (w : Bool) :
    ∃ t, exec (.atsCompletion fn va (some a) true w) s = .next t ∧
      t.trn.tlb.head? = some ⟨fn, g, va / pageBytes g, .hostAt a, l.read, l.write, l.shared⟩ ∧ Only [.trn] s t := by
  refine ⟨(s.missDone fn va).tlbFill fn va (.hostAt a), exec_atsCompletion_of_up hm hc (some a) w, ?_, (only_missDone s fn va).trans (only_tlbFill ..)⟩
  rw [missDone_tlbFill_trn hw hroom]
  rfl

end

/-- ATS_INVALIDATION removes the entries that it names and no other, and answers (R177). -/
theorem atsInvalidation_removes (s : State) (fn va len : Nat) :
    ∃ t, exec (.atsInvalidation fn va len) s = .next t ∧ t.out = .atsInvDone fn va :: s.out ∧
      (∀ e ∈ t.trn.tlb, e ∈ s.trn.tlb ∧ ¬(e.fn = fn ∧ e.page * pageBytes e.gib < va + len ∧ va < (e.page + 1) * pageBytes e.gib)) ∧
      (∀ e ∈ s.trn.tlb, ¬(e.fn = fn ∧ e.page * pageBytes e.gib < va + len ∧ va < (e.page + 1) * pageBytes e.gib) → e ∈ t.trn.tlb) ∧
      t.trn.pt = s.trn.pt ∧ Only [.trn, .out] s t := by
  refine ⟨_, rfl, rfl, fun e he => ?_, fun e he hout => ?_, rfl, ((Only.of_trn s _).mono (by decide)).trans ((Only.of_out _ _).mono (by decide))⟩
  · obtain ⟨hmem, hout⟩ := List.mem_filter.1 he
    refine ⟨hmem, fun ⟨hf, hlo, hhi⟩ => ?_⟩
    simp [hf, hlo, hhi] at hout
  · refine List.mem_filter.2 ⟨he, (Bool.not_eq_true' _).mpr (Bool.eq_false_iff.2 fun hx => hout ?_)⟩
    simpa [and_assoc] using hx

/-! ## Released stalls (R179, R180) -/

/-- The entry of the fault queue is that of a stalled access's page. -/
def FaultQ.serves (e : FaultQ) (x : Stall) : Bool := e.fn = x.fn && e.gib = x.gib && e.page = x.va / pageBytes x.gib

/-- What FAULT_STALL_RELEASE makes of the fault queue for a stall: it joins its page's entry, or takes one. -/
def State.stallJoins (s : State) (x : Stall) : List FaultQ :=
  if s.trn.faults.any (·.serves x) then s.trn.faults.map fun e => if e.serves x then { e with waiters := e.waiters ++ [x.waiter] } else e
  else s.trn.faults ++ [⟨x.fn, x.va / pageBytes x.gib, x.gib, x.va, x.write, x.prefer, .queued, [x.waiter], s.uptime⟩]

/-- FAULT_STALL_RELEASE of the oldest stall. -/
theorem exec_faultStallRelease_of_oldest {s : State} {x : Stall} {r : List Stall} (hs : s.trn.stalls = x :: r) (hr : x ∉ r)
    (hfree : s.trn.faults.any (·.serves x) = true ∨ s.faultRoom x.fn = true) :
    ∃ u, exec .faultStallRelease s = .next u ∧ TellsIn [.trn, .tiles] [R.TRN_FQ_STALL_CYCLES] s u ∧
      u.trn = { s.trn with stalls := r.map fun (y : Stall) => ({ y with since := s.uptime } : Stall), faults := s.stallJoins x } := by
  have hfind : s.trn.stalls.find? (fun st => s.trn.faults.any (·.serves st) || s.faultRoom st.fn) = some x := by
    rw [hs]
    exact List.find?_cons_of_pos (by simpa using hfree)
  have hgone : s.trn.stalls.any (fun y => decide (y = x)) = true := by simp [hs]
  have hleft : s.trn.stalls.filter (fun y => !decide (y = x)) = r := by
    rw [hs, List.filter_cons_of_neg (by simp)]
    exact List.filter_eq_self.2 fun y hy => by
      have : y ≠ x := fun h => hr (h ▸ hy)
      simpa using this
  obtain ⟨htells, htrn⟩ := stallsEnd_spec hgone
  rw [hleft] at htrn
  let u := s.stallsEnd fun y => decide (y = x)
  refine ⟨{ u with trn := { u.trn with faults := s.stallJoins x } }, ?_, htells.trn _ (by decide), by rw [show u.trn = _ from htrn]⟩
  show execFaultStallRelease s = _
  simp only [FaultQ.serves] at hfind
  simp only [execFaultStallRelease, hfind]
  rfl

/-- Settles O28: a clause for each command; that a fill's entry is the newest of the TLB is the model's choice (log entry 19), and an answer waits while its core
restarts by R26 and R205. -/
theorem translationCache : Obligations.TranslationCache := by
  refine ⟨fun s fn va hmiss => tlbMiss_starts_walk hmiss, fun s fn va l w ats _ hm hc hw hdev hroom => tlbFill_enters_device hm hc hw hdev hroom w ats,
    fun s fn va g l w hm hc hw hhost => tlbFill_asks_host hm hc hw hhost w, fun s fn va w ats _ hm hc hw => tlbFill_faults hm hc hw w ats,
    fun s fn va g l a w hm hc hw hroom => atsCompletion_fills hm hc hw hroom a w, fun s fn va w _ hm hc => atsCompletion_short_counts hm hc w,
    fun s fn va whole pe w hdown => ?_, atsInvalidation_removes, fun s x r hs hr hroom hnone => ?_, fun s x r e hs hr hfaults hpage => ?_⟩
  · exact ⟨_, congrArg Host.Outcome.next (if_neg (by rw [hdown]; exact Bool.false_ne_true)), rfl, Only.of_toInbox ..⟩
  · have hnone' : s.trn.faults.any (·.serves x) = false := by simpa [FaultQ.serves, and_assoc] using hnone
    obtain ⟨u, hx, htells, htrn⟩ := exec_faultStallRelease_of_oldest hs hr (.inr hroom)
    refine ⟨u, hx, by rw [htrn], ?_, htells⟩
    rw [htrn, State.stallJoins, hnone']
    rfl
  · have hserves : e.serves x = true := by simpa [FaultQ.serves, and_assoc] using hpage
    obtain ⟨u, hx, -, htrn⟩ := exec_faultStallRelease_of_oldest hs hr (.inl (by simp [hfaults, hserves]))
    refine ⟨u, hx, ?_, by rw [htrn, List.length_map]⟩
    simp [htrn, State.stallJoins, hfaults, hserves]

end Sys2Proof.Machine
end

section
/-! PROOFS for the statements of 06_translation_and_instances about pages that change (O29, O30): a leaf is what its entry spells (`dec_enc`), a leaf that
replaces a page's own leaves every other page (`putLeaf_own`), a frame taken is one of the free ones (`takeFrame_ok`), and a descriptor that ends is
`Ended` (`ended_finishOp`). -/

namespace Sys2Proof.Machine
open Sys2Proof

/-! ## What an entry spells (R172) -/

theorem bitOf_add_page {lo q i : Nat} (hi : i < 12) : bitOf (lo + 4096 * q) i = bitOf lo i := by
  unfold bitOf
  interval_cases i <;> simp <;> omega

theorem type_add_page (lo q : Nat) : bitsOf (lo + 4096 * q) 1 2 = bitsOf lo 1 2 := by
  simp only [bitsOf]
  omega

theorem address_add_page {lo q : Nat} (h : lo < 4096) (hq : q < 2 ^ 40) : bitsOf (lo + 4096 * q) 12 40 = q := by
  simp only [bitsOf]
  omega

/-- The bits of a leaf's entry below its address. -/
def leafFlags (host read write shared prefer busy : Bool) : Nat :=
  1 + (if host then 4 else 2) + 8 * b2n read + 16 * b2n write + 32 * b2n shared + 64 * b2n prefer + 128 * b2n busy

theorem leafFlags_lt (h r w sh p b : Bool) : leafFlags h r w sh p b < 4096 := by
  revert h r w sh p b
  decide

/-- The flags read back as they were written: a check of the 64 cases. -/
theorem leafFlags_spell (h r w sh p b : Bool) :
    let e := leafFlags h r w sh p b
    (bitOf e 0 && (bitsOf e 1 2 = 1 || bitsOf e 1 2 = 2)) = true ∧ decide (bitsOf e 1 2 = 2) = h ∧ bitOf e 3 = r ∧ bitOf e 4 = w ∧ bitOf e 5 = sh ∧
      bitOf e 6 = p ∧ bitOf e 7 = b := by
  revert h r w sh p b
  decide

/-- The addresses that a leaf's entry can hold. -/
abbrev FrameAddress (p : Nat) : Prop := p % 4096 = 0 ∧ p < 2 ^ 52

/-- The entry of a leaf spells the leaf; of a HOST leaf it holds no address. -/
theorem dec_enc {l : Leaf} (ha : l.host = false → FrameAddress l.addr) : Leaf.dec l.enc = some { l with addr := if l.host then 0 else l.addr } := by
  have henc : l.enc = leafFlags l.host l.read l.write l.shared l.prefer l.busy + 4096 * (if l.host then 0 else l.addr / 4096) := by
    unfold Leaf.enc leafFlags
    split <;> omega
  have hq : (if l.host then 0 else l.addr / 4096) < 2 ^ 40 := by
    split
    · decide
    · next h => have := (ha (by simpa using h)).2; omega
  have haddr : (if l.host then 0 else l.addr / 4096) * 4096 = if l.host then 0 else l.addr := by
    split
    · rfl
    · next h => have := (ha (by simpa using h)).1; omega
  obtain ⟨hvalid, hhost, hread, hwrite, hshared, hprefer, hbusy⟩ :=
    leafFlags_spell l.host l.read l.write l.shared l.prefer l.busy
  rw [henc, Leaf.dec, type_add_page, address_add_page (leafFlags_lt ..) hq, haddr, bitOf_add_page (by decide), bitOf_add_page (by decide),
    bitOf_add_page (by decide), bitOf_add_page (by decide), bitOf_add_page (by decide), bitOf_add_page (by decide), if_pos hvalid, hhost, hread, hwrite,
    hshared, hprefer, hbusy]

/-- R172: what a leaf reads back as. -/
theorem dec_enc_host (r w sh p b : Bool) (a : Nat) : Leaf.dec (Leaf.enc ⟨true, r, w, sh, p, b, a⟩) = some ⟨true, r, w, sh, p, b, 0⟩ :=
  dec_enc fun h => by cases h

theorem dec_enc_frame {l : Leaf} (ha : FrameAddress l.addr) (hdev : l.host = false) : Leaf.dec l.enc = some l := by
  rw [dec_enc fun _ => ha, if_neg (by simp [hdev])]

/-- The address that an entry spells is one that it can hold. -/
theorem frameAddress_of_dec {e : Nat} {l : Leaf} (h : Leaf.dec e = some l) : FrameAddress l.addr := by
  unfold Leaf.dec at h
  split at h
  · cases h
    simp only [FrameAddress, bitsOf]
    omega
  · cases h

theorem frameAddress_of_leafAt {s : State} {fn page : Nat} {g : Bool} {l : Leaf} (h : s.leafAt fn g page = some l) : FrameAddress l.addr := by
  obtain ⟨t, -, hdec⟩ := leafIn_eq_some.1 (walk_eq_some_iff.1 (leafAt_eq_some_iff.1 h))
  exact frameAddress_of_dec hdec

/-! ## A leaf entered (R171) -/

/-- At most the page tables differ. -/
def SameButTables (s t : State) : Prop := t = { s with trn := { s.trn with pt := t.trn.pt, roots := t.trn.roots, nextTable := t.trn.nextTable } }

theorem SameButTables.refl (s : State) : SameButTables s s := rfl

theorem SameButTables.trans {s t u : State} (h : SameButTables s t) (h' : SameButTables t u) : SameButTables s u := by
  unfold SameButTables at *
  rw [h', h]

theorem SameButTables.only {s t : State} (h : SameButTables s t) : Only [.trn] s t := by
  rw [h]
  exact Only.of_trn ..

theorem SameButTables.faults {s t : State} (h : SameButTables s t) : t.trn.faults = s.trn.faults := by rw [h]

theorem sameButTables_entryFor (s : State) (va n lvl t : Nat) : SameButTables s (s.entryFor va n lvl t).1 := by
  induction n generalizing s lvl t with
  | zero => exact .refl s
  | succ n ih =>
    rw [State.entryFor]
    split
    · exact ih ..
    · exact SameButTables.trans (t := s.newTable.2.setPte _ _) rfl (ih ..)

theorem sameButTables_rootFor (s : State) (fn : Nat) : SameButTables s (s.rootFor fn).1 := by
  unfold State.rootFor
  split <;> rfl

theorem sameButTables_putLeaf (s : State) (fn : Nat) (g : Bool) (page : Nat) (l : Leaf) : SameButTables s (s.putLeaf fn g page l) :=
  ((sameButTables_rootFor s fn).trans (sameButTables_entryFor ..)).trans rfl

theorem sameButTables_delLeaf (s : State) (fn : Nat) (g : Bool) (page : Nat) : SameButTables s (s.delLeaf fn g page) := by
  unfold State.delLeaf
  split
  · split <;> rfl
  · rfl

theorem TablesFor.congr {s t : State} {n : Nat} (h : t.trn = s.trn) (ht : TablesFor s n) : TablesFor t n := by
  unfold TablesFor PageTables.wf State.tablesNamed at *
  rwa [h]

/-- A leaf that replaces a page's own reads back. -/
theorem leafAt_putLeaf_own {s : State} {fn page : Nat} {g : Bool} {l l₀ l' : Leaf} (ht : TablesFor s 1) (h : s.leafAt fn g page = some l₀)
    (hdec : Leaf.dec l.enc = some l') : (s.putLeaf fn g page l).leafAt fn g page = some l' := by
  obtain ⟨-, -, hwalk⟩ := putLeaf_spec (PageTables.wf_iff_sound.1 ht.1) ht.2.le hdec (walk_ne_gib_of_leafAt h)
  exact leafAt_eq_some_iff.2 ((hwalk ..).trans (if_pos ⟨rfl, fun _ _ => rfl⟩))

/-! ## Frames (R169, R187) -/

theorem frameAddress_of_leavesBelow {s : State} {n lvl t : Nat} {e : Bool × Nat × Leaf} (h : e ∈ s.leavesBelow n lvl t) : FrameAddress e.2.2.addr := by
  induction n generalizing lvl t with
  | zero => cases h
  | succ n ih =>
    rw [State.leavesBelow, List.mem_flatMap] at h
    obtain ⟨x, -, hx⟩ := h
    split at hx
    · split at hx
      · exact ih hx
      · cases hx
    · split at hx
      · cases hx
      · split at hx
        · next l hdec =>
          cases List.mem_singleton.1 hx
          exact frameAddress_of_dec hdec
        · cases hx

theorem frameAddress_of_leavesOf {s : State} {fn : Nat} {e : Bool × Nat × Leaf} (h : e ∈ s.leavesOf fn) : FrameAddress e.2.2.addr := by
  unfold State.leavesOf at h
  split at h
  · exact frameAddress_of_leavesBelow h
  · cases h

theorem frame_lt_of_framesUsed {s : State} {u : Nat × Option Nat} (h : u ∈ s.framesUsed) : u.1 < 2 ^ 22 := by
  simp only [State.framesUsed, List.mem_flatMap, List.mem_filterMap] at h
  obtain ⟨f, -, e, he, hu⟩ := h
  split at hu
  · cases hu
  · cases hu
    have := (frameAddress_of_leavesOf he).2
    simp only [gib]
    omega

theorem frameAddress_of_framesFree {s : State} {g : Bool} {p : Nat} (h : p ∈ s.framesFree g) : FrameAddress p := by
  have hwhole : p ∈ ((List.range frameCount).filter (fun f => !s.framesUsed.any (fun u => u.1 = f))).map (· * gib) → FrameAddress p := by
    intro h
    obtain ⟨f, hf, rfl⟩ := List.mem_map.1 h
    have := List.mem_range.1 (List.mem_filter.1 hf).1
    simp only [frameCount] at this
    simp only [FrameAddress, gib]
    omega
  unfold State.framesFree at h
  extract_lets used whole split parts at h
  split at h
  · exact hwhole h
  · split at h
    · exact hwhole h
    · obtain ⟨f, hf, hp⟩ := List.mem_flatMap.1 h
      obtain ⟨q, hq, rfl⟩ := List.mem_map.1 hp
      obtain ⟨u, hu, hsplit⟩ := List.mem_filterMap.1 (List.mem_eraseDups.1 hf)
      obtain ⟨x, -, rfl⟩ := Option.map_eq_some_iff.1 hsplit
      have := frame_lt_of_framesUsed hu
      have := List.mem_range.1 (List.mem_filter.1 hq).1
      simp only [FrameAddress, gib, mib32]
      omega

theorem pick_of_ne_nil {α : Type} {s : State} {l : List α} (h : l.isEmpty = false) : ∃ a ∈ l, s.pick l = (some a, { s with freeCtr := s.freeCtr + 1 }) := by
  cases l with
  | nil => cases h
  | cons a r =>
    refine ⟨_, ?_, rfl⟩
    rw [List.getD_eq_getElem _ _ (Nat.mod_lt _ (by simp))]
    exact List.getElem_mem _

/-- R184, R187: with room a free frame is taken. -/
theorem takeFrame_ok {s : State} {fn : Nat} {g : Bool} (h : s.migrateRoom fn g = true) :
    ∃ p ∈ s.framesFree g, s.takeFrame fn g = ({ s with freeCtr := s.freeCtr + 1 }, .ok p) := by
  simp only [State.migrateRoom, Bool.and_eq_true, decide_eq_true_eq, Bool.not_eq_true'] at h
  obtain ⟨hquota, hfree⟩ := h
  obtain ⟨p, hp, hpick⟩ := pick_of_ne_nil (s := s) hfree
  exact ⟨p, hp, by rw [State.takeFrame, if_neg (by omega), hpick]⟩

end Sys2Proof.Machine
end

section
/-! PROOFS for the statements of 06_translation_and_instances about descriptors that end (O29, O30): what the end of a descriptor can change
(`only_finishOp`), and that it has ended (`ended_finishOp`). -/

namespace Sys2Proof.Machine
open Sys2Proof

/-! ## Changes of some parts -/

theorem Only.of_ops (s : State) (o : Tab Op) : Only [.ops] s { s with ops := o } := by
  refine ⟨rfl, fun p hp => ?_⟩
  cases p with
  | ops => exact absurd (by decide) hp
  | regs | mem => exact fun _ => rfl
  | _ => rfl

theorem Only.of_freeCtr (s : State) (n : Nat) : Only [.freeCtr] s { s with freeCtr := n } := by
  refine ⟨rfl, fun p hp => ?_⟩
  cases p with
  | freeCtr => exact absurd (by decide) hp
  | regs | mem => exact fun _ => rfl
  | _ => rfl

theorem Only.of_ydt (s : State) (y : Ydt) : Only [.ydt] s { s with ydt := y } := by
  refine ⟨rfl, fun p hp => ?_⟩
  cases p with
  | ydt => exact absurd (by decide) hp
  | regs | mem => exact fun _ => rfl
  | _ => rfl

theorem Only.of_tqs (s : State) (q : Tab Tq) : Only [.tqs] s { s with tqs := q } := by
  refine ⟨rfl, fun p hp => ?_⟩
  cases p with
  | tqs => exact absurd (by decide) hp
  | regs | mem => exact fun _ => rfl
  | _ => rfl

theorem Only.sameMem {l : List Field} {s t : State} (h : Only l s t) (hl : Field.mem ∉ l) : SameMem s t := h.2 .mem hl

theorem Only.ops_eq {l : List Field} {s t : State} (h : Only l s t) (hl : Field.ops ∉ l) : t.ops = s.ops := h.2 .ops hl

theorem Only.if {l : List Field} {s a b : State} {c : Prop} [Decidable c] (ha : Only l s a) (hb : Only l s b) : Only l s (if c then a else b) := by
  split
  exacts [ha, hb]

theorem Only.foldl {α : Type} {l : List Field} {s t : State} {f : State → α → State} {xs : List α} (h : Only l s t) (hf : ∀ u x, Only l u (f u x)) :
    Only l s (xs.foldl f t) := by
  induction xs generalizing t with
  | nil => exact h
  | cons x xs ih => exact ih (h.trans (hf t x))

/-! ## The end of a descriptor (R154) -/

/-- What the report of a descriptor's end can change. -/
def noting : List Field := telling ++ [.ydt, .tqs]

/-- What the end of a descriptor can change. -/
def ending : List Field := noting ++ [.ops, .chains]

theorem only_noteSlots (s : State) : Only [.regs] s s.noteSlots := ((Only.of_wr ..).trans (Only.of_wr ..)).trans (Only.of_wr ..)

theorem only_dropXfer (s : State) (k : Nat) : Only noting s (s.dropXfer k) :=
  ((Only.of_ydt s _).mono (by decide)).trans ((only_noteSlots _).mono (by decide))

theorem only_putTq (s : State) (q : Nat) (x : Tq) : Only noting s (s.putTq q x) :=
  (((Only.of_tqs s _).mono (by decide)).trans ((Only.of_wr ..).mono (by decide))).trans ((Only.of_wr ..).mono (by decide))

theorem only_armEnds (s : State) (i : Nat) : Only noting s (s.armEnds i) := by
  unfold State.armEnds
  split
  · exact Only.refl _ s
  · exact ((Only.of_wr ..).mono (by decide)).trans (only_putTq ..)

theorem only_dropChain (s : State) (c : Nat) : Only [.ops, .chains] s (s.dropChain c) := by
  unfold State.dropChain
  split
  · exact (Only.of_cox s s.ops _).if (Only.refl _ s)
  · exact Only.refl _ s

/-- The part of a descriptor's end that reports it: its trace record, its count, its slot and its arm. -/
def State.endNoted (s : State) (i : Nat) (o : Op) (status result : Nat) : State :=
  let s := s.traceSrc o.fn o.desc 0x03 status result
  let s := if isContext o.desc then s.count 6 0 0x02 o.fn (some (descTags o.desc)) 1 else s
  let s := match s.slotOf i with | some e => s.dropXfer e.1 | none => s
  s.armEnds i

theorem only_endNoted (s : State) (i : Nat) (o : Op) (status result : Nat) : Only noting s (s.endNoted i o status result) := by
  unfold State.endNoted
  extract_lets traced counted freed
  have htraced : Only noting s traced := (Told.trace ..).1.mono (by decide)
  have hcounted : Only noting s counted := (htraced.trans ((Told.count ..).1.mono (by decide))).if htraced
  have hfreed : Only noting s freed := by
    simp only [freed]
    split
    exacts [hcounted.trans (only_dropXfer ..), hcounted]
  exact hfreed.trans (only_armEnds ..)

/-- The descriptor as it ends. -/
def Op.ended (o : Op) (status result : Nat) : Op := { o with st := .done, status := status, result := result, waitFault := false }

/-- R154, R281: the chain of a descriptor that failed, and what becomes of the descriptors behind it. -/
def State.chainFails (s : State) (o : Op) : State :=
  { s with
    chains := s.chains.upd o.chain (fun c => { c with fail := some (min o.pos (c.fail.getD o.pos)) })
    ops := s.ops.mapv (fun _ p =>
      if p.chain = o.chain && o.pos < p.pos && ((p.st == OpSt.admitted && !p.waitFault && !heatFollows o p) || p.early) then
        { p with st := .done, status := stFlushed, result := 0 }
      else p) }

theorem finishOp_eq {s : State} {i : Nat} {o : Op} (ho : s.op? i = some o) (status result : Nat) :
    s.finishOp i status result =
      let t := (s.endNoted i o status result).putOp i (o.ended status result)
      let u := if isOk status then t else t.chainFails o
      if o.issued then { u with ops := u.ops.keep (fun _ (p : Op) => !(decide (p.chain = o.chain) && p.issued && p.st == OpSt.done)) }.dropChain o.chain
      else u := by
  rw [State.finishOp, ho]
  rfl

theorem only_finishOp (s : State) (i status result : Nat) : Only ending s (s.finishOp i status result) := by
  cases ho : s.op? i with
  | none =>
    rw [State.finishOp, ho]
    exact Only.refl _ s
  | some o =>
    rw [finishOp_eq ho]
    extract_lets t u
    have ht : Only ending s t := ((only_endNoted ..).mono (by decide)).trans ((Only.of_ops ..).mono (by decide))
    have hu : Only ending s u := Only.if ht (ht.trans ((Only.of_cox ..).mono (by decide)))
    exact Only.if ((hu.trans ((Only.of_ops ..).mono (by decide))).trans ((only_dropChain ..).mono (by decide))) hu

/-- A descriptor with an entry to come has ended with the status and RESULT given. -/
theorem ended_finishOp {s : State} {i : Nat} {o : Op} (ho : s.op? i = some o) (hissued : o.issued = false) (status result : Nat) :
    Ended (s.finishOp i status result) i status result := by
  rw [finishOp_eq ho, if_neg (by simp [hissued])]
  have hself : ((s.endNoted i o status result).putOp i (o.ended status result)).op? i = some (o.ended status result) := State.op?_putOp_self ..
  split
  · rw [Ended, hself]
    rfl
  · have hkept : (((s.endNoted i o status result).putOp i (o.ended status result)).chainFails o).op? i = some (o.ended status result) := by
      rw [State.op?, State.chainFails, Tab.look_mapv, show Tab.look _ i = _ from hself]
      simp [Op.ended]
    rw [Ended, hkept]
    rfl

theorem ended_congr {s t : State} (h : t.ops = s.ops) {i st r : Nat} (he : Ended s i st r) : Ended t i st r := by
  rw [Ended, State.op?, h]
  exact he

end Sys2Proof.Machine
end

section
/-! PROOFS of the statements of 06_translation_and_instances: page requests and migration on fault (O29). The accesses that wait on a fault go on
(`releaseFault_spec`) or end (`failFault_remote`, `failFault_copy`), and a page that a migration on fault has moved is a DEVICE page
(`migrateOnFaultDone_moves`). -/

namespace Sys2Proof.Machine
open Sys2Proof

/-! ## The accesses that wait go on (R182) -/

/-- The descriptor that a waiting access is for. -/
def Waiter.op? : Waiter → Option Nat
  | .op i | .cox i => some i
  | _ => none

theorem faultOps_eq (e : FaultQ) : faultOps e = e.waiters.filterMap Waiter.op? :=
  List.filterMap_congr fun w _ => by cases w <;> rfl

theorem only_releaseWaiter (s : State) (w : Waiter) : Only [.ops] s (s.releaseWaiter w) := by
  cases w with
  | op | cox => exact Only.of_ops s _
  | _ => exact Only.refl _ s

theorem op?_releaseWaiter (s : State) (w : Waiter) (i : Nat) :
    (s.releaseWaiter w).op? i = if w.op? = some i then (s.op? i).map (fun o => { o with waitFault := false }) else s.op? i := by
  cases w with
  | op j | cox j =>
    rw [State.op?, State.releaseWaiter, Tab.look_upd, Waiter.op?]
    simp [State.op?, eq_comm]
  | _ => rfl

theorem op?_releaseWaiters (s : State) (ws : List Waiter) (i : Nat) :
    (ws.foldl (fun s w => s.releaseWaiter w) s).op? i =
      if i ∈ ws.filterMap Waiter.op? then (s.op? i).map (fun o => { o with waitFault := false }) else s.op? i := by
  induction ws generalizing s with
  | nil => rfl
  | cons w ws ih =>
    simp only [List.foldl_cons, ih, op?_releaseWaiter, List.mem_filterMap, List.mem_cons, exists_eq_or_imp]
    by_cases hw : w.op? = some i <;> by_cases hws : ∃ a ∈ ws, a.op? = some i <;> simp [hw, hws, Function.comp_def]

/-- R182: the fault is gone, and the descriptors that waited on it wait no longer. -/
theorem releaseFault_spec (s : State) (e : FaultQ) :
    (s.releaseFault e).trn = { s.trn with faults := s.trn.faults.erase e } ∧ Only [.trn, .ops] s (s.releaseFault e) ∧
      ∀ i ∈ faultOps e, (s.releaseFault e).op? i = (s.op? i).map (fun o => { o with waitFault := false }) := by
  have honly : Only [.ops] (s.dropFault e) (s.releaseFault e) := Only.foldl (Only.refl _ _) only_releaseWaiter
  refine ⟨honly.trn_eq (by decide), ((Only.of_trn ..).mono (by decide)).trans (honly.mono (by decide)), fun i hi => ?_⟩
  exact (op?_releaseWaiters ..).trans (if_pos (faultOps_eq e ▸ hi))

/-- A leaf is what the page tables say, which a release leaves. -/
theorem leafAt_releaseFault (s : State) (e : FaultQ) (fn : Nat) (g : Bool) (page : Nat) : (s.releaseFault e).leafAt fn g page = s.leafAt fn g page :=
  leafAt_congr (fun f va => walk_congr_tables (by rw [(releaseFault_spec s e).1]) (by rw [(releaseFault_spec s e).1]) f va) fn g page

/-! ## The accesses that wait end (R182, R183) -/

/-- An error that is logged leaves the interrupt causes of TRN. -/
theorem getB_int_logErr {s : State} {i : Nat} (h : s.getB (intK pTRN) i = true) (page code cls fn : Nat) (t : Tags) (addr detail : Nat) :
    (s.logErr page code cls fn t addr detail).getB (intK pTRN) i = true := by
  have hlogged := (PageKept.logOnly pTRN s page code cls fn t addr detail).causes i h
  have hkept : ∀ {a b : State}, DebugTold a b → a.getB (intK pTRN) i = true → b.getB (intK pTRN) i = true := fun hd ha =>
    (getB_congr (hd.regs _ (by decide) (by decide) (by decide)) i).trans ha
  unfold State.logErr
  extract_lets captured logged traced
  have htraced : traced.getB (intK pTRN) i = true := hkept (DebugTold.trace ..) hlogged
  split
  · split
    · exact hkept (DebugTold.freeze ..) htraced
    · exact htraced
  · exact hlogged

/-- A fault on which only an access of another device waits ends: it is told. -/
theorem failFault_remote {s : State} {e : FaultQ} (hw : e.waiters = [.remote]) (code : Nat) :
    Told (s.dropFault e) (s.failFault e code) ∧ (s.failFault e code).getB (intK pTRN) 1 = true := by
  have hx : s.failFault e code = ((s.dropFault e).raiseInt pTRN 1).logErr pTRN code clsMemory e.fn (s.faultTags e) e.va 0 := by
    rw [State.failFault, hw]
    rfl
  rw [hx]
  exact ⟨(Told.raiseInt ..).trans (Told.logErr ..), getB_int_logErr (getB_raiseInt_self _ (by decide) (by decide)) ..⟩

theorem tellsIn_dropFault (s : State) (e : FaultQ) (ks : List Nat) : TellsIn [.trn] ks s (s.dropFault e) := (TellsIn.refl _ _ s).trn _ (by simp)

theorem failFault_remote_tells {s : State} {e : FaultQ} (hw : e.waiters = [.remote]) (code : Nat) (ks : List Nat) :
    (s.failFault e code).trn = { s.trn with faults := s.trn.faults.erase e } ∧ (s.failFault e code).getB (intK pTRN) 1 = true ∧
      TellsIn [.trn] ks s (s.failFault e code) := by
  obtain ⟨htold, hint⟩ := failFault_remote hw code
  exact ⟨htold.trn_eq, hint, (tellsIn_dropFault s e ks).told htold⟩

theorem tellsIn_setStatus (s : State) (fn i : Nat) (b : Bool) : TellsIn [.trn] [R.TRN_FN_STATUS fn] s (s.setB (R.TRN_FN_STATUS fn) i b) :=
  (TellsIn.refl _ _ s).wr _ (by simp)

/-- R182, step 5: where the request failed, PRI_FAILED is set as the fault ends. -/
theorem failFault_remote_sets {s : State} {e : FaultQ} (hw : e.waiters = [.remote]) (fn code : Nat) :
    let t := (s.setB (R.TRN_FN_STATUS fn) 2 true).failFault e code
    t.trn = { s.trn with faults := s.trn.faults.erase e } ∧ t.getB (R.TRN_FN_STATUS fn) 2 = true ∧ t.getB (intK pTRN) 1 = true ∧
      TellsIn [.trn] [R.TRN_FN_STATUS fn] s t := by
  obtain ⟨htrn, hint, htells⟩ := failFault_remote_tells (s := s.setB (R.TRN_FN_STATUS fn) 2 true) hw code [R.TRN_FN_STATUS fn]
  have hstatus := (failFault_remote (s := s.setB (R.TRN_FN_STATUS fn) 2 true) hw code).1.2 (R.TRN_FN_STATUS fn) (tellKey_trn fn (by decide) (by decide))
  exact ⟨htrn, (getB_congr hstatus 2).trans (getB_setB_self s _ true (by decide)), hint, (tellsIn_setStatus s fn 2 true).trans htells⟩

theorem only_pick {α : Type} (s : State) (l : List α) : Only [.freeCtr] s (s.pick l).2 := by
  unfold State.pick
  split
  exacts [Only.refl _ s, Only.of_freeCtr ..]

theorem only_dmaFault (s : State) (o : Op) (va : Nat) : Only (.freeCtr :: telling) s (s.dmaFault o va) := by
  unfold State.dmaFault
  refine Only.if ?_ (Only.refl _ s)
  exact ((only_pick s _).mono (by decide)).trans (((Told.raiseInt ..).trans (Told.logErr ..)).1.mono (by decide))

theorem faultEnd_copy {s : State} {i : Nat} {o : Op} (hcopy : dOpcode o.desc = 1) (hslot : s.slotOf i = none) :
    s.faultEnd i o = s.finishOp i stTransFault 0 := by
  simp [State.faultEnd, isContext, hcopy, State.endOp, hslot]

theorem failFault_op {s : State} {e : FaultQ} {i : Nat} {o : Op} (hw : e.waiters = [.op i]) (ho : s.op? i = some o) (code : Nat) :
    Told (((s.dropFault e).dmaFault o e.va).faultEnd i o) (s.failFault e code) := by
  rw [State.failFault, hw, List.foldl_cons, List.foldl_nil, State.failWaiter, show (s.dropFault e).op? i = some o from ho]
  exact (Told.raiseInt ..).trans (Told.logErr ..)

/-- R183: a COPY that waits on the fault ends with TRANSLATION_FAULT. -/
theorem failFault_copy {s : State} {e : FaultQ} {i : Nat} {o : Op} (hw : e.waiters = [.op i]) (ho : s.op? i = some o) (hcopy : dOpcode o.desc = 1)
    (hissued : o.issued = false) (hslot : s.slotOf i = none) (code : Nat) :
    Ended (s.failFault e code) i stTransFault 0 ∧ Only (.trn :: .freeCtr :: ending) s (s.failFault e code) ∧
      (s.failFault e code).trn.faults = s.trn.faults.erase e := by
  have hdma : Only (.freeCtr :: telling) (s.dropFault e) ((s.dropFault e).dmaFault o e.va) := only_dmaFault ..
  have hslot' : ((s.dropFault e).dmaFault o e.va).slotOf i = none := by
    rw [State.slotOf, show State.ydt _ = _ from hdma.2 .ydt (by decide)]
    exact hslot
  have hop : ((s.dropFault e).dmaFault o e.va).op? i = some o := (congrArg (Tab.look · i) (hdma.ops_eq (by decide))).trans ho
  have htold := faultEnd_copy hcopy hslot' ▸ failFault_op hw ho code
  have hafter : Only (.freeCtr :: ending) (s.dropFault e) (s.failFault e code) :=
    ((hdma.mono (by decide)).trans ((only_finishOp ..).mono (by decide))).trans (htold.1.mono (by decide))
  exact ⟨ended_congr (htold.1.ops_eq (by decide)) (ended_finishOp hop hissued ..), ((Only.of_trn s _).mono (by decide)).trans (hafter.mono (by decide)),
    congrArg Trn.faults (hafter.trn_eq (by decide))⟩

/-! ## Page requests and migrations (R179, R182, R184) -/

/-- A fault moves to another state. -/
theorem only_setFaultSt (s : State) (e : FaultQ) (st : FaultSt) : Only [.trn] s (s.setFaultSt e st) := Only.of_trn ..

theorem exec_priRequest_asks {s : State} {fn va : Nat} {e : FaultQ} (he : s.faultAt fn va = some e) (hst : e.st = .queued) (hp : e.prefer = false)
    (hc : s.coreUp coreTrn = true) (hl : s.linkUp = true) :
    exec (.priRequest fn va) s = .next ((s.setFaultSt e .requested).emit
      (.priRequest fn (e.va / 4096 * 4096) (s.getF (R.TRN_FN_PASID fn) 0 20) e.write)) := by
  refine (show exec (.priRequest fn va) s = execPriRequest fn va s from rfl).trans ?_
  simp only [execPriRequest, he, hst, hc, hp, hl]
  rfl

section
variable {s : State} {fn va : Nat} {e : FaultQ} {l : Leaf} (he : s.faultAt fn va = some e) (hl : s.leafAt fn e.gib e.page = some l)
include he hl

section
variable (hst : e.st = .queued) (hp : e.prefer = true) (hc : s.coreUp coreTrn = true) (hlink : s.linkUp = true)
  (hleaf : (l.host && l.prefer && !l.busy) = true)
include hst hp hc hlink hleaf

theorem exec_priRequest_skips (hroom : s.migrateRoom fn e.gib = false) :
    exec (.priRequest fn va) s =
      .next (((s.putLeaf fn e.gib e.page { l with prefer := false }).bump (R.TRN_FN_MIGRATE_SKIP fn)).releaseFault e) := by
  simp only [Bool.and_eq_true, Bool.not_eq_true'] at hleaf
  obtain ⟨⟨hhost, hprefer⟩, hbusy⟩ := hleaf
  refine (show exec (.priRequest fn va) s = execPriRequest fn va s from rfl).trans ?_
  simp only [execPriRequest, he, hst, hc, hp, hl, hbusy, hhost, hprefer, hlink, hroom]
  rfl

theorem exec_priRequest_migrates (hroom : s.migrateRoom fn e.gib = true) :
    exec (.priRequest fn va) s = .next ((s.putLeaf fn e.gib e.page { l with busy := true }).setFaultSt e .migrating) := by
  simp only [Bool.and_eq_true, Bool.not_eq_true'] at hleaf
  obtain ⟨⟨hhost, hprefer⟩, hbusy⟩ := hleaf
  refine (show exec (.priRequest fn va) s = execPriRequest fn va s from rfl).trans ?_
  simp only [execPriRequest, he, hst, hc, hp, hl, hbusy, hhost, hprefer, hlink, hroom]
  rfl

end

/-- What MIGRATE_ON_FAULT_DONE has done before it enters the leaf: the page's lines written back and invalid, the frame filled from host memory. -/
def State.pageMoved (s : State) (hv : HostView) (fn : Nat) (g : Bool) (page p : Nat) : State :=
  ((s.ccFlushRange fn (page * pageBytes g) (pageBytes g)).copyIn hv (page * pageBytes g) p (pageBytes g)).pageWritten 4 p (pageBytes g)

theorem exec_migrateOnFaultDone {p : Nat} (hst : e.st = .migrating) (hsr : s.idle.selfRefresh = false)
    (hframe : s.takeFrame fn e.gib = ({ s with freeCtr := s.freeCtr + 1 }, .ok p)) (hv : HostView) :
    exec (.migrateOnFaultDone fn va hv) s =
      .next (((({ s with freeCtr := s.freeCtr + 1 } : State).pageMoved hv fn e.gib e.page p).putLeaf fn e.gib e.page
        ⟨false, l.read, l.write, false, false, false, p⟩).tlbDrop fn e.gib e.page |>.releaseFault e) := by
  refine (show exec (.migrateOnFaultDone fn va hv) s = execMigrateOnFaultDone fn va hv s from rfl).trans ?_
  simp only [execMigrateOnFaultDone, he, hst, hsr, hl, hframe]
  rfl

end

/-- What writing a page back and filling its frame can change. -/
def moving : List Field := telling ++ [.mem, .msys]

theorem only_ccFlushRange (s : State) (fn va n : Nat) : Only telling s (s.ccFlushRange fn va n) := by
  refine Only.trans (Only.foldl (Only.refl _ s) fun u x => ?_) ((Only.of_hif ..).mono (by decide))
  refine Only.if ?_ (Only.refl _ u)
  exact Only.if (Told.emit ..).1 (Only.refl _ u)

theorem Only.of_mem_msys (s : State) (m : Tab Byte) (y : MemSys) : Only [.mem, .msys] s { s with mem := m, msys := y } := by
  refine ⟨rfl, fun p hp => ?_⟩
  cases p with
  | mem | msys => exact absurd (by decide) hp
  | regs => exact fun _ => rfl
  | _ => rfl

theorem only_copyIn (s : State) (hv : HostView) (va p n : Nat) : Only moving s (s.copyIn hv va p n) :=
  Only.foldl ((Only.of_mem_msys s _ _).mono (by decide)) fun u _ => (Only.of_mem_msys u _ u.msys).mono (by decide)

theorem only_pageWritten (s : State) (cls p n : Nat) : Only (telling ++ [.msys]) s (s.pageWritten cls p n) :=
  Only.foldl ((only_served ..).mono (by decide)) fun _ _ => (Told.count ..).1.mono (by decide)

theorem only_pageMoved (s : State) (hv : HostView) (fn : Nat) (g : Bool) (page p : Nat) : Only moving s (s.pageMoved hv fn g page p) :=
  (((only_ccFlushRange ..).mono (by decide)).trans (only_copyIn ..)).trans ((only_pageWritten ..).mono (by decide))

theorem walk_tlbDrop (s : State) (fn : Nat) (g : Bool) (page f va : Nat) : (s.tlbDrop fn g page).walk f va = s.walk f va := walk_congr_tables rfl rfl f va

/-- R184: the page is a DEVICE page in a frame that was free, with the permissions that it had, and its fault is released. -/
theorem migrateOnFaultDone_moves {s : State} {fn va : Nat} {e : FaultQ} {l : Leaf} (he : s.faultAt fn va = some e)
    (hl : s.leafAt fn e.gib e.page = some l) (hst : e.st = .migrating) (hroom : s.migrateRoom fn e.gib = true) (hsr : s.idle.selfRefresh = false)
    (ht : TablesFor s 1) (hv : HostView) :
    ∃ t, exec (.migrateOnFaultDone fn va hv) s = .next t ∧
      (∃ p ∈ s.framesFree e.gib, t.leafAt fn e.gib e.page = some ⟨false, l.read, l.write, false, false, false, p⟩) ∧
      t.trn.faults = s.trn.faults.erase e := by
  obtain ⟨p, hp, hframe⟩ := takeFrame_ok hroom
  refine ⟨_, exec_migrateOnFaultDone he hl hst hsr hframe hv, ⟨p, hp, ?_⟩, ?_⟩
  all_goals
    have htrn : (({ s with freeCtr := s.freeCtr + 1 } : State).pageMoved hv fn e.gib e.page p).trn = s.trn := (only_pageMoved ..).trn_eq (by decide)
  · rw [leafAt_releaseFault, leafAt_congr fun f a => walk_tlbDrop _ fn e.gib e.page f a]
    refine leafAt_putLeaf_own (l₀ := l) ?_ ?_ (dec_enc_frame (frameAddress_of_framesFree hp) rfl)
    · exact ht.congr htrn
    · rwa [leafAt_congr (walk_of_trn_eq htrn)]
  · have hput := sameButTables_putLeaf (({ s with freeCtr := s.freeCtr + 1 } : State).pageMoved hv fn e.gib e.page p) fn e.gib e.page
      ⟨false, l.read, l.write, false, false, false, p⟩
    exact (congrArg Trn.faults (releaseFault_spec _ e).1).trans (congrArg (List.erase · e) (hput.faults.trans (congrArg Trn.faults htrn)))

/-- R184: a page that stays in host memory is no longer preferred to the device, which is counted, and its fault is released. -/
theorem priRequest_skips {s : State} {fn va : Nat} {e : FaultQ} {l : Leaf} (he : s.faultAt fn va = some e) (hst : e.st = .queued)
    (hp : e.prefer = true) (hc : s.coreUp coreTrn = true) (hlink : s.linkUp = true) (ht : TablesFor s 1) (hl : s.leafAt fn e.gib e.page = some l)
    (hleaf : (l.host && l.prefer && !l.busy) = true) (hroom : s.migrateRoom fn e.gib = false) :
    ∃ t, exec (.priRequest fn va) s = .next t ∧
      (t.leafAt fn e.gib e.page).map (fun x => (x.host, x.read, x.write, x.shared, x.prefer, x.busy)) = some (true, l.read, l.write, l.shared, false, false) ∧
      t.trn.faults = s.trn.faults.erase e ∧
      t.rd (R.TRN_FN_MIGRATE_SKIP fn) = word (min 0xFFFFFFFF ((s.rd (R.TRN_FN_MIGRATE_SKIP fn)).toNat + 1)) ∧
      RegsBut [R.TRN_FN_MIGRATE_SKIP fn] s t ∧ Only [.trn, .ops, .regs] s t := by
  have hput := sameButTables_putLeaf s fn e.gib e.page { l with prefer := false }
  have hrd : ∀ k, (s.putLeaf fn e.gib e.page { l with prefer := false }).rd k = s.rd k := hput.only.2 .regs (by decide)
  obtain ⟨htrn, honly, -⟩ := releaseFault_spec ((s.putLeaf fn e.gib e.page { l with prefer := false }).bump (R.TRN_FN_MIGRATE_SKIP fn)) e
  have hrd' := honly.2 .regs (by decide)
  refine ⟨_, exec_priRequest_skips he hl hst hp hc hlink hleaf hroom, ?_, ?_, ?_, fun k hk => ?_,
    ((hput.only.mono (by decide)).trans ((Only.of_wr ..).mono (by decide))).trans (honly.mono (by decide))⟩
  · simp only [Bool.and_eq_true, Bool.not_eq_true'] at hleaf
    rw [leafAt_releaseFault]
    refine (congrArg _ (leafAt_putLeaf_own ht hl (dec_enc fun h => ?_))).trans ?_
    · rw [hleaf.1.1] at h
      cases h
    · simp [hleaf]
  · exact (congrArg Trn.faults htrn).trans (congrArg (List.erase · e) hput.faults)
  · exact (hrd' _).trans ((State.rd_wr_self ..).trans (by rw [hrd]))
  · exact (hrd' k).trans ((State.rd_wr_ne _ _ (by simpa using hk)).trans (hrd k))

/-- R184: the page whose migration on fault starts is BUSY. -/
theorem priRequest_migrates {s : State} {fn va : Nat} {e : FaultQ} {l : Leaf} (he : s.faultAt fn va = some e) (hst : e.st = .queued)
    (hp : e.prefer = true) (hc : s.coreUp coreTrn = true) (hlink : s.linkUp = true) (ht : TablesFor s 1) (hl : s.leafAt fn e.gib e.page = some l)
    (hleaf : (l.host && l.prefer && !l.busy) = true) (hroom : s.migrateRoom fn e.gib = true) :
    ∃ t, exec (.priRequest fn va) s = .next t ∧
      (t.leafAt fn e.gib e.page).map (fun x => (x.host, x.read, x.write, x.shared, x.prefer, x.busy)) = some (true, l.read, l.write, l.shared, true, true) ∧
      t.trn.faults = s.trn.faults.map (fun x => if x = e then { x with st := .migrating } else x) ∧ Only [.trn] s t := by
  have hput := sameButTables_putLeaf s fn e.gib e.page { l with busy := true }
  refine ⟨_, exec_priRequest_migrates he hl hst hp hc hlink hleaf hroom, ?_, ?_, hput.only.trans (only_setFaultSt ..)⟩
  · simp only [Bool.and_eq_true, Bool.not_eq_true'] at hleaf
    refine (congrArg _ ((leafAt_congr (walk_congr_tables rfl rfl) ..).trans (leafAt_putLeaf_own ht hl (dec_enc fun h => ?_)))).trans ?_
    · rw [hleaf.1.1] at h
      cases h
    · simp [hleaf]
  · exact congrArg (List.map _) hput.faults

section
variable {s : State} {fn va : Nat} {e : FaultQ} (he : s.faultAt fn va = some e) (hst : e.st = .requested) (hc : s.coreUp coreTrn = true)
include he hst hc

theorem exec_priResponse (code : PriCode) :
    exec (.priResponse fn va code) s = .next (match code with
      | .success => s.releaseFault e
      | .invalid => s.failFault e 0x01
      | .failure => (s.setB (R.TRN_FN_STATUS fn) 2 true).failFault e 0x04) := by
  refine (show exec (.priResponse fn va code) s = execPriResponse fn va code s from rfl).trans ?_
  simp only [execPriResponse, State.priResponse, he, hst, hc]
  rfl

theorem exec_priTimeout : exec (.priTimeout fn va) s = .next ((s.setB (R.TRN_FN_STATUS fn) 2 true).failFault e 0x03) := by
  refine (show exec (.priTimeout fn va) s = execPriTimeout fn va s from rfl).trans ?_
  simp only [execPriTimeout, he, hst, hc]
  rfl

end

/-- Settles O29: clause by clause, from what a release and an end do to the accesses that wait, and from what a leaf that replaces a page's own reads back. -/
theorem pageRequests : Obligations.PageRequests := by
  refine ⟨fun s fn va e he hst hp hc hl => ?_, fun s fn va e l _ he hst hp hc hlink ht hl hleaf hroom => ?_,
    fun s fn va e l _ he hst hp hc hlink ht hl hleaf hroom => ?_, fun s fn va e he hst hc => ?_, fun s fn va e code _ he hst hc hw hcode => ?_,
    fun s fn va e code i o _ he hst hc hw hcode ho hcopy hissued hslot => ?_, fun s fn va code hc => ?_, fun s fn va e _ he hst hc hw => ?_,
    fun s fn va e l hv _ he hst hl hroom hsr ht => ?_⟩
  · exact ⟨_, exec_priRequest_asks he hst hp hc hl, rfl, rfl, ((only_setFaultSt ..).mono (by decide)).trans ((Only.of_out ..).mono (by decide))⟩
  · exact priRequest_skips he hst hp hc hlink ht hl hleaf hroom
  · exact priRequest_migrates he hst hp hc hlink ht hl hleaf hroom
  · obtain ⟨htrn, honly, hops⟩ := releaseFault_spec s e
    exact ⟨_, exec_priResponse he hst hc .success, htrn, hops, honly⟩
  · cases code with
    | success => exact absurd rfl hcode
    | invalid =>
      obtain ⟨htrn, hint, htells⟩ := failFault_remote_tells (s := s) hw 0x01 [R.TRN_FN_STATUS fn]
      exact ⟨_, exec_priResponse he hst hc .invalid, htrn, fun h => (by cases h), hint, htells⟩
    | failure =>
      obtain ⟨htrn, hfailed, hint, htells⟩ := failFault_remote_sets (s := s) hw fn 0x04
      exact ⟨_, exec_priResponse he hst hc .failure, htrn, fun _ => hfailed, hint, htells⟩
  · cases code with
    | success => exact absurd rfl hcode
    | invalid =>
      obtain ⟨hended, honly, hfaults⟩ := failFault_copy hw ho hcopy hissued hslot 0x01
      exact ⟨_, exec_priResponse he hst hc .invalid, hended, hfaults, honly.sameMem (by decide)⟩
    | failure =>
      obtain ⟨hended, honly, hfaults⟩ := failFault_copy (s := s.setB (R.TRN_FN_STATUS fn) 2 true) hw ho hcopy hissued hslot 0x04
      exact ⟨_, exec_priResponse he hst hc .failure, hended, hfaults, honly.sameMem (by decide)⟩
  · refine ⟨s.toInbox coreTrn (.pri fn va code), ?_, rfl, Only.of_toInbox ..⟩
    refine (show exec (.priResponse fn va code) s = execPriResponse fn va code s from rfl).trans ?_
    simp only [execPriResponse, hc]
    rfl
  · obtain ⟨htrn, hfailed, hint, htells⟩ := failFault_remote_sets (s := s) hw fn 0x03
    exact ⟨_, exec_priTimeout he hst hc, htrn, hfailed, hint, htells⟩
  · exact migrateOnFaultDone_moves he hl hst hroom hsr ht hv

end Sys2Proof.Machine
end

section
/-! PROOFS for the statements of 06_translation_and_instances about pages operated on one by one (O30): what setting one page leaves of the others
(`PageSet`), what holds while the pages of a range are set in ascending order (`PagesDone`), and the run over a range in which no page stops it
(`eachPage_ok`). -/

namespace Sys2Proof.Machine
open Sys2Proof

/-! ## One page set -/

/-- R169: the 32 MiB pages that lie in a 1 GiB page. -/
theorem part_lt {page i : Nat} (h : page * pageBytes true < 2 ^ 57) (hi : i < 32) : (32 * page + i) * pageBytes false < 2 ^ 57 := by
  have hpage : page < 2 ^ 27 := Nat.lt_of_mul_lt_mul_right (a := pageBytes true) h
  have hpart : 32 * page + i < 2 ^ 32 := by omega
  exact Nat.mul_lt_mul_of_pos_right hpart (pageBytes_pos false)

theorem part_div {page i : Nat} (hi : i < 32) : (32 * page + i) * pageBytes false / pageBytes true = page := by
  simp only [pageBytes, gib, mib32, if_true, Bool.false_eq_true, if_false, Nat.reducePow]
  omega

/-- The page tables differ in one page, which has the leaf x or none; at most four tables were taken for it. -/
structure PageSet (fn : Nat) (g : Bool) (page : Nat) (x : Option Leaf) (s t : State) : Prop where
  sound : PageTables.Sound t
  room : t.trn.nextTable ≤ s.trn.nextTable + 4
  walks : ∀ f va, t.walk f va = if f = fn ∧ SameRegion (leafLevel g) va (page * pageBytes g) then x.map (g, ·) else s.walk f va

theorem PageTables.Sound.congr {s t : State} (hr : t.trn.roots = s.trn.roots) (hp : t.trn.pt = s.trn.pt) (hn : t.trn.nextTable = s.trn.nextTable)
    (h : PageTables.Sound s) : PageTables.Sound t := by
  rw [← PageTables.wf_iff_sound] at *
  unfold PageTables.wf State.tablesNamed at *
  rwa [hr, hp, hn]

namespace PageSet
variable {fn page : Nat} {g : Bool} {x : Option Leaf} {s t u : State}

theorem putLeaf (hs : PageTables.Sound s) (hroom : s.trn.nextTable + 4 ≤ 2 ^ 39) {l l' : Leaf} (hdec : Leaf.dec l.enc = some l')
    (hfree : g = false → ∀ x, s.walk fn (page * pageBytes g) ≠ some (true, x)) : PageSet fn g page (some l') s (s.putLeaf fn g page l) :=
  have ⟨hsound, hnext, hwalk⟩ := putLeaf_spec hs hroom hdec hfree
  ⟨hsound, hnext, hwalk⟩

theorem delLeaf (hs : PageTables.Sound s) {l : Leaf} (hl : s.leafAt fn g page = some l) : PageSet fn g page none s (s.delLeaf fn g page) :=
  have ⟨hsound, hnext, hwalk⟩ := delLeaf_of_walk hs (leafAt_eq_some_iff.1 hl)
  ⟨hsound, by omega, hwalk⟩

/-- A page left as it is. -/
theorem own (hs : PageTables.Sound s) {l : Leaf} (hl : s.leafAt fn g page = some l) : PageSet fn g page (some l) s s := by
  refine ⟨hs, by omega, fun f va => ?_⟩
  split
  · next h =>
    obtain ⟨rfl, hregion⟩ := h
    rw [walk_eq_some_iff.2 ((leafIn_congr_va hregion).trans (walk_eq_some_iff.1 (leafAt_eq_some_iff.1 hl)))]
    rfl
  · rfl

theorem congr (h : PageSet fn g page x s t) (hr : u.trn.roots = t.trn.roots) (hp : u.trn.pt = t.trn.pt) (hn : u.trn.nextTable = t.trn.nextTable) :
    PageSet fn g page x s u :=
  ⟨h.sound.congr hr hp hn, hn ▸ h.room, fun f va => (walk_congr_tables hr hp f va).trans (h.walks f va)⟩

theorem of_trn_eq (h : PageSet fn g page x s t) (hs : s.trn = u.trn) : PageSet fn g page x u t :=
  ⟨h.sound, hs ▸ h.room, fun f va => (h.walks f va).trans (by rw [walk_of_trn_eq hs])⟩

theorem leafAt_self (h : PageSet fn g page x s t) : t.leafAt fn g page = x := by
  have hwalk : t.walk fn (page * pageBytes g) = x.map (g, ·) := (h.walks ..).trans (if_pos ⟨rfl, fun _ _ => rfl⟩)
  cases x with
  | none => exact leafAt_eq_none_iff.2 fun l hl => by rw [hwalk] at hl; cases hl
  | some l => exact leafAt_eq_some_iff.2 hwalk

section
variable {page' : Nat} (hpage : page * pageBytes g < 2 ^ 57) (hpage' : page' * pageBytes g < 2 ^ 57) (hne : page' ≠ page)
include hpage hpage' hne

theorem leafAt_ne (h : PageSet fn g page x s t) : t.leafAt fn g page' = s.leafAt fn g page' := by
  have hwalk : t.walk fn (page' * pageBytes g) = s.walk fn (page' * pageBytes g) := by
    refine (h.walks ..).trans (if_neg fun hr => hne ?_)
    have hdiv := (sameRegion_iff hpage' hpage).1 hr.2
    rwa [page_div, page_div] at hdiv
  unfold State.leafAt
  rw [hwalk]

/-- R171: setting a page makes no page of the other size that covers, or lies in, another page. -/
theorem otherSize_ne (h : PageSet fn g page x s t) (ho : s.otherSize fn g page' = false) : t.otherSize fn g page' = false := by
  cases g with
  | true =>
    simp only [State.otherSize, if_true, List.any_eq_false, List.mem_range, Option.isSome_iff_ne_none, ne_eq, not_not, leafAt_eq_none_iff] at ho ⊢
    intro i hi l hl
    refine ho i hi l ?_
    rw [← hl, h.walks]
    refine (if_neg fun hr => hne ?_).symm
    have hdiv := (sameRegion_iff (part_lt hpage' hi) hpage).1 hr.2
    rwa [part_div hi, page_div] at hdiv
  | false =>
    simp only [State.otherSize, Bool.false_eq_true, if_false, Option.isSome_eq_false_iff, Option.isNone_iff_eq_none, leafAt_eq_none_iff] at ho ⊢
    intro l hl
    rw [h.walks] at hl
    split at hl
    · obtain ⟨y, -, hy⟩ := Option.map_eq_some_iff.1 hl
      cases hy
    · exact ho l hl

end

end PageSet

/-! ## The pages of a range -/

theorem pageReason_mapped_iff {s : State} {fn page : Nat} {g : Bool} :
    s.pageReason fn g page true = 0 ↔ s.otherSize fn g page = false ∧ ∃ l, s.leafAt fn g page = some l := by
  unfold State.pageReason
  cases s.otherSize fn g page <;> cases s.leafAt fn g page <;> simp

theorem pageReason_unmapped_iff {s : State} {fn page : Nat} {g : Bool} :
    s.pageReason fn g page false = 0 ↔ s.otherSize fn g page = false ∧ s.leafAt fn g page = none := by
  unfold State.pageReason
  cases s.otherSize fn g page <;> cases s.leafAt fn g page <;> simp

/-- R167, R186: the pages of a range that is not INVALID lie below 2^57. -/
theorem page_lt_of_bad {a : MmArgs} {needLoc needAdvice : Bool} (h : a.bad needLoc needAdvice = none) {i : Nat} (hi : i < a.count) :
    (a.page + i) * pageBytes a.g < 2 ^ 57 := by
  unfold MmArgs.bad at h
  split at h
  · cases h
  · next h1 =>
    split at h
    · cases h
    · next h2 =>
      simp only [Bool.or_eq_true, decide_eq_true_eq, not_or, not_not, Nat.not_le, Nat.not_lt] at h1 h2
      obtain ⟨-, halign⟩ := h1
      have hpage : a.page * pageBytes a.g = a.addr := Nat.div_mul_cancel (Nat.dvd_of_mod_eq_zero halign)
      have hlt : (i + 1) * pageBytes a.g ≤ a.count * pageBytes a.g := Nat.mul_le_mul_right _ hi
      have hpos := pageBytes_pos a.g
      rw [Nat.add_mul] at hlt ⊢
      omega

/-- What a page operation can change beside what is told. -/
def paging : List Field := telling ++ [.trn]

/-- The first i pages of a range are done: each has the leaf that D asks for. The other pages are as they were, and tables enough are left for them. -/
structure PagesDone (s : State) (fn : Nat) (a : MmArgs) (D : Nat → Option Leaf → Prop) (i : Nat) (u : State) : Prop where
  sound : PageTables.Sound u
  room : u.trn.nextTable + 4 * (a.count - i) < 2 ^ 39
  only : Only paging s u
  done : ∀ j < i, D j (u.leafAt fn a.g (a.page + j))
  left : ∀ j, i ≤ j → j < a.count → u.leafAt fn a.g (a.page + j) = s.leafAt fn a.g (a.page + j)
  sizes : ∀ j, i ≤ j → j < a.count → u.otherSize fn a.g (a.page + j) = false

namespace PagesDone
variable {s u t : State} {fn i : Nat} {a : MmArgs} {D : Nat → Option Leaf → Prop} {x : Option Leaf}

theorem start (ht : TablesFor s a.count) (hsizes : ∀ j < a.count, s.otherSize fn a.g (a.page + j) = false) : PagesDone s fn a D 0 s :=
  ⟨PageTables.wf_iff_sound.1 ht.1, ht.2, Only.refl _ s, fun _ h => absurd h (Nat.not_lt_zero _), fun _ _ _ => rfl, fun j _ => hsizes j⟩

theorem room_one (h : PagesDone s fn a D i u) (hi : i < a.count) : u.trn.nextTable + 4 ≤ 2 ^ 39 := by
  have := h.room
  omega

/-- The next page is set. -/
theorem step (hrange : ∀ j < a.count, (a.page + j) * pageBytes a.g < 2 ^ 57) (h : PagesDone s fn a D i u) (hi : i < a.count)
    (hset : PageSet fn a.g (a.page + i) x u t) (honly : Only paging u t) (hx : D i x) : PagesDone s fn a D (i + 1) t := by
  have hne : ∀ {j}, j ≠ i → a.page + j ≠ a.page + i := fun h hj => h (by omega)
  have hleaf : ∀ {j}, j < a.count → j ≠ i → t.leafAt fn a.g (a.page + j) = u.leafAt fn a.g (a.page + j) := fun hj hji =>
    hset.leafAt_ne (hrange _ hi) (hrange _ hj) (hne hji)
  refine ⟨hset.sound, ?_, h.only.trans honly, fun j hj => ?_, fun j hj hlt => ?_, fun j hj hlt => ?_⟩
  · have := h.room
    have := hset.room
    omega
  · rcases Nat.lt_succ_iff_lt_or_eq.1 hj with hj | rfl
    · rw [hleaf (by omega) (by omega)]
      exact h.done j hj
    · rwa [hset.leafAt_self]
  · rw [hleaf hlt (by omega)]
    exact h.left j (by omega) hlt
  · exact hset.otherSize_ne (hrange _ hi) (hrange _ hlt) (hne (by omega)) (h.sizes j (by omega) hlt)

end PagesDone

/-- R187: where no page of the range stops it, an operation does them all. -/
theorem eachPage_ok {f : State → Nat → State × Nat} {I : Nat → State → Prop} {page n : Nat}
    (hstep : ∀ i < n, ∀ u, I i u → ∃ t, f u (page + i) = (t, 0) ∧ I (i + 1) t) {s : State} (h : I 0 s) :
    ∃ t, State.eachPage f s page n 0 = (t, n, 0) ∧ I n t := by
  suffices hfrom : ∀ m k, k + m = n → ∀ s, I k s → ∃ t, State.eachPage f s (page + k) m k = (t, n, 0) ∧ I n t from hfrom n 0 (Nat.zero_add n) s h
  intro m
  induction m with
  | zero =>
    rintro k rfl s h
    exact ⟨s, rfl, h⟩
  | succ m ih =>
    intro k hk s h
    obtain ⟨t, hf, ht⟩ := hstep k (by omega) s h
    obtain ⟨u, hu, hdone⟩ := ih (k + 1) (by omega) t ht
    exact ⟨u, by rw [State.eachPage, hf]; exact hu, hdone⟩

end Sys2Proof.Machine
end

section
/-! PROOFS of the statements of 06_translation_and_instances: memory management (O30). Each operation sets a page (`sets_mapPage`, `sets_unmapPage`,
`sets_protectPage`, `sets_advisePage`), so that it sets every page of its range (`eachPage_sets`); ADVISE 2 and 3 leave the tables; a page that MIGRATE moves
is a HOST page. -/

namespace Sys2Proof.Machine
open Sys2Proof

/-! ## An operation that sets every page of its range -/

theorem pageReason_congr {s t : State} (h : ∀ f va, t.walk f va = s.walk f va) (fn : Nat) (g : Bool) (page : Nat) (w : Bool) :
    t.pageReason fn g page w = s.pageReason fn g page w := by
  have hother : t.otherSize fn g page = s.otherSize fn g page := by simp only [State.otherSize, leafAt_congr h]
  unfold State.pageReason
  rw [hother, leafAt_congr h]

theorem otherSize_of_pageReason {s : State} {fn page : Nat} {g w : Bool} (h : s.pageReason fn g page w = 0) : s.otherSize fn g page = false := by
  cases w with
  | true => exact (pageReason_mapped_iff.1 h).1
  | false => exact (pageReason_unmapped_iff.1 h).1

/-- A step f of an operation sets each page i of the range to what D asks for, in every state in which that page is as in s. -/
def SetsPage (s : State) (fn : Nat) (a : MmArgs) (want : Bool) (D : Nat → Option Leaf → Prop) (f : State → Nat → State × Nat) : Prop :=
  ∀ i < a.count, ∀ u, PageTables.Sound u → u.trn.nextTable + 4 ≤ 2 ^ 39 → u.pageReason fn a.g (a.page + i) want = 0 →
    u.leafAt fn a.g (a.page + i) = s.leafAt fn a.g (a.page + i) →
    ∃ t x, f u (a.page + i) = (t, 0) ∧ PageSet fn a.g (a.page + i) x u t ∧ Only paging u t ∧ D i x

/-- A range that is not INVALID, each page of which an operation can process, with tables enough for them. -/
structure RangeReady (s : State) (fn : Nat) (a : MmArgs) (want : Bool) : Prop where
  tables : TablesFor s a.count
  range : ∀ i < a.count, (a.page + i) * pageBytes a.g < 2 ^ 57
  pages : ∀ i < a.count, s.pageReason fn a.g (a.page + i) want = 0

theorem RangeReady.congr {s t : State} {fn : Nat} {a : MmArgs} {want : Bool} (h : RangeReady s fn a want) (ht : t.trn = s.trn) : RangeReady t fn a want :=
  ⟨h.tables.congr ht, h.range, fun i hi => (pageReason_congr (walk_of_trn_eq ht) ..).trans (h.pages i hi)⟩

/-- A page that still has the leaf it had can still be processed. -/
theorem PagesDone.pageReason {s u : State} {fn i : Nat} {a : MmArgs} {D : Nat → Option Leaf → Prop} {want : Bool} (h : PagesDone s fn a D i u)
    (hi : i < a.count) (hs : s.pageReason fn a.g (a.page + i) want = 0) : u.pageReason fn a.g (a.page + i) want = 0 := by
  have hsize := h.sizes i le_rfl hi
  have hleaf := h.left i le_rfl hi
  cases want with
  | true => exact pageReason_mapped_iff.2 ⟨hsize, hleaf ▸ (pageReason_mapped_iff.1 hs).2⟩
  | false => exact pageReason_unmapped_iff.2 ⟨hsize, hleaf.trans (pageReason_unmapped_iff.1 hs).2⟩

theorem RangeReady.start {s : State} {fn : Nat} {a : MmArgs} {want : Bool} (h : RangeReady s fn a want) (D : Nat → Option Leaf → Prop) :
    PagesDone s fn a D 0 s :=
  .start h.tables fun i hi => otherSize_of_pageReason (h.pages i hi)

/-- R187: the operation sets every page of the range. -/
theorem eachPage_sets {s : State} {fn : Nat} {a : MmArgs} {want : Bool} {D : Nat → Option Leaf → Prop} {f : State → Nat → State × Nat}
    (hr : RangeReady s fn a want) (hf : SetsPage s fn a want D f) :
    ∃ t, State.eachPage f s a.page a.count 0 = (t, a.count, 0) ∧ Only paging s t ∧ ∀ i < a.count, D i (t.leafAt fn a.g (a.page + i)) := by
  obtain ⟨t, hx, hdone⟩ := eachPage_ok (I := PagesDone s fn a D) (fun i hi u hu => by
    obtain ⟨t, x, hft, hset, honly, hx⟩ := hf i hi u hu.sound (hu.room_one hi) (hu.pageReason hi (hr.pages i hi)) (hu.left i le_rfl hi)
    exact ⟨t, hft, hu.step hr.range hi hset honly hx⟩) (hr.start D)
  exact ⟨t, hx, hdone.only, hdone.done⟩

/-! ## The end of a page operation (R187) -/

theorem mmFinish_ok (s : State) (i n : Nat) : s.mmFinish i n 0 = s.finishOp i stOK n := rfl

/-- An operation that has changed only pages ends. -/
theorem ended_of_paging {s t : State} {op : Nat} {o : Op} (ho : s.op? op = some o) (hissued : o.issued = false) (h : Only paging s t) (n : Nat) :
    Ended (t.finishOp op stOK n) op stOK n ∧ SameMem s (t.finishOp op stOK n) ∧ (t.finishOp op stOK n).trn = t.trn := by
  have hfinish := only_finishOp t op stOK n
  have hop : t.op? op = some o := (congrArg (Tab.look · op) (h.ops_eq (by decide))).trans ho
  exact ⟨ended_finishOp hop hissued .., fun p => (hfinish.sameMem (by decide) p).trans (h.sameMem (by decide) p), hfinish.trn_eq (by decide)⟩

theorem told_traceStart (s : State) (o : Op) (n : Nat) : Told s (s.traceStart o n) := Told.trace ..

theorem mmRun_eq {s : State} {op : Nat} {o : Op} {needLoc needAdvice : Bool} (hbad : (mmArgs o.desc).bad needLoc needAdvice = none)
    {f : MmArgs → State → Nat → State × Nat} {t : State} {n : Nat}
    (h : State.eachPage (f (mmArgs o.desc)) (s.traceStart o 0) (mmArgs o.desc).page (mmArgs o.desc).count 0 = (t, n, 0)) :
    s.mmRun op o needLoc needAdvice f = t.finishOp op stOK n := by
  rw [State.mmRun, hbad]
  simp only [h, mmFinish_ok]

/-- An operation that sets pages in one step has set them all, and ends. -/
theorem mmRun_sets {s : State} {op : Nat} {o : Op} (ho : s.op? op = some o) (hissued : o.issued = false) {needLoc needAdvice want : Bool}
    (hbad : (mmArgs o.desc).bad needLoc needAdvice = none) (hr : RangeReady s o.fn (mmArgs o.desc) want) {D : Nat → Option Leaf → Prop}
    {f : MmArgs → State → Nat → State × Nat} (hf : SetsPage s o.fn (mmArgs o.desc) want D (f (mmArgs o.desc))) :
    let t := s.mmRun op o needLoc needAdvice f
    (∀ i < (mmArgs o.desc).count, D i (t.leafAt o.fn (mmArgs o.desc).g ((mmArgs o.desc).page + i))) ∧ Ended t op stOK (mmArgs o.desc).count ∧
      SameMem s t := by
  have htold := told_traceStart s o 0
  obtain ⟨t, hx, honly, hdone⟩ := eachPage_sets (hr.congr htold.trn_eq) fun i hi u hs hroom hreason hleaf =>
    hf i hi u hs hroom hreason (hleaf.trans (leafAt_congr (walk_of_trn_eq htold.trn_eq) ..))
  obtain ⟨hended, hmem, htrn⟩ := ended_of_paging ho hissued ((htold.1.mono (by decide)).trans honly) (mmArgs o.desc).count
  rw [mmRun_eq hbad hx]
  exact ⟨fun i hi => leafAt_congr (walk_of_trn_eq htrn) .. ▸ hdone i hi, hended, hmem⟩

/-! ## What each operation sets -/

theorem only_putLeaf (s : State) (fn : Nat) (g : Bool) (page : Nat) (l : Leaf) : Only paging s (s.putLeaf fn g page l) :=
  (sameButTables_putLeaf ..).only.mono (by decide)

theorem only_tlbDrop (s : State) (fn : Nat) (g : Bool) (page : Nat) : Only paging s (s.tlbDrop fn g page) := (Only.of_trn ..).mono (by decide)

/-- A leaf written in place of a page's own. -/
theorem PageSet.putLeaf_own {s : State} {fn page : Nat} {g : Bool} {l l₀ l' : Leaf} (hs : PageTables.Sound s) (hroom : s.trn.nextTable + 4 ≤ 2 ^ 39)
    (h : s.leafAt fn g page = some l₀) (hdec : Leaf.dec l.enc = some l') : PageSet fn g page (some l') s (s.putLeaf fn g page l) :=
  .putLeaf hs hroom hdec (walk_ne_gib_of_leafAt h)

/-- A leaf written in place of a page's own, with the page's TLB entries dropped. -/
theorem PageSet.replace {s : State} {fn page : Nat} {g : Bool} {l l₀ : Leaf} (hs : PageTables.Sound s) (hroom : s.trn.nextTable + 4 ≤ 2 ^ 39)
    (h : s.leafAt fn g page = some l₀) (ha : FrameAddress l.addr) :
    PageSet fn g page (some { l with addr := if l.host then 0 else l.addr }) s ((s.putLeaf fn g page l).tlbDrop fn g page) ∧
      Only paging s ((s.putLeaf fn g page l).tlbDrop fn g page) :=
  ⟨(PageSet.putLeaf_own hs hroom h (dec_enc fun _ => ha)).congr rfl rfl rfl, (only_putLeaf ..).trans (only_tlbDrop ..)⟩

/-- The lines of a page written back first, where they have to be. -/
def State.flushedIf (s : State) (c : Bool) (fn : Nat) (g : Bool) (page : Nat) : State :=
  if c then s.ccFlushRange fn (page * pageBytes g) (pageBytes g) else s

theorem only_flushedIf (s : State) (c : Bool) (fn : Nat) (g : Bool) (page : Nat) : Only telling s (s.flushedIf c fn g page) :=
  (only_ccFlushRange ..).if (Only.refl _ s)

theorem trn_flushedIf (s : State) (c : Bool) (fn : Nat) (g : Bool) (page : Nat) : (s.flushedIf c fn g page).trn = s.trn :=
  (only_flushedIf ..).trn_eq (by decide)

theorem leafAt_flushedIf (s : State) (c : Bool) (fn : Nat) (g : Bool) (page : Nat) : (s.flushedIf c fn g page).leafAt fn g page = s.leafAt fn g page :=
  leafAt_congr (walk_of_trn_eq (trn_flushedIf ..)) ..

theorem sound_of_trn_eq {s t : State} (h : t.trn = s.trn) (hs : PageTables.Sound s) : PageTables.Sound t := hs.congr (by rw [h]) (by rw [h]) (by rw [h])

section
variable {s : State} {fn : Nat} {a : MmArgs}

/-- R188: MAP to HOST. -/
theorem sets_mapPage (hloc : a.loc = 2) :
    SetsPage s fn a false (fun _ x => x = some ⟨true, a.read, a.write, a.bias, false, false, 0⟩) fun s p => s.mapPage fn a p := by
  intro i _ u hs hroom hreason _
  refine ⟨_, _, ?_, .putLeaf hs hroom (dec_enc_host a.read a.write a.bias false false 0) (walk_ne_gib_of_otherSize (otherSize_of_pageReason hreason)),
    only_putLeaf .., rfl⟩
  simp [State.mapPage, hreason, hloc]

/-- R190: PROTECT. -/
theorem sets_protectPage :
    SetsPage s fn a true (fun _ x => x.map (fun l => (l.read, l.write)) = some (a.read, a.write)) fun s p => s.protectPage fn a p := by
  intro i _ u hs hroom hreason _
  obtain ⟨l, hl⟩ := (pageReason_mapped_iff.1 hreason).2
  have haddr := frameAddress_of_leafAt hl
  have hx : u.protectPage fn a (a.page + i) =
      (((u.flushedIf (l.host && l.shared && !a.bias) fn a.g (a.page + i)).putLeaf fn a.g (a.page + i)
        { l with read := a.read, write := a.write, shared := if l.host then a.bias else l.shared }).tlbDrop fn a.g (a.page + i), 0) := by
    simp only [State.protectPage, hreason, hl]
    rfl
  have htrn := trn_flushedIf u (l.host && l.shared && !a.bias) fn a.g (a.page + i)
  obtain ⟨hset, hreplace⟩ := PageSet.replace (l := { l with read := a.read, write := a.write, shared := if l.host then a.bias else l.shared })
    (sound_of_trn_eq htrn hs) (htrn ▸ hroom) ((leafAt_flushedIf ..).trans hl) haddr
  exact ⟨_, _, hx, hset.of_trn_eq htrn, ((only_flushedIf ..).mono (by decide)).trans hreplace, rfl⟩

/-- R192: ADVISE 0 and 1. -/
theorem sets_advisePage (hadvice : a.advice < 2) (ats : Bool) :
    SetsPage s fn a true (fun i x => x.map (fun l => l.prefer) =
      (s.leafAt fn a.g (a.page + i)).map (fun l => if a.advice = 0 then false else l.host || l.prefer)) fun s p => s.advisePage fn a ats p := by
  intro i _ u hs hroom hreason hleaf
  obtain ⟨l, hl⟩ := (pageReason_mapped_iff.1 hreason).2
  have haddr := frameAddress_of_leafAt hl
  have hprefer : ∀ b, PageSet fn a.g (a.page + i) (some { l with prefer := b, addr := if l.host then 0 else l.addr }) u
      ((u.putLeaf fn a.g (a.page + i) { l with prefer := b }).tlbDrop fn a.g (a.page + i)) ∧
      Only paging u ((u.putLeaf fn a.g (a.page + i) { l with prefer := b }).tlbDrop fn a.g (a.page + i)) :=
    fun b => PageSet.replace (l := { l with prefer := b }) hs hroom hl haddr
  simp only [← hleaf, hl, State.advisePage, hreason]
  by_cases h0 : a.advice = 0
  · obtain ⟨hset, honly⟩ := hprefer false
    exact ⟨_, _, by simp [h0], hset, honly, by simp [h0]⟩
  · have h1 : a.advice = 1 := by omega
    cases hhost : l.host with
    | true =>
      obtain ⟨hset, honly⟩ := hprefer true
      exact ⟨_, _, by simp [h1, hhost], hset, honly, by simp [h1, hhost]⟩
    | false => exact ⟨u, _, by simp [h1], .own hs hl, Only.refl _ u, by simp [h1, hhost]⟩

/-- The pages that an UNMAP marks are listed. -/
def State.withUnmapping (s : State) (l : List Nat) : State := { s with trn := { s.trn with unmapping := l } }

theorem only_withUnmapping (s : State) (l : List Nat) : Only paging s (s.withUnmapping l) := (Only.of_trn ..).mono (by decide)

/-- R189: UNMAP marks its pages. -/
def markUnmapping (fn : Nat) (a : MmArgs) (s : State) (p : Nat) : State × Nat :=
  let r := s.pageReason fn a.g p true
  match r, s.leafAt fn a.g p with
  | 0, some l =>
    let s := s.putLeaf fn a.g p { l with busy := true }
    ({ s with trn := { s.trn with unmapping := s.trn.unmapping ++ [ptKey fn a.g p] } }, 0)
  | 0, none => (s, 4)
  | r, _ => (s, r)

theorem sets_markUnmapping : SetsPage s fn a true (fun _ x => x.map (fun l => l.busy) = some true) (markUnmapping fn a) := by
  intro i _ u hs hroom hreason _
  obtain ⟨l, hl⟩ := (pageReason_mapped_iff.1 hreason).2
  have haddr := frameAddress_of_leafAt hl
  have hx : markUnmapping fn a u (a.page + i) =
      (let t := u.putLeaf fn a.g (a.page + i) { l with busy := true }
      t.withUnmapping (t.trn.unmapping ++ [ptKey fn a.g (a.page + i)]), 0) := by
    simp only [markUnmapping, hreason, hl]
    rfl
  have hset := PageSet.putLeaf_own hs hroom hl (dec_enc (l := { l with busy := true }) fun _ => haddr)
  exact ⟨_, _, hx, hset.congr rfl rfl rfl, (only_putLeaf u fn a.g (a.page + i) { l with busy := true }).trans (only_withUnmapping ..), rfl⟩

/-- R189: UNMAP removes its pages. -/
theorem sets_unmapPage : SetsPage s fn a true (fun _ x => x = none) fun s p => s.unmapPage fn a p := by
  intro i _ u hs _ hreason _
  obtain ⟨l, hl⟩ := (pageReason_mapped_iff.1 hreason).2
  let flushed := u.flushedIf (l.host && l.shared) fn a.g (a.page + i)
  have htrn : flushed.trn = u.trn := trn_flushedIf ..
  have hx : u.unmapPage fn a (a.page + i) =
      (let t := (flushed.delLeaf fn a.g (a.page + i)).tlbDrop fn a.g (a.page + i)
      t.withUnmapping (t.trn.unmapping.filter (· ≠ ptKey fn a.g (a.page + i))), 0) := by
    simp only [State.unmapPage, hreason, hl, ne_eq, not_true_eq_false, if_false]
    rfl
  have hset : PageSet fn a.g (a.page + i) none flushed _ := .delLeaf (sound_of_trn_eq htrn hs) ((leafAt_flushedIf ..).trans hl)
  have hflushed : Only paging u flushed := (only_flushedIf ..).mono (by decide)
  have hdel : Only paging flushed (flushed.delLeaf fn a.g (a.page + i)) := (sameButTables_delLeaf ..).only.mono (by decide)
  exact ⟨_, _, hx, (hset.of_trn_eq htrn).congr rfl rfl rfl,
    ((hflushed.trans hdel).trans (only_tlbDrop _ fn a.g (a.page + i))).trans (only_withUnmapping ..), rfl⟩

end

/-! ## ADVISE 2 and 3 (R192) -/

/-- The page tables are as they were. -/
def TablesKept (s t : State) : Prop := t.trn.pt = s.trn.pt ∧ t.trn.roots = s.trn.roots ∧ Only paging s t

theorem TablesKept.trans {s t u : State} (h : TablesKept s t) (h' : TablesKept t u) : TablesKept s u :=
  ⟨h'.1.trans h.1, h'.2.1.trans h.2.1, h.2.2.trans h'.2.2⟩

theorem tablesKept_tlbPut (s : State) (e : TlbEntry) : TablesKept s (s.tlbPut e) := by
  refine ⟨?_, ?_, (only_tlbPut s e).mono (by decide)⟩
  all_goals
    unfold State.tlbPut
    extract_lets rest u
    split
    · rfl
    · split <;> rfl

theorem tablesKept_tlbFill (s : State) (fn va : Nat) (t : TlbTarget) : TablesKept s (s.tlbFill fn va t) := by
  unfold State.tlbFill
  split
  exacts [⟨rfl, rfl, Only.refl _ s⟩, tablesKept_tlbPut ..]

theorem tablesKept_willUseHost (s : State) (fn va : Nat) (ats : Bool) : TablesKept s (s.willUseHost fn va ats) := by
  unfold State.willUseHost
  split
  · exact tablesKept_tlbFill ..
  · split
    · exact ⟨rfl, rfl, Only.refl _ s⟩
    · extract_lets m x u
      have hu : TablesKept s u := by
        simp only [u]
        split
        exacts [⟨rfl, rfl, Only.refl _ s⟩, ⟨rfl, rfl, (Only.of_trn ..).mono (by decide)⟩]
      exact hu.trans ⟨rfl, rfl, (Told.emit u _).1.mono (by decide)⟩

/-- No entry of the TLB is new, and those of the first i pages are gone. -/
def EntriesDropped (s : State) (fn : Nat) (a : MmArgs) (i : Nat) (u : State) : Prop :=
  ∀ e ∈ u.trn.tlb, e ∈ s.trn.tlb ∧ ∀ j < i, e.key ≠ ptKey fn a.g (a.page + j)

/-- R192: a page that will be used soon is entered into the TLB, one that will not leaves it. -/
theorem advisePage_keeps {s u : State} {fn i : Nat} {a : MmArgs} {ats : Bool} (hadvice : a.advice = 2 ∨ a.advice = 3)
    (hreason : u.pageReason fn a.g (a.page + i) true = 0) (hdrop : a.advice = 3 → EntriesDropped s fn a i u) :
    ∃ t, u.advisePage fn a ats (a.page + i) = (t, 0) ∧ TablesKept u t ∧ (a.advice = 3 → EntriesDropped s fn a (i + 1) t) := by
  obtain ⟨l, hl⟩ := (pageReason_mapped_iff.1 hreason).2
  simp only [State.advisePage, hreason, hl]
  rcases hadvice with h2 | h3
  · cases l.host with
    | true => exact ⟨u.willUseHost fn ((a.page + i) * pageBytes a.g) ats, by simp [h2], tablesKept_willUseHost .., fun h => by omega⟩
    | false => exact ⟨u.tlbFill fn ((a.page + i) * pageBytes a.g) (.device l.addr), by simp [h2], tablesKept_tlbFill .., fun h => by omega⟩
  · refine ⟨u.tlbDrop fn a.g (a.page + i), by simp [h3], ⟨rfl, rfl, only_tlbDrop ..⟩, fun _ e he => ?_⟩
    obtain ⟨hmem, hkey⟩ := List.mem_filter.1 he
    obtain ⟨hs, hold⟩ := hdrop h3 e hmem
    refine ⟨hs, fun j hj => ?_⟩
    rcases Nat.lt_succ_iff_lt_or_eq.1 hj with hj | rfl
    · exact hold j hj
    · simpa using hkey

theorem mmRun_keeps {s : State} {op : Nat} {o : Op} {ats : Bool} (hbad : (mmArgs o.desc).bad false true = none)
    (hpages : ∀ i < (mmArgs o.desc).count, s.pageReason o.fn (mmArgs o.desc).g ((mmArgs o.desc).page + i) true = 0)
    (hadvice : (mmArgs o.desc).advice = 2 ∨ (mmArgs o.desc).advice = 3) :
    ∃ t, s.mmRun op o false true (fun a s p => s.advisePage o.fn a ats p) = t.finishOp op stOK (mmArgs o.desc).count ∧ TablesKept s t ∧
      ((mmArgs o.desc).advice = 3 → EntriesDropped s o.fn (mmArgs o.desc) (mmArgs o.desc).count t) := by
  have htold := told_traceStart s o 0
  have hstart : TablesKept s (s.traceStart o 0) := ⟨by rw [htold.trn_eq], by rw [htold.trn_eq], htold.1.mono (by decide)⟩
  obtain ⟨t, hx, hkept, hdrop⟩ := eachPage_ok (f := fun s p => s.advisePage o.fn (mmArgs o.desc) ats p) (page := (mmArgs o.desc).page)
    (I := fun i u => TablesKept s u ∧ ((mmArgs o.desc).advice = 3 → EntriesDropped s o.fn (mmArgs o.desc) i u))
    (fun i hi u ⟨hkept, hdrop⟩ => by
      have hreason := (pageReason_congr (walk_congr_tables hkept.2.1 hkept.1) ..).trans (hpages i hi)
      obtain ⟨t, hx, hkept', hdrop'⟩ := advisePage_keeps (ats := ats) hadvice hreason hdrop
      exact ⟨t, hx, hkept.trans hkept', hdrop'⟩)
    ⟨hstart, fun _ e he => ⟨htold.trn_eq ▸ he, fun j hj => absurd hj (Nat.not_lt_zero _)⟩⟩
  exact ⟨t, mmRun_eq hbad hx, hkept, hdrop⟩

/-! ## MAP to DEVICE (R188) -/

/-- A channel's state is not one of the registers that a trace record changes. -/
theorem anyFailed_traceStart (s : State) (o : Op) (n : Nat) : (s.traceStart o n).anyFailed = s.anyFailed := by
  have hstate : ∀ c ∈ List.range 80, (s.traceStart o n).chanState c = s.chanState c := fun c hc => by
    have hkey : tellKey (R.MEM_CHAN_STATE (c / 4)) = false := by
      revert c
      decide +kernel
    exact congrArg (fld · _ 4) ((told_traceStart s o n).2 _ hkey)
  rw [Bool.eq_iff_iff]
  simp only [State.anyFailed, List.any_eq_true, decide_eq_true_eq]
  exact exists_congr fun c => and_congr_right fun hc => by rw [hstate c hc]

theorem leavesBelow_congr {s t : State} (h : t.trn = s.trn) (n lvl x : Nat) : t.leavesBelow n lvl x = s.leavesBelow n lvl x := by
  induction n generalizing lvl x with
  | zero => rfl
  | succ n ih => simp only [State.leavesBelow, h, ih]

theorem leavesOf_congr {s t : State} (h : t.trn = s.trn) (fn : Nat) : t.leavesOf fn = s.leavesOf fn := by
  unfold State.leavesOf
  rw [h]
  split
  exacts [leavesBelow_congr h .., rfl]

theorem framesFree_congr {s t : State} (h : t.trn = s.trn) (g : Bool) : t.framesFree g = s.framesFree g := by
  have hused : t.framesUsed = s.framesUsed := by simp only [State.framesUsed, leavesOf_congr h, h]
  simp only [State.framesFree, hused]

theorem migrateRoom_congr {s t : State} (h : Told s t) (fn : Nat) (g : Bool) : t.migrateRoom fn g = s.migrateRoom fn g := by
  have hquota : t.rd (R.TRN_FN_MEM_QUOTA fn) = s.rd (R.TRN_FN_MEM_QUOTA fn) := h.2 _ (tellKey_trn fn (by decide) (by decide))
  have hused : t.memUsed fn = s.memUsed fn := by simp only [State.memUsed, leavesOf_congr h.trn_eq]
  unfold State.migrateRoom State.getF
  rw [hquota, hused, framesFree_congr h.trn_eq]

/-- A frame taken, filled with zero by whole bursts. -/
def State.frameZeroed (s : State) (g : Bool) (p : Nat) : State :=
  (({ s with freeCtr := s.freeCtr + 1 } : State).zeroRange p (pageBytes g)).pageWritten 0 p (pageBytes g)

/-- What MAP to DEVICE can change beside the end of its descriptor. -/
def filling : List Field := telling ++ [.trn, .mem, .msys, .freeCtr]

theorem only_frameZeroed (s : State) (g : Bool) (p : Nat) : Only (telling ++ [.mem, .msys, .freeCtr]) s (s.frameZeroed g p) :=
  (((Only.of_freeCtr ..).mono (by decide)).trans ((Only.of_mem_msys ..).mono (by decide))).trans ((only_pageWritten ..).mono (by decide))

theorem dram_frameZeroed {s : State} (h : s.dramInit = true) (g : Bool) (p q : Nat) :
    (s.frameZeroed g p).dram q = if p ≤ q ∧ q < p + pageBytes g then 0 else s.dram q :=
  ((only_pageWritten ..).sameMem (by decide) q).trans (State.dram_zeroRange { s with freeCtr := s.freeCtr + 1 } p (pageBytes g) q h)

/-- The page has a frame that was free, which reads zero. -/
theorem mapPage_device {s : State} {fn page : Nat} {a : MmArgs} (hloc : a.loc = 1) (ht : TablesFor s 1) (hreason : s.pageReason fn a.g page false = 0)
    (hroom : s.migrateRoom fn a.g = true) (hfailed : s.anyFailed = false) (hinit : s.dramInit = true) :
    ∃ p ∈ s.framesFree a.g, ∃ t, s.mapPage fn a page = (t, 0) ∧ t.leafAt fn a.g page = some ⟨false, a.read, a.write, false, false, false, p⟩ ∧
      Only filling s t ∧ ∀ q, t.dram q = if p ≤ q ∧ q < p + pageBytes a.g then 0 else s.dram q := by
  obtain ⟨p, hp, hframe⟩ := takeFrame_ok hroom
  have hz := only_frameZeroed s a.g p
  have htrn : (s.frameZeroed a.g p).trn = s.trn := hz.trn_eq (by decide)
  have ht := ht.congr htrn
  have hset := PageSet.putLeaf (PageTables.wf_iff_sound.1 ht.1) ht.2.le
    (dec_enc_frame (l := ⟨false, a.read, a.write, false, false, false, p⟩) (frameAddress_of_framesFree hp) rfl)
    (walk_ne_gib_of_otherSize (otherSize_of_pageReason ((pageReason_congr (walk_of_trn_eq htrn) ..).trans hreason)))
  have hput := (sameButTables_putLeaf (s.frameZeroed a.g p) fn a.g page ⟨false, a.read, a.write, false, false, false, p⟩).only
  refine ⟨p, hp, _, ?_, hset.leafAt_self, (hz.mono (by decide)).trans (hput.mono (by decide)), fun q =>
    (hput.sameMem (by decide) q).trans (dram_frameZeroed hinit ..)⟩
  simp only [State.mapPage, hreason, hloc, hfailed, hframe]
  rfl

theorem eachPage_one {f : State → Nat → State × Nat} {s t : State} {page : Nat} (h : f s page = (t, 0)) : State.eachPage f s page 1 0 = (t, 1, 0) := by
  simp [State.eachPage, h]

/-- MAP of one page to DEVICE. -/
theorem mmRun_device {s : State} {op : Nat} {o : Op} (ho : s.op? op = some o) (hissued : o.issued = false) (ht : TablesFor s 1)
    (hbad : (mmArgs o.desc).bad true false = none) (hloc : (mmArgs o.desc).loc = 1) (hone : (mmArgs o.desc).count = 1)
    (hreason : s.pageReason o.fn (mmArgs o.desc).g (mmArgs o.desc).page false = 0) (hroom : s.migrateRoom o.fn (mmArgs o.desc).g = true)
    (hfailed : s.anyFailed = false) (hinit : s.dramInit = true) :
    let t := s.mmRun op o true false fun a s p => s.mapPage o.fn a p
    (∃ p ∈ s.framesFree (mmArgs o.desc).g, t.leafAt o.fn (mmArgs o.desc).g (mmArgs o.desc).page =
        some ⟨false, (mmArgs o.desc).read, (mmArgs o.desc).write, false, false, false, p⟩ ∧
      Zeroed t p (pageBytes (mmArgs o.desc).g) ∧ MemBut p (pageBytes (mmArgs o.desc).g) s t) ∧ Ended t op stOK 1 := by
  have htold := told_traceStart s o 0
  obtain ⟨p, hp, t, hmap, hleaf, honly, hdram⟩ := mapPage_device hloc (ht.congr htold.trn_eq)
    ((pageReason_congr (walk_of_trn_eq htold.trn_eq) ..).trans hreason) ((migrateRoom_congr htold ..).trans hroom)
    ((anyFailed_traceStart ..).trans hfailed) ((show State.dramInit _ = _ from htold.1.2 .dramInit (by decide)).trans hinit)
  have hfinish := only_finishOp t op stOK 1
  have hdram' : ∀ q, (t.finishOp op stOK 1).dram q = if p ≤ q ∧ q < p + pageBytes (mmArgs o.desc).g then 0 else s.dram q := fun q => by
    rw [hfinish.sameMem (by decide) q, hdram, htold.1.sameMem (by decide) q]
  rw [mmRun_eq hbad (n := 1) (by rw [hone]; exact eachPage_one hmap)]
  refine ⟨⟨p, framesFree_congr htold.trn_eq _ ▸ hp, (leafAt_congr (walk_of_trn_eq (hfinish.trn_eq (by decide))) ..).trans hleaf,
    fun q hlo hhi => (hdram' q).trans (if_pos ⟨hlo, hhi⟩), fun q hq => (hdram' q).trans (if_neg (by omega))⟩,
    ended_finishOp (o := o) ?_ hissued ..⟩
  rw [State.op?, honly.ops_eq (by decide), htold.1.ops_eq (by decide)]
  exact ho

/-! ## UNMAP (R189) -/

/-- An operation of two kinds of steps has started: it runs. -/
def State.mmStarted (s : State) (op : Nat) (o : Op) : State := (s.traceStart o 0).putOp op { o with st := .running }

theorem mmStarted_trn (s : State) (op : Nat) (o : Op) : (s.mmStarted op o).trn = s.trn := (told_traceStart s o 0).trn_eq

theorem running_of_paging {s t : State} {op : Nat} {o : Op} (h : Only paging (s.mmStarted op o) t) :
    (t.op? op).map (fun x => x.st) = some .running ∧ SameMem s t := by
  have hop : t.op? op = some { o with st := .running } := (congrArg (Tab.look · op) (h.ops_eq (by decide))).trans (State.op?_putOp_self ..)
  exact ⟨by rw [hop]; rfl, fun p => (h.sameMem (by decide) p).trans ((told_traceStart s o 0).1.sameMem (by decide) p)⟩

section
variable {s : State} {op : Nat} {o : Op} (hready : s.mmReady op 0x61 = some o) (hbad : (mmArgs o.desc).bad false false = none)
include hready hbad

theorem exec_unmap_marks (hst : o.st = .admitted) (hbusy : s.busyInRange o.fn (mmArgs o.desc) = false) :
    exec (.unmap op) s = .next (State.eachPage (markUnmapping o.fn (mmArgs o.desc)) (s.mmStarted op o) (mmArgs o.desc).page (mmArgs o.desc).count 0).1 := by
  refine (show exec (.unmap op) s = execUnmap op s from rfl).trans ?_
  simp only [execUnmap, hready, hbad, hst, hbusy]
  rfl

theorem exec_unmap_removes (hst : o.st = .running) :
    exec (.unmap op) s =
      .next (let r := State.eachPage (fun s p => s.unmapPage o.fn (mmArgs o.desc) p) s (mmArgs o.desc).page (mmArgs o.desc).count 0
      r.1.mmFinish op r.2.1 r.2.2) := by
  refine (show exec (.unmap op) s = execUnmap op s from rfl).trans ?_
  simp only [execUnmap, hready, hbad, hst]
  rfl

/-- The pages are BUSY, and the operation runs. -/
theorem unmap_marks (hr : RangeReady s o.fn (mmArgs o.desc) true) (hst : o.st = .admitted) (hbusy : s.busyInRange o.fn (mmArgs o.desc) = false) :
    ∃ t, exec (.unmap op) s = .next t ∧
      (∀ i < (mmArgs o.desc).count, (t.leafAt o.fn (mmArgs o.desc).g ((mmArgs o.desc).page + i)).map (fun l => l.busy) = some true) ∧
      (t.op? op).map (fun x => x.st) = some .running ∧ SameMem s t := by
  obtain ⟨t, hx, honly, hdone⟩ := eachPage_sets (hr.congr (mmStarted_trn s op o)) sets_markUnmapping
  exact ⟨t, (exec_unmap_marks hready hbad hst hbusy).trans (by rw [hx]), hdone, running_of_paging honly⟩

/-- The pages are gone, and the operation ends. -/
theorem unmap_removes (hr : RangeReady s o.fn (mmArgs o.desc) true) (ho : s.op? op = some o) (hissued : o.issued = false) (hst : o.st = .running) :
    ∃ t, exec (.unmap op) s = .next t ∧ (∀ i < (mmArgs o.desc).count, t.leafAt o.fn (mmArgs o.desc).g ((mmArgs o.desc).page + i) = none) ∧
      Ended t op stOK (mmArgs o.desc).count ∧ SameMem s t := by
  obtain ⟨t, hx, honly, hdone⟩ := eachPage_sets hr sets_unmapPage
  obtain ⟨hended, hmem, htrn⟩ := ended_of_paging ho hissued honly (mmArgs o.desc).count
  refine ⟨_, (exec_unmap_removes hready hbad hst).trans (by simp only [hx, mmFinish_ok]), fun i hi => ?_, hended, hmem⟩
  exact (leafAt_congr (walk_of_trn_eq htrn) ..).trans (hdone i hi)

end

/-! ## MIGRATE (R191) -/

/-- MIGRATE marks a page that it will move. -/
def markMoving (fn : Nat) (a : MmArgs) (s : State) (i : Nat) : State :=
  match s.leafAt fn a.g (a.page + i) with
  | some l => if l.host = (a.loc == 2) then s else s.putLeaf fn a.g (a.page + i) { l with busy := true }
  | none => s

theorem foldl_range_ok {I : Nat → State → Prop} {f : State → Nat → State} {n : Nat} (hstep : ∀ i < n, ∀ u, I i u → I (i + 1) (f u i)) {s : State}
    (h : I 0 s) : I n ((List.range n).foldl f s) := by
  induction n with
  | zero => exact h
  | succ n ih =>
    rw [List.range_succ, List.foldl_append]
    exact hstep n (Nat.lt_succ_self n) _ (ih fun i hi => hstep i (by omega))

theorem not_busy_of_busyInRange {s : State} {fn i : Nat} {a : MmArgs} {l : Leaf} (h : s.busyInRange fn a = false) (hi : i < a.count)
    (hl : s.leafAt fn a.g (a.page + i) = some l) : l.busy = false := by
  have hpage := List.any_eq_false.1 h i (List.mem_range.2 hi)
  simpa [hl] using hpage

/-- A page is BUSY once marked exactly if the operation moves it. -/
theorem markMoving_sets {u : State} {fn i : Nat} {a : MmArgs} {l : Leaf} (hs : PageTables.Sound u) (hroom : u.trn.nextTable + 4 ≤ 2 ^ 39)
    (hl : u.leafAt fn a.g (a.page + i) = some l) (hbusy : l.busy = false) :
    ∃ x, PageSet fn a.g (a.page + i) (some x) u (markMoving fn a u i) ∧ Only paging u (markMoving fn a u i) ∧
      x.busy = decide (l.host ≠ (a.loc == 2)) := by
  have haddr := frameAddress_of_leafAt hl
  by_cases hstays : l.host = (a.loc == 2)
  · have hx : markMoving fn a u i = u := by
      simp only [markMoving, hl]
      exact if_pos hstays
    rw [hx]
    exact ⟨l, .own hs hl, Only.refl _ u, by simp [hbusy, hstays]⟩
  · have hx : markMoving fn a u i = u.putLeaf fn a.g (a.page + i) { l with busy := true } := by
      simp only [markMoving, hl]
      exact if_neg hstays
    rw [hx]
    exact ⟨_, .putLeaf_own hs hroom hl (dec_enc fun _ => haddr), only_putLeaf .., (decide_eq_true hstays).symm⟩

theorem exec_migrate_marks {s : State} {op : Nat} {o : Op} (hready : s.mmReady op 0x63 = some o) (hbad : (mmArgs o.desc).bad true false = none)
    (hcount : 0 < (mmArgs o.desc).count) (hst : o.st = .admitted) (hbusy : s.busyInRange o.fn (mmArgs o.desc) = false) (hv : HostView) :
    exec (.migrate op hv) s = .next ((List.range (mmArgs o.desc).count).foldl (markMoving o.fn (mmArgs o.desc)) (s.mmStarted op o)) := by
  refine (show exec (.migrate op hv) s = execMigrate op hv s from rfl).trans ?_
  simp only [execMigrate, hready, hbad, hst, hbusy, if_neg (Nat.ne_of_gt hcount)]
  rfl

/-- The pages that the operation will move are BUSY, and it runs. -/
theorem migrate_marks {s : State} {op : Nat} {o : Op} (hready : s.mmReady op 0x63 = some o) (hbad : (mmArgs o.desc).bad true false = none)
    (hr : RangeReady s o.fn (mmArgs o.desc) true) (hcount : 0 < (mmArgs o.desc).count) (hst : o.st = .admitted)
    (hbusy : s.busyInRange o.fn (mmArgs o.desc) = false) (hv : HostView) :
    ∃ t, exec (.migrate op hv) s = .next t ∧
      (∀ i < (mmArgs o.desc).count, (t.leafAt o.fn (mmArgs o.desc).g ((mmArgs o.desc).page + i)).map (fun l => l.busy) =
        (s.leafAt o.fn (mmArgs o.desc).g ((mmArgs o.desc).page + i)).map fun l => decide (l.host ≠ ((mmArgs o.desc).loc == 2))) ∧
      (t.op? op).map (fun x => x.st) = some .running ∧ SameMem s t := by
  have hr' := hr.congr (mmStarted_trn s op o)
  have hstart : ∀ i, (s.mmStarted op o).leafAt o.fn (mmArgs o.desc).g ((mmArgs o.desc).page + i) = s.leafAt o.fn (mmArgs o.desc).g ((mmArgs o.desc).page + i) :=
    fun i => leafAt_congr (walk_of_trn_eq (mmStarted_trn s op o)) ..
  have hdone := foldl_range_ok (f := markMoving o.fn (mmArgs o.desc)) (n := (mmArgs o.desc).count)
    (I := PagesDone (s.mmStarted op o) o.fn (mmArgs o.desc) fun i x => x.map (fun l => l.busy) =
      (s.leafAt o.fn (mmArgs o.desc).g ((mmArgs o.desc).page + i)).map fun l => decide (l.host ≠ ((mmArgs o.desc).loc == 2)))
    (fun i hi u hu => by
      obtain ⟨l, hl⟩ := (pageReason_mapped_iff.1 (hr.pages i hi)).2
      obtain ⟨x, hset, honly, hx⟩ := markMoving_sets hu.sound (hu.room_one hi) ((hu.left i le_rfl hi).trans ((hstart i).trans hl))
        (not_busy_of_busyInRange hbusy hi hl)
      exact hu.step hr'.range hi hset honly (by simp [hl, hx]))
    (hr'.start _)
  exact ⟨_, exec_migrate_marks hready hbad hcount hst hbusy hv, hdone.done, running_of_paging hdone.only⟩

/-- What a checked read of a page can change. -/
def reading : List Field := telling ++ [.msys, .freeCtr]

theorem Only.bump (s : State) (k n : Nat) : Only reading s (s.bump k n) := (Only.of_wr ..).mono (by decide)

theorem only_memDetail (s : State) (c : Nat) : Only [.freeCtr] s (s.memDetail c).2 := Only.of_free s

theorem only_markPoison (s : State) (b : Nat) : Only reading s (s.markPoison b) := by
  unfold State.markPoison
  exact Only.if (Only.refl _ s) (((Only.of_msys ..).mono (by decide)).trans (Only.bump ..))

theorem only_ueRead (s : State) (b fn : Nat) (t : Tags) : Only reading s (s.ueRead b fn t) := by
  have herr : ∀ u : State, Only reading u (u.memErr 0x02 b fn t) := fun u => ((only_memDetail ..).mono (by decide)).trans ((Told.logErr ..).1.mono (by decide))
  exact (((Only.bump ..).trans ((Told.raiseInt ..).1.mono (by decide))).trans (herr _)).trans (only_markPoison ..)

theorem only_ceRead (s : State) (b fn : Nat) (t : Tags) : Only reading s (s.ceRead b fn t) := by
  unfold State.ceRead
  extract_lets c nn counted l old ts parts tracked d
  have htracked : Only reading s tracked := ((Only.bump ..).trans ((Told.count ..).1.mono (by decide))).trans ((Only.of_msys ..).mono (by decide))
  refine Only.if (htracked.trans ?_) htracked
  exact ((only_memDetail ..).mono (by decide)).trans (((Told.raiseInt ..).trans (Told.logEvent _ 0 _ _ _ _ _ _ _ _ _ (by decide))).1.mono (by decide))

theorem only_burstFound (s : State) (hv : HostView) (b fn : Nat) (t : Tags) (rmw : Bool) : Only reading s (s.burstFound hv b fn t rmw) :=
  Only.if (Only.if (Only.refl _ s) (only_ueRead ..)) (Only.if (only_ueRead ..) (Only.if (only_ceRead ..) (Only.refl _ s)))

theorem only_countRange (s : State) (event p n : Nat) : Only telling s (s.countRange event p n) :=
  Only.foldl (Only.refl _ s) fun _ _ => (Told.count ..).1

theorem only_checkRange (s : State) (hv : HostView) (cls p n fn : Nat) (t : Tags) : Only reading s (s.checkRange hv cls p n fn t).1 :=
  Only.foldl ((((only_served ..).mono (by decide)).trans ((only_countRange ..).mono (by decide))).trans (Only.bump ..)) fun u b => only_burstFound u hv b fn t false

theorem only_noteNonSnoop (s : State) (va : Nat) : Only telling s (s.noteNonSnoop va) := (Only.of_hif ..).mono (by decide)

/-- A DEVICE page that no poison keeps from being read goes to HOST with the permissions it had. -/
theorem movePage_home {s : State} {hv : HostView} {fn page : Nat} {a : MmArgs} {tags : Tags} {l : Leaf} (hreason : s.pageReason fn a.g page true = 0)
    (hl : s.leafAt fn a.g page = some l) (hdev : l.host = false) (hloc : a.loc = 2) (hlink : s.linkUp = true) (hdeny : hv.deny = [])
    (hread : (s.checkRange hv 1 l.addr (pageBytes a.g) fn tags).2 = false) :
    ∃ u, s.movePage hv fn a tags page = ((u.putLeaf fn a.g page ⟨true, l.read, l.write, a.bias, false, false, 0⟩).tlbDrop fn a.g page, 0) ∧
      Only reading s u := by
  have hcheck : s.checkRange hv 1 l.addr (pageBytes a.g) fn tags = ((s.checkRange hv 1 l.addr (pageBytes a.g) fn tags).1, false) := Prod.ext rfl hread
  simp only [State.movePage, hreason, hl, hdev, hloc, hlink, hdeny]
  rw [hcheck]
  refine ⟨_, rfl, Only.trans (only_checkRange s hv 1 l.addr (pageBytes a.g) fn tags) (Only.if ?_ ?_)⟩
  · exact (Told.emit ..).1.mono (by decide)
  · exact ((Told.emit ..).1.trans (only_noteNonSnoop ..)).mono (by decide)

/-- The operation with one page more moved. -/
def Op.pageDone (o : Op) (nonSnoop : Bool) : Op := { o with progress := o.progress + 1, nonSnoop := nonSnoop }

section
variable {s t : State} {op : Nat} {o : Op} (hready : s.mmReady op 0x63 = some o) (hbad : (mmArgs o.desc).bad true false = none)
  (hprogress : o.progress < (mmArgs o.desc).count) (hst : o.st = .running) {hv : HostView}
  (hmove : s.movePage hv o.fn (mmArgs o.desc) (descTags o.desc) ((mmArgs o.desc).page + o.progress) = (t, 0))
include hready hbad hprogress hst hmove

theorem exec_migrate_moves :
    ∃ b, exec (.migrate op hv) s = .next (if o.progress + 1 = (mmArgs o.desc).count then (t.putOp op (o.pageDone b)).finishOp op stOK (mmArgs o.desc).count
      else t.putOp op (o.pageDone b)) := by
  refine ⟨o.nonSnoop || ((s.leafAt o.fn (mmArgs o.desc).g ((mmArgs o.desc).page + o.progress)).any (fun l => !l.host) && (mmArgs o.desc).loc = 2 &&
    !(mmArgs o.desc).bias), (show exec (.migrate op hv) s = execMigrate op hv s from rfl).trans ?_⟩
  have hstarted : (o.st == .admitted) = false := by rw [hst]; rfl
  simp only [execMigrate, hready, hbad, hstarted, if_neg (show ¬(mmArgs o.desc).count = 0 by omega), hmove]
  rfl

/-- Each step moves one page; the last one ends the operation. -/
theorem migrate_moves (hissued : o.issued = false) (hmem : SameMem s t) :
    ∃ u, exec (.migrate op hv) s = .next u ∧ u.trn = t.trn ∧ (o.progress + 1 = (mmArgs o.desc).count → Ended u op stOK (mmArgs o.desc).count) ∧
      (o.progress + 1 < (mmArgs o.desc).count → (u.op? op).map (fun x => x.progress) = some (o.progress + 1)) ∧ SameMem s u := by
  obtain ⟨b, hx⟩ := exec_migrate_moves hready hbad hprogress hst hmove
  have hop : (t.putOp op (o.pageDone b)).op? op = some (o.pageDone b) := State.op?_putOp_self ..
  by_cases hlast : o.progress + 1 = (mmArgs o.desc).count
  · have hfinish := only_finishOp (t.putOp op (o.pageDone b)) op stOK (mmArgs o.desc).count
    exact ⟨_, hx.trans (by rw [if_pos hlast]), hfinish.trn_eq (by decide), fun _ => ended_finishOp hop hissued .., fun h => absurd hlast (by omega),
      fun p => (hfinish.sameMem (by decide) p).trans (hmem p)⟩
  · exact ⟨t.putOp op (o.pageDone b), hx.trans (by rw [if_neg hlast]), rfl, fun h => absurd h hlast, fun _ => by rw [hop]; rfl, hmem⟩

end

/-- What a page that has gone to HOST reads back. -/
theorem leafAt_movedHome {s u : State} {fn page : Nat} {g : Bool} {l : Leaf} (ht : TablesFor s 1) (hl : s.leafAt fn g page = some l)
    (hu : Only reading s u) (r w b : Bool) :
    ((u.putLeaf fn g page ⟨true, r, w, b, false, false, 0⟩).tlbDrop fn g page).leafAt fn g page = some ⟨true, r, w, b, false, false, 0⟩ := by
  have htrn := hu.trn_eq (by decide)
  have hl := (leafAt_congr (walk_of_trn_eq htrn) fn g page).trans hl
  rw [leafAt_congr fun f va => walk_tlbDrop _ fn g page f va]
  exact leafAt_putLeaf_own (ht.congr htrn) hl (dec_enc_host r w b false false 0)

theorem sameMem_movedHome {s u : State} (hu : Only reading s u) (fn page : Nat) (g : Bool) (l : Leaf) :
    SameMem s ((u.putLeaf fn g page l).tlbDrop fn g page) := fun p =>
  ((only_putLeaf u fn g page l).sameMem (by decide) p).trans (hu.sameMem (by decide) p)

/-! ## Quotas (R195) -/

/-- The sum of the memory quotas with one of them replaced. -/
def State.quotaSum (s : State) (fn : Nat) (v : Word) : Nat :=
  ((List.range 64).map (fun f => if f = fn then fld v 0 20 else s.getF (R.TRN_FN_MEM_QUOTA f) 0 20)).sum

theorem exec_quotaWrite {s : State} {fn : Nat} (hfn : fn < 64) (v : Word) :
    exec (.quotaWrite 0x058 fn v) s = .next (if 19584 < s.quotaSum fn v then s.trnRefuse 0x05 fn v.toNat else s.wr (R.TRN_FN_MEM_QUOTA fn) (v &&& 0xFFFFF)) := by
  refine (show exec (.quotaWrite 0x058 fn v) s = execQuotaWrite 0x058 fn v s from rfl).trans ?_
  have hplain : s.writePlain pTRN 0x058 fn v = s.wr (R.TRN_FN_MEM_QUOTA fn) (v &&& 0xFFFFF) := rfl
  have hnot : ¬64 ≤ fn := by omega
  have hbeyond : ((quotaFields 0x058).any fun q => decide (q.2.2.2 <
      ((List.range 64).map (fun f => if f = fn then fld v q.2.1 q.2.2.1 else s.getF (q.1 f) q.2.1 q.2.2.1)).sum)) = decide (19584 < s.quotaSum fn v) :=
    Bool.or_false _
  rw [execQuotaWrite, if_neg (by simp [quotaFields, hnot]), State.quotaWrite, hbeyond, hplain]
  simp only [decide_eq_true_eq]

/-- R199: a write that is refused is counted, and changes nothing else that is not told. -/
theorem trnRefuse_tells (s : State) (code fn detail : Nat) :
    (s.trnRefuse code fn detail).rd R.TRN_REFUSE_COUNT = word (min 0xFFFFFFFF ((s.rd R.TRN_REFUSE_COUNT).toNat + 1)) ∧
      TellsIn [] [R.TRN_REFUSE_COUNT] s (s.trnRefuse code fn detail) := by
  have htold : Told (s.bump R.TRN_REFUSE_COUNT) (s.trnRefuse code fn detail) := (Told.raiseInt ..).trans (Told.logErr ..)
  exact ⟨(htold.2 _ (tellKey_trn 0 (by decide) (by decide))).trans (State.rd_wr_self ..), ((TellsIn.refl _ _ s).wr _ (by simp)).told htold⟩

/-! ## The statement -/

theorem exec_map {s : State} {op : Nat} {o : Op} (h : s.mmReady op 0x60 = some o) :
    exec (.map op) s = .next (s.mmRun op o true false fun a s p => s.mapPage o.fn a p) := by
  refine (show exec (.map op) s = execMap op s from rfl).trans ?_
  rw [execMap, h]

theorem exec_protect {s : State} {op : Nat} {o : Op} (h : s.mmReady op 0x62 = some o) :
    exec (.protect op) s = .next (s.mmRun op o false false fun a s p => s.protectPage o.fn a p) := by
  refine (show exec (.protect op) s = execProtect op s from rfl).trans ?_
  rw [execProtect, h]

theorem exec_advise {s : State} {op : Nat} {o : Op} {ats : Bool} (h : s.mmReady op 0x64 = some o) :
    exec (.advise ⟨op, ats⟩) s = .next (s.mmRun op o false true fun a s p => s.advisePage o.fn a ats p) := by
  refine (show exec (.advise ⟨op, ats⟩) s = execAdvise ⟨op, ats⟩ s from rfl).trans ?_
  rw [execAdvise, h]

/-- Settles O30: each operation that sets pages sets all of its range (`mmRun_sets`, `eachPage_sets`), and the other clauses step by step. -/
theorem memoryManagement : Obligations.MemoryManagement := by
  refine ⟨fun s op o hready ho hissued ht hbad hloc hpages => ?_,
    fun s op o hready ho hissued ht hbad hloc hone hreason hroom hfailed hinit => ?_,
    fun s op o hready ho hissued ht hbad hst hbusy hpages => ?_, fun s op o hready ho hissued ht hbad hst hpages => ?_,
    fun s op o hready ho hissued ht hbad hpages => ?_, fun s op o ats hready ho hissued ht hbad hpages hadvice => ?_,
    fun s op o ats hready ho hissued ht hbad hpages hadvice => ?_, fun s op o hv hready ho hissued ht hbad hcount hst hbusy hpages => ?_,
    fun s op o hv l hready ho hissued ht hbad hprogress hst hloc hreason hl hdev hlink hdeny hread => ?_,
    fun s fn v hfn hsum => ?_, fun s fn v hfn hsum => ?_⟩
  · have hsets := mmRun_sets (f := fun a s p => s.mapPage o.fn a p) ho hissued hbad ⟨ht, fun _ => page_lt_of_bad hbad, hpages⟩ (sets_mapPage hloc)
    exact ⟨_, exec_map hready, hsets⟩
  · exact ⟨_, exec_map hready, mmRun_device ho hissued (hone ▸ ht) hbad hloc hone hreason hroom hfailed hinit⟩
  · exact unmap_marks hready hbad ⟨ht, fun _ => page_lt_of_bad hbad, hpages⟩ hst hbusy
  · exact unmap_removes hready hbad ⟨ht, fun _ => page_lt_of_bad hbad, hpages⟩ ho hissued hst
  · have hsets := mmRun_sets (f := fun a s p => s.protectPage o.fn a p) ho hissued hbad ⟨ht, fun _ => page_lt_of_bad hbad, hpages⟩ sets_protectPage
    exact ⟨_, exec_protect hready, hsets⟩
  · have hsets := mmRun_sets (f := fun a s p => s.advisePage o.fn a ats p) ho hissued hbad ⟨ht, fun _ => page_lt_of_bad hbad, hpages⟩ (sets_advisePage hadvice ats)
    exact ⟨_, exec_advise hready, hsets⟩
  · obtain ⟨t, hx, hkept, hdrop⟩ := mmRun_keeps (ats := ats) hbad hpages hadvice
    obtain ⟨hended, hmem, htrn⟩ := ended_of_paging ho hissued hkept.2.2 (mmArgs o.desc).count
    refine ⟨_, (exec_advise hready).trans (by rw [hx]), by rw [htrn, hkept.1], hended, hmem, fun h3 => ?_⟩
    rw [htrn]
    exact hdrop h3
  · exact migrate_marks hready hbad ⟨ht, fun _ => page_lt_of_bad hbad, hpages⟩ hcount hst hbusy hv
  · obtain ⟨u, hmove, hu⟩ := movePage_home hreason hl hdev hloc hlink hdeny hread
    obtain ⟨t, hx, htrn, hlast, hmore, hmem⟩ := migrate_moves hready hbad hprogress hst hmove hissued (sameMem_movedHome hu _ _ _ _)
    refine ⟨t, hx, ?_, hlast, hmore, hmem⟩
    have hone : TablesFor s 1 := ⟨ht.1, by have := ht.2; omega⟩
    rw [leafAt_congr (walk_of_trn_eq htrn), leafAt_movedHome hone hl hu]
    rfl
  · have hstored := (exec_quotaWrite hfn v).trans (congrArg _ (if_neg (c := 19584 < s.quotaSum fn v) (Nat.not_lt.2 hsum)))
    exact ⟨_, hstored, State.rd_wr_self .., RegsBut.of_wr s _ _, Only.of_wr ..⟩
  · obtain ⟨hcount, htells⟩ := trnRefuse_tells s 0x05 fn v.toNat
    have hrefused := (exec_quotaWrite hfn v).trans (congrArg _ (if_pos (c := 19584 < s.quotaSum fn v) hsum))
    have hother : R.TRN_FN_MEM_QUOTA fn ≠ R.TRN_REFUSE_COUNT := by
      simp only [R.TRN_FN_MEM_QUOTA, R.TRN_REFUSE_COUNT, rkey]
      omega
    exact ⟨_, hrefused, htells.2 _ (tellKey_trn fn (by decide) (by decide)) (by simp [hother]), hcount, htells⟩

end Sys2Proof.Machine
end

section
/-! COUNTEREXAMPLE to a statement of 06_translation_and_instances: a flush of a function whose descriptor table lists a number twice (O33). -/

namespace Sys2Proof.Machine
open Sys2Proof

/-- A NOP of the Pavilion of function 1, in a chain of its own. -/
def nopOf (st : OpSt) : Op :=
  { fn := 1, src := .pav 1, seq := 0, queue := 0, desc := 0x301, chain := 1, pos := 0, st := st, status := 0, result := 0, issued := false,
    progress := 0, early := false, waitFault := false, nonSnoop := false, cached := false, probe := 0, est := (0, 0), fresh := false, store := false,
    aux := [] }

/-- Function 1 drains, and the table lists descriptor number 0 twice: first one that runs, then one that has not started. -/
def numberTwice : State := { State.reset.wr (R.TRN_FN_CTRL 1) 1 with ops := [(0, nopOf .running), (0, nopOf .admitted)] }

/-- The flush ends the second of the two by its number, and so ends the first, which runs. -/
theorem op?_of_quiesceFlushEscalate_numberTwice {t : State} (h : exec (.quiesceFlushEscalate 1 3) numberTwice = .next t) :
    (t.op? 0).map Op.st = some .done := by
  have hrun : (match exec (.quiesceFlushEscalate 1 3) numberTwice with
      | .next u => (u.op? 0).map Op.st
      | _ => none) = some .done := by decide +kernel
  rwa [h] at hrun

/-- Refutes O33: the clause by which QUIESCE_FLUSH_ESCALATE leaves a descriptor that runs speaks of every state, also of one whose table lists a
descriptor number twice. There the flush finds a second descriptor that has not started under the number of the one that runs, and what it ends is that
number's first. No run of the device lists a number twice; the clause has no hypothesis that says so. -/
theorem not_instanceLifecycle : ¬ Obligations.InstanceLifecycle := by
  intro h
  obtain ⟨-, -, -, leavesRunning, -⟩ := h
  obtain ⟨t, hx, -, hop, -⟩ := leavesRunning numberTwice 1 3 0 (nopOf .running) (by decide) (by decide +kernel) (by decide) (by decide) (by decide)
    (by decide +kernel) (by decide +kernel) rfl rfl rfl rfl rfl rfl rfl rfl rfl rfl rfl
  have hended := op?_of_quiesceFlushEscalate_numberTwice hx
  rw [hop] at hended
  exact absurd hended (by decide)

end Sys2Proof.Machine
end

section
/-! PROOFS of the statements of 07_arithmetic about number formats: a NaN that an FP32 function makes is the canonical one (O9, `CanonicalIfNaN`), and an element
that is no NaN comes back from FP32 as it was (O10). What an encoding spells is a significand and an exponent (`Fmt.Spells`); FP32 spells the same value in
smaller units (`dec32_round32`), and a value that a format has rounds to its own encoding (`Fmt.Spells.roundMag`). -/

namespace Sys2Proof.Machine
open Sys2Proof

theorem log2_mul_two_pow {n : Nat} (h : n ≠ 0) (k : Nat) : (n * 2 ^ k).log2 = n.log2 + k := by
  rw [Nat.log2_eq_iff (by positivity), Nat.pow_add, Nat.add_right_comm, Nat.pow_add]
  exact ⟨Nat.mul_le_mul_right _ (Nat.log2_self_le h), Nat.mul_lt_mul_of_pos_right Nat.lt_log2_self (Nat.two_pow_pos k)⟩

/-! ## Significands and encodings (R207) -/

/-- A significand and an exponent as an encoding of the format spells them: subnormal at the least exponent, else with the leading bit. -/
structure Fmt.Spells (f : Fmt) (m : Nat) (e : Int) : Prop where
  short : m < 2 ^ (f.man + 1)
  least : f.emin ≤ e
  normal : f.emin < e → 2 ^ f.man ≤ m

/-- The magnitude that spells them. -/
def Fmt.magOf (f : Fmt) (m : Nat) (e : Int) : Nat := (e - f.emin).toNat * 2 ^ f.man + m

/-- The significand of a magnitude. -/
def Fmt.sigOf (f : Fmt) (mag : Nat) : Nat := if mag / 2 ^ f.man = 0 then mag % 2 ^ f.man else 2 ^ f.man + mag % 2 ^ f.man

/-- The exponent of a magnitude. -/
def Fmt.expOf (f : Fmt) (mag : Nat) : Int := if mag / 2 ^ f.man = 0 then f.emin else f.emin + (mag / 2 ^ f.man : Nat) - 1

theorem Fmt.dec_of_le {f : Fmt} {x : Nat} (h : x % 2 ^ f.width ≤ f.maxEnc) :
    f.dec x = .fin (bitOf x f.width) (f.sigOf (x % 2 ^ f.width)) (f.expOf (x % 2 ^ f.width)) := by
  unfold Fmt.dec Fmt.sigOf Fmt.expOf
  extract_lets neg mag e m
  rw [if_neg (by omega)]
  split <;> rfl

theorem Fmt.spells_sigOf (f : Fmt) (mag : Nat) : f.Spells (f.sigOf mag) (f.expOf mag) := by
  have hlow : mag % 2 ^ f.man < 2 ^ f.man := Nat.mod_lt _ (Nat.two_pow_pos _)
  unfold Fmt.sigOf Fmt.expOf
  generalize mag / 2 ^ f.man = d
  split
  · exact ⟨by omega, by omega, by omega⟩
  · exact ⟨by omega, by omega, by omega⟩

theorem Fmt.magOf_sigOf (f : Fmt) (mag : Nat) : f.magOf (f.sigOf mag) (f.expOf mag) = mag := by
  unfold Fmt.magOf Fmt.sigOf Fmt.expOf
  have hsplit := Nat.div_add_mod mag (2 ^ f.man)
  split
  next h => simpa [h] using hsplit
  next h =>
    obtain ⟨e, he⟩ := Nat.exists_eq_succ_of_ne_zero h
    have hexp : (f.emin + (mag / 2 ^ f.man : Nat) - 1 - f.emin).toNat = e := by omega
    rw [hexp]
    rw [he, Nat.succ_eq_add_one, Nat.mul_comm, Nat.add_mul] at hsplit
    omega

/-- An encoding determines what it spells. -/
theorem Fmt.Spells.of_magOf {f : Fmt} {m : Nat} {e : Int} (h : f.Spells m e) : f.sigOf (f.magOf m e) = m ∧ f.expOf (f.magOf m e) = e := by
  obtain ⟨hshort, hleast, hnormal⟩ := h
  rw [Nat.pow_succ] at hshort
  have hpos := Nat.two_pow_pos f.man
  obtain ⟨d, rfl⟩ : ∃ d : Nat, e = f.emin + d := ⟨(e - f.emin).toNat, by omega⟩
  have hexp : (f.emin + (d : Int) - f.emin).toNat = d := by omega
  unfold Fmt.sigOf Fmt.expOf Fmt.magOf
  rw [hexp]
  by_cases hm : m < 2 ^ f.man
  · obtain rfl : d = 0 := by
      by_contra hd
      exact absurd (hnormal (by omega)) (by omega)
    rw [Nat.zero_mul, Nat.zero_add, Nat.div_eq_of_lt hm, if_pos rfl, if_pos rfl, Nat.mod_eq_of_lt hm]
    exact ⟨rfl, by simp⟩
  · obtain ⟨r, rfl⟩ := Nat.exists_eq_add_of_le (Nat.le_of_not_lt hm)
    have hsplit : d * 2 ^ f.man + (2 ^ f.man + r) = r + 2 ^ f.man * (d + 1) := by rw [Nat.mul_add, Nat.mul_comm]; omega
    rw [hsplit, Nat.add_mul_div_left _ _ hpos, Nat.add_mul_mod_self_left, Nat.div_eq_of_lt (by omega), Nat.mod_eq_of_lt (by omega),
      if_neg (by omega), if_neg (by omega)]
    exact ⟨rfl, by push_cast; omega⟩

/-- The leading bit of what a magnitude spells lies within the format, where the value is not zero. -/
theorem Fmt.Spells.quantum {f : Fmt} {m : Nat} {e : Int} (h : f.Spells m e) (hm : m ≠ 0) : max (e + m.log2 - f.man) f.emin = e := by
  obtain ⟨hshort, hleast, hnormal⟩ := h
  have htop : m.log2 < f.man + 1 := (Nat.log2_lt hm).2 hshort
  by_cases he : f.emin < e
  · have := (Nat.le_log2 hm).2 (hnormal he)
    omega
  · omega

/-! ## Rounding of values that a format has (R213) -/

theorem shiftRne_mul_two_pow (m k : Nat) : shiftRne (m * 2 ^ k) k false = m := by
  have hpos := Nat.two_pow_pos k
  unfold shiftRne
  extract_lets q r h
  have hq : q = m := Nat.mul_div_cancel m hpos
  have hr : r = 0 := Nat.mul_mod_left m (2 ^ k)
  rw [hq, hr]
  cases k with
  | zero => simp
  | succ k =>
    have hh : 0 < h := Nat.div_pos (Nat.le_self_pow (Nat.succ_ne_zero k) 2) (by decide)
    rw [if_neg (by simp; omega)]

/-- A value that the format has, in units of its own exponent or of a smaller one, rounds to its encoding. -/
theorem Fmt.Spells.roundMag {f : Fmt} {m : Nat} {e : Int} (h : f.Spells m e) (k : Nat) : f.roundMag (m * 2 ^ k) (e - k) false = f.magOf m e := by
  have hpos := Nat.two_pow_pos k
  unfold Fmt.roundMag Fmt.magOf
  by_cases hm : m = 0
  · have he : e = f.emin := by
      by_contra hne
      have := h.normal (by have := h.least; omega)
      have := Nat.two_pow_pos f.man
      omega
    simp [hm, he]
  · have hne : m * 2 ^ k ≠ 0 := by positivity
    have hq : max (e - k + (m * 2 ^ k).log2 - f.man) f.emin = e := by
      rw [log2_mul_two_pow hm]
      have := h.quantum hm
      omega
    rw [if_neg hne]
    extract_lets q mant
    have hqe : q = e := hq
    have hmant : mant = m := by
      by_cases hk : k = 0
      · simp [mant, hqe, hk]
      · have hshift : (q - (e - k)).toNat = k := by omega
        simp only [mant, if_neg (show ¬ q ≤ e - k by omega), hshift]
        exact shiftRne_mul_two_pow m k
    rw [hmant, hqe]

/-- A value of at most man + 1 significant bits, not below the least exponent, is one that the format has. -/
theorem Fmt.spells_of_short (f : Fmt) {m : Nat} {e : Int} (hm : m < 2 ^ (f.man + 1)) (he : f.emin ≤ e) :
    ∃ k : Nat, f.Spells (m * 2 ^ k) (e - k) ∧ f.roundMag m e false = f.magOf (m * 2 ^ k) (e - k) := by
  by_cases h0 : m = 0
  · refine ⟨(e - f.emin).toNat, ⟨by simp [h0], by omega, by omega⟩, ?_⟩
    have hexp : e - ((e - f.emin).toNat : Int) - f.emin = 0 := by omega
    rw [Fmt.roundMag, if_pos h0, Fmt.magOf, hexp, h0]
    simp
  · have htop : m.log2 < f.man + 1 := (Nat.log2_lt h0).2 hm
    obtain ⟨q, hq⟩ : ∃ q, q = max (e + m.log2 - f.man) f.emin := ⟨_, rfl⟩
    obtain ⟨k, hk⟩ : ∃ k : Nat, (k : Int) = e - q := ⟨(e - q).toNat, by omega⟩
    have hkq : e - k = q := by omega
    have hlog := log2_mul_two_pow h0 k
    have hne : m * 2 ^ k ≠ 0 := by positivity
    refine ⟨k, ⟨?_, by omega, fun hlt => ?_⟩, ?_⟩
    · rw [← Nat.log2_lt hne, hlog]; omega
    · rw [← Nat.le_log2 hne, hlog]; omega
    · unfold Fmt.roundMag Fmt.magOf
      rw [if_neg h0]
      extract_lets r mant
      have hr : r = q := hq.symm
      have hmant : mant = m * 2 ^ k := by
        have hshift : (e - r).toNat = k := by omega
        simp only [mant, if_pos (show r ≤ e by omega), hshift]
      rw [hmant, hr, hkq]

/-! ## FP32 and its bits -/

theorem dec32_of_le {x : Nat} (neg : Bool) (h : x ≤ f32.maxEnc) : dec32 (x + b2n neg * 2 ^ 31) = .fin neg (f32.sigOf x) (f32.expOf x) := by
  have hmax : f32.maxEnc < 2 ^ 31 := by decide
  have hmag : (x + b2n neg * 2 ^ 31) % 2 ^ 31 = x := by omega
  have hneg : bitOf (x + b2n neg * 2 ^ 31) 31 = neg := by
    have hdiv : (x + b2n neg * 2 ^ 31) / 2 ^ 31 = b2n neg := by omega
    rw [bitOf, hdiv]
    cases neg <;> rfl
  have h' : (x + b2n neg * 2 ^ 31) % 2 ^ f32.width ≤ f32.maxEnc := hmag.trans_le h
  rw [dec32, Fmt.dec_of_le h', show f32.width = 31 from rfl, hmag, hneg]

/-- A value within FP32's range of at most 24 significant bits stays what it is. -/
theorem dec32_round32 {m : Nat} {e : Int} (neg : Bool) (hm : m < 2 ^ 24) (he : -149 ≤ e) (htop : m ≠ 0 → e + m.log2 ≤ 127) :
    ∃ k : Nat, dec32 (round32 neg m e) = .fin neg (m * 2 ^ k) (e - k) := by
  obtain ⟨k, hspells, hround⟩ := f32.spells_of_short (m := m) (e := e) hm he
  have hmax : f32.magOf (m * 2 ^ k) (e - k) ≤ f32.maxEnc := by
    obtain ⟨hshort, hleast, hnormal⟩ := hspells
    have hman : f32.man = 23 := rfl
    have hemin : f32.emin = -149 := rfl
    have hm24 : f32.maxEnc = 254 * 2 ^ 23 + (2 ^ 24 - 1) - 2 ^ 23 := by decide
    rw [hman] at hshort hnormal
    rw [hemin] at hleast hnormal
    have hexp : e - k ≤ 104 := by
      by_contra hbig
      have hlow := hnormal (by omega)
      have hne : m * 2 ^ k ≠ 0 := by omega
      have h0 : m ≠ 0 := fun h => hne (by simp [h])
      have := (Nat.le_log2 hne).2 hlow
      rw [log2_mul_two_pow h0] at this
      have := htop h0
      omega
    rw [Fmt.magOf, hman, hemin, hm24]
    omega
  obtain ⟨hsig, hexp⟩ := hspells.of_magOf
  refine ⟨k, ?_⟩
  unfold round32
  extract_lets x
  have hx : x = f32.magOf (m * 2 ^ k) (e - k) := hround
  rw [if_neg (by omega), hx, dec32_of_le neg hmax, hsig, hexp]

theorem dec32_inf32 (neg : Bool) : dec32 (inf32 neg) = .inf neg := by cases neg <;> decide

/-! ## Conversions into FP32 and back (R212, R213) -/

/-- The finite values of the format are values of FP32. -/
structure Fmt.Fits (f : Fmt) : Prop where
  man : f.man ≤ 23
  emin : -149 ≤ f.emin
  top : f.maxEnc / 2 ^ f.man ≤ f.bias + 127
  max : f.maxEnc < 2 ^ f.width

theorem fits_of_fmtOf {c : Nat} {f : Fmt} (h : fmtOf c = some f) : f.Fits := by
  unfold fmtOf at h
  split at h <;> cases h
  all_goals exact ⟨by decide, by decide, by decide, by decide⟩

/-- A finite element of a format comes back from FP32 as it was. -/
theorem roundMag_dec32_sigOf {f : Fmt} (hf : f.Fits) {mag : Nat} (neg : Bool) (h : mag ≤ f.maxEnc) :
    ∃ m e, dec32 (round32 neg (f.sigOf mag) (f.expOf mag)) = .fin neg m e ∧ f.roundMag m e false = mag := by
  have hspells := f.spells_sigOf mag
  have hm : f.sigOf mag < 2 ^ 24 := hspells.short.trans_le (Nat.pow_le_pow_right (by decide) (by have := hf.man; omega))
  have htop : f.sigOf mag ≠ 0 → f.expOf mag + (f.sigOf mag).log2 ≤ 127 := fun h0 => by
    have hlog : (f.sigOf mag).log2 < f.man + 1 := (Nat.log2_lt h0).2 hspells.short
    have hdiv : mag / 2 ^ f.man ≤ f.bias + 127 := (Nat.div_le_div_right h).trans hf.top
    have hemin : f.emin = 1 - (f.bias : Int) - f.man := rfl
    unfold Fmt.expOf
    split <;> omega
  obtain ⟨k, hk⟩ := dec32_round32 neg hm (hf.emin.trans hspells.least) htop
  exact ⟨_, _, hk, (hspells.roundMag k).trans (f.magOf_sigOf mag)⟩

theorem add_sign {x w : Nat} (h : x < 2 ^ (w + 1)) : x % 2 ^ w + b2n (bitOf x w) * 2 ^ w = x := by
  have hdiv : x / 2 ^ w < 2 := Nat.div_lt_of_lt_mul (by rwa [← Nat.pow_succ])
  have hbit : b2n (bitOf x w) = x / 2 ^ w := by
    rcases Nat.le_one_iff_eq_zero_or_eq_one.1 (Nat.le_of_lt_succ hdiv) with h | h <;> simp [bitOf, h, b2n]
  rw [hbit, Nat.mul_comm, Nat.mod_add_div]

/-- A floating-point element that is no NaN comes back from FP32 as it was. -/
theorem fromF32_toF32_of_fmt {c : Nat} {f : Fmt} (hc : fmtOf c = some f) (hint : c ≠ 6) (hf : f.Fits) {x : Nat} (hx : x < 2 ^ (f.width + 1))
    (hnan : isNan32 (toF32 c x) = false) : fromF32 c (toF32 c x) = (x, false) := by
  have hdecode : decodeElem c x = f.dec x := by rw [decodeElem, if_neg hint, hc]
  rw [toF32, hdecode] at hnan ⊢
  rw [fromF32, if_neg hint, hc]
  by_cases hmag : x % 2 ^ f.width ≤ f.maxEnc
  · obtain ⟨m, e, hdec, hround⟩ := roundMag_dec32_sigOf hf (bitOf x f.width) hmag
    rw [Fmt.dec_of_le hmag, enc32]
    simp only [hdec, hround, if_neg (Nat.not_lt.2 hmag), add_sign hx]
  · by_cases hinf : f.infEnc = some (x % 2 ^ f.width)
    · have hdec : f.dec x = .inf (bitOf x f.width) := by rw [Fmt.dec, if_pos (by omega), if_pos hinf]
      simp only [hdec, enc32, dec32_inf32, hinf, add_sign hx]
    · have hdec : f.dec x = .nan := by rw [Fmt.dec, if_pos (by omega), if_neg hinf]
      rw [hdec] at hnan
      exact absurd hnan (by decide)

/-- R213: an integer of at most 24 bits comes back from FP32 as it was, where INT8 has it. -/
theorem toInt8_round32 (neg : Bool) {m : Nat} (hm : m < 2 ^ 24) (hrange : ¬ (if neg then 128 else 127) < m) :
    toInt8 (round32 neg m 0) = (if neg then (256 - m) % 256 else m, false) := by
  obtain ⟨k, hk⟩ := dec32_round32 (e := 0) neg hm (by decide) fun h0 => by have := (Nat.log2_lt h0).2 hm; omega
  have hint : (if 0 ≤ (0 : Int) - k then m * 2 ^ k * 2 ^ ((0 : Int) - k).toNat else shiftRne (m * 2 ^ k) (-((0 : Int) - k)).toNat false) = m := by
    split
    next h =>
      obtain rfl : k = 0 := by omega
      simp
    next h => rw [show (-((0 : Int) - k)).toNat = k by omega, shiftRne_mul_two_pow]
  unfold toInt8
  rw [hk]
  simp only [hint]
  cases neg
  · exact if_neg hrange
  · exact if_neg hrange

theorem fromF32_toF32_int8 {x : Nat} (hx : x < 256) : fromF32 6 (toF32 6 x) = (x, false) := by
  have hto : toF32 6 x = round32 (decide (sx 8 x < 0)) (sx 8 x).natAbs 0 := by
    rw [toF32, decodeElem, if_pos rfl, Nat.mod_eq_of_lt hx]
    rfl
  rw [hto, fromF32, if_pos rfl]
  by_cases hneg : x < 128
  · obtain hsx : sx 8 x = x := if_pos hneg
    rw [hsx, decide_eq_false (by omega), toInt8_round32 false (by omega) (by rw [if_neg Bool.false_ne_true]; omega)]
    rfl
  · obtain hsx : sx 8 x = x - 256 := if_neg hneg
    rw [hsx, decide_eq_true (by omega), toInt8_round32 true (by omega) (by rw [if_pos rfl]; omega), if_pos rfl,
      show (256 - ((x : Int) - 256).natAbs) % 256 = x by omega]

/-- Settles O10: a finite element is a significand and an exponent that FP32 spells in smaller units, which round back to its own encoding. -/
theorem storageFormatsAreExact : Obligations.StorageFormatsAreExact := by
  intro c x hc hx hnan
  simp only [List.mem_cons, List.not_mem_nil, or_false] at hc
  have hfloat : ∀ f, fmtOf c = some f → c ≠ 6 → 256 ^ elemBytes c = 2 ^ (f.width + 1) → fromF32 c (toF32 c x) = (x, false) :=
    fun f hf hint hwidth => fromF32_toF32_of_fmt hf hint (fits_of_fmtOf hf) (hwidth ▸ hx) hnan
  rcases hc with rfl | rfl | rfl | rfl | rfl | rfl
  · exact hfloat _ rfl (by decide) (by decide)
  · exact hfloat _ rfl (by decide) (by decide)
  · exact fromF32_toF32_int8 hx
  · exact hfloat _ rfl (by decide) (by decide)
  · exact hfloat _ rfl (by decide) (by decide)
  · exact hfloat _ rfl (by decide) (by decide)

/-! ## NaNs (R208, R222) -/

theorem isNan32_iff {x : Nat} : isNan32 x = true ↔ 0x7F800000 < x % 2 ^ 31 := by
  unfold isNan32 dec32 Fmt.dec
  extract_lets neg mag e m
  have hmag : mag = x % 2 ^ 31 := rfl
  have hmax : f32.maxEnc = 0x7F7FFFFF := rfl
  have hinf : f32.infEnc = some 0x7F800000 := rfl
  rw [← hmag, hmax, hinf]
  split
  · split
    next h => simp at h; simp [← h]
    next h => simp at h; simp; omega
  · split <;> simp <;> omega

theorem dec32_of_isNan32 {x : Nat} (h : isNan32 x = true) : dec32 x = .nan := by simpa [isNan32] using h

/-- If it is a NaN at all, it is the canonical one. -/
structure CanonicalIfNaN (x : Nat) : Prop where
  eq : isNan32 x = true → x = nan32

theorem CanonicalIfNaN.of_number {x : Nat} (h : isNan32 x = false) : CanonicalIfNaN x := ⟨fun hnan => absurd hnan (by simp [h])⟩

theorem CanonicalIfNaN.ite {x y : Nat} {p : Prop} [Decidable p] (hx : CanonicalIfNaN x) (hy : CanonicalIfNaN y) : CanonicalIfNaN (if p then x else y) := by
  split
  exacts [hx, hy]

theorem canonicalIfNaN_nan32 : CanonicalIfNaN nan32 := ⟨fun _ => rfl⟩

theorem canonicalIfNaN_zero : CanonicalIfNaN 0 := .of_number (by decide)

theorem canonicalIfNaN_one32 : CanonicalIfNaN one32 := .of_number (by decide)

theorem canonicalIfNaN_inf32 (neg : Bool) : CanonicalIfNaN (inf32 neg) := .of_number (by cases neg <;> decide)

theorem canonicalIfNaN_zero32 (neg : Bool) : CanonicalIfNaN (zero32 neg) := .of_number (by cases neg <;> decide)

/-- Rounding makes no NaN. -/
theorem canonicalIfNaN_round32 (neg : Bool) (m : Nat) (e : Int) (sticky : Bool) : CanonicalIfNaN (round32 neg m e sticky) := by
  unfold round32
  extract_lets x
  split
  · exact canonicalIfNaN_inf32 neg
  next h => exact .of_number (by rw [isNan32, dec32_of_le neg (Nat.le_of_not_lt h)]; rfl)

theorem canonicalIfNaN_enc32 (v : Fp) : CanonicalIfNaN (enc32 v) := by
  cases v with
  | nan => exact canonicalIfNaN_nan32
  | inf neg => exact canonicalIfNaN_inf32 neg
  | fin neg m e => exact canonicalIfNaN_round32 ..

theorem canonicalIfNaN_addFin (n1 : Bool) (m1 : Nat) (e1 : Int) (n2 : Bool) (m2 : Nat) (e2 : Int) : CanonicalIfNaN (addFin n1 m1 e1 n2 m2 e2) :=
  (canonicalIfNaN_zero32 _).ite (canonicalIfNaN_zero.ite (canonicalIfNaN_round32 ..))

theorem canonicalIfNaN_addV (a b : Fp) : CanonicalIfNaN (addV a b) := by
  unfold addV
  split
  · exact canonicalIfNaN_nan32
  · exact canonicalIfNaN_nan32
  · exact (canonicalIfNaN_inf32 _).ite canonicalIfNaN_nan32
  · exact canonicalIfNaN_inf32 _
  · exact canonicalIfNaN_inf32 _
  · exact canonicalIfNaN_addFin ..

/-- The operand that MAX or MIN chooses is a NaN only where one of the two is. -/
theorem canonicalIfNaN_chosen {a b : Nat} {p q r : Prop} [Decidable p] [Decidable q] [Decidable r] {x y z w : Nat} (hx : x = a ∨ x = b) (hy : y = a ∨ y = b)
    (hz : z = a ∨ z = b) (hw : w = a ∨ w = b) :
    CanonicalIfNaN (if isNan32 a || isNan32 b then nan32 else if p then x else if q then y else if r then z else w) := by
  by_cases h : (isNan32 a || isNan32 b) = true
  · rw [if_pos h]
    exact canonicalIfNaN_nan32
  · simp only [Bool.or_eq_true, not_or, Bool.not_eq_true] at h
    have hnumber : ∀ {v}, v = a ∨ v = b → CanonicalIfNaN v := fun hv => .of_number (by rcases hv with rfl | rfl; exacts [h.1, h.2])
    rw [if_neg (by simp [h])]
    exact (hnumber hx).ite ((hnumber hy).ite ((hnumber hz).ite (hnumber hw)))

theorem canonicalIfNaN_max32 (a b : Nat) : CanonicalIfNaN (max32 a b) := canonicalIfNaN_chosen (.inr rfl) (.inl rfl) (.inr rfl) (.inl rfl)

theorem canonicalIfNaN_min32 (a b : Nat) : CanonicalIfNaN (min32 a b) := canonicalIfNaN_chosen (.inl rfl) (.inr rfl) (.inl rfl) (.inr rfl)

theorem canonicalIfNaN_exp2Of (neg : Bool) (m : Nat) (e : Int) : CanonicalIfNaN (exp2Of neg m e) :=
  canonicalIfNaN_one32.ite ((canonicalIfNaN_inf32 _).ite (canonicalIfNaN_zero.ite ((canonicalIfNaN_round32 ..).ite (canonicalIfNaN_round32 ..))))

theorem canonicalIfNaN_exp2_32 (a : Nat) : CanonicalIfNaN (exp2_32 a) := by
  unfold exp2_32
  split
  · exact canonicalIfNaN_nan32
  · exact canonicalIfNaN_zero.ite (canonicalIfNaN_inf32 _)
  · exact canonicalIfNaN_exp2Of ..

theorem canonicalIfNaN_exp32 (a : Nat) : CanonicalIfNaN (exp32 a) := by
  unfold exp32
  split
  · exact canonicalIfNaN_nan32
  · exact canonicalIfNaN_zero.ite (canonicalIfNaN_inf32 _)
  · exact canonicalIfNaN_exp2Of ..

theorem canonicalIfNaN_log32 (a : Nat) : CanonicalIfNaN (log32 a) := by
  unfold log32
  split
  · exact canonicalIfNaN_nan32
  · exact canonicalIfNaN_nan32.ite (canonicalIfNaN_inf32 _)
  · exact (canonicalIfNaN_inf32 _).ite (canonicalIfNaN_nan32.ite (canonicalIfNaN_zero.ite (canonicalIfNaN_round32 ..)))

theorem canonicalIfNaN_rcp32 (a : Nat) : CanonicalIfNaN (rcp32 a) := by
  unfold rcp32
  split
  · exact canonicalIfNaN_nan32
  · exact canonicalIfNaN_zero32 _
  · exact (canonicalIfNaN_inf32 _).ite (canonicalIfNaN_round32 ..)

theorem canonicalIfNaN_rsqrt32 (a : Nat) : CanonicalIfNaN (rsqrt32 a) := by
  unfold rsqrt32
  split
  · exact canonicalIfNaN_nan32
  · exact canonicalIfNaN_nan32.ite canonicalIfNaN_zero
  · exact (canonicalIfNaN_inf32 _).ite (canonicalIfNaN_nan32.ite (canonicalIfNaN_round32 ..))

/-! ### NaN operands -/

theorem addV_nan_left (b : Fp) : addV .nan b = nan32 := by cases b <;> rfl
theorem addV_nan_right (a : Fp) : addV a .nan = nan32 := by cases a <;> rfl
theorem mulFp_nan_left (b : Fp) : mulFp .nan b = .nan := by cases b <;> rfl
theorem mulFp_nan_right (a : Fp) : mulFp a .nan = .nan := by cases a <;> rfl

theorem isNan32_neg32 (x : Nat) : isNan32 (neg32 x) = isNan32 x := by
  have hlow : neg32 x % 2 ^ 31 = x % 2 ^ 31 := by
    rw [neg32, show Nat.xor x (2 ^ 31) = x ^^^ 2 ^ 31 from rfl, Nat.xor_mod_two_pow, Nat.mod_self, Nat.xor_zero]
  rw [Bool.eq_iff_iff, isNan32_iff, isNan32_iff, hlow]

section
variable {a b c : Nat}

theorem add32_of_nan_left (h : isNan32 a = true) : add32 a b = nan32 := by rw [add32, dec32_of_isNan32 h, addV_nan_left]
theorem add32_of_nan_right (h : isNan32 b = true) : add32 a b = nan32 := by rw [add32, dec32_of_isNan32 h, addV_nan_right]
theorem mul32_of_nan_left (h : isNan32 a = true) : mul32 a b = nan32 := by rw [mul32, dec32_of_isNan32 h, mulFp_nan_left]; rfl
theorem mul32_of_nan_right (h : isNan32 b = true) : mul32 a b = nan32 := by rw [mul32, dec32_of_isNan32 h, mulFp_nan_right]; rfl
theorem fma32_of_nan_left (h : isNan32 a = true) : fma32 a b c = nan32 := by rw [fma32, dec32_of_isNan32 h, mulFp_nan_left, addV_nan_left]
theorem fma32_of_nan_mid (h : isNan32 b = true) : fma32 a b c = nan32 := by rw [fma32, dec32_of_isNan32 h, mulFp_nan_right, addV_nan_left]
theorem fma32_of_nan_right (h : isNan32 c = true) : fma32 a b c = nan32 := by rw [fma32, dec32_of_isNan32 h, addV_nan_right]
theorem max32_of_nan (h : (isNan32 a || isNan32 b) = true) : max32 a b = nan32 := if_pos h
theorem min32_of_nan (h : (isNan32 a || isNan32 b) = true) : min32 a b = nan32 := if_pos h
theorem exp2_32_of_nan (h : isNan32 a = true) : exp2_32 a = nan32 := by rw [exp2_32, dec32_of_isNan32 h]
theorem exp32_of_nan (h : isNan32 a = true) : exp32 a = nan32 := by rw [exp32, dec32_of_isNan32 h]
theorem log32_of_nan (h : isNan32 a = true) : log32 a = nan32 := by rw [log32, dec32_of_isNan32 h]
theorem rcp32_of_nan (h : isNan32 a = true) : rcp32 a = nan32 := by rw [rcp32, dec32_of_isNan32 h]
theorem rsqrt32_of_nan (h : isNan32 a = true) : rsqrt32 a = nan32 := by rw [rsqrt32, dec32_of_isNan32 h]

end

/-- Settles O9: each function ends in a constant, in a rounding, or in the operand it chose, and a NaN operand is seen first. -/
theorem everyNaNIsCanonical : Obligations.EveryNaNIsCanonical := by
  intro a b c _ _ _
  simp only [List.forall_mem_cons, List.not_mem_nil, false_implies, implies_true, and_true]
  refine ⟨⟨?_, ?_, ?_, ?_, ?_, ?_, ?_, ?_, ?_, ?_, ?_⟩, fun ha => ⟨?_, ?_, ?_, ?_, ?_, ?_, ?_, ?_, ?_, ?_, ?_⟩,
    fun hb => ⟨?_, ?_, ?_, ?_, ?_, ?_⟩, fma32_of_nan_right⟩
  · exact (canonicalIfNaN_addV ..).eq
  · exact (canonicalIfNaN_addV ..).eq
  · exact (canonicalIfNaN_enc32 _).eq
  · exact (canonicalIfNaN_addV ..).eq
  · exact (canonicalIfNaN_max32 a b).eq
  · exact (canonicalIfNaN_min32 a b).eq
  · exact (canonicalIfNaN_exp2_32 a).eq
  · exact (canonicalIfNaN_exp32 a).eq
  · exact (canonicalIfNaN_log32 a).eq
  · exact (canonicalIfNaN_rcp32 a).eq
  · exact (canonicalIfNaN_rsqrt32 a).eq
  · exact add32_of_nan_left ha
  · exact add32_of_nan_left ha
  · exact mul32_of_nan_left ha
  · exact fma32_of_nan_left ha
  · exact max32_of_nan (by rw [ha, Bool.true_or])
  · exact min32_of_nan (by rw [ha, Bool.true_or])
  · exact exp2_32_of_nan ha
  · exact exp32_of_nan ha
  · exact log32_of_nan ha
  · exact rcp32_of_nan ha
  · exact rsqrt32_of_nan ha
  · exact add32_of_nan_right hb
  · exact add32_of_nan_right ((isNan32_neg32 b).trans hb)
  · exact mul32_of_nan_right hb
  · exact fma32_of_nan_mid hb
  · exact max32_of_nan (by rw [hb, Bool.or_true])
  · exact min32_of_nan (by rw [hb, Bool.or_true])

end Sys2Proof.Machine
end

section
/-! PROOFS for the statements of 07_arithmetic: the interrupt causes that stay (`CausesKept`). -/

namespace Sys2Proof.Machine
open Sys2Proof

/-! ## Interrupt causes that stay (R109) -/

/-- No interrupt cause of the page is cleared. -/
structure CausesKept (page : Nat) (s t : State) : Prop where
  bit : ∀ i, s.getB (intK page) i = true → t.getB (intK page) i = true

/-- A register that is no page's INT_STATUS. -/
theorem ne_intK_of_off {k : Nat} (h : keyOff k ≠ 0x010) (page : Nat) : intK page ≠ k := fun he => h (he ▸ keyOff_rkey page 0x010 0 (by decide))

namespace CausesKept
variable {page : Nat} {s t u : State}

theorem refl (page : Nat) (s : State) : CausesKept page s s := ⟨fun _ h => h⟩

theorem trans (h : CausesKept page s t) (h' : CausesKept page t u) : CausesKept page s u := ⟨fun i hi => h'.bit i (h.bit i hi)⟩

theorem of_rd (h : t.rd (intK page) = s.rd (intK page)) : CausesKept page s t := ⟨fun i hi => (getB_congr h i).trans hi⟩

theorem of_regs (h : t.regs = s.regs) : CausesKept page s t := of_rd (State.rd_congr h _)

theorem of_only {l : List Field} (h : Only l s t) (hl : Field.regs ∉ l) : CausesKept page s t := of_rd (h.rd_eq hl _)

theorem wr (page : Nat) (s : State) {k : Nat} (v : Word) (h : keyOff k ≠ 0x010) : CausesKept page s (s.wr k v) :=
  of_rd (s.rd_wr_ne v (ne_intK_of_off h page))

theorem bump (page : Nat) (s : State) {k : Nat} (n : Nat) (h : keyOff k ≠ 0x010) : CausesKept page s (s.bump k n) := wr page s _ h

theorem ite {a b : State} {p : Prop} [Decidable p] (ha : CausesKept page s a) (hb : CausesKept page s b) : CausesKept page s (if p then a else b) := by
  split
  exacts [ha, hb]

theorem foldl {α : Type} {f : State → α → State} {xs : List α} (h : CausesKept page s t) (hf : ∀ u x, CausesKept page u (f u x)) :
    CausesKept page s (xs.foldl f t) := by
  induction xs generalizing t with
  | nil => exact h
  | cons x xs ih => exact ih (h.trans (hf t x))

theorem raiseInt (page : Nat) (s : State) (q b : Nat) : CausesKept page s (s.raiseInt q b) := ⟨(PageKept.raiseInt page s q b).causes⟩

theorem logOnly (page : Nat) (s : State) (q code cls fn : Nat) (t : Tags) (addr detail : Nat) :
    CausesKept page s (s.logOnly q code cls fn t addr detail) := ⟨(PageKept.logOnly page s q code cls fn t addr detail).causes⟩

section
variable (hp : page < 4096) (hd : page ≠ pDBG)
include hp hd

theorem of_debugTold (h : DebugTold s t) : CausesKept page s t :=
  of_rd (h.regs _ ((keyPage_rkey page 0x010 0 (by decide) hp).trans_ne hd) (ne_intK_of_off (by decide) page) (ne_intK_of_off (by decide) page))

theorem trace (s : State) (block inst event fn : Nat) (t : Option Tags) (a b : Nat) : CausesKept page s (s.trace block inst event fn t a b) :=
  of_debugTold hp hd (.trace ..)

theorem logErr (s : State) (q code cls fn : Nat) (t : Tags) (addr detail : Nat) : CausesKept page s (s.logErr q code cls fn t addr detail) :=
  (logOnly page s q code cls fn t addr detail).trans (of_debugTold hp hd (.logErr ..))

theorem count (s : State) (block inst event fn : Nat) (t : Option Tags) (n : Nat) : CausesKept page s (s.count block inst event fn t n) := by
  unfold State.count
  refine ite (refl page s) (foldl (refl page s) fun u c => ite ?_ (refl page u))
  extract_lets old v d counted cmp raised
  have hraised : CausesKept page u raised := (of_regs rfl : CausesKept page u counted).trans (raiseInt page counted pCNT 0)
  exact ite (ite (hraised.trans (of_debugTold hp hd (.freeze raised 3))) hraised) (of_regs rfl)

theorem event (s : State) (dest q event code cls inst fn detail addr : Nat) :
    CausesKept page s (s.event dest q event code cls inst fn detail addr) := by
  have hlost : keyOff (R.MBX_EVQ_LOST dest) = 0x06C := keyOff_rkey _ _ _ (by decide)
  have hqueue : ∀ (u : State) e, CausesKept page u (u.queueEvent dest e) := fun u e => by
    refine ite (of_regs rfl) (trans ?_ (bump page _ 1 (by rw [hlost]; decide)))
    exact of_regs rfl
  unfold State.event State.raiseTo
  extract_lets u
  have hu : CausesKept page s u := trace hp hd ..
  split
  · exact ite (hu.trans (hqueue ..)) (hu.trans (of_regs rfl))
  · exact hu.trans (hqueue ..)

theorem wake (s : State) (w : WakeSource) : CausesKept page s (s.wake w) :=
  of_rd ((Captured.wake s w).regs _ (DebugTold.captureKey_of_page_ne ((keyPage_rkey page 0x010 0 (by decide) hp).trans_ne hd)
    (ne_intK_of_off (by decide) page) (ne_intK_of_off (by decide) page)))

end

end CausesKept

end Sys2Proof.Machine
end

section
/-! PROOFS for the statement of 07_arithmetic about heats (O14): what a packet that is sent leaves (`HeatKeeps`), and that a message of a heat is sent
(`heatSend_spec`). -/

namespace Sys2Proof.Machine
open Sys2Proof

/-! ## What HEA and its messages leave (R338, R375, R445) -/

/-- The registers by which a packet is sent: the device's own ID, and the endpoints of its functions. -/
def identKey (k : Nat) : Bool :=
  (keyPage k == pYDT && (keyOff k == 0x040 || keyOff k == 0x050)) || (keyPage k == pGLB && keyOff k == 0x050)

theorem tellKey_of_identKey {k : Nat} (h : identKey k = true) : tellKey k = false := by
  simp only [identKey, Bool.or_eq_true, Bool.and_eq_true, beq_iff_eq] at h
  have hwake : keyOff R.GLB_WAKE_CAUSE = 0x068 := by decide
  have hidle : keyOff R.GLB_IDLE_STATUS = 0x060 := by decide
  have hne : ∀ j, keyOff j = 0x068 ∨ keyOff j = 0x060 → k ≠ j := by rintro j hj rfl; omega
  have hpage : keyPage k = 8 ∨ keyPage k = 0 := h.imp And.left And.left
  refine Bool.eq_false_iff.2 fun ht => ?_
  simp only [tellKey, Bool.or_eq_true, Bool.and_eq_true, beq_iff_eq, decide_eq_true_eq] at ht
  have hdbg : pDBG = 14 := rfl
  rcases ht with (((ht | ht) | ht) | ht) | ht
  · omega
  · omega
  · exact hne _ (.inl hwake) ht
  · exact hne _ (.inr hidle) ht
  · omega

/-- A register that is no INT_STATUS, and none by which a packet is sent. -/
def plainKey (k : Nat) : Bool := keyOff k != 0x010 && !identKey k

theorem plainKey_rkey {page off : Nat} (idx : Nat) (hp : page < 4096) (ho : off < 4096) : plainKey (rkey page off idx) = plainKey (rkey page off 0) := by
  simp only [plainKey, identKey, keyOff_rkey _ _ _ ho, keyPage_rkey _ _ _ ho hp]

/-- Only the named parts change, no interrupt cause of HEA is cleared, and packets can be sent as before. -/
structure HeatKeeps (l : List Field) (s t : State) : Prop where
  only : Only l s t
  causes : CausesKept pHEA s t
  ident : ∀ k, identKey k = true → t.rd k = s.rd k

namespace HeatKeeps
variable {l m : List Field} {s t u : State}

theorem refl (l : List Field) (s : State) : HeatKeeps l s s := ⟨Only.refl l s, .refl _ s, fun _ _ => rfl⟩

theorem trans (h : HeatKeeps l s t) (h' : HeatKeeps l t u) : HeatKeeps l s u :=
  ⟨h.only.trans h'.only, h.causes.trans h'.causes, fun k hk => (h'.ident k hk).trans (h.ident k hk)⟩

theorem mono (h : HeatKeeps l s t) (hl : ∀ p ∈ l, p ∈ m) : HeatKeeps m s t := ⟨h.only.mono hl, h.causes, h.ident⟩

theorem step (h : HeatKeeps l s t) (h' : HeatKeeps m t u) (hm : ∀ p ∈ m, p ∈ l := by decide) : HeatKeeps l s u := h.trans (h'.mono hm)

theorem ite {a b : State} {p : Prop} [Decidable p] (ha : HeatKeeps l s a) (hb : HeatKeeps l s b) : HeatKeeps l s (if p then a else b) := by
  split
  exacts [ha, hb]

theorem of_only (h : Only l s t) (hl : Field.regs ∉ l) : HeatKeeps l s t := ⟨h, .of_only h hl, fun k _ => h.rd_eq hl k⟩

theorem of_told (h : Told s t) (hc : CausesKept pHEA s t) : HeatKeeps telling s t := ⟨h.1, hc, fun k hk => h.2 k (tellKey_of_identKey hk)⟩

/-- A write of a register. -/
theorem wr (s : State) (page off idx : Nat) (v : Word) (h : page < 4096 ∧ off < 4096 ∧ plainKey (rkey page off 0) = true) :
    HeatKeeps [.regs] s (s.wr (rkey page off idx) v) := by
  obtain ⟨hp, ho, hk⟩ := h
  rw [← plainKey_rkey idx hp ho, plainKey, Bool.and_eq_true, bne_iff_ne, Bool.not_eq_true'] at hk
  exact ⟨Only.of_wr .., .wr _ _ _ hk.1, fun j hj => s.rd_wr_ne v (by rintro rfl; exact absurd hj (by simp [hk.2]))⟩

theorem bump (s : State) (page off idx n : Nat) (h : page < 4096 ∧ off < 4096 ∧ plainKey (rkey page off 0) = true) :
    HeatKeeps [.regs] s (s.bump (rkey page off idx) n) := wr s page off idx _ h

theorem raiseInt (s : State) (q b : Nat) : HeatKeeps telling s (s.raiseInt q b) := .of_told (.raiseInt ..) (.raiseInt ..)

theorem logErr (s : State) (q code cls fn : Nat) (t : Tags) (addr detail : Nat) : HeatKeeps telling s (s.logErr q code cls fn t addr detail) :=
  .of_told (.logErr ..) (.logErr (by decide) (by decide) ..)

theorem trace (s : State) (block inst event fn : Nat) (t : Option Tags) (a b : Nat) : HeatKeeps telling s (s.trace block inst event fn t a b) :=
  .of_told (.trace ..) (.trace (by decide) (by decide) ..)

theorem count (s : State) (block inst event fn : Nat) (t : Option Tags) (n : Nat) : HeatKeeps telling s (s.count block inst event fn t n) :=
  .of_told (.count ..) (.count (by decide) (by decide) ..)

theorem of_tells (h : Only [.out, .hif, .events, .idle, .net, .crw, .inbox, .dbg] s t) : HeatKeeps telling s t :=
  .of_told (.of_only h) (.of_only h (by decide))

theorem devId (h : HeatKeeps l s t) : t.devId = s.devId := by
  rw [State.devId, State.devId, State.getF, State.getF, State.getF, State.getF, h.ident _ (by decide), h.ident _ (by decide)]

theorem rd_pkey (h : HeatKeeps l s t) (fn : Nat) : t.rd (R.YDT_FN_PKEY fn) = s.rd (R.YDT_FN_PKEY fn) :=
  h.ident _ (by
    have ho : keyOff (R.YDT_FN_PKEY fn) = 0x050 := keyOff_rkey _ _ _ (by decide)
    have hp : keyPage (R.YDT_FN_PKEY fn) = 8 := keyPage_rkey _ _ _ (by decide) (by decide)
    rw [identKey, ho, hp]
    decide)

theorem endpointOn (h : HeatKeeps l s t) (fn : Nat) : t.endpointOn fn = s.endpointOn fn := getB_congr (h.rd_pkey fn) 31

theorem encrypts (h : HeatKeeps l s t) (fn : Nat) : t.encrypts fn = s.encrypts fn := getB_congr (h.rd_pkey fn) 16

theorem pkey (h : HeatKeeps l s t) (fn : Nat) : t.pkey fn = s.pkey fn := congrArg (fld · 0 16) (h.rd_pkey fn)

end HeatKeeps

/-! ## Packets (R353, R529) -/

theorem Only.of_sec (s : State) (x : Sec) : Only [.sec] s { s with sec := x } := by
  refine ⟨rfl, fun p hp => ?_⟩
  cases p with
  | sec => exact absurd (by decide) hp
  | regs | mem => exact fun _ => rfl
  | _ => rfl

theorem Only.of_crw (s : State) (x : Crw) : Only [.crw] s { s with crw := x } := by
  refine ⟨rfl, fun p hp => ?_⟩
  cases p with
  | crw => exact absurd (by decide) hp
  | regs | mem => exact fun _ => rfl
  | _ => rfl

theorem Only.of_groups (s : State) (x : Tab Group) : Only [.groups] s { s with groups := x } := by
  refine ⟨rfl, fun p hp => ?_⟩
  cases p with
  | groups => exact absurd (by decide) hp
  | regs | mem => exact fun _ => rfl
  | _ => rfl

/-- What sending can change. -/
def sending : List Field := telling ++ [.ydt, .sec, .freeCtr]

/-- What sealing and placing a packet on its path can change. -/
def placing : List Field := telling ++ [.sec, .freeCtr]

theorem heatKeeps_eraseSlot (s : State) (i cause : Nat) : HeatKeeps placing s (s.eraseSlot i cause) := by
  unfold State.eraseSlot
  extract_lets marked sec erased
  have hmarked : HeatKeeps placing s marked :=
    (((HeatKeeps.refl placing s).step (.wr s 12 _ i _ (by decide)))).step (.wr _ 12 _ i _ (by decide))
  have herased : HeatKeeps placing s erased := hmarked.step (.of_only (Only.of_sec marked _) (by decide))
  exact .ite herased (herased.step (.raiseInt ..))

theorem heatKeeps_sealPacket (s : State) (fn : Nat) : HeatKeeps placing s (s.sealPacket fn).1 := by
  unfold State.sealPacket
  split
  next b _ =>
    extract_lets ph i pn sec numbered warned erased
    have hnumbered : HeatKeeps placing s numbered :=
      (((HeatKeeps.refl placing s).step (.of_only (Only.of_sec s _) (by decide))).step (.bump _ 12 _ 0 1 (by decide))).step (.count ..)
    have hwarned : HeatKeeps placing s warned := .ite (hnumbered.step (.raiseInt ..)) hnumbered
    exact .ite ((hwarned.trans (heatKeeps_eraseSlot ..)).step (.logErr ..)) hwarned
  · exact .refl _ s

theorem heatKeeps_onPath (s : State) (fn dev n cls : Nat) (p : Pkt) : HeatKeeps placing s (s.onPath fn dev n cls p) := by
  unfold State.onPath
  extract_lets w pk d r drawn marked i tags f
  refine .ite ?_ ?_
  · have hqueued : HeatKeeps telling s (s.queueOz ⟨bitsOf w.2.2.1 15 3, cls, 4, pk⟩) :=
      .of_tells ((Only.of_crw s _).mono (by decide))
    exact hqueued.mono (by decide)
  · exact ((HeatKeeps.refl placing s).step (.of_only (Only.of_free s) (by decide))).step (.of_told (.queueFrame ..) (.of_regs rfl))

theorem heatKeeps_ydt (s : State) (y : Ydt) : HeatKeeps [.ydt] s { s with ydt := y } := .of_only (Only.of_ydt s y) (by decide)

/-- A packet leaves, and no slot changes. -/
theorem sendOn_spec (s : State) (h : Hdr) (ext : List Nat) (payload : List Byte) :
    HeatKeeps sending s (s.sendOn h ext payload) ∧ (s.sendOn h ext payload).ydt.xfers = s.ydt.xfers := by
  unfold State.sendOn
  extract_lets c sealed p
  have hsealed : HeatKeeps placing s sealed := heatKeeps_sealPacket s h.fn
  have hydt : sealed.ydt = s.ydt := hsealed.only.2 .ydt (by decide)
  split
  · refine ⟨(hsealed.mono (by decide)).step (heatKeeps_ydt sealed _), ?_⟩
    rw [← hydt]
  · have hplaced := hsealed.trans (heatKeeps_onPath sealed h.fn h.dev h.path h.tclass p)
    exact ⟨hplaced.mono (by decide), congrArg Ydt.xfers (hplaced.only.2 .ydt (by decide))⟩

theorem heatKeeps_answer (s : State) (p : Pkt) (typ : Nat) (ext : List Nat) (payload : List Byte) (idx msgLen : Nat) (last : Bool) :
    HeatKeeps sending s (s.answer p typ ext payload idx msgLen last) := by
  unfold State.answer
  split
  · exact .refl _ s
  · exact .refl _ s
  · exact (sendOn_spec ..).1

theorem heatKeeps_ackOne (s : State) (p : Pkt) (flags : Nat) : HeatKeeps sending s (s.ackOne p flags) := heatKeeps_answer ..

/-! ## Slots (R358) -/

theorem heatKeeps_noteSlots (s : State) : HeatKeeps [.regs] s s.noteSlots :=
  ((HeatKeeps.wr s 8 _ 0 _ (by decide)).trans (.wr _ 8 _ 0 _ (by decide))).trans (.wr _ 8 _ 0 _ (by decide))

theorem heatKeeps_dropXfer (s : State) (i : Nat) : HeatKeeps sending s (s.dropXfer i) :=
  ((HeatKeeps.refl sending s).step (heatKeeps_ydt s _)).step (heatKeeps_noteSlots _)

theorem heatKeeps_noteSend (s : State) (dev : Nat) : HeatKeeps [.ydt, .regs] s (s.noteSend dev) :=
  ((HeatKeeps.refl _ s).step (heatKeeps_ydt s _)).step (.wr _ 8 _ dev _ (by decide))

theorem heatKeeps_notePacket (s : State) (fn : Nat) (t : Option Tags) (attempt opid : Nat) :
    HeatKeeps telling s (s.notePacket fn t attempt opid) := by
  have hcount : HeatKeeps telling s (s.count 11 0 0x01 fn t 1) := .count ..
  exact .ite hcount ((hcount.trans (.count ..)).trans (.trace ..))

theorem heatKeeps_pick {α : Type} (s : State) (l : List α) : HeatKeeps [.freeCtr] s (s.pick l).2 := by
  unfold State.pick
  split
  · exact .refl _ s
  · exact .of_only (Only.of_freeCtr s _) (by decide)

theorem heatKeeps_choosePath (s : State) (x : Xfer) (k : Nat) : HeatKeeps [.freeCtr] s (s.choosePath x k).2 := by
  unfold State.choosePath
  split
  · exact .refl _ s
  · extract_lets h
    split
    · exact .refl _ s
    · split
      · exact .refl _ s
      · exact heatKeeps_pick ..

/-- A slot that holds the bytes of a message of a heat, beside the slots of a table. -/
def HoldsHeat (base : Tab Xfer) (i fn : Nat) (s : State) : Prop :=
  ∃ x, s.ydt.xfers = base.put i x ∧ x.kind = tyHeat ∧ x.data.isSome = true ∧ x.fn = fn

theorem Tab.put_put {β : Type} (t : Tab β) (k : Nat) (v w : β) : (t.put k v).put k w = t.put k w := by
  induction t with
  | nil => simp [Tab.put]
  | cons e r ih =>
    obtain ⟨j, u⟩ := e
    simp only [Tab.put]
    split
    · simp [Tab.put]
    · split
      · simp [Tab.put]
      next hlt hne => simp [Tab.put, hlt, hne, ih]

/-- A packet of a heat's message is sent, unless its function's key is missing. -/
theorem sendPkt_heat {base : Tab Xfer} {i fn : Nat} {s : State} (h : HoldsHeat base i fn s) (env : HostView) (k count attempt : Nat) :
    HeatKeeps sending s (s.sendPkt env i k count attempt).1 ∧ HoldsHeat base i fn (s.sendPkt env i k count attempt).1 ∧
      (s.encrypts fn = false → (s.sendPkt env i k count attempt).2 = .sent) := by
  obtain ⟨x, hx, hkind, hdata, rfl⟩ := h
  obtain ⟨d, hd⟩ := Option.isSome_iff_exists.1 hdata
  have hlook : s.ydt.xfers.look i = some x := by rw [hx, Tab.look_put_self]
  have hbytes : s.xferData env x k = (s, .ok ((d.drop (4096 * k)).take 4096)) := by
    rw [State.xferData, if_neg (by rw [hkind]; decide), hd]
  unfold State.sendPkt
  rw [hlook]
  dsimp only
  cases hseal : s.sealBlock x.fn with
  | some st =>
    refine ⟨.refl _ s, ⟨x, hx, hkind, hdata, rfl⟩, fun henc => ?_⟩
    rw [State.sealBlock, henc] at hseal
    exact absurd hseal (by simp)
  | none =>
    rw [hbytes]
    dsimp only
    generalize hc : s.choosePath x k = c
    have hchosen : HeatKeeps sending s c.2 := hc ▸ (heatKeeps_choosePath s x k).mono (by decide)
    have hslots : c.2.ydt.xfers = base.put i x := hc ▸ (congrArg Ydt.xfers ((heatKeeps_choosePath s x k).only.2 .ydt (by decide))).trans hx
    have hput : ∀ y : Xfer, (c.2.putXfer i y).ydt.xfers = base.put i y := fun y => by
      rw [State.putXfer, hslots, Tab.put_put]
    have hmarked : ∀ y : Xfer, HeatKeeps sending s (c.2.putXfer i y) := fun y => hchosen.step (heatKeeps_ydt _ _)
    split
    · exact ⟨hmarked _, ⟨_, hput _, hkind, hdata, rfl⟩, fun _ => rfl⟩
    · have hnoted : ∀ y, HeatKeeps sending s (((c.2.putXfer i y).noteSend x.dev).notePacket x.fn (c.2.ownerTags x.owner) attempt (x.opid i)) :=
        fun y => ((hmarked y).step (heatKeeps_noteSend _ _)).step (heatKeeps_notePacket ..)
      have hnotedSlots : ∀ y, (((c.2.putXfer i y).noteSend x.dev).notePacket x.fn (c.2.ownerTags x.owner) attempt (x.opid i)).ydt.xfers = base.put i y :=
        fun y => (congrArg Ydt.xfers ((heatKeeps_notePacket ..).only.2 .ydt (by decide))).trans (hput y)
      refine ⟨(hnoted _).trans (sendOn_spec ..).1, ⟨_, (sendOn_spec ..).2.trans (hnotedSlots _), ?_⟩, fun _ => rfl⟩
      exact ⟨hkind, hdata, rfl⟩

theorem sendPkts_heat {base : Tab Xfer} {i fn : Nat} {s : State} (h : HoldsHeat base i fn s) (env : HostView) (attempt : Nat) (ks : List Nat) :
    HeatKeeps sending s (s.sendPkts env i attempt ks).1 ∧ HoldsHeat base i fn (s.sendPkts env i attempt ks).1 ∧
      (s.encrypts fn = false → (s.sendPkts env i attempt ks).2 = .sent) := by
  induction ks generalizing s with
  | nil => exact ⟨.refl _ s, h, fun _ => rfl⟩
  | cons k ks ih =>
    obtain ⟨hkeep, hhold, hsent⟩ := sendPkt_heat h env k 1 attempt
    unfold State.sendPkts
    split
    next u hu =>
      rw [hu] at hkeep hhold
      obtain ⟨hkeep', hhold', hsent'⟩ := ih hhold
      exact ⟨hkeep.trans hkeep', hhold', fun henc => hsent' ((hkeep.encrypts fn).trans henc)⟩
    next hne =>
      exact ⟨hkeep, hhold, fun henc => (hne _ (Prod.ext rfl (hsent henc))).elim⟩

/-! ### A slot is taken -/

theorem Tab.mem_map_fst_of_has {β : Type} {t : Tab β} {k : Nat} (h : t.has k = true) : k ∈ t.map Prod.fst := by
  obtain ⟨v, hv⟩ := Option.isSome_iff_exists.1 h
  exact List.mem_map.2 ⟨(k, v), Tab.mem_of_look hv, rfl⟩

/-- Among more numbers than a table has entries one is free. -/
theorem Tab.freshBelow_of_short {β : Type} {t : Tab β} {n : Nat} (h : t.length < n) : ∃ i, t.freshBelow n = some i ∧ t.has i = false := by
  cases hf : t.freshBelow n with
  | some i =>
    have := List.find?_some hf
    simp only [Bool.and_eq_true, Bool.not_eq_true'] at this
    exact ⟨i, rfl, this.2⟩
  | none =>
    have hall : ∀ i ∈ List.range (t.length + 1), i ∈ t.map Prod.fst := fun i hi => by
      have hlt : i < n := by have := List.mem_range.1 hi; omega
      exact Tab.mem_map_fst_of_has (by simpa [hlt] using List.find?_eq_none.1 hf i hi)
    have := (List.subperm_of_subset List.nodup_range hall).length_le
    simp at this

theorem Tab.length_put_of_absent {β : Type} {t : Tab β} {k : Nat} (h : t.has k = false) (v : β) : (t.put k v).length = t.length + 1 := by
  induction t with
  | nil => rfl
  | cons e r ih =>
    obtain ⟨j, w⟩ := e
    have hne : k ≠ j := by rintro rfl; simp [Tab.has, Tab.look] at h
    have hr : Tab.has r k = false := by simpa [Tab.has, Tab.look, Ne.symm hne] using h
    simp only [Tab.put, if_neg hne]
    split
    · rfl
    · rw [List.length_cons, ih hr, List.length_cons]

theorem takeSlot_spec (s : State) : Only [.ydt, .freeCtr] s s.takeSlot.1 ∧ s.takeSlot.1.ydt.xfers = s.ydt.xfers ∧
    (s.ydt.xfers.length < 32768 → ∃ i n, s.takeSlot.2 = some (i, n) ∧ s.ydt.xfers.has i = false) := by
  unfold State.takeSlot
  split
  next hfull => exact ⟨Only.refl _ s, rfl, fun h => absurd h (Nat.not_lt.2 hfull)⟩
  next hroom =>
    extract_lets c drawn
    have hdrawn : Only [.ydt, .freeCtr] s drawn := (Only.of_freeCtr s _).mono (by decide)
    have hfree : ∃ i, (if drawn.ydt.xfers.has c then drawn.ydt.xfers.freshBelow 32768 else some c) = some i ∧ s.ydt.xfers.has i = false := by
      split
      · exact Tab.freshBelow_of_short (Nat.lt_of_not_le hroom)
      next h => exact ⟨c, rfl, Bool.not_eq_true _ ▸ h⟩
    obtain ⟨i, hi, habsent⟩ := hfree
    rw [hi]
    exact ⟨hdrawn.trans ((Only.of_ydt drawn _).mono (by decide)), rfl, fun _ => ⟨i, _, rfl, habsent⟩⟩

/-- A message of a heat: it is sent where its function can send and a slot is free. -/
theorem sendOwn_heat (s : State) {x : Xfer} (hkind : x.kind = tyHeat) (hdata : x.data.isSome = true) :
    HeatKeeps sending s (s.sendOwn x).1 ∧
      (s.endpointOn x.fn = true → x.dev = s.devId → s.encrypts x.fn = false → s.ydt.xfers.length < 32768 →
        (s.sendOwn x).1.ydt.xfers.length = s.ydt.xfers.length + 1 ∧ ∃ i, (s.sendOwn x).2 = .ok i) := by
  unfold State.sendOwn
  split
  next hun =>
    refine ⟨.refl _ s, fun hon hdev _ _ => ?_⟩
    simp [State.unreachable, hon, hdev] at hun
  · split
    next st hseal =>
      refine ⟨.refl _ s, fun _ _ henc _ => ?_⟩
      simp [State.sealBlock, henc] at hseal
    · obtain ⟨honly, hxfers, hslot⟩ := takeSlot_spec s
      unfold State.startXfer
      cases htake : s.takeSlot with
      | mk u r =>
        rw [htake] at honly hxfers hslot
        have hu : HeatKeeps sending s u := (HeatKeeps.of_only honly (by decide)).mono (by decide)
        cases r with
        | none =>
          refine ⟨hu, fun _ _ _ hroom => ?_⟩
          obtain ⟨i, n, h, -⟩ := hslot hroom
          exact absurd h (by simp)
        | some r =>
          obtain ⟨i, n⟩ := r
          dsimp only at hxfers hslot ⊢
          generalize hy : ({ x with inc := n, timeout := u.baseTimeout x.dev } : Xfer) = y
          have hstarted : HeatKeeps sending s (u.putXfer i y).noteSlots := (hu.step (heatKeeps_ydt u _)).step (heatKeeps_noteSlots _)
          have hhold : HoldsHeat s.ydt.xfers i x.fn (u.putXfer i y).noteSlots := by
            subst hy
            exact ⟨_, congrArg (fun t : Tab Xfer => t.put i _) hxfers, hkind, hdata, rfl⟩
          have hlist : (u.putXfer i y).noteSlots.sendList ⟨[], [], [], []⟩ i 0 (List.range x.packets) =
              (u.putXfer i y).noteSlots.sendPkts ⟨[], [], [], []⟩ i 0 (List.range x.packets) := by
            obtain ⟨z, hz, hzkind, -⟩ := hhold
            rw [State.sendList, hz, Tab.look_put_self]
            exact if_neg (by rw [hzkind]; decide)
          rw [hlist]
          obtain ⟨hkeep, ⟨z, hz, -⟩, hsent⟩ := sendPkts_heat hhold ⟨[], [], [], []⟩ 0 (List.range x.packets)
          split
          next v hv =>
            rw [hv] at hkeep hz
            refine ⟨hstarted.trans hkeep, fun _ _ _ hroom => ⟨?_, i, rfl⟩⟩
            obtain ⟨j, m, hj, habsent⟩ := hslot hroom
            obtain ⟨rfl, -⟩ : i = j ∧ n = m := by simpa using hj
            rw [hz, Tab.length_put_of_absent habsent]
          next v e hne hv =>
            rw [hv] at hkeep hsent
            refine ⟨(hstarted.trans hkeep).trans (heatKeeps_dropXfer ..), fun _ _ henc _ => ?_⟩
            exact absurd (hsent ((hstarted.encrypts _).trans henc)) (by simpa using hne)

theorem heatSend_spec (s : State) (x : Group) (rank : Nat) (owner : XOwner) (w hash : Nat) (data : List Byte) :
    HeatKeeps sending s (s.heatSend x rank owner w hash data).1 ∧
      (s.endpointOn x.owner = true → (x.list.getD rank (0, 0)).1 = s.devId → s.encrypts x.owner = false → s.ydt.xfers.length < 32768 →
        (s.heatSend x rank owner w hash data).1.ydt.xfers.length = s.ydt.xfers.length + 1 ∧ ∃ i, (s.heatSend x rank owner w hash data).2 = .ok i) :=
  sendOwn_heat s rfl rfl

theorem heatKeeps_sendCredit (s : State) (g : Nat) (x : Group) (rank n : Nat) : HeatKeeps sending s (s.sendCredit g x rank n) := (heatSend_spec ..).1

theorem heatKeeps_sendAborts (s : State) (g : Nat) (x : Group) (seq status : Nat) : HeatKeeps sending s (s.sendAborts g x seq status) := by
  unfold State.sendAborts
  generalize List.range x.list.length = ranks
  induction ranks generalizing s with
  | nil => exact .refl _ s
  | cons r ranks ih => exact (HeatKeeps.ite (.refl _ s) (heatSend_spec ..).1).trans (ih _)

end Sys2Proof.Machine
end

section
/-! PROOFS for the statement of 07_arithmetic about heats (O14): groups, the early end of a heat (`stopHeat_spec`), and chunks that are sent and merged. -/

namespace Sys2Proof.Machine
open Sys2Proof

/-! ## Groups (R445) -/

/-- What a change of a group can change. -/
def grouping : List Field := telling ++ [.groups]

theorem heatKeeps_noteGroup (s : State) (g : Nat) : HeatKeeps [.regs] s (s.noteGroup g) := by
  unfold State.noteGroup
  extract_lets u
  have hu : HeatKeeps [.regs] s u := .wr s 10 _ 0 _ (by decide)
  split
  · exact (((hu.trans (.wr _ 10 _ g _ (by decide))).trans (.wr _ 10 _ g _ (by decide))).trans (.wr _ 10 _ g _ (by decide))).trans
      (.wr _ 10 _ g _ (by decide))
  · exact (((hu.trans (.wr _ 10 _ g _ (by decide))).trans (.wr _ 10 _ g _ (by decide))).trans (.wr _ 10 _ g _ (by decide))).trans
      (.wr _ 10 _ g _ (by decide))

theorem heatKeeps_putGroup (s : State) (g : Nat) (x : Group) : HeatKeeps grouping s (s.putGroup g x) :=
  ((HeatKeeps.refl grouping s).step (.of_only (Only.of_groups s _) (by decide))).step (heatKeeps_noteGroup _ g)

theorem HeatKeeps.group? {l : List Field} {s t : State} (h : HeatKeeps l s t) (hl : Field.groups ∉ l) (g : Nat) : t.group? g = s.group? g :=
  congrArg (Tab.look · g) (h.only.2 .groups hl)

theorem HeatKeeps.op? {l : List Field} {s t : State} (h : HeatKeeps l s t) (hl : Field.ops ∉ l) (i : Nat) : t.op? i = s.op? i :=
  congrArg (Tab.look · i) (h.only.ops_eq hl)

theorem group?_putGroup (s : State) (g : Nat) (x : Group) : (s.putGroup g x).group? g = some x :=
  ((heatKeeps_noteGroup _ g).group? (by decide) g).trans (Tab.look_put_self ..)

theorem HeatKeeps.heatFrom {l : List Field} {s t : State} (h : HeatKeeps l s t) (hl : Field.groups ∉ l) (p : Pkt) : t.heatFrom p = s.heatFrom p := by
  rw [State.heatFrom, State.heatFrom, h.group? hl]

/-! ## The end of a heat (R425, R431, R438, R439) -/

theorem heatKeeps_endNoted (s : State) (i : Nat) (o : Op) (status result : Nat) : HeatKeeps noting s (s.endNoted i o status result) := by
  unfold State.endNoted
  extract_lets traced counted freed
  have htraced : HeatKeeps noting s traced := (HeatKeeps.refl noting s).step (.trace ..)
  have hcounted : HeatKeeps noting s counted := .ite (htraced.step (.count ..)) htraced
  have hfreed : HeatKeeps noting s freed := by
    simp only [freed]
    split
    · exact (hcounted.step (heatKeeps_ydt _ _)).step (heatKeeps_noteSlots _)
    · exact hcounted
  unfold State.armEnds
  split
  · exact hfreed
  next e _ =>
    have hunarmed : HeatKeeps noting s (freed.setF (R.CTX_TQ_STATUS e.1) 0 2 0) := hfreed.step (.wr freed 5 _ e.1 _ (by decide))
    have hqueue := fun y => hunarmed.step (.of_only (Only.of_tqs _ y) (by decide))
    exact ((hqueue _).step (.wr _ 5 _ e.1 _ (by decide))).step (.wr _ 5 _ 0 _ (by decide))

theorem heatKeeps_dropChain (s : State) (c : Nat) : HeatKeeps [.ops, .chains] s (s.dropChain c) := .of_only (only_dropChain s c) (by decide)

theorem heatKeeps_finishOp (s : State) (i status result : Nat) : HeatKeeps ending s (s.finishOp i status result) := by
  cases ho : s.op? i with
  | none =>
    rw [State.finishOp, ho]
    exact .refl _ s
  | some o =>
    rw [finishOp_eq ho]
    extract_lets t u
    have ht : HeatKeeps ending s t := ((HeatKeeps.refl ending s).step (heatKeeps_endNoted ..)).step (.of_only (Only.of_ops ..) (by decide))
    have hu : HeatKeeps ending s u := .ite ht (ht.step (.of_only (Only.of_cox ..) (by decide)))
    exact .ite ((hu.step (.of_only (Only.of_ops u _) (by decide))).step (heatKeeps_dropChain ..)) hu

theorem heatKeeps_noteHeatEnd (s : State) (g status code cls : Nat) (x : Group) : HeatKeeps telling s (s.noteHeatEnd g status code cls x) := by
  unfold State.noteHeatEnd
  extract_lets counted aborted checked arith
  have hcounted : HeatKeeps telling s counted :=
    .ite (((HeatKeeps.refl telling s).step (.bump s 10 _ 0 1 (by decide))).trans (.raiseInt ..))
      (.ite (.refl _ s) ((HeatKeeps.refl telling s).step (.bump s 10 _ 0 1 (by decide))))
  have haborted : HeatKeeps telling s aborted := .ite (hcounted.trans (.raiseInt ..)) hcounted
  have hchecked : HeatKeeps telling s checked := .ite (haborted.trans (.raiseInt ..)) haborted
  have harith : HeatKeeps telling s arith := .ite ((hchecked.step (.bump checked 10 _ 0 1 (by decide))).trans (.raiseInt ..)) hchecked
  exact .ite harith (harith.trans (.logErr ..))

/-- A heat of another descriptor raises MISMATCH (R445). -/
theorem getB_noteHeatEnd_mismatch (s : State) (g code cls : Nat) (x : Group) : (s.noteHeatEnd g stMismatch code cls x).getB (intK pHEA) 0 = true := by
  unfold State.noteHeatEnd
  extract_lets counted aborted checked arith
  have hraised : counted.getB (intK pHEA) 0 = true := by
    simp only [counted, if_pos]
    exact getB_raiseInt_self _ (by decide) (by decide)
  have haborted : CausesKept pHEA counted aborted := .ite (.raiseInt ..) (.refl _ _)
  have hchecked : CausesKept pHEA aborted checked := .ite (.raiseInt ..) (.refl _ _)
  have harith : CausesKept pHEA checked arith := .ite ((CausesKept.bump pHEA checked 1 (by decide)).trans (.raiseInt ..)) (.refl _ _)
  exact (CausesKept.ite (.refl _ _) (.logErr (by decide) (by decide) ..)).bit 0 (((haborted.trans hchecked).trans harith).bit 0 hraised)

/-- An uncorrected merge raises ARITH (R445). -/
theorem getB_noteHeatEnd_arith (s : State) (g code cls : Nat) (x : Group) : (s.noteHeatEnd g stArith code cls x).getB (intK pHEA) 4 = true := by
  unfold State.noteHeatEnd
  extract_lets counted aborted checked arith
  have hraised : arith.getB (intK pHEA) 4 = true := by
    simp only [arith, if_pos]
    exact getB_raiseInt_self _ (by decide) (by decide)
  exact (CausesKept.ite (.refl _ _) (.logErr (by decide) (by decide) ..)).bit 4 hraised

/-- What an early end of a heat can change. -/
def stopping : List Field := ending ++ [.groups, .sec, .freeCtr]

/-- The heat h of the group x has ended early: its HEAT completes with the status and its sequence number, and the group goes on to the next one. -/
structure HeatEnded (g : Nat) (x : Group) (h : Heat) (status : Nat) (s t : State) : Prop where
  keeps : HeatKeeps stopping s t
  op : Ended t h.op status x.seq
  group : (t.group? g).map (fun y => (y.running, y.seq)) = some (none, (x.seq + 1) % 2 ^ 32)

/-- At most messages were sent since. -/
theorem HeatEnded.sent {g status : Nat} {x : Group} {h : Heat} {s t u : State} (ht : HeatEnded g x h status s t) (hu : HeatKeeps sending t u) :
    HeatEnded g x h status s u :=
  ⟨ht.keeps.step hu, ended_congr (hu.only.ops_eq (by decide)) ht.op, by rw [hu.group? (by decide), ht.group]⟩

theorem HeatEnded.after {g status : Nat} {x : Group} {h : Heat} {s t u : State} (hs : HeatKeeps stopping s t) (hu : HeatEnded g x h status t u) :
    HeatEnded g x h status s u :=
  ⟨hs.trans hu.keeps, hu.op, hu.group⟩

section
variable {s : State} {g : Nat} {x : Group} {h : Heat} {p : Op} (hg : s.group? g = some x) (hrun : x.running = some h) (hop : s.op? h.op = some p)
  (hissued : p.issued = false)
include hg hrun hop hissued

theorem heatEnded_endHeat {status : Nat} (hst : isOk status = false) : HeatEnded g x h status s (s.endHeat g status) := by
  unfold State.endHeat
  simp only [hg, hrun, hst, Bool.false_eq_true, if_false]
  generalize hcounted : (s.bump R.HEA_HEATS_DONE).count 13 0 0x02 x.owner (s.opTags h.op) 1 = u
  have hu : HeatKeeps telling s u := hcounted ▸ ((HeatKeeps.refl telling s).step (.bump s 10 _ 0 1 (by decide))).trans (.count ..)
  have hended : Ended (u.finishOp h.op status x.seq) h.op status x.seq := ended_finishOp ((hu.op? (by decide) _).trans hop) hissued ..
  refine ⟨(((HeatKeeps.refl stopping s).step hu).step (heatKeeps_finishOp ..)).step (heatKeeps_putGroup ..),
    ended_congr ((heatKeeps_putGroup ..).only.ops_eq (by decide)) hended, ?_⟩
  rw [group?_putGroup]
  rfl

theorem stopHeat_spec {status : Nat} (hst : isOk status = false) (code cls : Nat) (tell : Bool) :
    HeatEnded g x h status s (s.stopHeat g status code cls tell) ∧
      CausesKept pHEA (s.noteHeatEnd g status code cls x) (s.stopHeat g status code cls tell) := by
  have hnoted := heatKeeps_noteHeatEnd s g status code cls x
  have hended := heatEnded_endHeat ((hnoted.group? (by decide) g).trans hg) hrun ((hnoted.op? (by decide) _).trans hop) hissued hst
  unfold State.stopHeat
  simp only [hg, hrun, Option.isNone_some, Bool.false_eq_true, if_false]
  split
  · have hsent := heatKeeps_sendAborts ((s.noteHeatEnd g status code cls x).endHeat g status) g x x.seq (if status = stMismatch then stMismatch else stAborted)
    exact ⟨(hended.sent hsent).after (hnoted.mono (by decide)), hended.keeps.causes.trans hsent.causes⟩
  · exact ⟨hended.after (hnoted.mono (by decide)), hended.keeps.causes⟩

end

/-- While a chunk has actions to come, no result is written. -/
theorem heatOutput_of_not_over {s : State} {g : Nat} {x : Group} {h : Heat} (hg : s.group? g = some x) (hrun : x.running = some h)
    (hover : h.isOver x = false) (hv : HostView) : s.heatOutput hv g = s := by
  unfold State.heatOutput
  simp only [hg, hrun, hover, Bool.not_false, if_true]

/-! ## CHUNK_SEND (R433, R437) -/

theorem heatKeeps_creditWaited (s : State) (x : Group) (h : Heat) (c : Nat) : HeatKeeps (telling ++ [.tiles]) s (s.creditWaited x h c) := by
  unfold State.creditWaited
  split
  · exact (((HeatKeeps.refl _ s).step (.of_only (Only.of_tiles s _) (by decide))).step (.bump _ 10 _ 0 _ (by decide))).step (.count ..)
  · exact .refl _ s

/-- With a credit of the receiver the chunk is sent. -/
theorem execChunkSend_credit {s : State} {g c q n : Nat} {hv : HostView} {x : Group} {h : Heat} {ga : Bool} {xs : List Nat} (hg : s.group? g = some x)
    (hrun : x.running = some h) (hnext : h.next x c = some (.send q ga)) (hchunk : h.chunks.look c = some xs) (hcredit : x.credits.look q = some (n + 1))
    (hon : s.endpointOn x.owner = true) (hself : (x.list.getD q (0, 0)).1 = s.devId) (hclear : s.encrypts x.owner = false)
    (hroom : s.ydt.xfers.length < 32768) (hover : (h.advance c 0).isOver x = false) :
    ∃ t, exec (.chunkSend g c hv) s = .next t ∧
      (t.group? g).map (fun y => (y.credits.look q, y.running.map (fun k => k.done.look c))) = some (some n, some (some ((h.done.look c).getD 0 + 1))) ∧
      t.ydt.xfers.length = s.ydt.xfers.length + 1 ∧ t.ops = s.ops ∧ SameMem s t := by
  generalize hwaited : s.creditWaited x h c = u
  have hu : HeatKeeps (telling ++ [.tiles]) s u := hwaited ▸ heatKeeps_creditWaited s x h c
  generalize hx : ({ x with credits := x.credits.put q n, running := some (({ h with waits := h.waits.del c } : Heat).advance c u.uptime) } : Group) = x'
  have hput : HeatKeeps (telling ++ [.tiles, .groups]) s (u.putGroup g x') := ((HeatKeeps.refl _ s).step hu).step (heatKeeps_putGroup u g x')
  have hydt : (u.putGroup g x').ydt = s.ydt := hput.only.2 .ydt (by decide)
  obtain ⟨hkeep, hsend⟩ := heatSend_spec (u.putGroup g x') x q (.chunk g q c) (heatWord g 0 ga x.seq c) (h.hash x) (bytesOf 9 xs)
  obtain ⟨hlen, i, hi⟩ := hsend ((hput.endpointOn _).trans hon) (hself.trans hput.devId.symm) ((hput.encrypts _).trans hclear) (hydt ▸ hroom)
  have hgroup := (hkeep.group? (by decide) g).trans (group?_putGroup ..)
  generalize hsent : (u.putGroup g x').heatSend x q (.chunk g q c) (heatWord g 0 ga x.seq c) (h.hash x) (bytesOf 9 xs) = r at hkeep hlen hi hgroup
  have hall : HeatKeeps (sending ++ [.tiles, .groups]) s r.1 := ((HeatKeeps.refl _ s).step hput).step hkeep
  refine ⟨r.1, ?_, ?_, hydt ▸ hlen, hall.only.ops_eq (by decide), hall.only.sameMem (by decide)⟩
  · show execChunkSend g c hv s = .next r.1
    unfold execChunkSend
    simp only [hg, hrun, hnext, hchunk, hcredit, Option.getD_some, Nat.succ_ne_zero, if_false, Nat.add_sub_cancel, hwaited, hx]
    rw [show ({ h with waits := h.waits.del c } : Heat).hash x = h.hash x from rfl, hsent, show r = (r.1, .ok i) from Prod.ext rfl hi]
    subst hx
    exact congrArg Host.Outcome.next (heatOutput_of_not_over hgroup rfl hover hv)
  · rw [hgroup, ← hx, Option.map_some, Option.map_some, Tab.look_put_self, Heat.advance, Tab.look_put_self]

/-- Without a credit the chunk waits. -/
theorem execChunkSend_waits {s : State} {g c q : Nat} (hv : HostView) {x : Group} {h : Heat} {ga : Bool} {xs : List Nat} (hg : s.group? g = some x)
    (hrun : x.running = some h) (hnext : h.next x c = some (.send q ga)) (hchunk : h.chunks.look c = some xs) (hcredit : x.credits.look q = none) :
    ∃ t, exec (.chunkSend g c hv) s = .next t ∧ t.ydt = s.ydt ∧ ((t.group? g).bind Group.running).map Heat.done = some h.done ∧ t.ops = s.ops ∧ SameMem s t := by
  have hexec : exec (.chunkSend g c hv) s =
      .next (if h.waits.has c then s else s.putGroup g { x with running := some { h with waits := h.waits.put c s.uptime } }) := by
    show execChunkSend g c hv s = _
    unfold execChunkSend
    simp only [hg, hrun, hnext, hchunk, hcredit, Option.getD_none, if_true]
  refine ⟨_, hexec, ?_⟩
  split
  · exact ⟨rfl, by rw [hg, Option.bind_some, hrun, Option.map_some], rfl, fun _ => rfl⟩
  · have hput := heatKeeps_putGroup s g { x with running := some { h with waits := h.waits.put c s.uptime } }
    exact ⟨hput.only.2 .ydt (by decide), by rw [group?_putGroup, Option.bind_some, Option.map_some], hput.only.ops_eq (by decide), hput.only.sameMem (by decide)⟩

/-! ## CHUNK_MERGE (R231, R431, R435, R437) -/

theorem Tab.exists_mem_put {β : Type} {t : Tab β} {k : Nat} {v : β} (h : (k, v) ∈ t) (j : Nat) (w : β) : ∃ v', (k, v') ∈ t.put j w := by
  induction t with
  | nil => cases h
  | cons e r ih =>
    obtain ⟨i, u⟩ := e
    simp only [Tab.put]
    split
    · exact ⟨v, List.mem_cons_of_mem _ h⟩
    · rcases List.mem_cons.1 h with heq | hr
      · obtain ⟨rfl, rfl⟩ := Prod.mk.inj heq
        split
        next hjk => exact ⟨w, hjk ▸ List.mem_cons_self⟩
        · exact ⟨v, List.mem_cons_self⟩
      · split
        · exact ⟨v, List.mem_cons_of_mem _ hr⟩
        · obtain ⟨v', hv'⟩ := ih hr
          exact ⟨v', List.mem_cons_of_mem _ hv'⟩

/-- A chunk's new contents leave every action to come. -/
theorem isOver_put_chunk {h : Heat} {x : Group} (hover : h.isOver x = false) (c : Nat) (xs : List Nat) :
    ({ h with chunks := h.chunks.put c xs } : Heat).isOver x = false := by
  obtain ⟨⟨k, v⟩, hmem, hk⟩ := List.all_eq_false.1 hover
  obtain ⟨v', hv'⟩ := Tab.exists_mem_put hmem c xs
  exact List.all_eq_false.2 ⟨(k, v'), hv', hk⟩

/-- A merged chunk restores the standing credit it came against. -/
theorem restoreCredit_standing {s : State} {g : Nat} {x : Group} {a : Arrived} (hg : s.group? g = some x) (hstanding : a.standing = true) :
    HeatKeeps (sending ++ [.groups]) s (s.restoreCredit g a) ∧
      (s.restoreCredit g a).group? g = some { x with granted := x.granted.put a.rank 1 } := by
  unfold State.restoreCredit
  simp only [hg, hstanding, if_true]
  have hsent := heatKeeps_sendCredit (s.putGroup g { x with granted := x.granted.put a.rank 1 }) g x a.rank 1
  exact ⟨((HeatKeeps.refl _ s).step (heatKeeps_putGroup ..)).step hsent, (hsent.group? (by decide) g).trans (group?_putGroup ..)⟩

/-- A chunk that has come is merged into the group's heat, which is h with it. -/
def State.tookChunk (s : State) (g : Nat) (hv : HostView) (x : Group) (h : Heat) (a : Arrived) : State :=
  (((s.putGroup g { x with running := some h, pool := x.pool.erase a }).restoreCredit g a).count 13 0 0x01 x.owner (s.opTags h.op) 1).heatOutput hv g

theorem tookChunk_spec (s : State) (g : Nat) (hv : HostView) {x : Group} {h : Heat} {a : Arrived} (hover : h.isOver x = false)
    (hstanding : a.standing = true) :
    HeatKeeps (sending ++ [.groups]) s (s.tookChunk g hv x h a) ∧
      (s.tookChunk g hv x h a).group? g =
        some { x with running := some h, pool := x.pool.erase a, granted := x.granted.put a.rank 1 } := by
  have hput := heatKeeps_putGroup s g { x with running := some h, pool := x.pool.erase a }
  obtain ⟨hrestored, hgroup⟩ := restoreCredit_standing (group?_putGroup s g { x with running := some h, pool := x.pool.erase a }) hstanding
  unfold State.tookChunk
  generalize (s.putGroup g { x with running := some h, pool := x.pool.erase a }).restoreCredit g a = v at hrestored hgroup ⊢
  have hcount : HeatKeeps telling v (v.count 13 0 0x01 x.owner (s.opTags h.op) 1) := .count ..
  have hafter := (hcount.group? (by decide) g).trans hgroup
  rw [heatOutput_of_not_over hafter rfl hover]
  exact ⟨(((HeatKeeps.refl _ s).step hput).step hrestored).step hcount, hafter⟩

section
variable {s : State} {g c q : Nat} (hv : HostView) {x : Group} {h : Heat} {xs : List Nat} {a : Arrived} (hg : s.group? g = some x)
  (hrun : x.running = some h) (hnext : h.next x c = some (.merge q)) (hchunk : h.chunks.look c = some xs)
  (hfind : x.pool.find? (fun y => y.rank = q && y.chunk = c && y.gather = false && y.seqLo = x.seq % 16) = some a)
include hg hrun hnext hchunk hfind

theorem execChunkMerge_eq :
    ∃ u n, HeatKeeps [.regs] s u ∧ exec (.chunkMerge g c true false false hv) s =
      .next (u.tookChunk g hv x { h.advance c u.uptime with chunks := h.chunks.put c (mergeChunk h.lse h.rowLen xs a.data), firstIn := n } a) := by
  have hexec : exec (.chunkMerge g c true false false hv) s = execChunkMerge g c true false false hv s := rfl
  unfold execChunkMerge at hexec
  simp only [hg, hrun, hnext, hchunk, hfind, Bool.not_true, Bool.not_false, Bool.true_and, Bool.and_false, Bool.false_eq_true, if_false] at hexec
  generalize hcounted : (if badChunk _ _ _ = true then _ else _) = u at hexec
  have hchecked : HeatKeeps [.regs] s (s.bump R.HEA_CHECK_COUNT (b2n false + b2n false)) := .bump s 10 _ 0 _ (by decide)
  refine ⟨u, _, ?_, hexec⟩
  exact hcounted ▸ .ite (hchecked.trans (.bump _ 10 _ 0 1 (by decide))) hchecked

/-- The chunk that has come is merged; its slab is free and its credit is restored. -/
theorem execChunkMerge_merges (hover : (h.advance c 0).isOver x = false) (hstanding : a.standing = true) :
    ∃ t, exec (.chunkMerge g c true false false hv) s = .next t ∧
      ((t.group? g).bind Group.running).map (fun k => (k.chunks.look c, k.done.look c)) =
        some (some (mergeChunk h.lse h.rowLen xs a.data), some ((h.done.look c).getD 0 + 1)) ∧
      (t.group? g).map (fun y => (y.granted.look q, y.pool)) = some (some 1, x.pool.erase a) ∧ t.ops = s.ops ∧ SameMem s t := by
  have hrank : a.rank = q := by
    have := List.find?_some hfind
    simp only [Bool.and_eq_true, decide_eq_true_eq] at this
    exact this.1.1.1
  obtain ⟨u, n, hu, hexec⟩ := execChunkMerge_eq hv hg hrun hnext hchunk hfind
  obtain ⟨hkeep, hgroup⟩ := tookChunk_spec u g hv
    (h := { h.advance c u.uptime with chunks := h.chunks.put c (mergeChunk h.lse h.rowLen xs a.data), firstIn := n })
    (isOver_put_chunk hover c (mergeChunk h.lse h.rowLen xs a.data)) hstanding
  have hall : HeatKeeps (sending ++ [.groups]) s _ := ((HeatKeeps.refl _ s).step hu).step hkeep
  refine ⟨_, hexec, ?_, ?_, hall.only.ops_eq (by decide), hall.only.sameMem (by decide)⟩
  · rw [hgroup, Option.bind_some, Option.map_some, Tab.look_put_self, Heat.advance, Tab.look_put_self]
  · rw [hgroup, Option.map_some, hrank, Tab.look_put_self]

/-- A merge whose repeat fails too ends the heat. -/
theorem execChunkMerge_unrecovered {p : Op} (hop : s.op? h.op = some p) (hissued : p.issued = false) :
    ∃ t, exec (.chunkMerge g c true true true hv) s = .next t ∧ HeatEnded g x h stArith s t ∧ t.getB (intK pHEA) 4 = true := by
  refine ⟨(s.bump R.HEA_CHECK_COUNT 2).stopHeat g stArith 0x04 clsDevice true, ?_, ?_⟩
  · show execChunkMerge g c true true true hv s = _
    unfold execChunkMerge
    simp only [hg, hrun, hnext, hchunk, hfind]
    rfl
  · have hbumped : HeatKeeps [.regs] s (s.bump R.HEA_CHECK_COUNT 2) := .bump s 10 _ 0 2 (by decide)
    obtain ⟨hended, hcauses⟩ := stopHeat_spec ((hbumped.group? (by decide) g).trans hg) hrun ((hbumped.op? (by decide) _).trans hop) hissued
      (by decide : isOk stArith = false) 0x04 clsDevice true
    exact ⟨hended.after (hbumped.mono (by decide)), hcauses.bit 4 (getB_noteHeatEnd_arith ..)⟩

end

end Sys2Proof.Machine
end

section
/-! PROOFS of the statement of 07_arithmetic about heats (O14): the packets of a heat, which are served and acknowledged (`serve_acked`,
`execHeatDataReceive_eq`). -/

namespace Sys2Proof.Machine
open Sys2Proof

/-! ## Packets of heats (R435 to R439) -/

/-- What taking a packet from its buffer can change. -/
def taking : List Field := telling ++ [.ydt]

theorem heatKeeps_meetsEntry (s : State) (n : Nat) (w : WakeSource) : HeatKeeps telling s (s.meetsEntry n w) :=
  .ite (.of_told (.wake ..) (.wake (by decide) (by decide) ..)) (.refl _ s)

theorem Only.of_net (s : State) (x : Net) : Only [.net] s { s with net := x } := by
  refine ⟨rfl, fun p hp => ?_⟩
  cases p with
  | net => exact absurd (by decide) hp
  | regs | mem => exact fun _ => rfl
  | _ => rfl

theorem heatKeeps_bufferFall (s : State) (port link : Option (Nat × Nat × Nat)) : HeatKeeps telling s (s.bufferFall port link) := by
  have hpause : ∀ (u : State) p c, HeatKeeps telling u (u.pauseFall p c) := fun u p c =>
    .ite (((HeatKeeps.refl telling u).step (.of_only (Only.of_net u _) (by decide))).trans (.of_told (.sendPause ..) (.of_regs rfl))) (.refl _ u)
  have hxoff : ∀ (u : State) l v, HeatKeeps telling u (u.xoffFall l v) := fun u l v =>
    .ite (((HeatKeeps.refl telling u).step (.of_only (Only.of_crw u _) (by decide))).trans (.of_told (.emit ..) (.of_regs rfl))) (.refl _ u)
  unfold State.bufferFall
  extract_lets u
  have hu : HeatKeeps telling s u := by
    simp only [u]
    split
    exacts [hpause .., .refl _ s]
  split
  exacts [hu.trans (hxoff ..), hu]

/-- The oldest packet in clear of an enabled endpoint is served. -/
theorem serve_oldest {s : State} {typ : Nat} {sel : Pkt → Bool} {x : Rx} (h : Oldest s typ sel x) (f : State → Pkt → State) :
    ∃ u, s.serve typ sel (fun _ => 2) noPkt f = f u x.pkt ∧ HeatKeeps taking s u ∧ u.ydt = { s.ydt with rx := s.ydt.rx.erase x } := by
  obtain ⟨hfind, hon, hpart, hclear, hmode, hidle, hself⟩ := h
  have hgated : s.gated 2 = false := by simp [State.gated, hidle, hself]
  generalize hw : (if x.link.isSome then WakeSource.crew else .network) = w
  generalize hmet : s.meetsEntry 2 w = v
  have hv : HeatKeeps telling s v := hmet ▸ heatKeeps_meetsEntry ..
  generalize htaken : ({ v with ydt := { v.ydt with rx := v.ydt.rx.erase x } } : State).bufferFall x.port x.link = u
  have hfall : HeatKeeps telling _ u := htaken ▸ heatKeeps_bufferFall ..
  have hu : HeatKeeps taking s u := (((HeatKeeps.refl taking s).step hv).step (heatKeeps_ydt v _)).step hfall
  refine ⟨u, ?_, hu, (hfall.only.2 .ydt (by decide)).trans ?_⟩
  · have hopen : u.openPacket x.pkt = (u, true) := by
      unfold State.openPacket State.openCipher
      rw [hu.encrypts, hclear, hmode]
      rfl
    have hadmit : u.admitPacket x.pkt = (u, true) := by
      rw [State.admitPacket, hu.endpointOn, hu.pkey, hon, hpart, decide_eq_true rfl, Bool.and_self, if_pos rfl, hopen]
    unfold State.serve
    simp only [hfind, hgated, hw, hmet, htaken, hadmit, noPkt, Bool.false_eq_true, if_false, if_true]
  · rw [show v.ydt = s.ydt from hv.only.2 .ydt (by decide)]

/-- A chunk that its hash and CRC let pass is kept with the credit it came against, which is taken. -/
def Group.kept (y : Group) (r : Nat) (a : Arrived) : Group := { y with pool := y.pool ++ [a], granted := y.granted.put r 0 }

/-- A chunk of one packet as it is delivered. -/
def arrivedOf (p : Pkt) (r now : Nat) : Arrived :=
  ⟨r, bitsOf p.heatWord 3 14, bitOf p.heatWord 21, bitsOf p.heatWord 17 4, true, p.heatValue, elemsOf 9 (p.payload.length / 4) p.payload, now⟩

/-- The message of a chunk of one packet. -/
def wholeMsg (p : Pkt) : Msg := ⟨p.payload, p.heatValue, crc32c p.payload⟩

theorem heatKeeps_addRecord (s : State) (p : Pkt) : HeatKeeps sending s (s.addRecord p) :=
  ((HeatKeeps.refl sending s).step (heatKeeps_ydt s _)).step (heatKeeps_noteSlots _)

/-- A message of one packet is delivered, recorded and acknowledged. -/
theorem gatherMsg_single {u v : State} {p : Pkt} (hsingle : single p = true) (hrecorded : u.recorded p = false) (hfull : u.recordsFull = false)
    {fin : State → Msg → State × Option Nat} (hfin : fin u (wholeMsg p) = (v, none)) : u.gatherMsg p fin = (v.addRecord p).ackOne p 1 := by
  unfold State.gatherMsg
  simp only [hrecorded, hsingle, hfull, Bool.false_eq_true, if_false, if_true]
  rw [show fin u ⟨p.payload, p.extWord 0 % 2 ^ 32, crc32c p.payload⟩ = (v, none) from hfin]

/-- A chunk of one packet is handed to its group, recorded and acknowledged. -/
theorem execHeatDataReceive_eq {s : State} {x : Rx} (h : Oldest s tyHeat (fun p => p.heatKind = 0) x) (hsingle : single x.pkt = true)
    (hrecorded : s.recorded x.pkt = false) (hfull : s.recordsFull = false) {g : State → State}
    (harrive : ∀ u, HeatKeeps taking s u → u.chunkArrive x.pkt (wholeMsg x.pkt) = (g u, none)) :
    ∃ u, HeatKeeps taking s u ∧ exec .heatDataReceive s = .next (((g u).addRecord x.pkt).ackOne x.pkt 1) := by
  obtain ⟨u, hserve, hu, hydt⟩ := serve_oldest h (fun s p => s.gatherMsg p (fun s m => s.chunkArrive p m))
  have hrecorded' : u.recorded x.pkt = false := by rw [← hrecorded, State.recorded, State.recorded, hydt]
  have hfull' : u.recordsFull = false := by rw [← hfull, State.recordsFull, State.recordsFull, hydt]
  refine ⟨u, hu, ?_⟩
  rw [← gatherMsg_single hsingle hrecorded' hfull' (fin := fun s m => s.chunkArrive x.pkt m) (harrive u hu)]
  exact congrArg Host.Outcome.next hserve

section
variable {s : State} {x : Rx} {y : Group} {r : Nat} (hfrom : s.heatFrom x.pkt = some (y, r))
include hfrom

theorem group?_of_heatFrom : s.group? x.pkt.heatGroup = some y := by
  obtain ⟨z, hz, hsome⟩ := Option.bind_eq_some_iff.1 hfrom
  split at hsome
  · obtain ⟨q, -, hq⟩ := Option.map_eq_some_iff.1 hsome
    rw [hz, (Prod.mk.inj hq).1]
  · cases hsome

/-- What a packet of a heat can change before its group sees it. -/
def greeting : List Field := telling ++ [.ydt, .sec, .freeCtr]

/-- A CREDIT or an ABORT is acknowledged, and its group is the one it names. -/
theorem serve_acked {kind : Nat} (h : Oldest s tyHeat (fun p => p.heatKind = kind) x) (f : State → Pkt → State) :
    ∃ u, s.serve tyHeat (fun p => p.heatKind = kind) (fun _ => 2) noPkt f = f u x.pkt ∧ HeatKeeps greeting s (u.ackOne x.pkt 1) ∧
      (u.ackOne x.pkt 1).heatFrom x.pkt = some (y, r) := by
  obtain ⟨u, hserve, hu, -⟩ := serve_oldest h f
  have hacked : HeatKeeps greeting s (u.ackOne x.pkt 1) := ((HeatKeeps.refl _ s).step hu).step (heatKeeps_ackOne ..)
  exact ⟨u, hserve, hacked, (hacked.heatFrom (by decide) _).trans hfrom⟩

/-- A CREDIT adds to the credits of its rank. -/
theorem execCreditReceive_adds (h : Oldest s tyHeat (fun p => p.heatKind = 1) x) :
    ∃ t, exec .creditReceive s = .next t ∧
      (t.group? x.pkt.heatGroup).map (fun z => z.credits.look r) = some (some ((y.credits.look r).getD 0 + x.pkt.heatValue % 256)) ∧
      t.ops = s.ops ∧ SameMem s t := by
  have hexec : exec .creditReceive s = execCreditReceive s := rfl
  unfold execCreditReceive at hexec
  obtain ⟨u, hserve, hacked, hfrom'⟩ := serve_acked hfrom h _
  rw [hserve] at hexec
  simp only [hfrom'] at hexec
  have hall := fun z => ((HeatKeeps.refl (greeting ++ [.groups]) s).step hacked).step (heatKeeps_putGroup _ x.pkt.heatGroup z)
  refine ⟨_, hexec, ?_, (hall _).only.ops_eq (by decide), (hall _).only.sameMem (by decide)⟩
  rw [group?_putGroup, Option.map_some, Tab.look_put_self]

/-- An ABORT of the heat that runs ends it. -/
theorem execAbortReceive_ends (h : Oldest s tyHeat (fun p => p.heatKind = 2) x) {k : Heat} {p : Op} (hrun : y.running = some k)
    (hop : s.op? k.op = some p) (hissued : p.issued = false) (hseq : bitsOf x.pkt.heatWord 17 4 = y.seq % 16)
    (hstatus : x.pkt.heatValue % 256 ≠ stMismatch) :
    ∃ t, exec .abortReceive s = .next t ∧ HeatEnded x.pkt.heatGroup y k stAborted s t ∧ t.getB (intK pHEA) 31 = true := by
  have hexec : exec .abortReceive s = execAbortReceive s := rfl
  unfold execAbortReceive at hexec
  obtain ⟨u, hserve, hacked, hfrom'⟩ := serve_acked hfrom h _
  rw [hserve] at hexec
  simp only [hfrom', if_neg hstatus, hrun, hseq, Option.isSome_some, decide_true, Bool.and_self, if_true] at hexec
  generalize hlogged : (u.ackOne x.pkt 1).logErr pHEA 0x06 clsDevice y.owner noTags 0 (grpDetail x.pkt.heatGroup r y.seq) = v at hexec
  have hv : HeatKeeps greeting s v := hlogged ▸ hacked.step (.logErr ..)
  have hbit : v.getB (intK pHEA) 31 = true := by
    rw [← hlogged]
    exact (CausesKept.of_debugTold (by decide) (by decide) (.logErr ..)).bit 31 (getB_logOnly_error _ _ _ _ _ _ _ _ (by decide))
  obtain ⟨hended, hcauses⟩ := stopHeat_spec ((hv.group? (by decide) _).trans (group?_of_heatFrom hfrom)) hrun ((hv.op? (by decide) _).trans hop) hissued
    (by decide : isOk stAborted = false) 0 0 false
  exact ⟨_, hexec, hended.after (hv.mono (by decide)), hended.keeps.causes.bit 31 hbit⟩

/-- An ABORT before its heat starts is remembered for it. -/
theorem execAbortReceive_remembers (h : Oldest s tyHeat (fun p => p.heatKind = 2) x) (hrun : y.running = none)
    (hseq : bitsOf x.pkt.heatWord 17 4 = y.seq % 16) (hstatus : x.pkt.heatValue % 256 = stMismatch) :
    ∃ t, exec .abortReceive s = .next t ∧
      (t.group? x.pkt.heatGroup).map (fun z => (z.abortNext, z.seq)) = some (some stMismatch, y.seq) ∧ t.ops = s.ops ∧ SameMem s t := by
  have hexec : exec .abortReceive s = execAbortReceive s := rfl
  unfold execAbortReceive at hexec
  obtain ⟨u, hserve, hacked, hfrom'⟩ := serve_acked hfrom h _
  rw [hserve] at hexec
  simp only [hfrom', if_pos hstatus, hrun, hseq, Option.isSome_none, Bool.false_and, Bool.false_eq_true, if_false,
    show y.seq % 16 = (y.seq + b2n false) % 16 from rfl, if_true, ite_self] at hexec
  have hall := fun z => (((HeatKeeps.refl (greeting ++ [.groups]) s).step hacked).step
    (.logErr _ pHEA 0x06 clsDevice y.owner noTags 0 (grpDetail x.pkt.heatGroup r y.seq))).step (heatKeeps_putGroup _ x.pkt.heatGroup z)
  refine ⟨_, hexec, ?_, (hall _).only.ops_eq (by decide), (hall _).only.sameMem (by decide)⟩
  rw [group?_putGroup, Option.map_some]

section
variable (hcredit : 0 < (y.granted.look r).getD 0) (hseq : bitsOf x.pkt.heatWord 17 4 = y.seq % 16)
include hcredit hseq

/-- A chunk that comes before its heat waits in the pool. -/
theorem chunkArrive_waits (hrun : y.running = none) :
    s.chunkArrive x.pkt (wholeMsg x.pkt) = (s.putGroup x.pkt.heatGroup (y.kept r (arrivedOf x.pkt r s.uptime)), none) := by
  unfold State.chunkArrive
  simp only [hfrom, hseq, hcredit, hrun, ne_eq, not_true_eq_false, decide_false, decide_true, Bool.false_and, Bool.not_true, Bool.false_eq_true, if_false, if_true]
  rw [Group.kept, arrivedOf, hseq, hrun]
  rfl

/-- A chunk of another descriptor hash ends the heat. -/
theorem chunkArrive_mismatch {k : Heat} (hrun : y.running = some k) (hhash : x.pkt.heatValue ≠ k.hash y) :
    s.chunkArrive x.pkt (wholeMsg x.pkt) =
      ((s.putGroup x.pkt.heatGroup (y.kept r (arrivedOf x.pkt r s.uptime))).stopHeat x.pkt.heatGroup stMismatch 0x01 clsDevice true, none) := by
  unfold State.chunkArrive
  simp only [hfrom, hseq, hcredit, hrun, ne_eq, not_true_eq_false, decide_false, decide_true, Bool.false_and, Bool.not_true, Bool.false_eq_true, if_false, if_true]
  rw [Group.kept, arrivedOf, hseq, hrun, if_pos (show (wholeMsg x.pkt).hash ≠ k.hash y from hhash)]
  rfl

end

section
variable (h : Oldest s tyHeat (fun p => p.heatKind = 0) x) (hsingle : single x.pkt = true) (hrecorded : s.recorded x.pkt = false)
  (hfull : s.recordsFull = false)
include h hsingle hrecorded hfull

/-- A chunk that comes against a standing credit before its heat is kept until its merge. -/
theorem execHeatDataReceive_keeps (hcredit : 0 < (y.granted.look r).getD 0) (hseq : bitsOf x.pkt.heatWord 17 4 = y.seq % 16) (hrun : y.running = none) :
    ∃ t, exec .heatDataReceive s = .next t ∧ t.group? x.pkt.heatGroup = some (y.kept r (arrivedOf x.pkt r s.uptime)) ∧ t.ops = s.ops ∧ SameMem s t := by
  obtain ⟨u, hu, hexec⟩ := execHeatDataReceive_eq h hsingle hrecorded hfull
    (fun u hu => chunkArrive_waits ((hu.heatFrom (by decide) _).trans hfrom) hcredit hseq hrun)
  have hput := heatKeeps_putGroup u x.pkt.heatGroup (y.kept r (arrivedOf x.pkt r u.uptime))
  have hsent := (heatKeeps_addRecord (u.putGroup x.pkt.heatGroup (y.kept r (arrivedOf x.pkt r u.uptime))) x.pkt).trans (heatKeeps_ackOne _ x.pkt 1)
  have hall : HeatKeeps (sending ++ [.groups]) s _ := (((HeatKeeps.refl _ s).step hu).step hput).step hsent
  refine ⟨_, hexec, ?_, hall.only.ops_eq (by decide), hall.only.sameMem (by decide)⟩
  rw [hsent.group? (by decide), group?_putGroup, show u.uptime = s.uptime from hu.only.2 .uptime (by decide)]

/-- A chunk of another descriptor hash ends the heat. -/
theorem execHeatDataReceive_mismatch (hcredit : 0 < (y.granted.look r).getD 0) (hseq : bitsOf x.pkt.heatWord 17 4 = y.seq % 16) {k : Heat} {p : Op}
    (hrun : y.running = some k) (hhash : x.pkt.heatValue ≠ k.hash y) (hop : s.op? k.op = some p) (hissued : p.issued = false) :
    ∃ t, exec .heatDataReceive s = .next t ∧ HeatEnded x.pkt.heatGroup (y.kept r (arrivedOf x.pkt r s.uptime)) k stMismatch s t ∧
      t.getB (intK pHEA) 0 = true := by
  obtain ⟨u, hu, hexec⟩ := execHeatDataReceive_eq h hsingle hrecorded hfull
    (fun u hu => chunkArrive_mismatch ((hu.heatFrom (by decide) _).trans hfrom) hcredit hseq hrun hhash)
  rw [show u.uptime = s.uptime from hu.only.2 .uptime (by decide)] at hexec
  generalize hkept : y.kept r (arrivedOf x.pkt r s.uptime) = z at hexec ⊢
  have hput := heatKeeps_putGroup u x.pkt.heatGroup z
  have hbefore : HeatKeeps (taking ++ [.groups]) s _ := ((HeatKeeps.refl _ s).step hu).step hput
  obtain ⟨hended, hcauses⟩ := stopHeat_spec (group?_putGroup u x.pkt.heatGroup z) (show z.running = some k by rw [← hkept]; exact hrun)
    ((hbefore.op? (by decide) _).trans hop) hissued (by decide : isOk stMismatch = false) 0x01 clsDevice true
  have hsent := (heatKeeps_addRecord ((u.putGroup x.pkt.heatGroup z).stopHeat x.pkt.heatGroup stMismatch 0x01 clsDevice true) x.pkt).trans
    (heatKeeps_ackOne _ x.pkt 1)
  exact ⟨_, hexec, (hended.after (hbefore.mono (by decide))).sent hsent, hsent.causes.bit 0 (hcauses.bit 0 (getB_noteHeatEnd_mismatch ..))⟩

end

end

/-- Settles O14: each clause is what its instruction's lemma says; a heat that ends early is `HeatEnded`. -/
theorem chunksAndCredits : Obligations.ChunksAndCredits := by
  refine ⟨?_, ?_, ?_, ?_, ?_, ?_, ?_, ?_, ?_⟩
  · intro s g c hv x h q n ga xs hg hrun hnext hchunk hcredit hon hself hclear hroom hover
    exact execChunkSend_credit hg hrun hnext hchunk hcredit hon hself hclear hroom hover
  · intro s g c hv x h q ga xs hg hrun hnext hchunk hcredit
    exact execChunkSend_waits hv hg hrun hnext hchunk hcredit
  · intro s g c hv x h q xs a hg hrun hnext hchunk hfind hover hstanding
    exact execChunkMerge_merges hv hg hrun hnext hchunk hfind hover hstanding
  · intro s g c hv x h q xs a p hg hrun hop hissued hnext hchunk hfind
    obtain ⟨t, hexec, hended, hbit⟩ := execChunkMerge_unrecovered hv hg hrun hnext hchunk hfind hop hissued
    exact ⟨t, hexec, hended.op, hended.group, hbit, hended.keeps.only.sameMem (by decide)⟩
  · intro s x y r hold hfrom
    exact execCreditReceive_adds hfrom hold
  · intro s x y r h p hold hfrom hrun hop hissued hseq hstatus
    obtain ⟨t, hexec, hended, hbit⟩ := execAbortReceive_ends hfrom hold hrun hop hissued hseq hstatus
    exact ⟨t, hexec, hended.op, hended.group, hbit, hended.keeps.only.sameMem (by decide)⟩
  · intro s x y r hold hfrom hrun hseq hstatus
    exact execAbortReceive_remembers hfrom hold hrun hseq hstatus
  · intro s x y r hold hfrom hsingle hrecorded hfull hcredit hseq hrun
    obtain ⟨t, hexec, hgroup, hops, hmem⟩ := execHeatDataReceive_keeps hfrom hold hsingle hrecorded hfull hcredit hseq hrun
    refine ⟨t, hexec, ?_, ?_, hops, hmem⟩
    · rw [hgroup]
      rfl
    · rw [hgroup, Option.map_some, Group.kept, Tab.look_put_self]
  · intro s x y r h p hold hfrom hsingle hrecorded hfull hcredit hseq hrun hhash hop hissued
    obtain ⟨t, hexec, hended, hbit⟩ := execHeatDataReceive_mismatch hfrom hold hsingle hrecorded hfull hcredit hseq hrun hhash hop hissued
    exact ⟨t, hexec, hended.op, hbit, hended.keeps.only.sameMem (by decide)⟩

end Sys2Proof.Machine
end

section
/-! PROOFS for the statement of 07_arithmetic about tiles (O34): what a change of a cluster's tiles leaves (`TileKeeps`), and a tile's queue of units. -/

namespace Sys2Proof.Machine
open Sys2Proof

/-! ## Registers of their own -/

theorem rkey_ne_of_off {p q off off' i j : Nat} (h : off ≠ off') (hlt : off < 4096) (hlt' : off' < 4096) : rkey p off i ≠ rkey q off' j :=
  fun he => h ((keyOff_rkey p off i hlt).symm.trans ((congrArg keyOff he).trans (keyOff_rkey q off' j hlt')))

theorem rkey_ne_of_page {p q off off' i j : Nat} (h : p ≠ q) (hp : p < 4096) (hq : q < 4096) (hlt : off < 4096) (hlt' : off' < 4096) :
    rkey p off i ≠ rkey q off' j :=
  fun he => h ((keyPage_rkey p off i hlt hp).symm.trans ((congrArg keyPage he).trans (keyPage_rkey q off' j hlt' hq)))

/-- A block's own registers tell nothing. -/
theorem tellKey_own {page off : Nat} (i : Nat) (hglb : page ≠ 0) (hdbg : page ≠ pDBG) (hpage : page < 64) (hlo : 0x40 ≤ off) (hhi : off < 4096) :
    tellKey (rkey page off i) = false := by
  have ho : keyOff (rkey page off i) = off := keyOff_rkey page off i hhi
  have hp : keyPage (rkey page off i) = page := keyPage_rkey page off i hhi (by omega)
  have hwake : rkey page off i ≠ R.GLB_WAKE_CAUSE := rkey_ne_of_page hglb (by omega) (by decide) hhi (by decide)
  have hidle : rkey page off i ≠ R.GLB_IDLE_STATUS := rkey_ne_of_page hglb (by omega) (by decide) hhi (by decide)
  simp only [tellKey, ho, hp, beq_eq_false_iff_ne.2 hwake, beq_eq_false_iff_ne.2 hidle, beq_eq_false_iff_ne.2 hdbg, decide_eq_false (Nat.not_lt.2 hlo),
    decide_eq_false (Nat.not_le.2 hpage), Bool.or_false, Bool.false_and]

section
variable {nn : Nat} (hnn : nn < 16)
include hnn

theorem clsPage_lt : clsPage nn < 64 := by simp only [clsPage]; omega

theorem clsPage_ne_dbg : clsPage nn ≠ pDBG := by simp only [clsPage, pDBG]; omega

theorem tellKey_cls {off : Nat} (hlo : 0x40 ≤ off) (hhi : off < 4096) : tellKey (rkey (clsPage nn) off 0) = false :=
  tellKey_own 0 (by simp only [clsPage]; omega) (clsPage_ne_dbg hnn) (clsPage_lt hnn) hlo hhi

end

/-! ## A cluster's tiles change -/

/-- Only the named parts and registers change, beside an event that is told, and no interrupt cause of the cluster is cleared. -/
structure TileKeeps (nn : Nat) (l : List Field) (ks : List Nat) (s t : State) : Prop where
  tells : TellsIn l ks s t
  causes : CausesKept (clsPage nn) s t

namespace TileKeeps
variable {nn : Nat} {l m : List Field} {ks js : List Nat} {s t u : State}

theorem refl (nn : Nat) (l : List Field) (ks : List Nat) (s : State) : TileKeeps nn l ks s s := ⟨.refl l ks s, .refl _ s⟩

theorem trans (h : TileKeeps nn l ks s t) (h' : TileKeeps nn l ks t u) : TileKeeps nn l ks s u := ⟨h.tells.trans h'.tells, h.causes.trans h'.causes⟩

theorem mono (h : TileKeeps nn l ks s t) (hl : l ⊆ m) (hk : ks ⊆ js) : TileKeeps nn m js s t := ⟨h.tells.mono hl hk, h.causes⟩

theorem ite {a b : State} {p : Prop} [Decidable p] (ha : TileKeeps nn l ks s a) (hb : TileKeeps nn l ks s b) : TileKeeps nn l ks s (if p then a else b) := by
  split
  exacts [ha, hb]

theorem told (h : TileKeeps nn l ks s t) (h' : Told t u) (hc : CausesKept (clsPage nn) t u) : TileKeeps nn l ks s u := ⟨h.tells.told h', h.causes.trans hc⟩

theorem only (h : TileKeeps nn l ks s t) (h' : Only m t u) (hm : m ⊆ l) (hr : Field.regs ∉ m := by decide) : TileKeeps nn l ks s u :=
  ⟨h.tells.only h' hm hr, h.causes.trans (.of_only h' hr)⟩

theorem wr (h : TileKeeps nn l ks s t) {k : Nat} (v : Word) (hk : k ∈ ks) (ho : keyOff k ≠ 0x010) : TileKeeps nn l ks s (t.wr k v) :=
  ⟨h.tells.wr v hk, h.causes.trans (.wr _ t v ho)⟩

theorem raiseInt (h : TileKeeps nn l ks s t) (q b : Nat) : TileKeeps nn l ks s (t.raiseInt q b) := h.told (.raiseInt ..) (.raiseInt ..)

theorem addUnits (h : TileKeeps nn l ks s t) {k : Nat} (n unit : Nat) (hl : Field.tiles ∈ l) (hk : k ∈ ks) (ho : keyOff k ≠ 0x010) :
    TileKeeps nn l ks s (t.addUnits k n unit) :=
  (h.only (Only.of_tiles t _) (by simpa using hl)).wr _ hk ho

theorem same (h : TileKeeps nn l ks s t) {p : Field} (hp : p ∉ telling ++ l) : p.Same s t := h.tells.same hp

theorem rd_cls {c off : Nat} (h : TileKeeps nn l ks s t) (hc : c < 16) (hk : rkey (clsPage c) off 0 ∉ ks) (hlo : 0x40 ≤ off) (hhi : off < 4096) :
    t.rd (rkey (clsPage c) off 0) = s.rd (rkey (clsPage c) off 0) := h.tells.rd_eq (tellKey_cls hc hlo hhi) hk

section
variable (hnn : nn < 16)
include hnn

theorem count (h : TileKeeps nn l ks s t) (block inst event fn : Nat) (g : Option Tags) (n : Nat) :
    TileKeeps nn l ks s (t.count block inst event fn g n) :=
  h.told (.count ..) (.count ((clsPage_lt hnn).trans (by decide)) (clsPage_ne_dbg hnn) ..)

theorem trace (h : TileKeeps nn l ks s t) (block inst event fn : Nat) (g : Option Tags) (a b : Nat) :
    TileKeeps nn l ks s (t.trace block inst event fn g a b) :=
  h.told (.trace ..) (.trace ((clsPage_lt hnn).trans (by decide)) (clsPage_ne_dbg hnn) ..)

theorem logErr (h : TileKeeps nn l ks s t) (q code cls fn : Nat) (g : Tags) (addr detail : Nat) :
    TileKeeps nn l ks s (t.logErr q code cls fn g addr detail) :=
  h.told (.logErr ..) (.logErr ((clsPage_lt hnn).trans (by decide)) (clsPage_ne_dbg hnn) ..)

end

end TileKeeps

/-! ## A tile's state -/

theorem tileAt_congr {s u : State} (h : u.tiles = s.tiles) (c x : Nat) : u.tileAt c x = s.tileAt c x := by rw [State.tileAt, State.tileAt, h]

theorem Told.tileAt {s u : State} (h : Told s u) (c x : Nat) : u.tileAt c x = s.tileAt c x := tileAt_congr (h.1.2 .tiles (by decide)) c x

theorem tileAt_putTile_self (s : State) (c x : Nat) (y : Tile) : (s.putTile c x y).tileAt c x = y := by
  rw [State.tileAt, State.putTile, Tab.look_put_self, Option.getD_some]

theorem tileKey_ne {c x d y : Nat} (hx : x < 4) (hy : y < 4) (h : (c, x) ≠ (d, y)) : tileKey c x ≠ tileKey d y := fun he => h (by
  simp only [tileKey] at he
  exact Prod.ext (by simp only; omega) (by simp only; omega))

theorem tileAt_putTile_ne (s : State) {c x d y : Nat} (hx : x < 4) (hy : y < 4) (h : (c, x) ≠ (d, y)) (z : Tile) :
    (s.putTile d y z).tileAt c x = s.tileAt c x := by
  rw [State.tileAt, State.tileAt, State.putTile, Tab.look_put_ne _ _ (tileKey_ne hx hy h)]

theorem tileAt_setUnits_self (s : State) (c x : Nat) (q : List (Nat × Nat)) (busy : Bool) :
    (s.setUnits c x q busy).tileAt c x = { s.tileAt c x with units := q, busy := busy && !q.isEmpty } := tileAt_putTile_self ..

theorem tileAt_setUnits_ne (s : State) {c x d y : Nat} (hx : x < 4) (hy : y < 4) (h : (c, x) ≠ (d, y)) (q : List (Nat × Nat)) (busy : Bool) :
    (s.setUnits d y q busy).tileAt c x = s.tileAt c x := tileAt_putTile_ne s hx hy h _

theorem units_dropUnit (s : State) (c x : Nat) (u : Nat × Nat) : ((s.dropUnit c x u).tileAt c x).units = (s.tileAt c x).units.erase u :=
  congrArg Tile.units (tileAt_setUnits_self ..)

theorem acc_dropUnit (s : State) (c x : Nat) (u : Nat × Nat) : ((s.dropUnit c x u).tileAt c x).acc = (s.tileAt c x).acc :=
  (congrArg Tile.acc (tileAt_setUnits_self ..)).trans rfl

theorem only_setUnits (s : State) (c x : Nat) (q : List (Nat × Nat)) (busy : Bool) : Only [.regs, .tiles] s (s.setUnits c x q busy) :=
  (((Only.of_tiles s _).mono (by decide)).trans ((Only.of_wr ..).mono (by decide))).trans ((Only.of_wr ..).mono (by decide))

theorem regsBut_setUnits (s : State) (c x : Nat) (q : List (Nat × Nat)) (busy : Bool) :
    RegsBut [R.CLS_QUEUE_DEPTH c, statusK (clsPage c)] s (s.setUnits c x q busy) :=
  (((RegsBut.refl _ s).trans fun _ _ => rfl).wr _ (by simp)).wr _ (by simp)

theorem getF_queueDepth_setUnits (s : State) (c : Nat) {x : Nat} (hx : x < 4) {q : List (Nat × Nat)} (hq : q.length < 256) (busy : Bool) :
    (s.setUnits c x q busy).getF (R.CLS_QUEUE_DEPTH c) (8 * x) 8 = q.length := by
  have hstatus : R.CLS_QUEUE_DEPTH c ≠ statusK (clsPage c) := rkey_ne_of_off (by decide) (by decide) (by decide)
  rw [State.getF, State.setUnits, State.noteUnits, rd_setB_ne _ _ _ hstatus, State.setF, State.rd_wr_self, tileAt_putTile_self, fld_setFld_self _ (by omega) hq]

theorem TileKeeps.setUnits {nn : Nat} {l : List Field} {ks : List Nat} {s t : State} (h : TileKeeps nn l ks s t) (c x : Nat) (q : List (Nat × Nat)) (busy : Bool)
    (hl : Field.tiles ∈ l) (hk : R.CLS_QUEUE_DEPTH c ∈ ks) : TileKeeps nn l ks s (t.setUnits c x q busy) := by
  have hdepth : keyOff (R.CLS_QUEUE_DEPTH c) = 0x088 := keyOff_rkey _ _ _ (by decide)
  have hstatus : keyOff (statusK (clsPage c)) = 0x00C := keyOff_rkey _ _ _ (by decide)
  exact ((h.only (Only.of_tiles t _) (by simpa using hl)).wr _ hk (by rw [hdepth]; decide)).told (.setB _ _ _ (tellKey_statusK _)) (.wr _ _ _ (by rw [hstatus]; decide))

theorem tileRetired_congr {s u : State} {c : Nat} (h : u.rd (R.CLS_TILE_STATE c) = s.rd (R.CLS_TILE_STATE c)) (x : Nat) : u.tileRetired c x = s.tileRetired c x :=
  getB_congr h _

end Sys2Proof.Machine
end

section
/-! PROOFS for the statement of 07_arithmetic about tiles (O34): a tile block's results, its runs (`blockRuns_retried`) and its end (`State.endBlock`). -/

namespace Sys2Proof.Machine
open Sys2Proof

/-! ## The results of a block (R216 to R220, R227) -/

theorem look_foldl_put {β : Type} {outs : List (Nat × β)} (hnodup : (outs.map Prod.fst).Nodup) {e : Nat × β} (he : e ∈ outs) (m : Tab β) :
    (outs.foldl (fun (m : Tab β) o => m.put o.1 o.2) m).look e.1 = some e.2 := by
  have hlast : ∀ (os : List (Nat × β)) (m : Tab β), e.1 ∉ os.map Prod.fst → (os.foldl (fun (m : Tab β) o => m.put o.1 o.2) m).look e.1 = m.look e.1 := by
    intro os
    induction os with
    | nil => exact fun _ _ => rfl
    | cons o os ih =>
      intro m hm
      rw [List.map_cons, List.mem_cons, not_or] at hm
      rw [List.foldl_cons, ih _ hm.2, Tab.look_put_ne _ _ hm.1]
  induction outs generalizing m with
  | nil => cases he
  | cons o os ih =>
    rw [List.map_cons, List.nodup_cons] at hnodup
    rcases List.mem_cons.1 he with rfl | htail
    · rw [List.foldl_cons, hlast _ _ hnodup.1, Tab.look_put_self]
    · exact ih hnodup.2 htail _

/-- No two results of a block lie in the same place. -/
theorem nodup_blockOutputs (fa fb : Nat) (a : List Row) {b : List Row} (hb : b.length ≤ 32) (scale : Option Nat) (acc : Nat → Nat) :
    ((blockOutputs fa fb a b scale acc).map Prod.fst).Nodup := by
  have hkeys : (blockOutputs fa fb a b scale acc).map Prod.fst = (List.range a.length).flatMap fun r => (List.range b.length).map fun c => 32 * r + c := by
    simp only [blockOutputs, List.map_flatMap, List.map_map]
    rfl
  rw [hkeys, List.nodup_flatMap]
  refine ⟨fun r _ => List.nodup_range.map fun c d h => by simpa using h, List.nodup_range.imp fun {r q} hne => ?_⟩
  simp only [Function.onFun, List.disjoint_left, List.mem_map, List.mem_range]
  rintro _ ⟨c, hc, rfl⟩ ⟨d, hd, h⟩
  omega

/-- An error that the checks do not see leaves every other row, and the places of its own. -/
theorem spoilRow_spec (s : State) (row : Nat) (outs : List (Nat × Nat)) :
    Only [.freeCtr] s (s.spoilRow row outs).2 ∧ (s.spoilRow row outs).1.map Prod.fst = outs.map Prod.fst ∧
      ∀ e ∈ outs, e.1 / 32 ≠ row → e ∈ (s.spoilRow row outs).1 := by
  induction outs generalizing s with
  | nil => exact ⟨.refl _ s, rfl, fun e he => by cases he⟩
  | cons o os ih =>
    unfold State.spoilRow
    split
    next hrow =>
      obtain ⟨honly, hkeys, hkept⟩ := ih s.free.2
      refine ⟨(Only.of_free s).trans honly, by rw [List.map_cons, List.map_cons, hkeys], fun e he hne => ?_⟩
      rcases List.mem_cons.1 he with rfl | htail
      · exact absurd hrow hne
      · exact List.mem_cons_of_mem _ (hkept e htail hne)
    next =>
      obtain ⟨honly, hkeys, hkept⟩ := ih s
      refine ⟨honly, by rw [List.map_cons, List.map_cons, hkeys], fun e he hne => ?_⟩
      rcases List.mem_cons.1 he with rfl | htail
      · exact List.mem_cons_self
      · exact List.mem_cons_of_mem _ (hkept e htail hne)

/-! ## The end of a block -/

/-- The registers that a block which commits writes. -/
def blockKeys (nn fn : Nat) : List Nat :=
  [R.CLS_NONFINITE_COUNT nn, R.CLS_ARRAY_CYCLES nn, R.CLS_COLUMN_FILL nn, R.CTX_FN_TILE_TIME fn, R.CLS_QUEUE_DEPTH nn]

/-- A block commits its results, and its unit is done where the block ends it. -/
def State.endBlock (s : State) (nn t fn cycles columns : Nat) (tags : Tags) (outs : List (Nat × Nat)) (ends : Bool) (u : Nat × Nat) : State :=
  let w := (s.commitBlock nn t fn outs).noteCycles nn fn cycles columns tags
  if ends then w.dropUnit nn t u else w.setUnits nn t (w.tileAt nn t).units true

theorem tileAt_addUnits (s : State) (k n unit c x : Nat) : (s.addUnits k n unit).tileAt c x = s.tileAt c x := rfl

theorem tileAt_use (s : State) (l : List (Nat × Nat × Nat)) (c x : Nat) :
    State.tileAt { s with tiles := { s.tiles with use := l } } c x = s.tileAt c x := rfl

theorem tileAt_noteCycles (s : State) (nn fn cycles columns : Nat) (tags : Tags) (c x : Nat) :
    (s.noteCycles nn fn cycles columns tags).tileAt c x = s.tileAt c x := by
  unfold State.noteCycles
  extract_lets counted kept timed
  have hcounted : counted.tileAt c x = s.tileAt c x := (((Told.count ..).trans (.count ..)).trans (.count ..) : Told s counted).tileAt c x
  have hkept : kept.tileAt c x = counted.tileAt c x := (tileAt_addUnits ..).trans (tileAt_addUnits ..)
  exact ((tileAt_use timed _ c x).trans (tileAt_addUnits ..)).trans (hkept.trans hcounted)

theorem tileAt_commitBlock (s : State) (nn t fn : Nat) (outs : List (Nat × Nat)) :
    (s.commitBlock nn t fn outs).tileAt nn t =
      { s.tileAt nn t with acc := outs.foldl (fun (m : Tab Nat) o => m.put o.1 o.2) (s.tileAt nn t).acc, accFn := fn } := by
  unfold State.commitBlock
  extract_lets x v
  have hv : v.tileAt nn t = { x with acc := outs.foldl (fun (m : Tab Nat) o => m.put o.1 o.2) x.acc, accFn := fn } := tileAt_putTile_self ..
  split
  exacts [hv, hv]

section
variable (s : State) {nn t : Nat} (hnn : nn < 16) (fn cycles columns : Nat) (tags : Tags) (outs : List (Nat × Nat)) (ends : Bool) (u : Nat × Nat)
include hnn

theorem tileKeeps_endBlock : TileKeeps nn [.tiles] (blockKeys nn fn) s (s.endBlock nn t fn cycles columns tags outs ends u) := by
  have hoff : ∀ {off}, off < 4096 → off ≠ 0x010 → keyOff (rkey (clsPage nn) off 0) ≠ 0x010 := fun hlt h => by rwa [keyOff_rkey _ _ _ hlt]
  have htime : keyOff (R.CTX_FN_TILE_TIME fn) = 0x04C := keyOff_rkey _ _ _ (by decide)
  have hcommit : TileKeeps nn [.tiles] (blockKeys nn fn) s (s.commitBlock nn t fn outs) := by
    unfold State.commitBlock
    extract_lets x v
    have hv : TileKeeps nn [.tiles] (blockKeys nn fn) s v := (TileKeeps.refl nn _ _ s).only (Only.of_tiles s _) (by simp)
    exact .ite (hv.wr _ (by simp [blockKeys]) (hoff (by decide) (by decide))) hv
  have hcounted := ((hcommit.count hnn 7 nn 0x01 fn (some tags) 1).count hnn 7 nn 0x02 fn (some tags) cycles).count hnn 7 nn 0x03 fn (some tags) (cycles * columns)
  have hunits := ((hcounted.addUnits (k := R.CLS_ARRAY_CYCLES nn) cycles 128 (by simp) (by simp [blockKeys]) (hoff (by decide) (by decide))).addUnits
    (k := R.CLS_COLUMN_FILL nn) (cycles * columns) 4096 (by simp) (by simp [blockKeys]) (hoff (by decide) (by decide))).addUnits
    (k := R.CTX_FN_TILE_TIME fn) cycles 1024 (by simp) (by simp [blockKeys]) (by rw [htime]; decide)
  have hnoted : TileKeeps nn [.tiles] (blockKeys nn fn) s ((s.commitBlock nn t fn outs).noteCycles nn fn cycles columns tags) :=
    hunits.only (Only.of_tiles _ _) (by simp)
  exact .ite (hnoted.setUnits _ _ _ _ (by simp) (by simp [blockKeys])) (hnoted.setUnits _ _ _ _ (by simp) (by simp [blockKeys]))

omit hnn

theorem acc_endBlock : ((s.endBlock nn t fn cycles columns tags outs ends u).tileAt nn t).acc =
    outs.foldl (fun (m : Tab Nat) o => m.put o.1 o.2) (s.tileAt nn t).acc := by
  have hacc : (((s.commitBlock nn t fn outs).noteCycles nn fn cycles columns tags).tileAt nn t).acc = _ :=
    (congrArg Tile.acc ((tileAt_noteCycles ..).trans (tileAt_commitBlock ..)) :)
  unfold State.endBlock
  split
  · exact (acc_dropUnit ..).trans hacc
  · rw [tileAt_setUnits_self]
    exact hacc

theorem units_endBlock {r : List (Nat × Nat)} (hu : (s.tileAt nn t).units = u :: r) :
    ((s.endBlock nn t fn cycles columns tags outs ends u).tileAt nn t).units = if ends then r else u :: r := by
  have hunits : (((s.commitBlock nn t fn outs).noteCycles nn fn cycles columns tags).tileAt nn t).units = u :: r := by
    rw [tileAt_noteCycles, tileAt_commitBlock]
    exact hu
  unfold State.endBlock
  split
  · rw [units_dropUnit, hunits, List.erase_cons_head]
  · rw [tileAt_setUnits_self]
    exact hunits

end

/-! ## The runs of a block (R227, R229) -/

/-- Without an injection a run meets what it meets of itself. -/
theorem blockRun_seen {s : State} {nn t : Nat} (hinject : (s.tileAt nn t).inject = none) (z : BlockShape) (first retry : Bool) {f : TileFault}
    (hseen : faultSeen f = true) : s.blockRun nn t z first retry (some f) = (.fault f false, s) := by
  simp [State.blockRun, hinject, Option.filter, hseen]

theorem blockRun_clean {s : State} {nn t : Nat} (hinject : (s.tileAt nn t).inject = none) (z : BlockShape) (first retry : Bool) :
    s.blockRun nn t z first retry none = (.ended none, s) := by
  simp [State.blockRun, hinject]

theorem blockRun_unseen {s : State} {nn t : Nat} (hinject : (s.tileAt nn t).inject = none) (z : BlockShape) (first retry : Bool) {f : TileFault}
    (hunseen : faultSeen f = false) : ∃ bad, s.blockRun nn t z first retry (some f) = (.ended bad, s) ∧ ∀ row ∈ bad, row = f.row := by
  refine ⟨((some f).filter fun f => f.err ≠ 0).map TileFault.row, by simp [State.blockRun, hinject, Option.filter, hunseen], fun row hrow => ?_⟩
  obtain ⟨g, hg, rfl⟩ := Option.mem_map.1 hrow
  rw [Option.mem_def, Option.filter_eq_some_iff] at hg
  cases hg.1
  rfl

/-- A count of 0 retires no tile. -/
theorem limitReached_of_count_zero {s : State} {nn : Nat} (h : s.getF (R.CLS_RETIRE_LIMIT nn) 0 8 = 0) (t : Nat) : s.limitReached nn t = false := by
  simp [State.limitReached, h]

theorem bit_pageIntMask_cls {nn i : Nat} (hnn : nn < 16) (hi : i < 4) : bit (pageIntMask (clsPage nn)) i = true := by
  have hall : ∀ n < 16, ∀ j < 4, bit (pageIntMask (clsPage n)) j = true := by decide
  exact hall nn hnn i hi

theorem bit_pageIntMask_cls_error {nn : Nat} (hnn : nn < 16) : bit (pageIntMask (clsPage nn)) 31 = true := by
  have hall : ∀ n < 16, bit (pageIntMask (clsPage n)) 31 = true := by decide
  exact hall nn hnn

section
variable {nn t : Nat} (hnn : nn < 16) (ht : t < 4)
include hnn ht

theorem noteMismatch_spec (s : State) (fn : Nat) (tags : Tags) (f : TileFault) :
    TileKeeps nn [.tiles] [R.CLS_CHECK_COUNT nn t] s (s.noteMismatch nn t fn tags f false) ∧
      (s.noteMismatch nn t fn tags f false).rd (R.CLS_CHECK_COUNT nn t) = word (min 0xFFFFFFFF ((s.rd (R.CLS_CHECK_COUNT nn t)).toNat + 1)) ∧
      (s.noteMismatch nn t fn tags f false).getB (intK (clsPage nn)) 0 = true ∧
      ∃ l, (s.noteMismatch nn t fn tags f false).tileAt nn t = { s.tileAt nn t with mismatches := l } := by
  have hkey : keyOff (R.CLS_CHECK_COUNT nn t) = 0x058 + 4 * t := keyOff_rkey _ _ _ (by omega)
  have htell : tellKey (R.CLS_CHECK_COUNT nn t) = false := tellKey_cls hnn (by omega) (by omega)
  unfold State.noteMismatch
  rw [if_neg Bool.false_ne_true]
  generalize hcounted : (s.bump (R.CLS_CHECK_COUNT nn t)).count 7 nn 0x05 fn (some tags) 1 = c
  generalize hlogged : (c.raiseInt (clsPage nn) 0).logErr (clsPage nn) (if f.exponent then 0x02 else 0x01) clsDevice fn tags 0
    (t + 16 * f.step + 4096 * f.row) = v
  have hbump : TileKeeps nn [.tiles] [R.CLS_CHECK_COUNT nn t] s (s.bump (R.CLS_CHECK_COUNT nn t)) :=
    (TileKeeps.refl nn _ _ s).wr _ (by simp) (by rw [hkey]; omega)
  have hc : TileKeeps nn [.tiles] [R.CLS_CHECK_COUNT nn t] s c := hcounted ▸ hbump.count hnn ..
  have hv : TileKeeps nn [.tiles] [R.CLS_CHECK_COUNT nn t] s v := hlogged ▸ (hc.raiseInt ..).logErr hnn ..
  have htold : Told (s.bump (R.CLS_CHECK_COUNT nn t)) v := by
    rw [← hlogged, ← hcounted]
    exact ((Told.count ..).trans (.raiseInt ..)).trans (.logErr ..)
  have htile : v.tileAt nn t = s.tileAt nn t := htold.tileAt nn t
  refine ⟨hv.only (Only.of_tiles v _) (by simp), (htold.2 _ htell).trans (State.rd_wr_self ..), ?_, v.uptime :: (s.tileAt nn t).mismatches, ?_⟩
  · have hraised : (c.raiseInt (clsPage nn) 0).getB (intK (clsPage nn)) 0 = true := getB_raiseInt_self _ (by decide) (bit_pageIntMask_cls hnn (by decide))
    exact (hlogged ▸ (TileKeeps.refl nn [] [] _).logErr hnn .. : TileKeeps nn [] [] _ v).causes.bit 0 hraised
  · rw [tileAt_putTile_self, htile]

/-- A run that mismatches once is run again on the tile. -/
theorem blockRuns_retried {s : State} (hretired : s.tileRetired nn t = false) (hinject : (s.tileAt nn t).inject = none)
    (hlimit : s.getF (R.CLS_RETIRE_LIMIT nn) 0 8 = 0) (z : BlockOf) {f : TileFault} (hseen : faultSeen f = true) :
    ∃ v, s.blockRuns nn t z [.mismatch f, .clean] = (v, .commits nn t none) ∧
      TileKeeps nn [.tiles] [R.CLS_CHECK_COUNT nn t, R.CLS_RETRY_COUNT nn] s v ∧
      v.rd (R.CLS_CHECK_COUNT nn t) = word (min 0xFFFFFFFF ((s.rd (R.CLS_CHECK_COUNT nn t)).toNat + 1)) ∧
      v.rd (R.CLS_RETRY_COUNT nn) = word (min 0xFFFFFFFF ((s.rd (R.CLS_RETRY_COUNT nn)).toNat + 1)) ∧
      v.getB (intK (clsPage nn)) 0 = true ∧ ∃ l, v.tileAt nn t = { s.tileAt nn t with mismatches := l } := by
  obtain ⟨hkeep, hcheck, hcause, l, htile⟩ := noteMismatch_spec hnn ht s z.fn z.tags f
  generalize hnoted : s.noteMismatch nn t z.fn z.tags f false = u at hkeep hcheck hcause htile
  have hother : ∀ {off}, off < 0x058 → 0x40 ≤ off → u.rd (rkey (clsPage nn) off 0) = s.rd (rkey (clsPage nn) off 0) := fun hlt hlo =>
    hkeep.rd_cls hnn (List.mem_singleton.not.2 (rkey_ne_of_off (by omega) (by omega) (by omega))) hlo (by omega)
  have hretry : keyOff (R.CLS_RETRY_COUNT nn) = 0x04C := keyOff_rkey _ _ _ (by decide)
  have hretryKept : u.rd (R.CLS_RETRY_COUNT nn) = s.rd (R.CLS_RETRY_COUNT nn) := hother (by decide) (by decide)
  have hne : R.CLS_CHECK_COUNT nn t ≠ R.CLS_RETRY_COUNT nn := rkey_ne_of_off (by omega) (by omega) (by omega)
  have hlimit' : u.limitReached nn t = false := limitReached_of_count_zero ((congrArg (fld · 0 8) (hother (by decide) (by decide))).trans hlimit) t
  have hretired' : u.tileRetired nn t = false := (tileRetired_congr (hother (by decide) (by decide)) t).trans hretired
  have hinject' : ((u.bump (R.CLS_RETRY_COUNT nn)).tileAt nn t).inject = none := (congrArg Tile.inject htile).trans hinject
  refine ⟨u.bump (R.CLS_RETRY_COUNT nn), ?_, ?_, ?_, ?_, ?_, l, htile⟩
  · have hfirst := blockRun_seen hinject z.z true false hseen
    have hagain := blockRun_clean hinject' z.z false true
    unfold State.blockRuns
    simp only [List.headD_cons, TileRun.fault, hfirst, hnoted, hlimit', hretired', Bool.not_false, Bool.and_false, Bool.false_eq_true, if_false,
      List.drop_succ_cons, List.drop_zero]
    unfold State.retryRun
    simp only [List.head?_cons, List.headD_cons, TileRun.fault, hagain]
    rfl
  · exact (hkeep.mono (fun _ h => h) (by simp)).wr _ (by simp) (by rw [hretry]; decide)
  · exact (State.rd_wr_ne _ _ hne).trans hcheck
  · exact (State.rd_wr_self ..).trans (by rw [hretryKept])
  · exact (CausesKept.bump _ u 1 (by rw [hretry]; decide)).bit 0 hcause

end

end Sys2Proof.Machine
end

section
/-! PROOFS for the statement of 07_arithmetic about tiles (O34): TILE_BLOCK. Every block that ends on its tile commits there (`execTileBlock_commits`). -/

namespace Sys2Proof.Machine
open Sys2Proof

/-! ## TILE_BLOCK (R211, R215 to R220, R228, R229) -/

/-- The results of a block, of which an error that the checks do not see may have spoilt a row. -/
def State.spoil (s : State) (bad : Option Nat) (outs : List (Nat × Nat)) : List (Nat × Nat) × State :=
  match bad with
  | some row => s.spoilRow row outs
  | none => (outs, s)

theorem spoil_spec (s : State) (bad : Option Nat) (outs : List (Nat × Nat)) :
    Only [.freeCtr] s (s.spoil bad outs).2 ∧ (s.spoil bad outs).1.map Prod.fst = outs.map Prod.fst ∧
      ∀ e ∈ outs, (∀ row ∈ bad, e.1 / 32 ≠ row) → e ∈ (s.spoil bad outs).1 := by
  cases bad with
  | none => exact ⟨.refl _ s, rfl, fun e he _ => he⟩
  | some row =>
    obtain ⟨honly, hkeys, hkept⟩ := spoilRow_spec s row outs
    exact ⟨honly, hkeys, fun e he h => hkept e he (h row rfl)⟩

/-- What a block of an operation's unit carries through its runs. -/
def blockOf (fa : Nat) (a : List Row) (u : Nat × Nat) (o : Op) : BlockOf :=
  ⟨o.fn, u, descTags o.desc, ⟨ceilDiv (a.headD ⟨0, [], []⟩).k (if isBlockFmt fa then 64 else 32), a.length⟩⟩

/-- What a block's results are added to: the tile's accumulators, where it loads them. -/
def loaded (x : Tile) (load : Bool) (i : Nat) : Nat := if load then (x.acc.look i).getD 0 else 0

/-- A block that commits writes none of the cluster's registers before NONFINITE_COUNT. -/
theorem not_mem_blockKeys {nn fn off : Nat} (hnn : nn < 16) (h : off < 0x068) : rkey (clsPage nn) off 0 ∉ blockKeys nn fn := by
  simp only [blockKeys, List.mem_cons, List.not_mem_nil, or_false, not_or]
  exact ⟨rkey_ne_of_off (by omega) (by omega) (by decide), rkey_ne_of_off (by omega) (by omega) (by decide), rkey_ne_of_off (by omega) (by omega) (by decide),
    rkey_ne_of_page (by simp only [clsPage]; omega) ((clsPage_lt hnn).trans (by decide)) (by decide) (by omega) (by decide),
    rkey_ne_of_off (by omega) (by omega) (by decide)⟩

section
variable {s : State} {nn t fa fb : Nat} {load ends : Bool} {scale : Option Nat} {a b : List Row} {u : Nat × Nat} {r : List (Nat × Nat)} {o : Op}
  (hnn : nn < 16) (ht : t < 4) (hretired : s.tileRetired nn t = false) (hstalled : s.clusterStalled nn = false)
  (hunits : (s.tileAt nn t).units = u :: r) (hop : s.op? u.1 = some o) (hcode : dOpcode o.desc ≠ 0x24)
include hnn ht hretired hstalled hunits hop hcode

/-- A pair of formats that R215 does not give ends its operation. -/
theorem execTileBlock_invalid (hissued : o.issued = false) (hpair : pairOk fa fb = false) :
    ∃ w, exec (.tileBlock nn t fa fb ⟨load, ends⟩ scale a b []) s = .next w ∧ Ended w u.1 stInvalid (invalidAt (formatField o.desc)) ∧ SameMem s w := by
  have hexec : exec (.tileBlock nn t fa fb ⟨load, ends⟩ scale a b []) s = .next (s.endCtx u.1 stInvalid (invalidAt (formatField o.desc))) := by
    show execTileBlock nn t fa fb ⟨load, ends⟩ scale a b [] s = _
    unfold execTileBlock
    simp [hunits, hop, hretired, hstalled, hcode, hpair, Nat.not_le.2 hnn, Nat.not_le.2 ht]
  have hdropped : Only [.regs, .tiles] s (s.dropUnits u.1) := by
    unfold State.dropUnits
    extract_lets v
    exact Only.foldl ((Only.of_tiles s _).mono (by decide)) fun w x => Only.if (only_setUnits ..) (.refl _ w)
  have hop' : (s.dropUnits u.1).op? u.1 = some o := (congrArg (Tab.look · u.1) (hdropped.ops_eq (by decide))).trans hop
  have hend : s.endCtx u.1 stInvalid (invalidAt (formatField o.desc)) = (s.dropUnits u.1).finishOp u.1 stInvalid (invalidAt (formatField o.desc)) := by
    unfold State.endCtx
    simp only [hop', show isOk stInvalid = false from rfl, Bool.false_eq_true, if_false]
  refine ⟨_, hexec, ?_, ?_⟩
  · rw [hend]
    exact ended_finishOp hop' hissued ..
  · rw [hend]
    have hmem := (only_finishOp (s.dropUnits u.1) u.1 stInvalid (invalidAt (formatField o.desc))).sameMem (by decide)
    exact fun p => (hmem p).trans (hdropped.sameMem (by decide) p)

section
variable (hpair : pairOk fa fb = true) (hreduced : s.reduced = false) (hblock : isBlockFmt fa = true → (a.headD ⟨0, [], []⟩).k % 32 = 0)
  (hshape : blockShapeOk fa fb a b (a.headD ⟨0, [], []⟩).k = true)
include hpair hreduced hblock hshape

/-- A block whose runs end on its tile commits there. -/
theorem execTileBlock_commits {own : List TileRun} (hown : own.head? ≠ some .retired) {v : State} {bad : Option Nat}
    (hruns : (s.setUnits nn t (u :: r) true).blockRuns nn t (blockOf fa a u o) own = (v, .commits nn t bad)) (hv : (v.tileAt nn t).units = u :: r) :
    ∃ w, exec (.tileBlock nn t fa fb ⟨load, ends⟩ scale a b own) s = .next w ∧
      (∀ e ∈ blockOutputs fa fb a b scale (loaded (s.tileAt nn t) load), (∀ row ∈ bad, e.1 / 32 ≠ row) → (w.tileAt nn t).acc.look e.1 = some e.2) ∧
      (w.tileAt nn t).units = (if ends then r else u :: r) ∧ TileKeeps nn [.tiles, .freeCtr] (blockKeys nn o.fn) v w := by
  generalize houts : blockOutputs fa fb a b scale (loaded (s.tileAt nn t) load) = outs
  obtain ⟨honly, hkeys, hkept⟩ := spoil_spec v bad outs
  refine ⟨(v.spoil bad outs).2.endBlock nn t o.fn (blockCycles fa fb (a.headD ⟨0, [], []⟩).k a.length) b.length (descTags o.desc) (v.spoil bad outs).1 ends u,
    ?_, ?_, ?_, ?_⟩
  · have hblock' : (isBlockFmt fa && decide ((a.headD ⟨0, [], []⟩).k % 32 ≠ 0)) = false := by
      cases hfmt : isBlockFmt fa with
      | false => rfl
      | true => rw [decide_eq_false (not_not.2 (hblock hfmt)), Bool.and_false]
    have htile : s.tileBlock nn t fa fb load ends scale a b own =
        ((v.spoil bad outs).2.endBlock nn t o.fn (blockCycles fa fb (a.headD ⟨0, [], []⟩).k a.length) b.length (descTags o.desc) (v.spoil bad outs).1 ends u, none) := by
      unfold blockOf at hruns
      subst houts
      unfold State.tileBlock
      simp only [hunits, hop, decide_eq_false hown, Bool.false_and, Bool.false_eq_true, if_false, hruns]
      cases bad with
      | none => rfl
      | some row => rfl
    show execTileBlock nn t fa fb ⟨load, ends⟩ scale a b own s = _
    unfold execTileBlock
    simp only [hunits, hop, hretired, hstalled, decide_eq_false hcode, hpair, hreduced, decide_eq_false (Nat.not_le.2 hnn), decide_eq_false (Nat.not_le.2 ht),
      hblock', hshape, Bool.or_false, Bool.false_and, Bool.not_true, Bool.false_eq_true, if_false, htile]
  · intro e he hrow
    have hb : b.length ≤ 32 := by
      simp only [blockShapeOk, Bool.and_eq_true, decide_eq_true_eq] at hshape
      exact hshape.1.1.1.1.2
    rw [acc_endBlock]
    refine look_foldl_put ?_ (hkept e he hrow) _
    rw [hkeys, ← houts]
    exact nodup_blockOutputs fa fb a hb scale _
  · rw [units_endBlock]
    rw [tileAt_congr (honly.2 .tiles (by decide)), hv]
  · exact ((TileKeeps.refl nn _ _ v).only honly (by simp)).trans ((tileKeeps_endBlock _ hnn ..).mono (by simp) (fun _ h => h))

section
variable (hinject : (s.tileAt nn t).inject = none)
include hinject

/-- A block whose run meets nothing leaves its results. -/
theorem execTileBlock_clean :
    ∃ w, exec (.tileBlock nn t fa fb ⟨load, ends⟩ scale a b []) s = .next w ∧
      (∀ e ∈ blockOutputs fa fb a b scale (loaded (s.tileAt nn t) load), (w.tileAt nn t).acc.look e.1 = some e.2) ∧
      (w.tileAt nn t).units = (if ends then r else u :: r) ∧ w.ops = s.ops ∧ SameMem s w := by
  have hset := (TileKeeps.refl nn [.tiles] (blockKeys nn o.fn) s).setUnits nn t (u :: r) true (by simp) (by simp [blockKeys])
  have htile := tileAt_setUnits_self s nn t (u :: r) true
  have hruns : (s.setUnits nn t (u :: r) true).blockRuns nn t (blockOf fa a u o) [] = (s.setUnits nn t (u :: r) true, .commits nn t none) := by
    unfold State.blockRuns
    rw [show (([] : List TileRun).headD .clean).fault = none from rfl, blockRun_clean ((congrArg Tile.inject htile).trans hinject)]
  obtain ⟨w, hexec, hacc, hend, hkeep⟩ := execTileBlock_commits hnn ht hretired hstalled hunits hop hcode hpair hreduced hblock hshape (load := load) (ends := ends)
    (scale := scale) (by simp) hruns (congrArg Tile.units htile)
  have hall := (hset.mono (by simp) (fun _ h => h)).trans hkeep
  exact ⟨w, hexec, fun e he => hacc e he (by simp), hend, hall.same (p := .ops) (by decide), hall.same (p := .mem) (by decide)⟩

/-- A block that the checks see fail once is run again on its tile. -/
theorem execTileBlock_retried {f : TileFault} (hseen : faultSeen f = true) (hlimit : s.getF (R.CLS_RETIRE_LIMIT nn) 0 8 = 0) :
    ∃ w, exec (.tileBlock nn t fa fb ⟨load, ends⟩ scale a b [.mismatch f, .clean]) s = .next w ∧
      (∀ e ∈ blockOutputs fa fb a b scale (loaded (s.tileAt nn t) load), (w.tileAt nn t).acc.look e.1 = some e.2) ∧
      (w.tileAt nn t).units = (if ends then r else u :: r) ∧
      w.rd (R.CLS_CHECK_COUNT nn t) = word (min 0xFFFFFFFF ((s.rd (R.CLS_CHECK_COUNT nn t)).toNat + 1)) ∧
      w.rd (R.CLS_RETRY_COUNT nn) = word (min 0xFFFFFFFF ((s.rd (R.CLS_RETRY_COUNT nn)).toNat + 1)) ∧ w.getB (intK (clsPage nn)) 0 = true ∧
      w.tileRetired nn t = false ∧ w.ops = s.ops ∧ SameMem s w := by
  have hset := (TileKeeps.refl nn [.tiles] [R.CLS_QUEUE_DEPTH nn] s).setUnits nn t (u :: r) true (by simp) (by simp)
  have htile := tileAt_setUnits_self s nn t (u :: r) true
  have hother : ∀ {off}, off < 0x088 → 0x40 ≤ off → (s.setUnits nn t (u :: r) true).rd (rkey (clsPage nn) off 0) = s.rd (rkey (clsPage nn) off 0) :=
    fun hlt hlo => hset.rd_cls hnn (List.mem_singleton.not.2 (rkey_ne_of_off (by omega) (by omega) (by omega))) hlo (by omega)
  obtain ⟨v, hruns, hrun, hcheck, hretry, hcause, l, hmism⟩ := blockRuns_retried hnn ht
    ((tileRetired_congr (hother (by decide) (by decide)) t).trans hretired) ((congrArg Tile.inject htile).trans hinject)
    ((congrArg (fld · 0 8) (hother (by decide) (by decide))).trans hlimit) (blockOf fa a u o) hseen
  obtain ⟨w, hexec, hacc, hend, hkeep⟩ := execTileBlock_commits hnn ht hretired hstalled hunits hop hcode hpair hreduced hblock hshape (load := load) (ends := ends)
    (scale := scale) (by simp) hruns (by rw [hmism, htile])
  have hafter : ∀ {off}, off < 0x068 → 0x40 ≤ off → w.rd (rkey (clsPage nn) off 0) = v.rd (rkey (clsPage nn) off 0) := fun hlt hlo =>
    hkeep.rd_cls hnn (not_mem_blockKeys hnn hlt) hlo (by omega)
  have hall : TileKeeps nn [.tiles, .freeCtr] (R.CLS_CHECK_COUNT nn t :: R.CLS_RETRY_COUNT nn :: blockKeys nn o.fn) s w :=
    ((hset.mono (by simp) (by simp [blockKeys])).trans (hrun.mono (by simp) (by simp))).trans
      (hkeep.mono (fun _ h => h) fun _ h => List.mem_cons_of_mem _ (List.mem_cons_of_mem _ h))
  refine ⟨w, hexec, fun e he => hacc e he (by simp), hend, ?_, ?_, hkeep.causes.bit 0 hcause, ?_, hall.same (p := .ops) (by decide),
    hall.same (p := .mem) (by decide)⟩
  · exact (hafter (off := 0x058 + 4 * t) (by omega) (by omega)).trans (hcheck.trans
      (congrArg (fun x : Word => word (min 0xFFFFFFFF (x.toNat + 1))) (hother (off := 0x058 + 4 * t) (by omega) (by omega))))
  · exact (hafter (off := 0x04C) (by decide) (by decide)).trans (hretry.trans
      (congrArg (fun x : Word => word (min 0xFFFFFFFF (x.toNat + 1))) (hother (off := 0x04C) (by decide) (by decide))))
  · have hstate : w.rd (R.CLS_TILE_STATE nn) = s.rd (R.CLS_TILE_STATE nn) := by
      refine (hafter (off := 0x040) (by decide) (by decide)).trans ((hrun.rd_cls hnn ?_ (by decide) (by decide)).trans (hother (by decide) (by decide)))
      simp only [List.mem_cons, List.not_mem_nil, or_false, not_or]
      exact ⟨rkey_ne_of_off (by omega) (by omega) (by omega), rkey_ne_of_off (by decide) (by decide) (by decide)⟩
    exact (tileRetired_congr hstate t).trans hretired

/-- An error that the checks do not see spoils at most its row. -/
theorem execTileBlock_unseen {f : TileFault} (hunseen : faultSeen f = false) :
    ∃ w, exec (.tileBlock nn t fa fb ⟨load, ends⟩ scale a b [.mismatch f]) s = .next w ∧
      (∀ e ∈ blockOutputs fa fb a b scale (loaded (s.tileAt nn t) load), e.1 / 32 ≠ f.row → (w.tileAt nn t).acc.look e.1 = some e.2) ∧
      (w.tileAt nn t).units = (if ends then r else u :: r) ∧ w.rd (R.CLS_CHECK_COUNT nn t) = s.rd (R.CLS_CHECK_COUNT nn t) ∧ w.ops = s.ops ∧ SameMem s w := by
  have hset := (TileKeeps.refl nn [.tiles] (blockKeys nn o.fn) s).setUnits nn t (u :: r) true (by simp) (by simp [blockKeys])
  have htile := tileAt_setUnits_self s nn t (u :: r) true
  obtain ⟨bad, hrun, hbad⟩ := blockRun_unseen ((congrArg Tile.inject htile).trans hinject) (blockOf fa a u o).z true false hunseen
  have hruns : (s.setUnits nn t (u :: r) true).blockRuns nn t (blockOf fa a u o) [.mismatch f] = (s.setUnits nn t (u :: r) true, .commits nn t bad) := by
    unfold State.blockRuns
    rw [show ([TileRun.mismatch f].headD .clean).fault = some f from rfl, hrun]
  obtain ⟨w, hexec, hacc, hend, hkeep⟩ := execTileBlock_commits hnn ht hretired hstalled hunits hop hcode hpair hreduced hblock hshape (load := load) (ends := ends)
    (scale := scale) (by simp) hruns (congrArg Tile.units htile)
  have hall := (hset.mono (by simp) (fun _ h => h)).trans hkeep
  refine ⟨w, hexec, fun e he hrow => hacc e he fun row hmem => ?_, hend, ?_, hall.same (p := .ops) (by decide), hall.same (p := .mem) (by decide)⟩
  · rw [hbad row hmem]
    exact hrow
  · exact hall.rd_cls hnn (not_mem_blockKeys hnn (by omega)) (by omega) (by omega)

end

end

end

end Sys2Proof.Machine
end

section
/-! PROOFS for the statement of 07_arithmetic about tiles (O34): WORK_UNIT_DISPATCH. The unit that is chosen is placed (`State.placeUnit`). -/

namespace Sys2Proof.Machine
open Sys2Proof

/-! ## The choice of a unit (R267, R268) -/

/-- The one function below its cap is chosen. -/
theorem chooseFn_single {s : State} {f w : Nat} (hcap : s.tileUse f * 256 < s.cap f * w) : s.chooseFn [f] w = some f := by
  unfold State.chooseFn
  by_cases hunder : s.tileUse f * 256 < s.guarantee f * w
  · simp [hcap, hunder]
  · simp [hcap, hunder]

/-- Of two functions the one below its guarantee is chosen. -/
theorem chooseFn_below {s : State} {f g w : Nat} (hf : s.tileUse f * 256 < s.cap f * w) (hreached : s.guarantee f * w ≤ s.tileUse f * 256)
    (hbelow : s.tileUse g * 256 < s.guarantee g * w) : s.chooseFn [f, g] w = some g := by
  have hg : s.tileUse g * 256 < s.cap g * w := hbelow.trans_le (Nat.mul_le_mul_right _ (le_max_right ..))
  unfold State.chooseFn
  simp [hf, hg, hbelow, Nat.not_lt.2 hreached]

theorem unitOrder_single (e : Nat × Op) : unitOrder [e] = [e] := by
  unfold unitOrder
  extract_lets isRing
  cases h : isRing e.2 <;> simp [h]

/-- A unit that a tile has taken. -/
def State.placeUnit (s : State) (nn t i k : Nat) : State :=
  let v := s.addUnit nn t (i, k) false
  { v with tiles := { v.tiles with dispatched := v.tiles.dispatched.put i (((v.tiles.dispatched.look i).getD []) ++ [k]) } }

section
variable {s : State} {w i k : Nat} {o : Op} (nn t : Nat)

/-- The operation that is chosen has its next unit placed. -/
theorem dispatch_eq {live : List (Nat × Op)} (hlive : s.ops.filter (fun e => (s.nextUnit e.1).isSome) = live) {f : Nat}
    (hfn : s.chooseFn ((live.map (fun e => e.2.fn)).eraseDups) w = some f) (hunits : unitOrder (live.filter (fun e => e.2.fn = f)) = [(i, o)])
    (hnext : s.nextUnit i = some k) : s.dispatch nn t w = (s.placeUnit nn t i k, some i) := by
  unfold State.dispatch
  simp only [hlive, hfn, hunits, hnext]
  rfl

theorem dispatch_only (hlive : s.ops.filter (fun e => (s.nextUnit e.1).isSome) = [(i, o)]) (hcap : s.tileUse o.fn * 256 < s.cap o.fn * w)
    (hnext : s.nextUnit i = some k) : s.dispatch nn t w = (s.placeUnit nn t i k, some i) :=
  dispatch_eq nn t hlive (o := o) (chooseFn_single hcap) (by simp [unitOrder_single]) hnext

theorem dispatch_below {j : Nat} {p : Op} (hlive : s.ops.filter (fun e => (s.nextUnit e.1).isSome) = [(i, o), (j, p)]) (hne : o.fn ≠ p.fn)
    (hcap : s.tileUse o.fn * 256 < s.cap o.fn * w) (hreached : s.guarantee o.fn * w ≤ s.tileUse o.fn * 256)
    (hbelow : s.tileUse p.fn * 256 < s.guarantee p.fn * w) (hnext : s.nextUnit j = some k) : s.dispatch nn t w = (s.placeUnit nn t j k, some j) := by
  refine dispatch_eq nn t hlive (f := p.fn) (o := p) ?_ (by simp [hne, unitOrder_single]) hnext
  have htwo : (([(i, o), (j, p)] : List (Nat × Op)).map (fun e => e.2.fn)).eraseDups = [o.fn, p.fn] := by
    simp [List.eraseDups_cons, hne.symm]
  rw [htwo]
  exact chooseFn_below hcap hreached hbelow

end

theorem Tab.exists_look_of_mem {β : Type} {m : Tab β} {i : Nat} {o : β} (h : (i, o) ∈ m) : ∃ p, m.look i = some p := by
  induction m with
  | nil => cases h
  | cons e m ih =>
    simp only [Tab.look]
    split
    · exact ⟨_, rfl⟩
    next hne => exact ih ((List.mem_cons.1 h).resolve_left fun he => hne (by rw [← he]))

/-- Of a descriptor that alone has units, Cox holds one entry. -/
theorem op?_of_filter {s : State} {i : Nat} {o : Op} (h : s.ops.filter (fun e => (s.nextUnit e.1).isSome) = [(i, o)]) : s.op? i = some o := by
  have hmem : (i, o) ∈ s.ops.filter (fun e => (s.nextUnit e.1).isSome) := by rw [h]; exact List.mem_singleton_self _
  obtain ⟨hops, hunit⟩ := List.mem_filter.1 hmem
  obtain ⟨p, hp⟩ := Tab.exists_look_of_mem hops
  have hp' : (i, p) ∈ s.ops.filter (fun e => (s.nextUnit e.1).isSome) := List.mem_filter.2 ⟨Tab.mem_of_look hp, hunit⟩
  rw [h, List.mem_singleton] at hp'
  cases hp'
  exact hp

/-! ## A unit is placed -/

section
variable (s : State) (nn i k : Nat) {t : Nat}

theorem only_placeUnit (t : Nat) : Only [.regs, .tiles] s (s.placeUnit nn t i k) := (only_setUnits ..).trans ((Only.of_tiles _ _).mono (by decide))

theorem regsBut_placeUnit (t : Nat) : RegsBut [R.CLS_QUEUE_DEPTH nn, statusK (clsPage nn)] s (s.placeUnit nn t i k) :=
  fun j hj => regsBut_setUnits s nn t ((s.tileAt nn t).units ++ [(i, k)]) (s.tileAt nn t).busy j hj

theorem units_placeUnit (t : Nat) : ((s.placeUnit nn t i k).tileAt nn t).units = (s.tileAt nn t).units ++ [(i, k)] :=
  (congrArg Tile.units (tileAt_setUnits_self s nn t ((s.tileAt nn t).units ++ [(i, k)]) (s.tileAt nn t).busy) :)

theorem getF_queueDepth_placeUnit (ht : t < 4) (hroom : (s.tileAt nn t).units.length < 16) :
    (s.placeUnit nn t i k).getF (R.CLS_QUEUE_DEPTH nn) (8 * t) 8 = (s.tileAt nn t).units.length + 1 := by
  refine (getF_queueDepth_setUnits s nn ht (q := (s.tileAt nn t).units ++ [(i, k)]) ?_ (s.tileAt nn t).busy).trans ?_
  · rw [List.length_append, List.length_singleton]; omega
  · rw [List.length_append, List.length_singleton]

theorem dispatched_placeUnit (t : Nat) :
    (s.placeUnit nn t i k).tiles.dispatched.look i = some (((s.tiles.dispatched.look i).getD []) ++ [k]) := Tab.look_put_self ..

end

theorem length_of_tileTakes {s : State} {nn t : Nat} (h : s.tileTakes nn t = true) : (s.tileAt nn t).units.length < 16 := by
  simp only [State.tileTakes, Bool.and_eq_true, decide_eq_true_eq] at h
  exact h.1.1.2

/-! ## WORK_UNIT_DISPATCH (R267, R268, R484) -/

theorem clusterLimit_congr {s u : State} {c : Nat} (hretired : ∀ x < 4, u.tileRetired c x = s.tileRetired c x) (hfmax : u.flash.fmax = s.flash.fmax) :
    u.clusterLimit c = s.clusterLimit c := by
  have hactive : (List.range 4).filter (fun x => !u.tileRetired c x) = (List.range 4).filter (fun x => !s.tileRetired c x) :=
    List.filter_congr fun x hx => by rw [hretired x (List.mem_range.1 hx)]
  have htile : u.tileFmax = s.tileFmax := by
    funext x
    rw [State.tileFmax, State.tileFmax, hfmax]
  rw [State.clusterLimit, State.clusterLimit, hactive, htile]

theorem Only.of_pwr (s : State) (x : Pwr) : Only [.pwr] s { s with pwr := x } := by
  refine ⟨rfl, fun p hp => ?_⟩
  cases p with
  | pwr => exact absurd (by decide) hp
  | regs | mem => exact fun _ => rfl
  | _ => rfl

theorem only_setTarget (s : State) (c f : Nat) : Only [.regs, .pwr] s (s.setTarget c f) :=
  ((Only.of_pwr s _).mono (by decide)).trans ((Only.of_wr ..).mono (by decide))

theorem targetOf_setTarget (s : State) (c f : Nat) : (s.setTarget c f).targetOf c = f := Tab.getD_setD_self (fun _ => 600) ..

/-- The wanted clock of a cluster does not depend on the clock it has a target for. -/
theorem wantOf_setTarget (s : State) (c d f : Nat) : (s.setTarget d f).wantOf c = s.wantOf c := by
  have hrd : ∀ k, k ≠ R.PWR_CLUSTER_CLOCK d → (s.setTarget d f).rd k = s.rd k := fun k hk => State.rd_wr_ne _ _ hk
  have hreduced : (s.setTarget d f).reduced = s.reduced := by
    have hstatus : (s.setTarget d f).rd (statusK pGLB) = s.rd (statusK pGLB) := hrd _ (rkey_ne_of_off (by decide) (by decide) (by decide))
    rw [State.reduced, State.reduced, getB_congr hstatus, getB_congr hstatus]
  have hlimit : (s.setTarget d f).clusterLimit c = s.clusterLimit c :=
    clusterLimit_congr (fun x _ => tileRetired_congr (hrd _ (rkey_ne_of_off (by decide) (by decide) (by decide))) x) rfl
  have hforce : (s.setTarget d f).getF (R.PWR_CLUSTER_FORCE c) 0 11 = s.getF (R.PWR_CLUSTER_FORCE c) 0 11 :=
    congrArg (fld · 0 11) (hrd _ (rkey_ne_of_off (by decide) (by decide) (by decide)))
  have hpolicy : ∀ b, (s.setTarget d f).getB R.PWR_POLICY b = s.getB R.PWR_POLICY b :=
    getB_congr (hrd _ (rkey_ne_of_off (by decide) (by decide) (by decide)))
  have hwant : (s.setTarget d f).unitWant = s.unitWant := by
    funext i
    unfold State.unitWant
    rw [hpolicy]
    rfl
  unfold State.wantOf
  rw [hreduced, hlimit, hforce, hpolicy, hwant]
  rfl

section
variable {s : State} {nn t w i k : Nat} {o : Op} (hnn : nn < 16) (ht : t < 4) (htakes : s.tileTakes nn t = true)
  (hdispatch : s.dispatch nn t w = (s.placeUnit nn t i k, some i)) (hop : s.op? i = some o)
include hnn ht htakes hdispatch hop

theorem execWorkUnitDispatch_eq : exec (.workUnitDispatch nn t w) s =
    .next (if o.fresh then (s.placeUnit nn t i k).setTarget nn (clockAt ((s.placeUnit nn t i k).wantOf nn) (s.placeUnit nn t i k).pwr.k) else s.placeUnit nn t i k) := by
  have hop' : (s.placeUnit nn t i k).op? i = some o := hop
  show execWorkUnitDispatch nn t w s = _
  unfold execWorkUnitDispatch
  simp [Nat.not_le.2 hnn, Nat.not_le.2 ht, htakes, hdispatch, hop']

/-- A unit goes to the tile's queue. -/
theorem execWorkUnitDispatch_places (hfresh : o.fresh = false) : exec (.workUnitDispatch nn t w) s = .next (s.placeUnit nn t i k) := by
  rw [execWorkUnitDispatch_eq hnn ht htakes hdispatch hop, hfresh]
  rfl

/-- Of a descriptor whose phase was on no cluster, the cluster starts towards the clock it wants. -/
theorem execWorkUnitDispatch_starts (hfresh : o.fresh = true) :
    ∃ u, exec (.workUnitDispatch nn t w) s = .next u ∧ (u.tileAt nn t).units = (s.tileAt nn t).units ++ [(i, k)] ∧
      u.getF (R.CLS_QUEUE_DEPTH nn) (8 * t) 8 = (s.tileAt nn t).units.length + 1 ∧
      u.tiles.dispatched.look i = some (((s.tiles.dispatched.look i).getD []) ++ [k]) ∧ u.ops = s.ops ∧
      u.targetOf nn = clockAt (u.wantOf nn) u.pwr.k ∧ RegsBut [R.CLS_QUEUE_DEPTH nn, statusK (clsPage nn), R.PWR_CLUSTER_CLOCK nn] s u ∧
      Only [.regs, .tiles, .pwr] s u := by
  rw [execWorkUnitDispatch_eq hnn ht htakes hdispatch hop, if_pos hfresh]
  have hclock : R.CLS_QUEUE_DEPTH nn ≠ R.PWR_CLUSTER_CLOCK nn := rkey_ne_of_off (by decide) (by decide) (by decide)
  have hunits := units_placeUnit s nn i k t
  have hdepth := getF_queueDepth_placeUnit s nn i k ht (length_of_tileTakes htakes)
  have hgone := dispatched_placeUnit s nn i k t
  have honly := only_placeUnit s nn i k t
  have hregs := regsBut_placeUnit s nn i k t
  generalize s.placeUnit nn t i k = v at hunits hdepth hgone honly hregs
  generalize hf : clockAt (v.wantOf nn) v.pwr.k = f
  have hset := only_setTarget v nn f
  have htiles : (v.setTarget nn f).tiles = v.tiles := hset.2 .tiles (by decide)
  have hdepthKept : (v.setTarget nn f).rd (R.CLS_QUEUE_DEPTH nn) = v.rd (R.CLS_QUEUE_DEPTH nn) := State.rd_wr_ne _ _ hclock
  have hall : Only [.regs, .tiles, .pwr] s (v.setTarget nn f) := (honly.mono (by decide)).trans (hset.mono (by decide))
  refine ⟨v.setTarget nn f, rfl, ?_, ?_, ?_, hall.ops_eq (by decide), ?_, ?_, hall⟩
  · rw [tileAt_congr htiles, hunits]
  · rw [State.getF, hdepthKept]
    exact hdepth
  · rw [htiles, hgone]
  · rw [targetOf_setTarget, wantOf_setTarget, ← hf]
    rfl
  · exact ((hregs.mono (by simp)).trans fun _ _ => rfl).wr _ (by simp)

end

end Sys2Proof.Machine
end

section
/-! PROOFS for the statement of 07_arithmetic about tiles (O34): a tile's retirement (`retired_retireTile`), whose units move to tiles that take them. -/

namespace Sys2Proof.Machine
open Sys2Proof

/-! ## Units move to other tiles (R233) -/

theorem mem_allTiles {d : Nat × Nat} (h : d ∈ allTiles) : d.1 < 16 ∧ d.2 < 4 := by
  obtain ⟨i, hi, rfl⟩ := List.mem_map.1 h
  have := List.mem_range.1 hi
  exact ⟨by simp only; omega, by simp only; omega⟩

theorem mem_of_pick {α : Type} {s u : State} {l : List α} {a : α} (h : s.pick l = (some a, u)) : a ∈ l := by
  cases l with
  | nil => cases h
  | cons b r =>
    obtain ⟨c, hc, heq⟩ := pick_of_ne_nil (s := s) (l := b :: r) rfl
    rw [heq] at h
    cases h
    exact hc

/-- The depths of all clusters' queues. -/
def depthKeys : List Nat := (List.range 16).map R.CLS_QUEUE_DEPTH

theorem tileState_notMem_depthKeys (c : Nat) : R.CLS_TILE_STATE c ∉ depthKeys := by
  intro h
  obtain ⟨n, -, hn⟩ := List.mem_map.1 h
  exact rkey_ne_of_off (by decide) (by decide) (by decide) hn

/-- The units of a retired tile have gone to tiles that take them, and no retired tile took any. -/
structure UnitsMoved (nn t : Nat) (s u : State) : Prop where
  keeps : TileKeeps nn [.tiles, .freeCtr] depthKeys s u
  none : (u.tileAt nn t).units = []
  others : ∀ c < 16, ∀ x < 4, (c, x) ≠ (nn, t) → s.tileRetired c x = true → u.tileAt c x = s.tileAt c x

theorem TileKeeps.tileRetired {nn : Nat} {l : List Field} {s u : State} (h : TileKeeps nn l depthKeys s u) {c : Nat} (hc : c < 16) (x : Nat) :
    u.tileRetired c x = s.tileRetired c x := tileRetired_congr (h.rd_cls hc (tileState_notMem_depthKeys c) (by decide) (by decide)) x

theorem unitsMoved_moveUnits {nn t : Nat} (hnn : nn < 16) (ht : t < 4) {s : State} {q : List (Nat × Nat)} (hq : (s.tileAt nn t).units = q)
    (hretired : s.tileRetired nn t = true) : UnitsMoved nn t s (s.moveUnits nn t q) := by
  have hdepth : ∀ {c}, c < 16 → R.CLS_QUEUE_DEPTH c ∈ depthKeys := fun h => List.mem_map_of_mem (List.mem_range.2 h)
  induction q generalizing s with
  | nil => exact ⟨.refl _ _ _ s, hq, fun _ _ _ _ _ _ => rfl⟩
  | cons u r ih =>
    have hdrop : TileKeeps nn [.tiles, .freeCtr] depthKeys s (s.dropUnit nn t u) := (TileKeeps.refl nn _ _ s).setUnits _ _ _ _ (by simp) (hdepth hnn)
    have hunits : ((s.dropUnit nn t u).tileAt nn t).units = r := by rw [units_dropUnit, hq, List.erase_cons_head]
    have hothers : ∀ c, ∀ x < 4, (c, x) ≠ (nn, t) → (s.dropUnit nn t u).tileAt c x = s.tileAt c x := fun c x hx hne => tileAt_setUnits_ne s hx ht hne _ _
    have honly := only_pick (s.dropUnit nn t u) (allTiles.filter fun x => s.tileTakes x.1 x.2)
    have htiles : ∀ c x, ((s.dropUnit nn t u).pick (allTiles.filter fun x => s.tileTakes x.1 x.2)).2.tileAt c x = (s.dropUnit nn t u).tileAt c x :=
      tileAt_congr (honly.2 .tiles (by decide))
    have hpicked := hdrop.only honly (by simp)
    unfold State.moveUnits
    split
    next v hv =>
      rw [hv] at htiles hpicked
      have hback : TileKeeps nn [.tiles, .freeCtr] depthKeys s (v.undispatch u) := hpicked.only (Only.of_tiles v _) (by simp)
      have hmoved := ih (s := v.undispatch u) ((congrArg Tile.units (htiles nn t)).trans hunits) ((hback.tileRetired hnn t).trans hretired)
      refine ⟨hback.trans hmoved.keeps, hmoved.none, fun c hc x hx hne hret => ?_⟩
      rw [hmoved.others c hc x hx hne ((hback.tileRetired hc x).trans hret), ← hothers c x hx hne, ← htiles]
      rfl
    next d v hv =>
      obtain ⟨hdest, htakes⟩ := List.mem_filter.1 (mem_of_pick hv)
      obtain ⟨hd1, hd2⟩ := mem_allTiles hdest
      have hactive : s.tileRetired d.1 d.2 = false := by
        simp only [State.tileTakes, Bool.and_eq_true, Bool.not_eq_true'] at htakes
        exact htakes.1.1.1
      have hnot : ∀ c x, s.tileRetired c x = true → (c, x) ≠ (d.1, d.2) := by
        rintro c x hret heq
        cases heq
        rw [hactive] at hret
        cases hret
      rw [hv] at htiles hpicked
      have hplaced : TileKeeps nn [.tiles, .freeCtr] depthKeys s (v.addUnit d.1 d.2 u false) := hpicked.setUnits _ _ _ _ (by simp) (hdepth hd1)
      have hkept : ∀ c, ∀ x < 4, s.tileRetired c x = true → (v.addUnit d.1 d.2 u false).tileAt c x = (s.dropUnit nn t u).tileAt c x := fun c x hx hret =>
        (tileAt_setUnits_ne v hx hd2 (hnot c x hret) _ _).trans (htiles c x)
      have hmoved := ih (s := v.addUnit d.1 d.2 u false) ((congrArg Tile.units (hkept nn t ht hretired)).trans hunits)
        ((hplaced.tileRetired hnn t).trans hretired)
      refine ⟨hplaced.trans hmoved.keeps, hmoved.none, fun c hc x hx hne hret => ?_⟩
      rw [hmoved.others c hc x hx hne ((hplaced.tileRetired hc x).trans hret), hkept c x hx hret, hothers c x hx hne]

/-! ## Retirement (R233, R237) -/

/-- The registers that the retirement of a cluster's tiles writes. -/
def retireKeys (nn : Nat) : List Nat :=
  R.CLS_TILE_STATE nn :: R.PWR_CLUSTER_CLOCK nn :: (List.range 16).flatMap (fun n => [R.CLS_QUEUE_DEPTH n, statusK (clsPage n)])

theorem depthKeys_subset_retireKeys (nn : Nat) : depthKeys ⊆ retireKeys nn := by
  intro k hk
  obtain ⟨n, hn, rfl⟩ := List.mem_map.1 hk
  exact List.mem_cons_of_mem _ (List.mem_cons_of_mem _ (List.mem_flatMap.2 ⟨n, hn, List.mem_cons_self⟩))

/-- What the retirement of a tile can change. -/
def retiring : List Field := [.flash, .fwc, .tiles, .freeCtr]

theorem Only.of_flash (s : State) (x : Flash) : Only [.flash] s { s with flash := x } := by
  refine ⟨rfl, fun p hp => ?_⟩
  cases p with
  | flash => exact absurd (by decide) hp
  | regs | mem => exact fun _ => rfl
  | _ => rfl

theorem Only.of_mail (s : State) (x : Tab (List CoreMsg)) : Only [.fwc] s { s with fwc := { s.fwc with mail := x } } := by
  refine ⟨rfl, fun p hp => ?_⟩
  cases p with
  | fwc => exact absurd (by decide) hp
  | regs | mem => exact fun _ => rfl
  | _ => rfl

theorem only_recordTiles (s : State) (c : Nat) : Only [.inbox, .fwc, .flash] s (s.recordTiles c) := by
  unfold State.recordTiles State.toMail
  exact ((Only.of_toInbox s _ _).mono (by decide)).if (((Only.refl _ s).if ((Only.of_mail s _).mono (by decide))).if ((Only.of_flash s _).mono (by decide)))

theorem TileKeeps.recordTiles {nn : Nat} {l : List Field} {ks : List Nat} {s t : State} (h : TileKeeps nn l ks s t) (c : Nat) (hfwc : Field.fwc ∈ l)
    (hflash : Field.flash ∈ l) : TileKeeps nn l ks s (t.recordTiles c) := by
  have honly := only_recordTiles t c
  have hfields : Only (telling ++ l) t (t.recordTiles c) := honly.mono fun p hp => by
    simp only [List.mem_cons, List.not_mem_nil, or_false] at hp
    rcases hp with rfl | rfl | rfl
    exacts [List.mem_append_left _ (by decide), List.mem_append_right _ hfwc, List.mem_append_right _ hflash]
  exact h.trans ⟨⟨hfields, fun k _ _ => honly.rd_eq (by decide) k⟩, .of_only honly (by decide)⟩

theorem keyOff_tileState (nn : Nat) : keyOff (R.CLS_TILE_STATE nn) = 0x040 := keyOff_rkey _ _ _ (by decide)

theorem tileState_ne_clusterClock (nn c : Nat) : R.CLS_TILE_STATE nn ≠ R.PWR_CLUSTER_CLOCK c := rkey_ne_of_off (by decide) (by decide) (by decide)

theorem TileKeeps.noteClock {nn : Nat} {l : List Field} {ks : List Nat} {s t : State} (h : TileKeeps nn l ks s t) (c : Nat) (hk : R.PWR_CLUSTER_CLOCK c ∈ ks) :
    TileKeeps nn l ks s (t.noteClock c) := by
  have hoff : keyOff (R.PWR_CLUSTER_CLOCK c) = 0x058 := keyOff_rkey _ _ _ (by decide)
  exact h.wr _ hk (by rw [hoff]; decide)

theorem only_noteClock (s : State) (c : Nat) : Only [.regs] s (s.noteClock c) := Only.of_wr ..

theorem rd_tileState_noteClock (s : State) (nn c : Nat) : (s.noteClock c).rd (R.CLS_TILE_STATE nn) = s.rd (R.CLS_TILE_STATE nn) :=
  State.rd_wr_ne _ _ (tileState_ne_clusterClock nn c)

/-- The manager's retirement of a tile: it reads RETIRED and by the manager, its units have gone, and no other retired tile took any. -/
structure Retired (nn t : Nat) (s u : State) : Prop where
  keeps : TileKeeps nn retiring (retireKeys nn) s u
  state : ∀ i < 16, u.getB (R.CLS_TILE_STATE nn) i = (decide (i = 4 * t) || decide (i = 4 * t + 1) || s.getB (R.CLS_TILE_STATE nn) i)
  units : (u.tileAt nn t).units = []
  others : ∀ x < 4, x ≠ t → s.tileRetired nn x = true → u.tileAt nn x = s.tileAt nn x
  cause : u.getB (intK (clsPage nn)) 1 = true

theorem retired_retireTile {nn t : Nat} (hnn : nn < 16) (ht : t < 4) (s : State) : Retired nn t s (s.retireTile nn t true) := by
  have hoff : keyOff (R.CLS_TILE_STATE nn) = 0x040 := keyOff_tileState nn
  unfold State.retireTile
  extract_lets k marked gated moved
  have hmarked : TileKeeps nn retiring (retireKeys nn) s marked :=
    ((TileKeeps.refl nn _ _ s).wr _ (by simp [retireKeys, k]) (by rw [hoff]; decide)).wr _ (by simp [retireKeys, k]) (by rw [hoff]; decide)
  have hgated : TileKeeps nn retiring (retireKeys nn) s gated := .ite (hmarked.wr _ (by simp [retireKeys, k]) (by rw [hoff]; decide)) hmarked
  have hgatedBit : ∀ i < 16, gated.getB k i = (decide (i = 4 * t) || decide (i = 4 * t + 1) || s.getB k i) := by
    intro i hi
    have hgate : gated.getB k i = marked.getB k i := by
      simp only [gated]
      split
      · exact getB_setB_ne _ _ _ (by omega) (by omega)
      · rfl
    rw [hgate]
    by_cases hman : i = 4 * t + 1
    · subst hman
      rw [getB_setB_self _ _ _ (by omega)]
      simp
    · rw [getB_setB_ne _ _ _ (by omega) hman]
      by_cases hret : i = 4 * t
      · subst hret
        rw [getB_setB_self _ _ _ (by omega)]
        simp
      · rw [getB_setB_ne _ _ _ (by omega) hret]
        simp [hret, hman]
  have hmarkedRegs : Only [.regs] s marked := (Only.of_wr ..).trans (Only.of_wr ..)
  have hgatedRegs : Only [.regs] s gated := .if (hmarkedRegs.trans (Only.of_wr ..)) hmarkedRegs
  have hgatedTiles : ∀ c x, gated.tileAt c x = s.tileAt c x := tileAt_congr (hgatedRegs.2 .tiles (by decide))
  have hretired : gated.tileRetired nn t = true := by
    rw [State.tileRetired, hgatedBit _ (by omega)]
    simp
  have hmoved : UnitsMoved nn t gated moved := unitsMoved_moveUnits hnn ht rfl hretired
  have hclocked : TileKeeps nn retiring (retireKeys nn) moved (moved.noteClock nn) :=
    (TileKeeps.refl nn _ _ moved).noteClock nn (by simp [retireKeys])
  have hafter := (hclocked.raiseInt (clsPage nn) 1).recordTiles nn (by decide) (by decide)
  have htold := Told.raiseInt (moved.noteClock nn) (clsPage nn) 1
  have hrecord := only_recordTiles ((moved.noteClock nn).raiseInt (clsPage nn) 1) nn
  have htiles : ∀ c x, (((moved.noteClock nn).raiseInt (clsPage nn) 1).recordTiles nn).tileAt c x = moved.tileAt c x :=
    tileAt_congr (((hrecord.2 .tiles (by decide)).trans (htold.1.2 .tiles (by decide))).trans ((only_noteClock moved nn).2 .tiles (by decide)))
  have hstate : (((moved.noteClock nn).raiseInt (clsPage nn) 1).recordTiles nn).rd k = gated.rd k := by
    rw [hrecord.rd_eq (by decide), htold.2 k (tellKey_cls hnn (by decide) (by decide)), rd_tileState_noteClock]
    exact hmoved.keeps.rd_cls hnn (tileState_notMem_depthKeys nn) (by decide) (by decide)
  have hmovedKeeps : TileKeeps nn retiring (retireKeys nn) gated moved := hmoved.keeps.mono (by decide) (depthKeys_subset_retireKeys nn)
  have hkeeps := (hgated.trans hmovedKeeps).trans hafter
  refine ⟨hkeeps, ?_, ?_, ?_, ?_⟩
  · intro i hi
    exact (getB_congr hstate i).trans (hgatedBit i hi)
  · rw [htiles, hmoved.none]
  · intro x hx hne hret
    have hret' : gated.tileRetired nn x = true := by
      rw [State.tileRetired, hgatedBit _ (by omega), show s.getB k (4 * x) = true from hret, Bool.or_true]
    rw [htiles, hmoved.others nn hnn x hx (by simpa using hne) hret', hgatedTiles]
  · exact (CausesKept.of_only hrecord (by decide)).bit 1 (getB_raiseInt_self _ (by decide) (bit_pageIntMask_cls hnn (by decide)))

end Sys2Proof.Machine
end

section
/-! PROOFS for the statement of 07_arithmetic about tiles (O34): the manager's writes of TILE_CTRL, by what the first m tiles have come to. -/

namespace Sys2Proof.Machine
open Sys2Proof

/-! ## TILE_RETIRE (R237) -/

theorem tileState_notMem_retireKeys {nn c : Nat} (hc : c < 16) (hne : c ≠ nn) (hnn : nn < 16) : R.CLS_TILE_STATE c ∉ retireKeys nn := by
  have hpages : clsPage c ≠ clsPage nn := by simp only [clsPage]; omega
  have hlt : ∀ {n}, n < 16 → clsPage n < 4096 := fun h => (clsPage_lt h).trans (by decide)
  simp only [retireKeys, List.mem_cons, List.mem_flatMap, List.not_mem_nil, or_false, not_or, not_exists, not_and]
  exact ⟨rkey_ne_of_page hpages (hlt hc) (hlt hnn) (by decide) (by decide), rkey_ne_of_off (by decide) (by decide) (by decide), fun n _ =>
    ⟨rkey_ne_of_off (by decide) (by decide) (by decide), rkey_ne_of_off (by decide) (by decide) (by decide)⟩⟩

theorem lastActive_of_other {s : State} {nn t : Nat} (h : s.activeTiles.any (fun x => x.1 ≠ nn) = true) : s.lastActive nn t = false := by
  obtain ⟨d, hd, hne⟩ := List.any_eq_true.1 h
  refine List.all_eq_false.2 ⟨d, hd, fun heq => ?_⟩
  rw [beq_iff_eq] at heq
  simp [heq] at hne

/-- The manager has a tile retired, while another cluster has an active one. -/
theorem retired_managerRetire {s : State} {nn t : Nat} (hnn : nn < 16) (ht : t < 4) (hactive : s.tileRetired nn t = false)
    (hother : s.activeTiles.any (fun x => x.1 ≠ nn) = true) : Retired nn t s (s.managerRetire nn t) := by
  have hretired := retired_retireTile hnn ht s
  have htold : Told (s.retireTile nn t true) ((s.retireTile nn t true).event 0 (clsPage nn) 0x0002 1 clsDevice nn 0 0 0) :=
    .event _ _ _ _ _ _ _ _ _ _ (by decide)
  have hcauses : CausesKept (clsPage nn) (s.retireTile nn t true) ((s.retireTile nn t true).event 0 (clsPage nn) 0x0002 1 clsDevice nn 0 0 0) :=
    .event ((clsPage_lt hnn).trans (by decide)) (clsPage_ne_dbg hnn) ..
  unfold State.managerRetire
  rw [hactive, lastActive_of_other hother, if_neg Bool.false_ne_true, if_neg Bool.false_ne_true]
  refine ⟨hretired.keeps.told htold hcauses, fun i hi => ?_, ?_, fun x hx hne hret => ?_, hcauses.bit 1 hretired.cause⟩
  · exact (getB_congr (htold.2 _ (tellKey_cls hnn (by decide) (by decide))) i).trans (hretired.state i hi)
  · rw [htold.tileAt, hretired.units]
  · rw [htold.tileAt, hretired.others x hx hne hret]

/-- A restore leaves every tile's units, and of the tile states all but that a test runs. -/
structure RestoreAsked (nn t : Nat) (s u : State) : Prop where
  keeps : TileKeeps nn retiring (retireKeys nn) s u
  state : ∀ i < 16, i ≠ 4 * t + 2 → u.getB (R.CLS_TILE_STATE nn) i = s.getB (R.CLS_TILE_STATE nn) i
  tiles : ∀ c x, u.tileAt c x = s.tileAt c x

theorem restoreAsked_refl (nn t : Nat) (s : State) : RestoreAsked nn t s s := ⟨.refl _ _ _ s, fun _ _ _ => rfl, fun _ _ => rfl⟩

theorem restoreAsked_managerRestore (s : State) (nn t : Nat) : RestoreAsked nn t s (s.managerRestore nn t) := by
  have hoff : keyOff (R.CLS_TILE_STATE nn) = 0x040 := keyOff_rkey _ _ _ (by decide)
  unfold State.managerRestore State.startRestore
  split
  · exact restoreAsked_refl nn t s
  · split
    · exact ⟨(TileKeeps.refl nn _ _ s).only (Only.of_tiles s _) (by decide), fun _ _ _ => rfl, fun _ _ => rfl⟩
    · split
      · exact ⟨(TileKeeps.refl nn _ _ s).wr _ (by simp [retireKeys]) (by rw [hoff]; decide), fun i hi hne => getB_setB_ne _ _ _ (by omega) hne, fun _ _ => rfl⟩
      · exact restoreAsked_refl nn t s

/-- The first m tiles of a cluster have been retired where the register says so. -/
structure RetiredBelow (nn : Nat) (v : Word) (s : State) (m : Nat) (u : State) : Prop where
  keeps : TileKeeps nn retiring (retireKeys nn) s u
  retired : ∀ x < 4, u.tileRetired nn x = (s.tileRetired nn x || (decide (x < m) && bit v x))
  taken : ∀ x < 4, x < m → bit v x = true → s.tileRetired nn x = false →
    u.getB (R.CLS_TILE_STATE nn) (4 * x + 1) = true ∧ (u.tileAt nn x).units = [] ∧ u.getB (intK (clsPage nn)) 1 = true

/-- A tile that is not named is passed over. -/
theorem RetiredBelow.skip {nn : Nat} {v : Word} {s : State} {m : Nat} (hm : m < 4) {u w : State} (h : RetiredBelow nn v s m u) (hw : RestoreAsked nn m u w)
    (hnamed : bit v m = true → s.tileRetired nn m = true) : RetiredBelow nn v s (m + 1) w := by
  have hret : ∀ x < 4, w.tileRetired nn x = u.tileRetired nn x := fun x hx => hw.state _ (by omega) (by omega)
  refine ⟨h.keeps.trans hw.keeps, fun x hx => ?_, fun x hx hlt hbit hactive => ?_⟩
  · rw [hret x hx, h.retired x hx]
    rcases Nat.lt_trichotomy x m with hlt | rfl | hgt
    · rw [decide_eq_true hlt, decide_eq_true (Nat.lt_succ_of_lt hlt)]
    · cases hbit : bit v x with
      | false => simp
      | true => simp [hnamed hbit]
    · rw [decide_eq_false (by omega), decide_eq_false (by omega)]
  · have hne : x ≠ m := by
      rintro rfl
      rw [hnamed hbit] at hactive
      cases hactive
    obtain ⟨hman, hunits, hcause⟩ := h.taken x hx (by omega) hbit hactive
    exact ⟨(hw.state _ (by omega) (by omega)).trans hman, by rw [hw.tiles, hunits], hw.keeps.causes.bit 1 hcause⟩

section
variable {nn : Nat} {v : Word} {s : State} (hnn : nn < 16) (hother : s.activeTiles.any (fun x => x.1 ≠ nn) = true)
include hnn hother

theorem other_active_of_keeps {u : State} (h : TileKeeps nn retiring (retireKeys nn) s u) : u.activeTiles.any (fun x => x.1 ≠ nn) = true := by
  obtain ⟨d, hd, hne⟩ := List.any_eq_true.1 hother
  obtain ⟨hall, hret⟩ := List.mem_filter.1 hd
  have hne' : d.1 ≠ nn := by simpa using hne
  have hstate := h.rd_cls (mem_allTiles hall).1 (tileState_notMem_retireKeys (mem_allTiles hall).1 hne' hnn) (by decide) (by decide)
  exact List.any_eq_true.2 ⟨d, List.mem_filter.2 ⟨hall, by rw [tileRetired_congr hstate]; exact hret⟩, hne⟩

/-- A tile that is named and active is retired. -/
theorem RetiredBelow.retire {m : Nat} (hm : m < 4) {u : State} (h : RetiredBelow nn v s m u) (hbit : bit v m = true) (hactive : s.tileRetired nn m = false) :
    RetiredBelow nn v s (m + 1) (u.managerRetire nn m) := by
  have hactive' : u.tileRetired nn m = false := by rw [h.retired m hm, hactive]; simp
  have hr := retired_managerRetire hnn hm hactive' (other_active_of_keeps hnn hother h.keeps)
  have hret : ∀ x < 4, (u.managerRetire nn m).tileRetired nn x = (decide (x = m) || u.tileRetired nn x) := fun x hx => by
    refine (hr.state (4 * x) (by omega)).trans ?_
    rw [decide_eq_false (by omega : ¬ 4 * x = 4 * m + 1), Bool.or_false, State.tileRetired]
    congr 1
    exact decide_eq_decide.2 (by omega)
  refine ⟨h.keeps.trans hr.keeps, fun x hx => ?_, fun x hx hlt hxbit hxactive => ?_⟩
  · rw [hret x hx, h.retired x hx]
    rcases Nat.lt_trichotomy x m with hlt | rfl | hgt
    · rw [decide_eq_true hlt, decide_eq_true (Nat.lt_succ_of_lt hlt), decide_eq_false (by omega), Bool.false_or]
    · simp [hbit]
    · rw [decide_eq_false (by omega), decide_eq_false (by omega), decide_eq_false (by omega), Bool.false_or]
  · by_cases hxm : x = m
    · subst hxm
      exact ⟨(hr.state _ (by omega)).trans (by simp), hr.units, hr.cause⟩
    · obtain ⟨hman, hunits, hcause⟩ := h.taken x hx (by omega) hxbit hxactive
      have hxret : u.tileRetired nn x = true := by rw [h.retired x hx, decide_eq_true (by omega), hxbit]; simp
      exact ⟨(hr.state _ (by omega)).trans (by rw [hman, Bool.or_true]), by rw [hr.others x hx hxm hxret, hunits], hr.keeps.causes.bit 1 hcause⟩

theorem retiredBelow_tileCtrlWrite (v : Word) : RetiredBelow nn v s 4 (s.tileCtrlWrite nn v) := by
  refine foldl_range_ok (I := RetiredBelow nn v s) (fun m hm u h => ?_)
    ⟨.refl _ _ _ s, fun x _ => by simp, fun x _ h => absurd h (Nat.not_lt_zero x)⟩
  cases hbit : bit v m with
  | true =>
    simp only [if_true]
    cases hactive : s.tileRetired nn m with
    | false => exact h.retire hnn hother hm hbit hactive
    | true =>
      have hskip : u.managerRetire nn m = u := by
        rw [State.managerRetire, h.retired m hm, hactive]
        rfl
      rw [hskip]
      exact h.skip hm (restoreAsked_refl nn m u) fun _ => hactive
  | false =>
    simp only [Bool.false_eq_true, if_false]
    split
    · exact h.skip hm (restoreAsked_managerRestore u nn m) fun ht => absurd ht (by simp [hbit])
    · exact h.skip hm (restoreAsked_refl nn m u) fun ht => absurd ht (by simp [hbit])

end

/-! ### The last active tile (R232, R237) -/

theorem bit_of_fld (v : Word) {lo w i : Nat} (hi : i < w) : bit v (lo + i) = (fld v lo w).testBit i := by
  rw [testBit_fld, decide_eq_true hi, Bool.true_and]

theorem bit_of_fld_zero {v : Word} {lo w i : Nat} (h : fld v lo w = 0) (hi : i < w) : bit v (lo + i) = false := by
  rw [bit_of_fld v hi, h, Nat.zero_testBit]

/-- A fold in which one member alone does anything. -/
theorem foldl_range_single {f : State → Nat → State} {t n : Nat} (ht : t < n) (hf : ∀ x < n, x ≠ t → ∀ u, f u x = u) (s : State) :
    (List.range n).foldl f s = f s t := by
  have hfold := foldl_range_ok (I := fun m u => u = if t < m then f s t else s) (f := f) (n := n) (s := s) (fun x hx u hu => ?_) rfl
  · rw [hfold, if_pos ht]
  · subst hu
    rcases Nat.lt_trichotomy x t with hlt | rfl | hgt
    · rw [if_neg (by omega), if_neg (by omega), hf x hx (by omega)]
    · rw [if_neg (by omega), if_pos (by omega)]
    · rw [if_pos (by omega), if_pos (by omega), hf x hx (by omega)]

/-- The device's last active tile is not retired: the error is logged. -/
theorem tileCtrlWrite_last {s : State} {nn t : Nat} {v : Word} (ht : t < 4) (hretire : fld v 0 4 = 2 ^ t) (hrestore : fld v 4 4 = 0)
    (hactive : s.tileRetired nn t = false) (hlast : s.lastActive nn t = true) :
    s.tileCtrlWrite nn v = s.logErr (clsPage nn) 0x06 clsDevice 0 noTags 0 t := by
  have hbit : ∀ x < 4, bit v x = decide (t = x) := fun x hx => by
    rw [← Nat.zero_add x, bit_of_fld v hx, hretire, Nat.testBit_two_pow, Nat.zero_add]
  unfold State.tileCtrlWrite
  rw [foldl_range_single ht (fun x hx hne u => ?_)]
  · simp only [hbit t ht, decide_true, if_true]
    rw [State.managerRetire, hactive, hlast, if_neg Bool.false_ne_true, if_pos rfl]
  · simp [hbit x hx, hne.symm, bit_of_fld_zero hrestore hx]

/-! ## TILE_RESTORE (R234, R237) -/

section
variable {nn : Nat} {v : Word} {s : State}

/-- The self-tests of the first m tiles have been started where the register says so. -/
structure TestsStarted (nn : Nat) (v : Word) (s : State) (m : Nat) (u : State) : Prop where
  only : Only [.regs] s u
  regs : RegsBut [R.CLS_TILE_STATE nn] s u
  retired : ∀ x < 4, u.tileRetired nn x = s.tileRetired nn x
  testing : ∀ x < 4, u.tileTesting nn x = (s.tileTesting nn x || (decide (x < m) && bit v (4 + x) && s.tileRetired nn x))

theorem idleState_congr {u : State} (h : u.rd R.GLB_IDLE_STATUS = s.rd R.GLB_IDLE_STATUS) : u.idleState = s.idleState := congrArg (fld · 0 2) h

theorem testsStarted_tileCtrlWrite (hretire : fld v 0 4 = 0) (hidle : s.idleState = 0) : TestsStarted nn v s 4 (s.tileCtrlWrite nn v) := by
  refine foldl_range_ok (I := TestsStarted nn v s) (fun m hm u h => ?_) ⟨.refl _ s, .refl _ s, fun _ _ => rfl, fun _ _ => by simp⟩
  have hbit : bit v m = false := Nat.zero_add m ▸ bit_of_fld_zero hretire hm
  have hidle' : u.idleState = 0 := (idleState_congr (h.regs _ (List.mem_singleton.not.2 (rkey_ne_of_off (by decide) (by decide) (by decide))))).trans hidle
  have hskip : (bit v (4 + m) && s.tileRetired nn m) = false → TestsStarted nn v s (m + 1) u := fun hno => by
    refine ⟨h.only, h.regs, h.retired, fun x hx => ?_⟩
    rw [h.testing x hx]
    rcases Nat.lt_trichotomy x m with hlt | rfl | hgt
    · rw [decide_eq_true hlt, decide_eq_true (Nat.lt_succ_of_lt hlt)]
    · rw [Bool.and_assoc, Bool.and_assoc, hno, Bool.and_false, Bool.and_false]
    · rw [decide_eq_false (by omega), decide_eq_false (by omega)]
  simp only [hbit, Bool.false_eq_true, if_false]
  split
  next hrestore =>
    unfold State.managerRestore State.startRestore
    rw [h.retired m hm, hidle']
    cases hret : s.tileRetired nn m with
    | false => exact hskip (by rw [hret, Bool.and_false])
    | true =>
      refine ⟨h.only.trans (Only.of_wr ..), h.regs.wr _ (by simp), fun x hx => ?_, fun x hx => ?_⟩
      · exact (getB_setB_ne _ _ _ (by omega) (by omega)).trans (h.retired x hx)
      · by_cases hxm : x = m
        · subst hxm
          refine (getB_setB_self _ _ _ (by omega)).trans ?_
          simp [hrestore, hret]
        · refine (getB_setB_ne _ _ _ (by omega) (by omega)).trans ((h.testing x hx).trans ?_)
          rw [show decide (x < m + 1) = decide (x < m) from decide_eq_decide.2 (by omega)]
  next hno => exact hskip (by rw [eq_false_of_ne_true hno, Bool.false_and])

/-- In Z1 or Z2 the restores of the first m tiles are held. -/
structure RestoresHeld (nn : Nat) (v : Word) (s : State) (m : Nat) (u : State) : Prop where
  only : Only [.tiles] s u
  held : u.tiles.heldRestores = s.tiles.heldRestores ++ ((List.range m).filter (fun x => bit v (4 + x) && s.tileRetired nn x)).map (fun x => 4 * nn + x)

theorem restoresHeld_tileCtrlWrite (hretire : fld v 0 4 = 0) (hidle : s.idleState ≠ 0) : RestoresHeld nn v s 4 (s.tileCtrlWrite nn v) := by
  refine foldl_range_ok (I := RestoresHeld nn v s) (fun m hm u h => ?_) ⟨.refl _ s, by simp⟩
  have hbit : bit v m = false := Nat.zero_add m ▸ bit_of_fld_zero hretire hm
  have hidle' : u.idleState ≠ 0 := (idleState_congr (h.only.rd_eq (by decide) _)).trans_ne hidle
  have hret : u.tileRetired nn m = s.tileRetired nn m := tileRetired_congr (h.only.rd_eq (by decide) _) m
  have hskip : (bit v (4 + m) && s.tileRetired nn m) = false → RestoresHeld nn v s (m + 1) u := fun hno => by
    refine ⟨h.only, ?_⟩
    rw [h.held, List.range_succ, List.filter_append, List.filter_cons, hno]
    simp
  simp only [hbit, Bool.false_eq_true, if_false]
  split
  next hrestore =>
    unfold State.managerRestore
    rw [hret, if_pos hidle']
    cases hs : s.tileRetired nn m with
    | false => exact hskip (by rw [hs, Bool.and_false])
    | true =>
      refine ⟨h.only.trans (Only.of_tiles u _), ?_⟩
      rw [List.range_succ, List.filter_append, List.filter_cons, hrestore, hs, List.map_append, ← List.append_assoc, ← h.held]
      rfl
  next hno => exact hskip (by rw [eq_false_of_ne_true hno, Bool.false_and])

end

end Sys2Proof.Machine
end

section
/-! PROOFS for the statement of 07_arithmetic about tiles (O34): the end of a self-test. The clock falls to the new limit before the tile rejoins. -/

namespace Sys2Proof.Machine
open Sys2Proof

/-! ## SELF_TEST_DONE (R234, R495) -/

/-- A cluster's clock has fallen to a limit. -/
theorem fallTo_spec {nn : Nat} (hnn : nn < 16) (s : State) (limit : Nat) :
    TileKeeps nn [.pwr] [R.PWR_CLUSTER_CLOCK nn] s (s.fallTo nn limit) ∧ (s.fallTo nn limit).clockOf nn ≤ limit := by
  unfold State.fallTo
  extract_lets u
  have hset : TileKeeps nn [.pwr] [R.PWR_CLUSTER_CLOCK nn] s (s.setTarget nn limit) :=
    ((TileKeeps.refl nn _ _ s).only (Only.of_pwr s _) (by simp)).noteClock nn (by simp)
  have hu : TileKeeps nn [.pwr] [R.PWR_CLUSTER_CLOCK nn] s u := .ite hset (.refl _ _ _ s)
  split
  · refine ⟨((hu.only (Only.of_pwr u _) (by simp)).noteClock nn (by simp)).trace hnn .., ?_⟩
    refine le_of_eq ((congrArg (fun p : Pwr => (p.clock.look nn).getD 600) ((Told.trace ..).1.2 .pwr (by decide))).trans ?_)
    exact Tab.getD_setD_self (fun _ => 600) ..
  next hle => exact ⟨hu, Nat.not_lt.1 hle⟩

theorem TileKeeps.rejoins {nn : Nat} {l : List Field} {ks : List Nat} {s t : State} (h : TileKeeps nn l ks s t) (x : Nat) (hk : R.CLS_TILE_STATE nn ∈ ks) :
    TileKeeps nn l ks s (t.rejoins nn x) := by
  have hoff : keyOff (R.CLS_TILE_STATE nn) ≠ 0x010 := by rw [keyOff_tileState]; decide
  exact ((h.wr _ hk hoff).wr _ hk hoff).wr _ hk hoff

theorem only_rejoins (s : State) (nn t : Nat) : Only [.regs] s (s.rejoins nn t) := ((Only.of_wr ..).trans (Only.of_wr ..)).trans (Only.of_wr ..)

theorem getB_rejoins (s : State) (nn t : Nat) {i : Nat} (hi : i < 32) : (s.rejoins nn t).getB (R.CLS_TILE_STATE nn) i =
    (!decide (i = 4 * t) && !decide (i = 4 * t + 1) && !decide (i = 16) && s.getB (R.CLS_TILE_STATE nn) i) := by
  unfold State.rejoins
  by_cases hgated : i = 16
  · subst hgated
    rw [getB_setB_self _ _ _ hi]
    simp
  · rw [getB_setB_ne _ _ _ hi hgated]
    by_cases hman : i = 4 * t + 1
    · subst hman
      rw [getB_setB_self _ _ _ hi]
      simp
    · rw [getB_setB_ne _ _ _ hi hman]
      by_cases hret : i = 4 * t
      · subst hret
        rw [getB_setB_self _ _ _ hi]
        simp
      · rw [getB_setB_ne _ _ _ hi hret]
        simp [hret, hman, hgated]

theorem fmax_recordTiles (s : State) (c : Nat) : (s.recordTiles c).flash.fmax = s.flash.fmax := by
  unfold State.recordTiles State.toMail
  split
  · rfl
  · split
    · dsimp only
      split <;> rfl
    · rfl

/-- A tile back in service after a test that it passed. -/
structure Restored (nn t : Nat) (s u : State) : Prop where
  keeps : TileKeeps nn [.tiles, .flash, .fwc, .pwr] [R.CLS_TILE_STATE nn, R.PWR_CLUSTER_CLOCK nn] s u
  state : ∀ i < 32, u.getB (R.CLS_TILE_STATE nn) i =
    (!decide (i = 4 * t) && !decide (i = 4 * t + 1) && !decide (i = 16) && s.getB (R.CLS_TILE_STATE nn) i)
  history : (u.tileAt nn t).mismatches = []
  clock : u.clockOf nn ≤ u.clusterLimit nn

/-- The clock falls to the limit that the cluster will have with the tile, which then rejoins without history. -/
def State.returnTile (s : State) (nn t : Nat) : State :=
  let s := (s.fallTo nn ((s.rejoins nn t).clusterLimit nn)).rejoins nn t
  ((s.putTile nn t { s.tileAt nn t with mismatches := [] }).noteClock nn).recordTiles nn

theorem restored_returnTile {nn : Nat} (hnn : nn < 16) (s : State) (t : Nat) : Restored nn t s (s.returnTile nn t) := by
  generalize hlimit : (s.rejoins nn t).clusterLimit nn = limit
  obtain ⟨hfall, hclock⟩ := fallTo_spec hnn s limit
  generalize hfallen : s.fallTo nn limit = v at hfall hclock
  have hjoin : TileKeeps nn [.tiles, .flash, .fwc, .pwr] [R.CLS_TILE_STATE nn, R.PWR_CLUSTER_CLOCK nn] s (v.rejoins nn t) :=
    (hfall.mono (by simp) (by simp)).rejoins t (by simp)
  have hjoinOnly := only_rejoins v nn t
  have hjoinState : ∀ i < 32, (v.rejoins nn t).getB (R.CLS_TILE_STATE nn) i = _ := fun i hi => getB_rejoins v nn t hi
  generalize hjoined : v.rejoins nn t = w at hjoin hjoinOnly hjoinState
  generalize hcleared : w.putTile nn t { w.tileAt nn t with mismatches := [] } = x
  have hx : Only [.tiles] w x := hcleared ▸ Only.of_tiles w _
  have hnoted := only_noteClock x nn
  have hrecord := only_recordTiles (x.noteClock nn) nn
  have hreturn : s.returnTile nn t = (x.noteClock nn).recordTiles nn := by
    unfold State.returnTile
    simp only [hlimit, hfallen, hjoined, hcleared]
  rw [hreturn]
  have hstateFrom : ((x.noteClock nn).recordTiles nn).rd (R.CLS_TILE_STATE nn) = w.rd (R.CLS_TILE_STATE nn) :=
    (hrecord.rd_eq (by decide) _).trans ((rd_tileState_noteClock x nn nn).trans (hx.rd_eq (by decide) _))
  have hstateV : v.rd (R.CLS_TILE_STATE nn) = s.rd (R.CLS_TILE_STATE nn) :=
    hfall.rd_cls hnn (List.mem_singleton.not.2 (tileState_ne_clusterClock nn nn)) (by decide) (by decide)
  have hstate : ∀ i < 32, ((x.noteClock nn).recordTiles nn).getB (R.CLS_TILE_STATE nn) i =
      (!decide (i = 4 * t) && !decide (i = 4 * t + 1) && !decide (i = 16) && s.getB (R.CLS_TILE_STATE nn) i) := fun i hi => by
    rw [getB_congr hstateFrom, hjoinState i hi, getB_congr hstateV]
  refine ⟨?_, hstate, ?_, ?_⟩
  · exact ((hjoin.only hx (by simp)).noteClock nn (by simp)).recordTiles nn (by simp) (by simp)
  · rw [tileAt_congr (s := x) ((hrecord.2 .tiles (by decide)).trans (hnoted.2 .tiles (by decide))), ← hcleared, tileAt_putTile_self]
  · have hpwr : ((x.noteClock nn).recordTiles nn).pwr = v.pwr :=
      ((hrecord.2 .pwr (by decide)).trans (hnoted.2 .pwr (by decide))).trans ((hx.2 .pwr (by decide)).trans (hjoinOnly.2 .pwr (by decide)))
    have hflash : (x.noteClock nn).flash = s.flash :=
      ((hnoted.2 .flash (by decide)).trans (hx.2 .flash (by decide))).trans ((hjoinOnly.2 .flash (by decide)).trans (hfall.same (p := .flash) (by decide)))
    have hnewLimit : ((x.noteClock nn).recordTiles nn).clusterLimit nn = limit := by
      rw [← hlimit]
      refine clusterLimit_congr (fun y hy => (hstate _ (by omega)).trans (getB_rejoins s nn t (by omega)).symm) ?_
      rw [fmax_recordTiles, hflash, show (s.rejoins nn t).flash = s.flash from (only_rejoins s nn t).2 .flash (by decide)]
    rw [hnewLimit, State.clockOf, hpwr]
    exact hclock

section
variable {s : State} {nn t : Nat} (hnn : nn < 16) (ht : t < 4) (htesting : s.tileTesting nn t = true)
include hnn ht htesting

/-- A tile that passed returns to service without history. -/
theorem execSelfTestDone_passes :
    ∃ u, exec (.selfTestDone nn t true) s = .next u ∧ u.tileTesting nn t = false ∧ u.tileRetired nn t = false ∧
      u.getB (R.CLS_TILE_STATE nn) (4 * t + 1) = false ∧ u.getB (R.CLS_TILE_STATE nn) 16 = false ∧ (u.tileAt nn t).mismatches = [] ∧
      u.clockOf nn ≤ u.clusterLimit nn ∧ u.getB (intK (clsPage nn)) 3 = true ∧
      TellsIn [.tiles, .flash, .fwc, .pwr] [R.CLS_TILE_STATE nn, R.PWR_CLUSTER_CLOCK nn] s u := by
  generalize hended : s.setB (R.CLS_TILE_STATE nn) (4 * t + 2) false = v
  have hv : TileKeeps nn [.tiles, .flash, .fwc, .pwr] [R.CLS_TILE_STATE nn, R.PWR_CLUSTER_CLOCK nn] s v :=
    hended ▸ (TileKeeps.refl nn _ _ s).wr _ (by simp) (by rw [keyOff_tileState]; decide)
  have hvTesting : v.getB (R.CLS_TILE_STATE nn) (4 * t + 2) = false := hended ▸ getB_setB_self _ _ _ (by omega)
  have hreturned := restored_returnTile hnn v t
  have hexec : exec (.selfTestDone nn t true) s = .next ((v.returnTile nn t).raiseInt (clsPage nn) 3) := by
    show execSelfTestDone nn t true s = _
    unfold execSelfTestDone State.returnTile
    simp only [hnn, ht, htesting, decide_true, Bool.and_self, if_true, hended]
  generalize v.returnTile nn t = w at hreturned hexec
  have htold := Told.raiseInt w (clsPage nn) 3
  have hrd := htold.2 (R.CLS_TILE_STATE nn) (tellKey_cls hnn (by decide) (by decide))
  have hstate : ∀ i < 32, (w.raiseInt (clsPage nn) 3).getB (R.CLS_TILE_STATE nn) i = _ := fun i hi => (getB_congr hrd i).trans (hreturned.state i hi)
  have hlimit : (w.raiseInt (clsPage nn) 3).clusterLimit nn = w.clusterLimit nn :=
    clusterLimit_congr (fun x _ => tileRetired_congr hrd x) (congrArg Flash.fmax (htold.1.2 .flash (by decide)))
  refine ⟨_, hexec, (hstate _ (by omega)).trans (by rw [hvTesting, Bool.and_false]), (hstate _ (by omega)).trans (by simp), (hstate _ (by omega)).trans (by simp),
    (hstate _ (by omega)).trans (by simp), ?_, ?_, getB_raiseInt_self _ (by decide) (bit_pageIntMask_cls hnn (by decide)),
    ((hv.trans hreturned.keeps).raiseInt ..).tells⟩
  · rw [htold.tileAt, hreturned.history]
  · rw [hlimit, State.clockOf, show (w.raiseInt (clsPage nn) 3).pwr = w.pwr from htold.1.2 .pwr (by decide)]
    exact hreturned.clock

/-- A tile that failed stays as it was, and the failure is logged. -/
theorem execSelfTestDone_fails :
    ∃ u, exec (.selfTestDone nn t false) s = .next u ∧ u.tileTesting nn t = false ∧ u.tileRetired nn t = s.tileRetired nn t ∧
      u.getB (intK (clsPage nn)) 31 = true ∧ u.getB (intK (clsPage nn)) 3 = true ∧ TellsIn [] [R.CLS_TILE_STATE nn] s u := by
  generalize hended : s.setB (R.CLS_TILE_STATE nn) (4 * t + 2) false = v
  have hv : TileKeeps nn [] [R.CLS_TILE_STATE nn] s v := hended ▸ (TileKeeps.refl nn _ _ s).wr _ (by simp) (by rw [keyOff_tileState]; decide)
  have hexec : exec (.selfTestDone nn t false) s = .next ((v.logErr (clsPage nn) 0x05 clsDevice 0 noTags 0 t).raiseInt (clsPage nn) 3) := by
    show execSelfTestDone nn t false s = _
    unfold execSelfTestDone
    simp only [hnn, ht, htesting, decide_true, Bool.and_self, if_true, hended, Bool.false_eq_true, if_false]
  have htold : Told v ((v.logErr (clsPage nn) 0x05 clsDevice 0 noTags 0 t).raiseInt (clsPage nn) 3) := (Told.logErr ..).trans (.raiseInt ..)
  have hrd := htold.2 (R.CLS_TILE_STATE nn) (tellKey_cls hnn (by decide) (by decide))
  have hlogged : (v.logErr (clsPage nn) 0x05 clsDevice 0 noTags 0 t).getB (intK (clsPage nn)) 31 = true :=
    (CausesKept.of_debugTold ((clsPage_lt hnn).trans (by decide)) (clsPage_ne_dbg hnn) (.logErr ..)).bit 31
      (getB_logOnly_error _ _ _ _ _ _ _ _ (bit_pageIntMask_cls_error hnn))
  refine ⟨_, hexec, (getB_congr hrd _).trans ?_, (getB_congr hrd _).trans ?_, getB_raiseInt_of_set _ _ _ hlogged,
    getB_raiseInt_self _ (by decide) (bit_pageIntMask_cls hnn (by decide)), ((hv.logErr hnn ..).raiseInt ..).tells⟩
  · exact hended ▸ getB_setB_self _ _ _ (by omega)
  · exact hended ▸ getB_setB_ne _ _ _ (by omega) (by omega)

end

end Sys2Proof.Machine
end

section
/-! PROOFS of the statement of 07_arithmetic about work units, tile blocks and tiles (O34). -/

namespace Sys2Proof.Machine
open Sys2Proof

/-! ## CHECK_INJECT (R239) -/

theorem execCheckInject_arms {s : State} {nn : Nat} {v : Word} (hnn : nn < 16) (hactive : s.tileRetired nn (fld v 0 2) = false) :
    exec (.checkInject nn v) s = .next (s.putTile nn (fld v 0 2) { s.tileAt nn (fld v 0 2) with inject := some (bit v 2, bit v 3) }) := by
  show execCheckInject nn v s = _
  unfold execCheckInject State.injectWrite
  simp only [hnn, hactive, if_true, Bool.false_eq_true, if_false]

/-! ## The statement of work units, tile blocks and tiles -/

theorem execTileRetire_eq {s : State} {nn : Nat} {v : Word} (hnn : nn < 16) (hv : fld v 0 4 ≠ 0) : exec (.tileRetire nn v) s = .next (s.tileCtrlWrite nn v) := by
  show execTileRetire nn v s = _
  unfold execTileRetire
  rw [decide_eq_true hnn, decide_eq_true hv, Bool.and_self, if_pos rfl]

theorem execTileRestore_eq {s : State} {nn : Nat} {v : Word} (hnn : nn < 16) (hretire : fld v 0 4 = 0) (hv : fld v 4 4 ≠ 0) :
    exec (.tileRestore nn v) s = .next (s.tileCtrlWrite nn v) := by
  show execTileRestore nn v s = _
  unfold execTileRestore
  rw [decide_eq_true hnn, decide_eq_true hretire, decide_eq_true hv, Bool.and_self, Bool.and_self, if_pos rfl]

/-- Settles O34: each clause is what its instruction's lemma says. -/
theorem tilesAndChecks : Obligations.TilesAndChecks := by
  refine ⟨?_, ?_, ?_, ?_, ?_, ?_, ?_, ?_, ?_, ?_, ?_, ?_, ?_, ?_⟩
  · intro s nn t w i k o hnn ht htakes hnext hlive hcap hfresh
    have hexec := execWorkUnitDispatch_places hnn ht htakes (dispatch_only nn t hlive hcap hnext) (op?_of_filter hlive) hfresh
    exact ⟨_, hexec, units_placeUnit .., getF_queueDepth_placeUnit s nn i k ht (length_of_tileTakes htakes), dispatched_placeUnit ..,
      (only_placeUnit s nn i k t).ops_eq (by decide), regsBut_placeUnit s nn i k t, only_placeUnit ..⟩
  · intro s nn t w i k o hnn ht htakes hnext hlive hcap hfresh hop
    exact execWorkUnitDispatch_starts hnn ht htakes (dispatch_only nn t hlive hcap hnext) hop hfresh
  · intro s nn t w i j k o p hnn ht htakes hlive hnext hne hfresh hop hcap hreached hbelow
    have hexec := execWorkUnitDispatch_places hnn ht htakes (dispatch_below nn t hlive hne hcap hreached hbelow hnext) hop hfresh
    exact ⟨_, hexec, units_placeUnit .., only_placeUnit ..⟩
  · intro s nn t fa fb load ends scale a b u r o hnn ht hretired hstalled hunits hop hcode hpair hreduced hblock hshape hinject
    exact execTileBlock_clean hnn ht hretired hstalled hunits hop hcode hpair hreduced hblock hshape hinject
  · intro s nn t fa fb load ends scale a b u r o f hnn ht hretired hstalled hunits hop hcode hpair hreduced hblock hshape hinject hseen hlimit
    exact execTileBlock_retried hnn ht hretired hstalled hunits hop hcode hpair hreduced hblock hshape hinject hseen hlimit
  · intro s nn t fa fb load ends scale a b u r o f hnn ht hretired hstalled hunits hop hcode hpair hreduced hblock hshape hinject hunseen
    exact execTileBlock_unseen hnn ht hretired hstalled hunits hop hcode hpair hreduced hblock hshape hinject hunseen
  · intro s nn t fa fb load ends scale a b u r o hnn ht hretired hstalled hunits hop hcode hissued hpair
    exact execTileBlock_invalid hnn ht hretired hstalled hunits hop hcode hissued hpair
  · intro s nn v hnn hv hother
    have hdone := retiredBelow_tileCtrlWrite hnn hother v
    refine ⟨_, execTileRetire_eq hnn hv, fun x hx => ?_, hdone.keeps.tells⟩
    have hx4 := List.mem_range.1 hx
    exact ⟨by rw [hdone.retired x hx4, decide_eq_true hx4, Bool.true_and], hdone.taken x hx4 hx4⟩
  · intro s nn t v hnn ht hretire hrestore hactive hlast
    have hwrite := tileCtrlWrite_last ht hretire hrestore hactive hlast
    have htold : Told s (s.tileCtrlWrite nn v) := hwrite ▸ Told.logErr ..
    refine ⟨_, execTileRetire_eq hnn (by rw [hretire]; positivity), ?_, ?_, htold⟩
    · rw [tileRetired_congr (htold.2 _ (tellKey_cls hnn (by decide) (by decide))), hactive]
    · rw [hwrite]
      exact (CausesKept.of_debugTold ((clsPage_lt hnn).trans (by decide)) (clsPage_ne_dbg hnn) (.logErr ..)).bit 31
        (getB_logOnly_error _ _ _ _ _ _ _ _ (bit_pageIntMask_cls_error hnn))
  · intro s nn v hnn hretire hv hidle
    have hdone := testsStarted_tileCtrlWrite (nn := nn) hretire hidle
    refine ⟨_, execTileRestore_eq hnn hretire hv, fun x hx => ?_, hdone.regs, hdone.only⟩
    have hx4 := List.mem_range.1 hx
    exact ⟨by rw [hdone.testing x hx4, decide_eq_true hx4, Bool.true_and], hdone.retired x hx4⟩
  · intro s nn v hnn hretire hv hidle
    have hdone := restoresHeld_tileCtrlWrite (nn := nn) hretire hidle
    exact ⟨_, execTileRestore_eq hnn hretire hv, hdone.held, fun k _ => hdone.only.rd_eq (by decide) k, hdone.only⟩
  · intro s nn t hnn ht htesting
    exact execSelfTestDone_passes hnn ht htesting
  · intro s nn t hnn ht htesting
    exact execSelfTestDone_fails hnn ht htesting
  · intro s nn v hnn hactive
    exact ⟨_, execCheckInject_arms hnn hactive, tileAt_putTile_self .., Only.of_tiles s _⟩

end Sys2Proof.Machine
end

section
/-! COUNTEREXAMPLES to statements of 09_context_programs: the order of the TLB after an access (O36, O39), and an arm that is under way in a queue whose
STATE reads UNARMED (O37). -/

namespace Sys2Proof.Machine
open Sys2Proof

/-- A readable and writable page of device memory on a frame. -/
def deviceLeaf (frame : Nat) : Leaf := ⟨false, true, true, false, false, false, frame * gib⟩

/-- Functions 0 and 1 have their first GiB on the frames 0 and 1, and the TLB has been filled with both, function 1's after function 0's (R174, R175). -/
def twoTranslations : State :=
  let mapped := ({ State.reset with dramInit := true }.putLeaf 0 true 0 (deviceLeaf 0)).putLeaf 1 true 0 (deviceLeaf 1)
  (mapped.tlbFill 0 0 (.device 0)).tlbFill 1 0 (.device gib)

/-- A descriptor of function 0, alone in its chain and admitted as number 0. -/
def admittedAlone (d : Desc) : Op := { endedNop 1 with desc := d, st := .admitted }
def State.admitAlone (s : State) (d : Desc) : State :=
  { s with ops := [(0, admittedAlone d)], chains := [(1, chainOfNop 1)], nextOp := 1, nextChain := 2 }

/-! ## The order of the TLB (R174) -/

/-- The two translations in the order of their last use tell whether the translation state is as it was. -/
theorem trn_ne_of_tlb_order {t : State} (ht : t.trn.tlb.map TlbEntry.fn = [0, 1]) (s : State) (hs : s.trn = twoTranslations.trn) : t.trn ≠ s.trn := by
  have horder : twoTranslations.trn.tlb.map TlbEntry.fn = [1, 0] := by decide +kernel
  intro h
  rw [h, hs, horder] at ht
  exact absurd ht (by decide)

/-- TIMESTAMP to the address 0 of function 0. -/
def timestampAtZero : Desc := 0x373
def timestampAdmitted : State := twoTranslations.admitAlone timestampAtZero

/-- The write of the time uses function 0's translation, which becomes the most recently used. -/
theorem tlb_order_of_timestamp {t : State} (h : exec (.timestamp 0 unreadHost) timestampAdmitted = .next t) : t.trn.tlb.map TlbEntry.fn = [0, 1] := by
  have hrun : (match exec (.timestamp 0 unreadHost) timestampAdmitted with
      | .next u => u.trn.tlb.map TlbEntry.fn
      | _ => []) = [0, 1] := by decide +kernel
  rwa [h] at hrun

/-- Refutes O36: the clauses on COPY and TIMESTAMP name the parts that can change, and the translation state is not among them. But an access makes the TLB
entry that serves it the most recently used (R174), so that a TIMESTAMP whose page is not the one used last changes the order of the TLB. -/
theorem not_copiesAndStamps : ¬ Obligations.CopiesAndStamps := by
  intro h
  obtain ⟨-, -, -, -, -, timestamp, -⟩ := h
  obtain ⟨t, hx, -, -, -, only, -⟩ := timestamp timestampAdmitted 0 (admittedAlone timestampAtZero) unreadHost 0 (by decide +kernel) rfl rfl
    (by decide +kernel) (by decide +kernel) rfl
  exact trn_ne_of_tlb_order (tlb_order_of_timestamp hx) timestampAdmitted rfl (only.2 .trn (by decide))

/-! ### The packets of a transfer (R295, R358) -/

/-- The first state of a transfer's slot, where the transfer waits for no earlier one. -/
def Op.firstXfer (o : Op) (i : Nat) : Xfer :=
  let m := moveOf o.desc
  { newXfer (.op i) m.kind o.fn (m.peer / 64) (m.peer % 64) m.window m.gen m.off m.va m.len m.tclass none with ordered := m.ordered, started := true }

/-- A transfer that is allowed, has a route and a free slot, and waits for no other, sends its packets. -/
theorem ydtMove_of_startXfer {s u : State} {i k : Nat} {o : Op} (hslot : s.slotOf i = none) (hbad : (moveOf o.desc).bad = none)
    (hquota : s.getF (R.TRN_FN_YDT_OPS o.fn) 0 16 ≠ 0) (hlen : (moveOf o.desc).len ≠ 0)
    (hroute : s.unreachable o.fn ((moveOf o.desc).peer / 64) = false) (henc : s.encrypts o.fn = false)
    (hwait : s.orderedWaits i o (moveOf o.desc) = false) (hstart : s.startXfer (o.firstXfer i) = (u, some k)) (env : HostView) :
    s.ydtMove env i o = ((u.traceStart o (moveOf o.desc).va).putOp i { o with st := .running, progress := 1 }).sendAll env k 0
      (List.range (packetsOf (moveOf o.desc).len)) := by
  have hopen : s.sealBlock o.fn = none := by simp [State.sealBlock, henc]
  simp only [Op.firstXfer, newXfer] at hstart
  simp [State.ydtMove, newXfer, hslot, hbad, hquota, hlen, hroute, hopen, hwait, hstart]

/-- A packet that is sent leaves the translation state as the read of its bytes does. -/
theorem sendPkt_of_xferData {s : State} {i k count attempt : Nat} {x : Xfer} {env : HostView} {bs : List Byte} (hlook : s.ydt.xfers.look i = some x)
    (henc : s.encrypts x.fn = false) (hread : (s.xferData env x k).2 = .ok bs) :
    (s.sendPkt env i k count attempt).1.trn = (s.xferData env x k).1.trn ∧ (s.sendPkt env i k count attempt).2 = .sent := by
  have hopen : s.sealBlock x.fn = none := by simp [State.sealBlock, henc]
  generalize hx : s.xferData env x k = p at hread ⊢
  obtain ⟨v, r⟩ := p
  cases hread
  have hchosen : ∀ y, HeatKeeps sending v ((v.choosePath x k).2.putXfer i y) := fun y =>
    ((heatKeeps_choosePath v x k).mono (by decide)).step (heatKeeps_ydt _ _)
  unfold State.sendPkt
  simp only [hlook, hopen, hx]
  split
  · exact ⟨(hchosen _).only.trn_eq (by decide), rfl⟩
  · have hsent : ∀ y, HeatKeeps sending v (((v.choosePath x k).2.putXfer i y).noteSend x.dev) := fun y => (hchosen y).step (heatKeeps_noteSend _ _)
    exact ⟨(((hsent _).step (heatKeeps_notePacket ..)).trans (sendOn_spec ..).1).only.trn_eq (by decide), rfl⟩

/-- The slot that a transfer takes holds it, under an incarnation of its own (R358). -/
theorem look_of_startXfer {s u : State} {x : Xfer} {k : Nat} (h : s.startXfer x = (u, some k)) :
    ∃ n b, u.ydt.xfers.look k = some { x with inc := n, timeout := b } := by
  unfold State.startXfer at h
  split at h
  · cases h
  next v i n _ =>
    cases h
    exact ⟨n, _, Tab.look_put_self ..⟩

/-- A transfer of one packet leaves the translation state as the read of its bytes does, whatever its slot's incarnation. -/
theorem trn_sendAll_of_xferData {s : State} {i attempt n b : Nat} {x : Xfer} {env : HostView} {bs : List Byte}
    (hlook : s.ydt.xfers.look i = some { x with inc := n, timeout := b }) (hkind : x.kind ≠ tyReadReq) (henc : s.encrypts x.fn = false)
    (hread : (s.xferData env x 0).2 = .ok bs) : (s.sendAll env i attempt [0]).trn = (s.xferData env x 0).1.trn := by
  obtain ⟨htrn, hsent⟩ := sendPkt_of_xferData (count := 1) (attempt := attempt) hlook henc hread
  have hlist : s.sendList env i attempt [0] = s.sendPkt env i 0 1 attempt := by
    simp only [State.sendList, hlook, if_neg hkind, State.sendPkts]
    split
    next u hu => exact hu.symm
    next => rfl
  rw [State.sendAll, hlist, hsent, State.afterSend]
  exact htrn

/-- WRITE of the four bytes at the address 0 of function 0, to function 0 of this device itself. -/
def writeToSelf : Desc := BitVec.ofNat 512 (0x302 + 4 * 2 ^ (8 * 0x20))

/-- Function 0's endpoint is enabled, 16 transfers are allowed it, and the WRITE is admitted. -/
def writeAdmitted : State := ((twoTranslations.wr (R.YDT_FN_PKEY 0) 0x80000000).wr (R.TRN_FN_YDT_OPS 0) 16).admitAlone writeToSelf

/-- The slot that the WRITE takes, which the manual leaves open (R358), and the state with the slot taken. -/
def writeSlot : Nat := Config.choice 0 % 32768
def writeXfer : Xfer := (admittedAlone writeToSelf).firstXfer 0
def slotTaken : State := (writeAdmitted.startXfer writeXfer).1
def writeStarted : State := (slotTaken.traceStart (admittedAlone writeToSelf) 0).putOp 0 { admittedAlone writeToSelf with st := .running, progress := 1 }

theorem startXfer_writeAdmitted : writeAdmitted.startXfer writeXfer = (slotTaken, some writeSlot) := rfl

theorem exec_write_writeAdmitted : exec (.write 0 unreadHost) writeAdmitted = .next (writeStarted.sendAll unreadHost writeSlot 0 [0]) := by
  have hmove := ydtMove_of_startXfer (by decide +kernel) (by decide +kernel) (by decide +kernel) (by decide +kernel) (by decide +kernel)
    (by decide +kernel) (by decide +kernel) startXfer_writeAdmitted unreadHost
  have hrun : writeAdmitted.runnable 0 [0x02] = some (admittedAlone writeToSelf) := by decide +kernel
  have hydt : ydtTransfer (admittedAlone writeToSelf).desc = true := by decide +kernel
  have hx : exec (.write 0 unreadHost) writeAdmitted = .next (writeAdmitted.ydtMove unreadHost 0 (admittedAlone writeToSelf)) := by
    show execWrite 0 unreadHost writeAdmitted = _
    simp only [execWrite, hrun, hydt, if_true]
  have hone : List.range (packetsOf (moveOf (admittedAlone writeToSelf).desc).len) = [0] := by decide +kernel
  have hva : (moveOf (admittedAlone writeToSelf).desc).va = 0 := by decide +kernel
  rw [hx, hmove, hone, hva]
  rfl

/-- The read of the bytes that the WRITE sends uses function 0's translation. -/
theorem tlb_order_of_write {t : State} (h : exec (.write 0 unreadHost) writeAdmitted = .next t) : t.trn.tlb.map TlbEntry.fn = [0, 1] := by
  have hread : (writeStarted.xferData unreadHost writeXfer 0).2 = .ok [0, 0, 0, 0] := by decide +kernel
  have horder : (writeStarted.xferData unreadHost writeXfer 0).1.trn.tlb.map TlbEntry.fn = [0, 1] := by decide +kernel
  obtain ⟨n, b, hlook⟩ := look_of_startXfer startXfer_writeAdmitted
  have hstarted : writeStarted.ydt = slotTaken.ydt := (told_traceStart slotTaken (admittedAlone writeToSelf) 0).1.2 .ydt (by decide)
  rw [← hstarted] at hlook
  have hkind : writeXfer.kind ≠ tyReadReq := by decide +kernel
  have henc : writeStarted.encrypts writeXfer.fn = false := by decide +kernel
  have ht := Host.Outcome.next.inj (exec_write_writeAdmitted.symm.trans h)
  rw [← ht, trn_sendAll_of_xferData hlook hkind henc hread, horder]

/-- Refutes O39: the clauses on WRITE and SEND say that the translation state stays as it is. But the slot's packets are read from local memory as they are
sent, and a read makes the TLB entry that serves it the most recently used (R174): where that is not the entry used last, the order of the TLB changes. -/
theorem not_transferStarts : ¬ Obligations.TransferStarts := by
  intro h
  obtain ⟨write, -⟩ := h
  obtain ⟨t, hx, -, -, -, -, htrn⟩ := write writeAdmitted 0 (admittedAlone writeToSelf) unreadHost 0 (by decide +kernel) rfl rfl (by decide +kernel)
    (by decide +kernel) (by decide +kernel) (by decide +kernel) (by decide +kernel) (by decide +kernel) (by decide +kernel) (by decide +kernel)
    (by decide +kernel) (by decide +kernel)
  exact trn_ne_of_tlb_order (tlb_order_of_write hx) writeAdmitted rfl htrn

/-! ## An arm under way in an UNARMED queue (R299) -/

/-- TRIGGER_ARM of trigger queue 3 with the one descriptor at the address 0 of function 0, for completion queue 1. -/
def armQueueThree : Desc := BitVec.ofNat 512 (0x371 + 0x30001 * 2 ^ (8 * 0x18) + 2 ^ (8 * 0x1C))

/-- Function 0 owns trigger queue 3, its completion queue 1 is enabled, and a NOP stands at its address 0. The queue's STATE reads UNARMED, while the queue
holds the TRIGGER_ARM that is admitted as the arm in progress. -/
def armUnderWay : State :=
  let owned := (twoTranslations.wr (R.CTX_TQ_OWNER 3) 0x80000000).wr (R.RNG_CQ_CTRL 0 1) 0x601
  { (owned.setDrams 0 [0x70, 0x03]).admitAlone armQueueThree with tqs := [(3, { owned.tq 3 with armOp := some 0 })] }

/-- The arm goes on without starting: only the start writes ARMING. -/
theorem tqState_of_triggerArm_armUnderWay {t : State} (h : exec (.triggerArm 0 unreadHost) armUnderWay = .next t) : t.tqState 3 = 0 := by
  have hrun : (match exec (.triggerArm 0 unreadHost) armUnderWay with
      | .next u => some (u.tqState 3)
      | _ => none) = some 0 := by decide +kernel
  rw [h] at hrun
  exact Option.some.inj hrun

/-- Refutes O37: the clause by which TRIGGER_ARM of an UNARMED queue leaves it ARMING speaks of every state, also of one where the queue already holds this
TRIGGER_ARM as the arm in progress. There the arm goes on as after a fault, and the queue still reads UNARMED. No run of the device leaves a queue UNARMED
with an arm in progress; the clause has no hypothesis that says so. -/
theorem not_triggerQueues : ¬ Obligations.TriggerQueues := by
  intro h
  obtain ⟨arm, -⟩ := h
  obtain ⟨t, hx, hstate, -⟩ := arm armUnderWay 0 (admittedAlone armQueueThree) unreadHost 0 (by decide +kernel) rfl rfl rfl (by decide +kernel)
    (by decide +kernel) (by decide +kernel) (by decide +kernel) (by decide +kernel) (by decide +kernel) rfl (by decide +kernel) (by decide +kernel)
    (by decide +kernel) (by decide +kernel) (by decide +kernel)
  have hqueue : dfld (admittedAlone armQueueThree).desc 0x18 16 12 = 3 := by decide +kernel
  rw [hqueue, tqState_of_triggerArm_armUnderWay hx] at hstate
  exact absurd hstate (by decide)

end Sys2Proof.Machine
end
